-- ==== Sys2Proof/Word.lean ====
section
/-! DEFINITION. The word types of the device (file 00, R5, R6, R10) and nothing that a rule of the spec could change:
names for the widths the manual uses, the identifiers of its units, and the sparse table in which like things are kept. -/

namespace Sys2Proof

/-- One byte of DRAM, of a command or of a packet. -/
abbrev Byte := BitVec 8
/-- A 16-bit field. -/
abbrev U16 := BitVec 16
/-- A 32-bit field. -/
abbrev U32 := BitVec 32
/-- A 64-bit field. -/
abbrev U64 := BitVec 64

/-- Submission queue, 0 to 63 (file 03). -/
abbrev QueueId := BitVec 6
/-- Mast, 0 to 31 (R10). -/
abbrev MastId := BitVec 5
/-- Sail ID, mast × 32 + chain position (R10). -/
abbrev SailId := BitVec 10
/-- Feed, 0 to 255 (file 05). -/
abbrev FeedId := BitVec 8
/-- Thresher, 0 to 15. -/
abbrev ThresherId := BitVec 4
/-- Ray engine cluster, 0 to 7. -/
abbrev ClusterId := BitVec 3

/-- A handle and its generation form one reference (R52). -/
structure BufRef where
  handle : U16
  gen : U16
  deriving DecidableEq, Repr

/-- A sparse table: pairs of key and value, keys strictly rising, and no pair whose value is the table's default. -/
abbrev SMap (α : Type) := List (Nat × α)

end Sys2Proof
end

