-- ==== Sys2Proof/Syntax.lean ====
section
/-! DEFINITION. The commands of the block: one constructor of `Instr` per row of spec/opcode_table.json, and the
records that carry their operands (command bodies with the field offsets of the spec, frames, reports from outside).
A command of a submission queue stands for its dispatch from queue `q` after steps 1 and 2 of R51. -/

namespace Sys2Proof

/-- The three host paths (file 02), in the order of entry 0x2300.01. -/
inductive Path where
  | pcie | usb3 | usb2
  deriving DecidableEq, Repr

/-- The two USB functions. -/
inductive UsbPath where
  | usb3 | usb2
  deriving DecidableEq, Repr

/-- The host path of a USB function. -/
def UsbPath.toPath : UsbPath → Path
  | .usb3 => .usb3
  | .usb2 => .usb2

/-- USB4 link modes of HOST_STATUS.LINK_MODE (codes 1 to 4). -/
inductive Usb4Mode where
  | gen2 | gen3 | gen4sym | gen4asym
  deriving DecidableEq, Repr

/-- Native USB 3.2 modes of entry 0x2300.02 (codes 8 to 11). -/
inductive SsMode where
  | g1x1 | g1x2 | g2x1 | g2x2
  deriving DecidableEq, Repr

/-- What the link partner establishes when it is offered (R23). -/
structure Partner where
  usb4 : Option Usb4Mode
  tunnel3 : Bool
  ss : Option SsMode
  hs : Bool
  /-- USB 2.0 comes up at Full-Speed, not at High-Speed. -/
  full : Bool
  deriving DecidableEq, Repr

/-- A Uhlod client (R343). -/
inductive Client where
  | host (p : Path)
  | net (addr : U32) (port : U16)
  | can (node : Byte)
  | supervisor
  deriving DecidableEq, Repr

/-- The fields of a request frame that its row does not fix (R346, R357); `seg` is byte 7 of CAN's compact header, 0 on
other transports. -/
structure UHdr where
  seq : U16
  ty : Byte
  flags : Byte
  idx : U16
  sub : Byte
  seg : Byte := 0
  deriving DecidableEq, Repr

/-- The USB transfer header (R34). -/
structure XferHdr where
  kind : Byte
  queue : Byte
  tag : U16
  plen : U32
  handle : U16
  gen : U16
  rlen : U32
  offset : U64
  status : U16
  resv : BitVec 48
  /-- Not of the header: the host ends the bulk transfer with a zero-length packet (R35). -/
  zlp : Bool := false
  deriving DecidableEq, Repr

/-- NOTIFY and the tag of a command header (R50). -/
structure Hdr where
  notify : Bool
  tag : U16
  deriving DecidableEq, Repr

/-- ALLOC body (R53): size at 8, format at 16, ECC attribute at 17, pitch at 20. -/
structure AllocBody where
  size : U64
  fmt : Byte
  ecc : Bool
  pitch : U32
  deriving DecidableEq, Repr

/-- QUERY body (R57): kind at 8, location at 9, reference at 10, destination at 16, first at 24, count at 28. -/
structure QueryBody where
  kind : Byte
  loc : Byte
  ref : BufRef
  dest : U64
  first : U32
  count : U32
  deriving DecidableEq, Repr

/-- FENCE body (R59): slot at 8, flags at 10, reference at 12, value at 16. -/
structure FenceBody where
  slot : U16
  noBarrier : Bool
  drainPush : Bool
  event : Bool
  ignoreErrors : Bool
  ref : BufRef
  value : U64
  deriving DecidableEq, Repr

/-- WAIT and TACK_HOLD body (R62): slot at 8, timeout in µs at 12 (WAIT), value at 16. -/
structure WaitBody where
  slot : U16
  timeout : U32
  value : U64
  deriving DecidableEq, Repr

/-- DMA_IN and DMA_OUT body (R57): reference at 8, buffer offset at 16, host address at 24, length at 32. -/
structure DmaBody where
  ref : BufRef
  offset : U64
  host : U64
  len : U32
  deriving DecidableEq, Repr

/-- DECODE body (R94). -/
structure DecodeBody where
  feed : FeedId
  viewTarget : Bool
  src : BufRef
  srcOff : U64
  dst : BufRef
  viewSet : Byte
  firstView : U16
  dstOff : U64
  cap : U64
  deriving DecidableEq, Repr

/-- FEED_RESET body (R90). -/
structure FeedResetBody where
  feed : FeedId
  action : Byte
  save : BufRef
  deriving DecidableEq, Repr

/-- VIEWSET_DEFINE body (R118). -/
structure ViewSetBody where
  slot : Byte
  action : Byte
  ref : BufRef
  fmt : Byte
  curve : Byte
  count : U16
  width : U16
  height : U16
  peak : U16
  deriving DecidableEq, Repr

/-- LENS_SET body (R143). -/
structure LensSetBody where
  first : U16
  count : U16
  ref : BufRef
  offset : U64
  stride : U64
  none : Bool
  deriving DecidableEq, Repr

/-- The layer descriptor (R177). -/
structure LayerBody where
  layer : Byte
  action : Byte
  ref : BufRef
  fmt : Byte
  curve : Byte
  srcX : U16
  srcY : U16
  srcW : U16
  srcH : U16
  dstX : U32
  dstY : U32
  dstW : U32
  dstH : U32
  dispX : U32
  dispY : U32
  cenU : U16
  cenV : U16
  blend : Byte
  decim : Byte
  peak : U16
  deriving DecidableEq, Repr

/-- LUT_LOAD body (R185). -/
structure LutBody where
  lut : Byte
  ref : BufRef
  offset : U64
  deriving DecidableEq, Repr

/-- COMMIT body (R187). -/
structure CommitBody where
  policy : Byte
  chase : Bool
  chaseQueue : Byte
  chaseTag : U16
  deriving DecidableEq, Repr

/-- The fields shared by the drawing commands (R282); a command that does not use a field carries 0 in it, and the two
halves of `value` overlay the source fields (FILL and LINE have it, the others have the source). -/
structure BlitBody where
  dst : BufRef
  dstPitch : U32
  dstOff : U64
  x0 : U16
  y0 : U16
  x1 : U16
  y1 : U16
  value : U64
  src : BufRef
  srcPitch : U32
  srcOff : U64
  srcX : U16
  srcY : U16
  xdir : Bool
  ydir : Bool
  clip : Bool
  wm : Bool
  wmRow : U16
  patW : U16
  patH : U16
  phX : U16
  phY : U16
  deriving DecidableEq, Repr

/-- A rectangle of CLIP_SET (R287). -/
structure Rect where
  x : U16
  y : U16
  w : U16
  h : U16
  deriving DecidableEq, Repr

/-- CLIP_SET body (R287): four rectangles and the enable mask. -/
structure ClipBody where
  r0 : Rect
  r1 : Rect
  r2 : Rect
  r3 : Rect
  enable : BitVec 4
  deriving DecidableEq, Repr

/-- PROOF_SET body (R297). -/
structure ProofBody where
  window : Byte
  action : Byte
  sail : U16
  x : U16
  y : U16
  w : U16
  h : U16
  mask : BitVec 3
  mode : Byte
  autoRepush : Bool
  expected : U32
  deriving DecidableEq, Repr

/-- READBACK body (R306). -/
structure ReadbackBody where
  sail : U16
  x : U16
  y : U16
  w : U16
  h : U16
  fmt : Byte
  encode : Bool
  ref : BufRef
  offset : U64
  pitch : U32
  deriving DecidableEq, Repr

/-- SAIL_CFG_WRITE body (R257). -/
structure CfgWriteBody where
  sail : U16
  addr : Byte
  count : Byte
  data : List U32
  deriving DecidableEq, Repr

/-- SAIL_CFG_READ body (R257). -/
structure CfgReadBody where
  sail : U16
  addr : Byte
  count : Byte
  ref : BufRef
  offset : U64
  deriving DecidableEq, Repr

/-- A DRAM upset that a reader meets (R325, R326): the 64-byte line's device address, and whether two bits are wrong. -/
structure Upset where
  line : Nat
  double : Bool
  deriving DecidableEq, Repr

/-- EYE_REPORT (R238, R265): the reporting sail, and the five measured fields. -/
structure EyeReport where
  sail : SailId
  lane : Byte
  preset : Byte
  height : U16
  width : U16
  errors : U16
  deriving DecidableEq, Repr

/-- What VERIFY measures at one hop (R267): the round trip the upstream end recorded, the turnaround and the forward
base of the sails concerned. -/
structure HopTiming where
  hopRt : U16
  turnaround : U16
  fwdBase : Byte
  deriving DecidableEq, Repr

/-- What a rejoin attempt finds behind the lost hop (R273): the CAPS0 rates of the sails that answer, and what VERIFY measures
at their hops. -/
structure RejoinFound where
  caps : List (BitVec 4)
  hops : List HopTiming
  deriving DecidableEq, Repr

/-- A USB suspend (R39): the function suspended and whether its host has enabled remote wake. -/
structure Suspend where
  path : UsbPath
  wake : Bool
  deriving DecidableEq, Repr

/-- What a mast's backstay receiver takes for one packet (R237): its characters, each with whether it is a K character. -/
structure BackstayChars where
  mast : MastId
  chars : List (Bool × Byte)
  deriving DecidableEq, Repr

/-- How a BIST ended (R459, R460, R464): the signature that the MISR of a logic test holds, and the data word of a memory test that fails. -/
structure BistResult where
  signature : U64
  memFail : Option U32
  deriving DecidableEq, Repr

/-- What boot training finds on a DRAM channel (R312, R313, R328): manufacturer and revision as the mode registers hold them, density in
Gbit per channel and rank, ranks, type, and by bit of TRAINED_POINTS the points with a working setting. -/
structure ChanReport where
  mfr : Byte
  rev : Byte
  density : Nat
  ranks : Nat
  lp5x : Bool
  works : BitVec 6
  deriving DecidableEq, Repr

/-- What the boot sequence finds (R313, R328, R394): channel 0, the channels that differ from it, the points whose restored training values
verify, ms of training, and the masts whose DET is low. -/
structure BootReport where
  chan : ChanReport
  odd : List (BitVec 5 × ChanReport)
  verified : BitVec 6
  ms : Nat
  detLow : U32
  deriving DecidableEq, Repr

/-- Wake sources of MOORED (R382). -/
inductive MooredWake where
  | sync | t1s | can | vbus | host | det
  deriving DecidableEq, Repr

/-- Triggers of a trim run (R420). -/
inductive TrimTrigger where
  | powerUp | temperature | request
  deriving DecidableEq, Repr

/-- Two measurements of one trim item (R419). -/
structure TrimAttempt where
  a : Byte
  b : Byte
  deriving DecidableEq, Repr

/-- The attempts of one trim item, up to four (R419). -/
structure TrimItem where
  item : BitVec 6
  attempts : List TrimAttempt
  deriving DecidableEq, Repr

/-- A raw ledger access through JTAG (R443): a read or a write of a record with a presented password. -/
structure RawAccess where
  write : Bool
  record : U16
  password : List Byte
  data : List Byte
  deriving DecidableEq, Repr

/-- BIST_CTRL (R457): a request as entry 0xC000.06, or a read of entry 0xC001. -/
inductive BistCtrl where
  | request (p tests : Byte)
  | read (p : Byte)
  deriving DecidableEq, Repr

/-- Host writes of configuration space (R28, file 02): the fields the spec names. -/
inductive CfgSpace where
  | busMaster (on : Bool)
  | msixCtl (enable mask : Bool)
  | maxPayload (bytes : Nat)
  | maxReadRequest (bytes : Nat)
  | bar (n : Nat) (v : U64)
  deriving DecidableEq, Repr

/-- The commands of the block (spec/opcode_table.json, in its order). -/
inductive Instr where
  /-- USB_CONNECT (R23): VBUS presence and a valid orientation make the device offer USB4, then fall back to USB 3.2 and then USB 2.0. -/
  | usbConnect (orientValid : Bool) (partner : Partner)
  /-- HOST_LINK_LOSS (R40): Loss of the USB4 or USB link, or a USB disconnect, ends the session on that path. -/
  | hostLinkLoss (p : Path)
  /-- USB_BUS_RESET (R40): A USB bus reset ends the session held on that USB path. -/
  | usbBusReset (p : UsbPath)
  /-- FUNCTION_LEVEL_RESET (R40): A Function Level Reset or a hot reset ends the PCIe session and returns INT_MOD, the aperture descriptors and the MSI-X table to their reset values. -/
  | functionLevelReset (hot : Bool)
  /-- BUS_MASTER_DISABLE (R40): Clearing Bus Master Enable ends the PCIe session. -/
  | busMasterDisable
  /-- D3HOT_ENTRY (R39): The host places the function in D3hot; the device keeps running and answers BAR accesses with Unsupported Request. -/
  | d3hotEntry
  /-- USB_SUSPEND (R39): The USB function is suspended; events accumulate in the ring and remote wake is signalled for the first event if enabled. -/
  | usbSuspend (p : Suspend)
  /-- SESSION_OPEN (R28): A SESSION_OPEN write or vendor request makes the path the queue owner if READY, Bus Master Enable and no open session allow it, or fails with E_HOST_PATH_BUSY. -/
  | sessionOpen (p : Path)
  /-- SESSION_CLOSE (R40): A SESSION_CLOSE write or vendor request ends this path's session. -/
  | sessionClose (p : Path)
  /-- MALFORMED_BAR0_ACCESS (R27): A BAR0 access of the wrong width or alignment gets Unsupported Request or is dropped, and is logged as a violation. -/
  | malformedBar0Access (write : Bool) (off : BitVec 18) (bytes : Nat)
  /-- REGISTER_WRITE (R27): A write to a BAR0 register with no behaviour of its own stores the value, clears W1C bits, or is ignored at a reserved offset. -/
  | registerWrite (off : BitVec 18) (wide : Bool) (v : U64)
  /-- INT_MOD_TIMER_EXPIRY (R29): The INT_MOD timer runs out from the first unsignalled event, and vector 0 is sent. -/
  | intModTimerExpiry
  /-- APERTURE_OPEN (R30): Writing OPEN to 1 checks the session, handle, generation and offset, and sets STATUS to OPEN or to the failure code. -/
  | apertureOpen (n : BitVec 6) (writeEn : Bool)
  /-- APERTURE_CLOSE (R31): Writing OPEN to 0 closes the aperture. -/
  | apertureClose (n : BitVec 6) (writeEn : Bool)
  /-- BAR2_RESIZE (R26): The host resizes BAR2 through Resizable BAR, and every open aperture closes with STATUS RESIZED. -/
  | bar2Resize (log2 : Nat)
  /-- BAR2_READ (R32): A host read through an open aperture is answered from DRAM, or is a violation outside every window. -/
  | bar2Read (off : Nat) (len : Nat)
  /-- BAR2_WRITE (R32): A host write through an open, write-enabled aperture is stored in the buffer, or dropped as a violation. -/
  | bar2Write (off : Nat) (data : List Byte)
  /-- USB_SUBMIT (R34): A SUBMIT transfer places 64-byte commands on the named queue and advances its tail, or fails with a STATUS transfer. -/
  | usbSubmit (p : UsbPath) (ctrl : Bool) (x : XferHdr) (payload : List Byte)
  /-- USB_WRITE (R35): A WRITE transfer stores its payload in the buffer, or fails with E_TRANSFER_FRAMING, E_STALE_HANDLE, E_BOUNDS or E_NO_SESSION. -/
  | usbWrite (p : UsbPath) (ctrl : Bool) (x : XferHdr) (payload : List Byte)
  /-- USB_READ (R34): A READ transfer makes the device return a READ_DATA transfer carrying the requested bytes, or a STATUS transfer on failure. -/
  | usbRead (p : UsbPath) (ctrl : Bool) (x : XferHdr) (payload : List Byte)
  /-- XFER_IN (R36): On USB 2.0, XFER_IN returns the pending READ_DATA or STATUS transfer. -/
  | xferIn
  /-- MAILBOX_IN (R359): MAILBOX_IN returns a collected Uhlod response, or a zero-length data stage when no response is ready. -/
  | mailboxIn (p : UsbPath)
  /-- MAILBOX_RESPONSE_FREE (R359): Writing 1 to RESP_READY frees the PCIe mailbox for the next request. -/
  | mailboxResponseFree
  /-- UNKNOWN_VENDOR_REQUEST (R36): A vendor request with an unknown bRequest, or with wLength above 4,096, is stalled and logged as a violation. -/
  | unknownVendorRequest (p : UsbPath) (bRequest : Byte) (wLength : U16)
  /-- INTERRUPT_TRANSFER_COMPLETE (R66): Completion of an interrupt transfer consumes its event records and advances HEAD on a USB path. -/
  | interruptTransferComplete (p : UsbPath) (records : BitVec 7)
  /-- RECOVERY_WRITE (R400): RECOVERY_WRITE starts (wValue 0) or continues (wValue 1) an image transfer into recovery RAM or into the inactive firmware slot. -/
  | recoveryWrite (p : UsbPath) (wValue : U16) (data : List Byte)
  /-- RECOVERY_STATUS (R36): RECOVERY_STATUS returns the bytes received, the image state and the error code. -/
  | recoveryStatus (p : UsbPath)
  /-- IMAGE_VERIFY_COMPLETE (R400): Once the implied length has been received, the image is read back and verified, and the update state becomes 3 or 4. -/
  | imageVerifyComplete
  /-- QUEUE_ENABLE (R44): Writing 1 to ENABLE checks the session, the event ring, the size, the location, the handle and the size in order, and makes the queue RUNNING or records the error. -/
  | queueEnable (p : Path) (q : QueueId) (cfg : U32)
  /-- QUEUE_DISABLE (R46): Writing 0 to ENABLE stops fetching at once and discards unfetched commands. -/
  | queueDisable (p : Path) (q : QueueId) (cfg : U32)
  /-- DOORBELL (R45): A doorbell write announces the slots up to TAIL, halts the queue with E_DOORBELL when TAIL is out of range, and is ignored on a queue that is not RUNNING. -/
  | doorbell (p : Path) (q : QueueId) (v : U32)
  /-- COMMAND_FETCH (R47): A grant fetches and dispatches the next command of a queue, checking it in the order of R51. -/
  | commandFetch (host : Option (List Byte))
  /-- EVENT_RING_ENABLE (R65): Writing 1 to the event ring ENABLE restarts TAIL and HEAD if the session, size and base are valid. -/
  | eventRingEnable (p : Path) (cfg : U32)
  /-- EVENT_RING_DISABLE (R65): Writing 0 to the event ring ENABLE disables the ring unless a queue is enabled. -/
  | eventRingDisable (p : Path) (cfg : U32)
  /-- EVENT_RING_HEAD_WRITE (R67): A host write of HEAD frees ring space, and EV_RING_OVERFLOW is written at once when records were dropped. -/
  | eventRingHeadWrite (p : Path) (v : U32)
  /-- NOP (R50): NOP completes at dispatch. -/
  | nop (q : QueueId) (h : Hdr)
  /-- ALLOC (R54): ALLOC gives out the longest-free handle with a new buffer, or fails with E_BAD_PARAM, E_NO_HANDLE or E_NO_MEMORY. -/
  | alloc (q : QueueId) (h : Hdr) (b : AllocBody)
  /-- FREE (R55): FREE of a live handle makes the entry FREEING, closes its apertures and makes later references stale. -/
  | free (q : QueueId) (h : Hdr) (b : BufRef)
  /-- BUF_FREE_COMPLETE (R56): Once no reference remains, the buffer's space returns to the pool, its generation increments and EV_BUF_FREED is raised. -/
  | bufFreeComplete (handle : U16)
  /-- QUERY (R57): QUERY writes a snapshot of buffer-table entries or fence slots to host memory or a buffer. -/
  | query (q : QueueId) (h : Hdr) (b : QueryBody)
  /-- FENCE (R61): FENCE is checked for value order, binds its buffer's ready fence and starts waiting for the commands it covers. -/
  | fence (q : QueueId) (h : Hdr) (b : FenceBody)
  /-- FENCE_SIGNAL (R60): When every covered command has completed, and the drained tacks have retired if DRAIN_PUSH is set, the FENCE signals or fails as poisoned. -/
  | fenceSignal (q : QueueId)
  /-- WAIT (R63): WAIT holds its queue until its slot is reached, completing at once if it already is. -/
  | wait (q : QueueId) (h : Hdr) (b : WaitBody)
  /-- WAIT_TIMEOUT (R63): The WAIT timeout expires first, the WAIT fails with E_WAIT_TIMEOUT and the queue continues. -/
  | waitTimeout (q : QueueId)
  /-- TACK_HOLD (R64): TACK_HOLD installs a hold that stops the gleaner sealing tacks until its slot is reached. -/
  | tackHold (q : QueueId) (h : Hdr) (b : WaitBody)
  /-- DMA_IN (R58): DMA_IN starts a copy from host memory into a buffer, on the PCIe path only. -/
  | dmaIn (q : QueueId) (h : Hdr) (b : DmaBody)
  /-- DMA_OUT (R58): DMA_OUT starts a copy from a buffer to host memory, on the PCIe path only. -/
  | dmaOut (q : QueueId) (h : Hdr) (b : DmaBody)
  /-- DMA_COMPLETE (R58): A host DMA finishes, or fails with E_HOST_DMA on an error completion. -/
  | dmaComplete (id : Nat) (host : Option (List Byte))
  /-- DECODE (R95): DECODE is checked at dispatch and queued for its feed's sheaf. -/
  | decode (q : QueueId) (h : Hdr) (b : DecodeBody)
  /-- DECODE_JOB_PLACE (R100): At the head of its queue, a DECODE is placed on the resident or chosen thresher, with a save and restore of feeds where needed. -/
  | decodeJobPlace (q : QueueId)
  /-- MATCH_STALL_RESUME (R105): A match waiting on a lower-numbered segment resumes once the source byte has been written. -/
  | matchStallResume (t : ThresherId) (lane : BitVec 4)
  /-- SHEAF_SUCCESS (R98): A sheaf completes in one step, updating the history, the tables, the sequence and the state, and marking rewritten plots of the ACTIVE set. -/
  | sheafSuccess (t : ThresherId)
  /-- SHEAF_FAILURE (R106): A sheaf fails with the first fault of R88, and the feed keeps its prior state. -/
  | sheafFailure (t : ThresherId)
  /-- FEED_RESET (R91): FEED_RESET with CREATE, RESET or DELETE is checked at dispatch; CREATE makes the feed EMPTY. -/
  | feedReset (q : QueueId) (h : Hdr) (b : FeedResetBody)
  /-- FEED_ACTION_TAKES_EFFECT (R91): Once earlier DECODEs on the feed have completed, a RESET empties the feed or a DELETE makes it ABSENT. -/
  | feedActionTakesEffect (f : FeedId)
  /-- SAVE_AREA_FREE_EFFECT (R93): After a FREE of its save area, the feed becomes ABSENT once its earlier DECODEs have completed. -/
  | saveAreaFreeEffect (f : FeedId)
  /-- THRESHER_FAULT (R110): A thresher parity error or partition fence fails the job, faults the feed and fences the thresher. -/
  | thresherFault (t : ThresherId) (fence : Bool)
  /-- THRESHER_PROGRESS_TIMEOUT (R110): A lane unit making no progress for 100 µs is thresher fault cause 2. -/
  | thresherProgressTimeout (t : ThresherId)
  /-- JOBS_JOIN_THRESHER (R111): Moved jobs join a new thresher and EV_FEED_MIGRATED is raised. -/
  | jobsJoinThresher (f : FeedId)
  /-- ENCODE_JOB_COMPLETE (R113): An encode job finishes, producing one sheaf in the destination. -/
  | encodeJobComplete (t : ThresherId) (sheaf : List Byte)
  /-- VIEWSET_DEFINE (R119): VIEWSET_DEFINE checks a define or undefine of a view-set slot. -/
  | viewsetDefine (q : QueueId) (h : Hdr) (b : ViewSetBody)
  /-- VIEWSET_DEFINE_TAKES_EFFECT (R121): After earlier DECODEs into the slot have completed, the definition or undefinition applies. -/
  | viewsetDefineTakesEffect (slot : BitVec 1)
  /-- PENDING_SLOT_FREE_EFFECT (R122): After a FREE of a PENDING slot's buffer, the slot becomes UNDEFINED once its earlier DECODEs have completed. -/
  | pendingSlotFreeEffect (slot : BitVec 1)
  /-- LENS_SET (R144): LENS_SET reads and checks each named sail's lens map header and writes the lens shadows. -/
  | lensSet (q : QueueId) (h : Hdr) (b : LensSetBody)
  /-- LAYER_SET (R178): LAYER_SET checks a layer descriptor and writes it into the layer's shadow. -/
  | layerSet (q : QueueId) (h : Hdr) (b : LayerBody)
  /-- LUT_LOAD (R186): LUT_LOAD copies 16,384 bytes into a LUT shadow at dispatch. -/
  | lutLoad (q : QueueId) (h : Hdr) (b : LutBody)
  /-- COMMIT (R188): COMMIT gathers changed shadows into a pending set and validates it whole, completing at validation. -/
  | commit (q : QueueId) (h : Hdr) (b : CommitBody)
  /-- TACK_BOUNDARY (R197): At the first instant that R196 allows, pending commits are applied, plots are marked, the OPEN tack is sealed, the next tack opens, caches are invalidated and admissions begin. -/
  | tackBoundary
  /-- COMMIT_WAIT_TIMEOUT (R191): The WAIT policy timeout runs out, and the commit is deferred as under DEFER_ALL. -/
  | commitWaitTimeout
  /-- TACK_PERIOD_EXPIRY (R203): TACK_PERIOD elapses in PERIODIC mode and triggers a boundary. -/
  | tackPeriodExpiry
  /-- TACK_SYNC_EDGE (R204): A TACK_SYNC_IN transition is counted, and a qualifying edge triggers a boundary or a waiting broadcast. -/
  | tackSyncEdge (rising : Bool)
  /-- SYNC_TIMEOUT (R206): No edge arrives within SYNC_TIMEOUT in LOCKED mode, and EV_SYNC_LOST is raised once. -/
  | syncTimeout
  /-- PLOT_ADMIT (R211): A mast arbiter reserves a job slot, FIFO space and sail credits in one clock for its next candidate plot. -/
  | plotAdmit (m : MastId)
  /-- JOB_DISPATCH (R164): The scheduler presents an admitted job and the dispatcher places it on a cluster. -/
  | jobDispatch
  /-- PLOT_COMPUTE_START (R162): A job starts compute once its correction nodes are present and the previous job has left the engines. -/
  | plotComputeStart (c : ClusterId) (corrected refetched : U16) (upsets : List Upset)
  /-- SCALER_GRANT (R182): A plot takes every layer scaler it needs in one step once enough are free. -/
  | scalerGrant (c : ClusterId)
  /-- PLOT_HANDOFF (R171): A cluster finishes compute and hands the plot's records to the compositor, which writes pixels to the push FIFO. -/
  | plotHandoff (c : ClusterId) (upto : Nat)
  /-- CLUSTER_FAULT (R172): A residue, parity, refetch or partition fault stops dispatch to the cluster and handles its jobs by stage. -/
  | clusterFault (c : ClusterId) (cause : BitVec 3)
  /-- CLUSTER_PROGRESS_TIMEOUT (R172): A started job making no progress for 20 µs is cluster fault cause 3. -/
  | clusterProgressTimeout (c : ClusterId)
  /-- CLUSTER_FENCE_COMPLETE (R174): The fence of a cluster completes and EV_CLUSTER_FENCED is raised. -/
  | clusterFenceComplete (c : ClusterId)
  /-- PARTITION_FAULT (R451): A compositor slice, layer scaler group or mast group fault fences that partition. -/
  | partitionFault (p : BitVec 6)
  /-- PACKET_SERIALISE_START (R216): A mast starts the earliest reserved packet whose first 4,096 payload bytes are composed, after any class B pause. -/
  | packetSerialiseStart (m : MastId)
  /-- UNDERRUN (R217): A started packet needs an uncomposed byte, so the mast repeats the last pixel and re-marks the plot. -/
  | underrun (m : MastId)
  /-- ALIGN_DUE (R228): 1,024 block times pass and ALIGN is sent at the next packet boundary. -/
  | alignDue (m : MastId)
  /-- ACK_RECEIVED (R212): An ACK releases the packet's reservation and credits. -/
  | ackReceived (m : MastId) (s : SailId) (sq : U16)
  /-- TACK_BROADCAST (R208): The three TACK copies are broadcast on every mast whose link is up. -/
  | tackBroadcast
  /-- TACK_OUT_PULSE (R208): TACK_OUT pulses high for 1 µs at the flip instant. -/
  | tackOutPulse
  /-- NAK_RECEIVED (R241): A NAK queues a retransmission or fails the configuration command, by reason. -/
  | nakReceived (m : MastId) (s : SailId) (sq : U16) (reason : Byte)
  /-- RETRANSMIT_TIMEOUT (R241): No answer arrives 50 µs after a packet, so it is retransmitted or counted toward UNRESPONSIVE. -/
  | retransmitTimeout (m : MastId) (sq : U16)
  /-- PING_TIMER (R244): Every PING_INTERVAL, PINGs are sent to deliverable and UNRESPONSIVE sails. -/
  | pingTimer
  /-- CREDIT_RECEIVED (R245): A CREDIT packet sets the sail's credit total for later reservations. -/
  | creditReceived (s : SailId) (total : Byte)
  /-- STATUS_RECEIVED (R224): A STATUS packet is recorded, and FRAME_LOST marks the sail in full while HDR_ERR starts a retrain. -/
  | statusReceived (s : SailId) (flags : U32) (temp : U16)
  /-- CFG_DATA_RECEIVED (R258): A CFG_DATA word is stored, and the last one completes its command. -/
  | cfgDataReceived (m : MastId) (s : SailId) (sq : U16) (addr : Byte) (data : U32)
  /-- BACKSTAY_PACKET_ERROR (R237): A backstay packet failing its CRC or framing is discarded and counted. -/
  | backstayPacketError (p : BackstayChars)
  /-- STRAY_ANSWER (R243): An answer with no outstanding packet is ignored and counted. -/
  | strayAnswer (m : MastId)
  /-- SAIL_CFG_WRITE (R258): SAIL_CFG_WRITE sends one CFG_WRITE to a sail's maker area. -/
  | sailCfgWrite (q : QueueId) (h : Hdr) (b : CfgWriteBody)
  /-- SAIL_CFG_READ (R258): SAIL_CFG_READ sends one CFG_READ and stores or returns the words read. -/
  | sailCfgRead (q : QueueId) (h : Hdr) (b : CfgReadBody)
  /-- MAST_DET_HIGH (R262): DET going high moves the mast to DOWN and makes its sails UNREACHABLE. -/
  | mastDetHigh (m : MastId)
  /-- MAST_DET_QUALIFIED (R261): DET is held low for 1 ms and bring-up starts from ENUMERATE. -/
  | mastDetQualified (m : MastId)
  /-- ENUMERATION_COMPLETE (R264): 50 µs pass after the last new sail ID and enumeration ends. -/
  | enumerationComplete (m : MastId) (caps : List (BitVec 4))
  /-- EYE_REPORT_RECEIVED (R265): An EYE_REPORT is recorded into the pass mask of its hop, lane and rate. -/
  | eyeReportReceived (m : MastId) (r : EyeReport)
  /-- EQUALISE_END (R265): The preset sweep ends and VERIFY starts. -/
  | equaliseEnd (m : MastId)
  /-- VERIFY_COMPLETE (R268): The setting is chosen from the pass masks, or the chain is cut, or the mast FAILS, and sails enter service. -/
  | verifyComplete (m : MastId) (hops : List HopTiming)
  /-- RETRAIN_START (R271): A retrain trigger starts EQUALISE and VERIFY at the current rate. -/
  | retrainStart (m : MastId)
  /-- BACKSTAY_LOCK_LOSS (R271): Character lock on the device's backstay receiver is lost for more than 1 µs, which triggers a retrain. -/
  | backstayLockLoss (m : MastId)
  /-- RETRAIN_COMPLETE (R272): A retrain ends with a new lane mask, or falls into the rate ladder, and outstanding packets are retransmitted. -/
  | retrainComplete (m : MastId)
  /-- RATE_CHANGE_COMPLETE (R275): A rate change completes, or restores the previous setting with cause 5. -/
  | rateChangeComplete (m : MastId) (hops : List HopTiming)
  /-- REJOIN_ATTEMPT (R273): Every REJOIN_INTERVAL the lost hop is trained, and spliced if it passes. -/
  | rejoinAttempt (m : MastId) (found : RejoinFound)
  /-- HOVE_EXIT_LOCK_TIMEOUT (R276): A mast's backstay fails to lock within 10 µs of the exit from HOVE, which starts a retrain. -/
  | hoveExitLockTimeout (m : MastId)
  /-- TRAIN_REQUEST_RETRAIN (R271): Writing 1 to TRAIN_REQUEST starts a retrain of the mast. -/
  | trainRequestRetrain (c : Client) (sq : U16) (m : MastId)
  /-- TRAIN_REQUEST_BRINGUP (R273): Writing 2 to TRAIN_REQUEST runs a full bring-up of the mast. -/
  | trainRequestBringup (c : Client) (sq : U16) (m : MastId)
  /-- FILL (R285): FILL writes Value to every sample of the destination rectangle. -/
  | fill (q : QueueId) (h : Hdr) (b : BlitBody)
  /-- COPY (R285): COPY copies source samples to the destination, bit for bit. -/
  | copy (q : QueueId) (h : Hdr) (b : BlitBody)
  /-- BLEND (R286): BLEND applies premultiplied OVER of the source onto the destination. -/
  | blend (q : QueueId) (h : Hdr) (b : BlitBody)
  /-- PATTERN (R285): PATTERN tiles a preloaded pattern over the destination. -/
  | pattern (q : QueueId) (h : Hdr) (b : BlitBody)
  /-- LINE (R287): LINE writes Value along a line between two endpoints. -/
  | line (q : QueueId) (h : Hdr) (b : BlitBody)
  /-- CLIP_SET (R288): CLIP_SET sets its queue's four clip rectangles and enable mask. -/
  | clipSet (q : QueueId) (h : Hdr) (b : ClipBody)
  /-- BLIT_ACCEPT (R290): The block engine accepts a drawing command once fewer than 8 are waiting. -/
  | blitAccept (q : QueueId)
  /-- BLIT_WATERMARK (R294): Rows through the watermark become visible, EV_BLIT_WATERMARK is raised and chase-gated plots are released. -/
  | blitWatermark
  /-- BLIT_COMPLETE (R292): A drawing command completes or fails, remaining gated plots are released and the next command starts. -/
  | blitComplete
  /-- PROOF_SET (R298): PROOF_SET writes a proof window's shadow. -/
  | proofSet (q : QueueId) (h : Hdr) (b : ProofBody)
  /-- READBACK (R307): READBACK is checked and waits to capture from the next sealed tack. -/
  | readback (q : QueueId) (h : Hdr) (b : ReadbackBody)
  /-- READBACK_COMPLETE (R308): READBACK completes at the retirement of the captured tack or at the end of its encode job. -/
  | readbackComplete (id : Nat)
  /-- WRITE_QUEUE_DRAIN (R317): A channel starts a write drain at WQ_HIGH, when no read waits, or when a write has waited 8 µs. -/
  | writeQueueDrain (ch : BitVec 5)
  /-- REQUEST_CLASS_PROMOTION (R319): A memory request waiting 4 µs rises one class. -/
  | requestClassPromotion (ch : BitVec 5) (n : Nat)
  /-- DRAM_TEMP_POLL (R322): Every 32 ms the DRAM temperatures are read and the refresh band is set. -/
  | dramTempPoll (temps : List U16)
  /-- DRAM_THERMAL_STEP (R323): A DRAM above 105 °C for 10 ms forces a step to the next lower trained rate. -/
  | dramThermalStep
  /-- DRAM_RATE_STEP_UP (R323): After every DRAM has been below 95 °C for 1 s, the rate steps back up by one. -/
  | dramRateStepUp
  /-- DQ_TRACKING (R330): Every 100 ms a channel's interval oscillator corrects WCK-to-DQ timing and may schedule a retrain. -/
  | dqTracking (ch : BitVec 5) (retrain : Bool)
  /-- DRAM_RETRAIN_STEP (R331): A retrain step holds its channel for up to 2 ms after the mast pre-rule. -/
  | dramRetrainStep (ch : BitVec 5) (works : Bool)
  /-- DATA_RATE_WRITE (R332): A write of DATA_RATE requests a rate switch, or fails with E_RANGE. -/
  | dataRateWrite (c : Client) (sq : U16) (rate : U16)
  /-- DRAM_RATE_SWITCH (R333): All channels switch to another trained point, after any running step has ended. -/
  | dramRateSwitch
  /-- DRAM_MODE_REGISTER_TIMEOUT (R334): A channel fails to answer a mode-register read within 10 µs. -/
  | dramModeRegisterTimeout (ch : BitVec 5)
  /-- UHLOD_READ (R348): A READ returns an entry's shadow or applied value after the checks. -/
  | uhlodRead (c : Client) (u : UHdr) (data : List Byte)
  /-- UHLOD_WRITE (R348): A WRITE to an entry with no behaviour of its own is checked and enters arbitration, then updates the value or the shadow. -/
  | uhlodWrite (c : Client) (u : UHdr) (data : List Byte)
  /-- UHLOD_WRITE_MULTI (R352): WRITE_MULTI checks 1 to 32 records and applies them together through arbitration. -/
  | uhlodWriteMulti (c : Client) (u : UHdr) (data : List Byte)
  /-- UHLOD_COMMIT (R346): A Uhlod COMMIT, or a write of entry 0x2000.10, gathers shadows and commits with the given policy. -/
  | uhlodCommit (c : Client) (u : UHdr) (data : List Byte)
  /-- CLAIM (R354): CLAIM grants or renews a lease on an exclusive group. -/
  | claim (c : Client) (u : UHdr) (data : List Byte)
  /-- RELEASE (R354): RELEASE ends the holding master's claim on a group. -/
  | release (c : Client) (u : UHdr) (data : List Byte)
  /-- SUBSCRIBE (R353): SUBSCRIBE creates, renews or cancels a subscription to an entry. -/
  | subscribe (c : Client) (u : UHdr) (data : List Byte)
  /-- NOTIFY (R353): A subscription period elapses, or a change is applied, and a report is sent. -/
  | notify (n : Nat)
  /-- SUBSCRIPTION_EXPIRY (R353): A subscription's lifetime runs out and it ends. -/
  | subscriptionExpiry (n : Nat)
  /-- CLAIM_EXPIRY (R354): A claim lease runs out and EV_CLAIM_EXPIRED is raised. -/
  | claimExpiry (n : Nat)
  /-- ARBITRATION_WINDOW_CLOSE (R355): The 50 µs window closes, the held writes of the highest-ranked master apply and the others are superseded. -/
  | arbitrationWindowClose (n : Nat)
  /-- PRIVILEGE_TIMEOUT (R344): A client idle for PRIVILEGE_TIMEOUT returns to OPERATOR. -/
  | privilegeTimeout (c : Client)
  /-- CAN_SEGMENT_TIMEOUT (R358): A gap of more than 10 ms between segments aborts the transfer with E_FRAME. -/
  | canSegmentTimeout (node : Byte)
  /-- LOGIN (R344): A LOGIN write raises the client's privilege if its password matches. -/
  | login (c : Client) (sq : U16) (data : List Byte)
  /-- LOGOUT (R344): Writing 1 to LOGOUT returns the client to OPERATOR. -/
  | logout (c : Client) (sq : U16)
  /-- SET_PASSWORD (R442): SET_PASSWORD queues a replacement write password for level 2 or 3. -/
  | setPassword (c : Client) (sq : U16) (data : List Byte)
  /-- LOCK_ENTRY (R345): A LOCK write with bit 0 set locks an entry with attribute L. -/
  | lockEntry (c : Client) (sq : U16) (idx : U16) (sub : Byte)
  /-- UNLOCK_ENTRY (R345): A LOCK write with bit 0 clear unlocks the entry. -/
  | unlockEntry (c : Client) (sq : U16) (idx : U16) (sub : Byte)
  /-- MARK_ALL (R221): Writing 1 to MARK_ALL marks every plot of the sail in the OPEN map. -/
  | markAll (c : Client) (sq : U16) (s : SailId) (v : Byte)
  /-- RESET_REQUEST_WARM (R386): Writing 1 to RESET_REQUEST schedules a WARM reset 10 ms after the response. -/
  | resetRequestWarm (c : Client) (sq : U16)
  /-- RESET_REQUEST_COLD (R386): Writing 2 to RESET_REQUEST schedules a COLD reset 10 ms after the response. -/
  | resetRequestCold (c : Client) (sq : U16)
  /-- REQUESTED_RESET_DUE (R386): 10 ms after the response, or at the end of a handoff, the requested reset is taken. -/
  | requestedResetDue
  /-- MAST_RESET (R391): A MAST reset withdraws the mast's plots, starts its bring-up, and makes feeds ABSENT and slots UNDEFINED. -/
  | mastReset (c : Client) (sq : U16) (m : Byte)
  /-- OFFLINE_REQUEST (R452): A shadowed request takes a partition offline at the next boundary. -/
  | offlineRequest (c : Client) (sq : U16) (p : Byte)
  /-- RETURN_TO_SERVICE_REQUEST (R453): A shadowed request returns an OFFLINE partition to service at the next boundary. -/
  | returnToServiceRequest (c : Client) (sq : U16) (p : Byte)
  /-- BIST_REQUEST (R458): A BIST request on a partition is checked and starts or is queued. -/
  | bistRequest (c : Client) (sq : U16) (p tests : Byte)
  /-- BIST_FULL_RUN (R463): Partition 0xFF requests a COLD reset that runs full BIST on all 40 partitions. -/
  | bistFullRun (c : Client) (sq : U16) (tests : Byte)
  /-- BIST_START (R461): A queued BIST starts when the concurrency and power budget allow and no throttle is in force. -/
  | bistStart
  /-- BIST_COMPLETE (R463): A BIST ends, leaving the partition OFFLINE or FENCED, and EV_BIST_DONE is raised. -/
  | bistComplete (p : BitVec 6) (r : BistResult)
  /-- LIFE_CYCLE_ADVANCE (R455): A FACTORY write blows the fuse of the next life-cycle state. -/
  | lifeCycleAdvance (c : Client) (sq : U16) (v : Byte)
  /-- FW_HANDOFF (R401): Writing 1 in state 3 starts the handoff to the verified image. -/
  | fwHandoff (c : Client) (sq : U16)
  /-- HANDOFF_COMPLETE (R401): The new image resumes service and EV_FW_HANDOFF is raised. -/
  | handoffComplete (ms : U16)
  /-- HANDOFF_TIMEOUT (R402): The new image has not resumed within 100 ms and the previous image is restarted. -/
  | handoffTimeout (ms : U16)
  /-- TRIM_REQUEST (R420): Writing 1 to TRIM_REQUEST starts a trim run. -/
  | trimRequest (c : Client) (sq : U16)
  /-- RESTORE_DEFAULTS (R447): Writing 1 to RESTORE_DEFAULTS queues the restore marker for the next COLD reset. -/
  | restoreDefaults (c : Client) (sq : U16)
  /-- POWER_ON (R377): VDD_AON reaches its range, the always-on domain starts and the clock source is chosen. -/
  | powerOn (refclk : Bool)
  /-- RESET_N_QUALIFIED (R387): Three consecutive low samples of RESET_N qualify a COLD reset. -/
  | resetNQualified
  /-- PWR_OK_FALL (R470): PWR_OK low acts as RESET_N low and stops new ledger pulse groups. -/
  | pwrOkFall
  /-- BOOT_COMPLETE (R394): Boot finishes image verification and DRAM training, and sets READY. -/
  | bootComplete (b : BootReport)
  /-- WATCHDOG_EXPIRY (R392): The supervisor watchdog expires, restarting the supervisor or forcing a WARM reset on a second expiry within 10 s. -/
  | watchdogExpiry
  /-- HOVE_IDLE_TIMEOUT (R378): The device is idle for HOVE_IDLE_TIME and enters HOVE. -/
  | hoveIdleTimeout
  /-- WAKE_TIMER_EXPIRY (R381): WAKE_TIMER expires, or a PERIODIC boundary falls due, and the device wakes from HOVE. -/
  | wakeTimerExpiry
  /-- MOORED_ENTRY (R382): After 60 s in HOVE with no session and no mast in service, the device enters MOORED. -/
  | mooredEntry
  /-- MOORED_EXIT (R383): A MOORED wake source causes a reset with cause 6 and a boot. -/
  | mooredExit (w : MooredWake)
  /-- THERMAL_SAMPLE (R405): Every 1 ms all 24 sensors are sampled, Tj is formed and the thresholds are applied. -/
  | thermalSample (raw : List U16)
  /-- SENSOR_EXCLUDE (R407): After 3 consecutive suspect samples a sensor is excluded. -/
  | sensorExclude (n : BitVec 5)
  /-- SENSOR_REINCLUDE (R408): After 10,000 good samples an excluded sensor is included again. -/
  | sensorReinclude (n : BitVec 5)
  /-- CLASS_A_RELEASE_STEP (R410): After eight consecutive samples below 102 °C, k falls by 1. -/
  | classAReleaseStep
  /-- CLASS_B_STEP_UP (R411): After ten consecutive samples at or above 110 °C, b rises by 1. -/
  | classBStepUp
  /-- CLASS_B_STEP_DOWN (R411): After fifty consecutive samples below 107 °C, b falls by 1. -/
  | classBStepDown
  /-- FORCED_HOVE_EXIT (R414): After 1,000 samples below 110 °C the device leaves forced HOVE. -/
  | forcedHoveExit
  /-- SHUTDOWN_RECORD_WRITE (R416): Once Tj is at or below 100 °C while latched, a shutdown record is written to the ledger. -/
  | shutdownRecordWrite
  /-- TRIM_RUN_START (R420): A power-up, temperature or request trigger starts a trim run with an RCAL measurement. -/
  | trimRunStart (t : TrimTrigger) (rcalMilliohm : Nat)
  /-- MAST_TRIM_SLOT (R422): A mast withholds admissions, waits for its packets to finish, and trims for 60 µs. -/
  | mastTrimSlot (m : MastId) (a : List TrimAttempt)
  /-- TRIM_RUN_COMPLETE (R423): A run forms or replaces a trim set and raises EV_TRIM_DONE. -/
  | trimRunComplete (rest : List TrimItem)
  /-- TRIM_INTERPOLATE (R424): Every 1 s each item's code is interpolated from the trim sets and stepped toward its new value. -/
  | trimInterpolate
  /-- LEDGER_WRITE (R433): The next queued record is appended to its bank, with compaction when needed. -/
  | ledgerWrite
  /-- COUNTER_STEP (R437): A wear-spread counter reaches its step and clears the next ring bit, wrapping the ring when full. -/
  | counterStep (n : BitVec 4)
  /-- LEDGER_REFRESH_SCAN (R439): Every 295 s one page is margin-read, and a weak page is rewritten. -/
  | ledgerRefreshScan (weakBits : Nat)
  /-- RETURN_AUTH (R456): The JTAG instruction RETURN_AUTH verifies a signed authorisation and blows the RETURNED fuse. -/
  | returnAuth (key : List Byte) (sig : List Byte)
  /-- LEDGER_RAW (R443): The JTAG instruction LEDGER_RAW reads or writes raw records with the partition's password. -/
  | ledgerRaw (a : RawAccess)
  /-- BIST_CTRL (R457): The JTAG instruction BIST_CTRL issues BIST requests and reads partition states. -/
  | bistCtrl (r : BistCtrl)
  /-- IDCODE (R457): The JTAG instruction IDCODE returns the device identity code. -/
  | idcode
  /-- EXTEST (R457): The JTAG instruction EXTEST drives boundary scan, or acts as BYPASS while UNDERWAY with a mast in service. -/
  | extest (bits : List Bool)
  /-- SAMPLE_PRELOAD (R457): The JTAG instruction SAMPLE/PRELOAD samples or preloads the boundary-scan register. -/
  | samplePreload (bits : List Bool)
  /-- BYPASS (R457): The JTAG instruction BYPASS selects the bypass register. -/
  | bypass
  /-- RESET_RELEASE (R394): The release of RESET_N, with PWR_OK high, latches the straps and begins boot in the mode they select. -/
  | resetRelease (straps : BitVec 2)
  /-- POWER_LOSS (R444): Removal of VDD_AON clears the shutdown latch and the password lockouts, loses queued ledger writes and may interrupt a page being programmed. -/
  | powerLoss
  /-- PCIE_CONFIG_WRITE (R28): A host configuration write sets Bus Master Enable or other configuration-space fields of the PCIe function. -/
  | pcieConfigWrite (w : CfgSpace)
  /-- D3HOT_EXIT (R39): The host returns the function from D3hot to D0, and BAR accesses are answered normally again. -/
  | d3hotExit
  /-- USB_RESUME (R39): The host resumes a suspended USB function, and the accumulated events are delivered again. -/
  | usbResume (p : UsbPath)
  /-- COMMUNICATION_CHANGE_EFFECT (R362): 100 ms after the response to a write of an 0x1100 entry, the new CAN or 10BASE-T1S setting takes effect. -/
  | communicationChangeEffect
  /-- ARP_REQUEST (R356): An ARP request arriving on 10BASE-T1S is answered, and in HOVE one for the device's address wakes it. -/
  | arpRequest (target : U32)
  /-- ICMP_ECHO_REQUEST (R356): An ICMP echo request arriving on 10BASE-T1S is answered. -/
  | icmpEchoRequest (target : U32) (data : List Byte)
  /-- DISCARDED_NET_TRAFFIC (R356): An IPv4 fragment, a datagram with options or another protocol arriving on 10BASE-T1S is discarded and counted. -/
  | discardedNetTraffic
  /-- MALFORMED_UHLOD_FRAME (R347): A frame too short for a header, with an unknown operation, or a classical CAN frame with a Uhlod identifier, is answered with E_FRAME or dropped and counted. -/
  | malformedUhlodFrame (c : Client) (classical : Bool) (raw : List Byte)
  /-- BLIT_ROW_VISIBLE (R293): A destination row of a running drawing command becomes visible in DRAM, and the layer footprints over that row are marked in the OPEN map. -/
  | blitRowVisible
  /-- DRAM_PHY_TRIM_SLOT (R422): A DRAM PHY group, at least 20 ms after the previous one, holds its 8 channels for up to 200 µs and is trimmed. -/
  | dramPhyTrimSlot (g : BitVec 2) (a : List TrimAttempt)
  /-- LEDGER_WRITE_COMPLETE (R442): A ledger record finishes programming, after up to 37 ms with compaction, and a new password comes into force. -/
  | ledgerWriteComplete
  deriving DecidableEq, Repr

end Sys2Proof
end

