-- ==== Sys2Proof/Decode.lean ====
section
/-! DEFINITION. The table's words. No row of spec/opcode_table.json gives bits, so no word spells a command; the 64-byte
commands of the submission queues are parsed in Machine/Operands.lean. -/

namespace Sys2Proof

/-- The command that a word of `nbits` bits spells by the table's bits: the table gives no row bits, so none. -/
def decodeTableWord (_nbits _w : Nat) : Option Instr := none

end Sys2Proof
end

