-- ==== Sys2Proof/Config.lean ====
section
/-! DEFINITION. What an implementation fixes, and the values the spec leaves open: uninterpreted constants that
nothing in Lean can evaluate. -/

namespace Sys2Proof.Config

/-- A value the spec leaves open, for each use of it (log entry 3): the device's counter of such uses is the argument. -/
opaque freeValue : Nat → BitVec 64

/-- A choice of the memory controller or of a view cache that the spec leaves open, for each of them (R166, R167, R319; log entry 20): the
count of such choices is the argument. -/
opaque freeChoice : Nat → BitVec 64

/-- The set of a view cache, modulo 3,072, that a line number falls into: the spec gives no index function (R166; log entry 20). -/
opaque cacheSet : Nat → Nat

/-- The byte that a match finds a distance back, where a restored save area holds fewer valid bytes of history than the match reaches over
(R83, R103; log entry 107): the bytes at hand, newest first, and the distance are the arguments. -/
opaque lostHistory : List (BitVec 8) → Nat → BitVec 8

/-- ECDSA P-384 verification (R397, R456): public key bytes, signature bytes and the message bytes that SHA-384 digests (log entry 9). -/
opaque ecdsaP384 : List (BitVec 8) → List (BitVec 8) → List (BitVec 8) → Bool

/-- The low 16 bits of the IPv4 link-local address that a MAC address leads to (R356): RFC 3927 is outside the spec (log entry 9). -/
opaque linkLocal : BitVec 48 → BitVec 16

end Sys2Proof.Config
end

