-- ==== Sys2Proof/Machine/State.lean ====
section
/-! DEFINITION. The state of the device as plain data: every register, table, queue, counter and pin the spec gives it,
each field with the rule that names it, its default being its value right after power-on reset (`State.reset`). A table
`SMap` lists only entries that differ from the default of its value type. -/

namespace Sys2Proof.Machine

/-- Why a step stops with a fault: nobody raises it, no rule of the spec stops the block (safe). -/
inductive Fault where
  /-- Raised by no command: the spec gives every command an effect (safe). -/
  | none
  deriving DecidableEq, Repr

/-- Why a command is refused. -/
inductive Refusal where
  /-- A row without a meaning yet, by its mnemonic; raised by dispatch only (safe). -/
  | notModelled (mnemonic : String)
  deriving DecidableEq, Repr

/-- An event record (R8). -/
structure Event where
  type : U16
  source : U16
  tack : U32
  data : U64
  deriving DecidableEq, Repr

/-- Training sets that the device sends on a mast (R263): TS2 once its backstay receiver is locked, TS1 before; the preset of each lane. -/
structure TrainSet where
  two : Bool
  mast : MastId
  rate : Nat
  lanes : BitVec 4
  presets : List Nat
  phase : Nat
  countdown : Byte
  mark : Bool
  /-- How many of them follow one another; a run whose length the spec does not give stands once (log entry 99). -/
  sets : Nat
  deriving DecidableEq, Repr

/-- What a mast sends forward (R227, R232 to R236). -/
inductive Fwd where
  | plotWrite (sail : SailId) (seq : U16) (retry : Bool) (tack : U32) (col row : Nat) (pixels : List U32)
  /-- A copy of TACK, with its launch delay in 0.25 ns (R235). -/
  | tack (seq : U32) (copy adjust : Nat)
  | cfgWrite (sail : SailId) (seq : U16) (retry : Bool) (addr : Byte) (data : List U32)
  | cfgRead (sail : SailId) (seq : U16) (retry : Bool) (addr count : Byte)
  | ping (sail : SailId) (seq : U16) (retry : Bool) (token : U32)
  | align (lanes : Byte)
  | eiEnter
  /-- EXIT blocks, by their number on each lane (R229). -/
  | exit (blocks : Nat)
  | train (t : TrainSet)
  /-- The lanes stop at once (R229). -/
  | stop
  deriving DecidableEq, Repr

/-- What the device sends outside during a command (log entry 2). -/
inductive Out where
  | hostWrite (addr : U64) (data : List Byte)
  | msix (vector : Nat) (addr : U64) (data : U32)
  | readData (data : List Byte)
  | poisoned
  | unsupported
  | stall
  | bulkIn (p : UsbPath) (data : List Byte)
  | intrIn (p : UsbPath) (data : List Byte)
  | ctrlIn (data : List Byte)
  | remoteWake (p : UsbPath)
  | usbDevice (p : UsbPath) (vendor product : Nat) (full : Bool)
  | uhlod (c : Client) (data : List Byte)
  | netReply (data : List Byte)
  | arpReply (addr : U32) (mac : BitVec 48)
  | mast (m : MastId) (f : Fwd)
  /-- The 130-bit blocks that carry what a mast has just sent, by physical lane (R226). -/
  | lanes (m : MastId) (blocks : List (Nat × List (BitVec 130)))
  | tackOut
  | jtag (bits : List Bool)
  | recoveryStatus (data : List Byte)
  deriving DecidableEq, Repr

/-- Fuses and straps of the unit: per-unit values written at manufacture (log entry 5). -/
structure Fuses where
  /-- [1] 00 R1, reset DC false (log 5): part, true on the MD0512. -/
  md0512 : Bool := false
  /-- [16 bytes] 17 R368, reset DC all '0' (log 5): unit serial. -/
  serial : List Byte := List.replicate 16 0x30#8
  /-- [48] 16 R362, reset DC 0 (log 5): MAC address. -/
  mac : BitVec 48 := 0
  /-- [32] 17 R368, reset DC 0 (log 5): boot ROM version. -/
  bootRom : U32 := 0
  /-- [list of 48 bytes] 18 R397, reset DC none (log 5): unrevoked key digests. -/
  keyDigests : List (List Byte) := []
  /-- [6] 18 R397, reset DC 0 (log 5): security version counter. -/
  secVersion : Nat := 0
  /-- [32 bytes] 20 R441, reset DC 0 (log 5): password salt. -/
  salt : List Byte := List.replicate 32 0#8
  /-- [16 bytes] 20 R441, reset DC 0 (log 5): the FACTORY password as shipped. -/
  factoryPw : List Byte := List.replicate 16 0#8
  /-- [3] 21 R454, reset DC 0 TEST (log 5): life-cycle state in force. -/
  lifeCycle : Nat := 0
  /-- [3] 21 R455, reset DC none (log 5): life-cycle fuse blown and waiting for the next COLD reset. -/
  lifeNext : Option Nat := none
  /-- [37 codes] 19 R417, reset DC 0 (log 5): trim fuse value of each item. -/
  trim : SMap Byte := []
  /-- [24 masks] 17 R370, reset DC 0 (log 5): factory neighbour mask of each sensor. -/
  neighbours : SMap U32 := []
  /-- [80 × 64] 21 R459, reset DC 0 (log 5): signature of the logic test by 2 × partition + variant, 0 field and 1 full. -/
  bistSig : SMap U64 := []
  /-- [40 × 64] 21 R459, reset DC 1 (log 5): nonzero seed of each partition's pattern generator. -/
  bistSeed : SMap U64 := []
  /-- [40 × 64] 21 R459, reset DC 0 (log 5): X-mask of each partition, by compactor input. -/
  bistMask : SMap U64 := []
  /-- [11] 21 R457, reset DC 0 (log 5): JTAG manufacturer identity. -/
  jtagMfr : BitVec 11 := 0
  /-- [2] 18 R394, reset DC 0b00 HOST_USB4 (log 5): boot straps as latched. -/
  straps : BitVec 2 := 0
  deriving DecidableEq, Repr

/-- Low-power states of the host link in HOVE (R38): none, CL1 of USB4, U2 of USB 3.2. -/
inductive LinkLow where
  | l0 | cl1 | u2
  deriving DecidableEq, Repr

/-- Links and PCIe function (file 02). -/
structure HostLink where
  /-- [pin] 02 R23, reset DC 0 (log 6): VBUS present. -/
  vbus : Bool := false
  /-- [4] 02 R23, reset 0: USB4 link mode, 0 none, 1 to 4 as HOST_STATUS.LINK_MODE. -/
  usb4 : Nat := 0
  /-- [4] 02 entry 0x2300.02, reset 0: USB 3.2 mode, 0 none, 8 to 12. -/
  ss : Nat := 0
  /-- [1] 02 R23, reset 0: USB 2.0 attached. -/
  hs : Bool := false
  /-- [1] 02 R28, reset 0: Bus Master Enable. -/
  bme : Bool := false
  /-- [1] 02 R39, reset 0: function in D3hot. -/
  d3hot : Bool := false
  /-- [1] 02 MSI-X table, reset 0: MSI-X Enable of the capability. -/
  msixEnable : Bool := false
  /-- [1] 02 MSI-X table, reset 0: MSI-X Function Mask. -/
  msixMask : Bool := false
  /-- [3 values] 02 PCIe function, reset DC 128 (log 10): Max Payload Size. -/
  maxPayload : Nat := 128
  /-- [6 values] 02 PCIe function, reset DC 512 (log 10): Max Read Request Size. -/
  maxRead : Nat := 512
  /-- [BARs] 02 R25, reset 0: base addresses the host assigned. -/
  bars : SMap U64 := []
  /-- [6] 02 R26, reset 34: log2 of the BAR2 size in force. -/
  bar2Log2 : Nat := 34
  /-- [3] 02 entry 0x2300.03, reset 7: path enables in force. -/
  pathEnable : Nat := 7
  /-- [16 each] 02 entries 0x2300.08 and .09, reset 0x1F4D and the device ID: PCIe subsystem IDs in force. -/
  subsysVendor : Nat := 0x1F4D
  subsysId : Nat := 0x1024
  /-- [1] 02 R39, reset 0: USB 3.2 function suspended. -/
  susp3 : Bool := false
  /-- [1] 02 R39, reset 0: USB 2.0 function suspended. -/
  susp2 : Bool := false
  /-- [2] 02 R39, reset 0: USB functions whose host has enabled remote wake and which have not signalled it since their suspend: bit 0
  USB 3.2, bit 1 USB 2.0. -/
  wake : BitVec 2 := 0
  /-- [1] 02 R36, reset 0: USB 2.0 runs at Full-Speed, not at High-Speed. -/
  fs : Bool := false
  /-- [2] 02 R38, reset L0: low-power state of the host link. -/
  low : LinkLow := .l0
  deriving DecidableEq, Repr

/-- An aperture descriptor (R30): default is the reset value. -/
structure Ap where
  target : U32 := 0
  writeEn : Bool := false
  isOpen : Bool := false
  status : BitVec 4 := 0
  offset : U64 := 0
  deriving DecidableEq, Repr

/-- One MSI-X table entry. -/
structure MsixEntry where
  addr : U64 := 0
  data : U32 := 0
  ctrl : U32 := 1
  deriving DecidableEq, Repr

/-- Session and BAR0 registers of the host port (file 02). -/
structure HostRegs where
  /-- [2] 02 R24 entry 0x2300.01, reset none: queue owner. -/
  owner : Option Path := none
  /-- [8] 02 HOST_STATUS.SESSION, reset 0. -/
  sessionCtr : Byte := 0
  /-- [1] 02 HOST_STATUS.VIOL, reset 0. -/
  viol : Bool := false
  /-- [32] 02 INT_MOD, reset COUNT 1, TIMER 0. -/
  intMod : U32 := 1
  /-- [count] 02 R29, reset 0: unsignalled events. -/
  unsignalled : Nat := 0
  /-- [1] 02 R29, reset 0: INT_MOD timer running. -/
  timerOn : Bool := false
  /-- [64 × 128] 02 R30, reset 0: aperture descriptors. -/
  aps : SMap Ap := []
  /-- [4 × 128] 02 MSI-X table, reset masked (the PCIe reset, PRESUMED, log 10). -/
  msix : SMap MsixEntry := []
  /-- [4] 02 MSI-X pending bits, reset 0. -/
  pba : BitVec 4 := 0
  /-- [8] 02 entry 0xB010.02, reset 0. -/
  violSource : Nat := 0
  /-- [64] 02 entry 0xB010.03, reset 0. -/
  violAddr : Nat := 0
  /-- [32] 02 entry 0xB010.04, reset 0. -/
  violHandle : Nat := 0
  /-- [32] 02 entry 0xB010.05, reset 0. -/
  violTack : U32 := 0
  /-- [count] 02 R42, reset 0: violations since the last EV_HOST_VIOLATION. -/
  violSince : Nat := 0
  /-- [time] 02 R42, reset none: when EV_HOST_VIOLATION was last raised. -/
  violAt : Option Nat := none
  deriving DecidableEq, Repr

/-- What forced HOVE holds until its exit (R414): a doorbell write, or a USB transfer, through XFER_OUT or bulk. -/
inductive Held where
  | doorbell (p : Path) (q : QueueId) (v : U32)
  | transfer (p : UsbPath) (ctrl : Bool) (x : XferHdr) (payload : List Byte)
  deriving DecidableEq, Repr

/-- Mailboxes and USB transfer state (files 02, 16). -/
structure HostXfer where
  /-- [2048 bytes] 02 BAR0 0x1_0000, reset DC 0 (log 10): request area of the PCIe mailbox. -/
  mboxReq : SMap Byte := []
  /-- [2048 bytes] 02 BAR0 0x1_0800, reset empty: response of the PCIe mailbox. -/
  mboxResp : List Byte := []
  /-- [1] 16 MBX_STATUS.BUSY, reset 0. -/
  mboxBusy : Bool := false
  /-- [1] 16 MBX_STATUS.RESP_READY, reset 0. -/
  mboxReady : Bool := false
  /-- [4 frames] 16 R359, reset empty: uncollected responses of the USB 3.2 path. -/
  resp3 : List (List Byte) := []
  /-- [4 frames] 16 R359, reset empty: uncollected responses of the USB 2.0 path. -/
  resp2 : List (List Byte) := []
  /-- [1] 02 R35, reset 0: USB 3.2 bulk OUT discarding after a framing failure. -/
  discard3 : Bool := false
  /-- [1] 02 R35, reset 0: USB 2.0 bulk OUT discarding. -/
  discard2 : Bool := false
  /-- [list] 02 R36, reset empty: READ_DATA and STATUS transfers waiting for XFER_IN. -/
  xferIn : List (List Byte) := []
  /-- [list] 18 R414, reset empty: doorbells and transfers held in forced HOVE, served after the exit. -/
  held : List Held := []
  deriving DecidableEq, Repr

/-- The event ring (R65 to R67). -/
structure EventRing where
  /-- [64] 03 EVR_BASE, reset 0. -/
  base : U64 := 0
  /-- [5] 03 EVR_CFG.LOG2_SIZE, reset 0. -/
  log2 : BitVec 5 := 0
  /-- [1] 03 EVR_STATUS.ENABLED, reset 0. -/
  enabled : Bool := false
  /-- [16] 03 EVR_TAIL, reset 0. -/
  tail : U16 := 0
  /-- [16] 03 EVR_HEAD, reset 0. -/
  head : U16 := 0
  /-- [1] 03 EVR_STATUS.OVERFLOW, reset 0. -/
  overflow : Bool := false
  /-- [32] 03 EVR_DROPPED, reset 0. -/
  dropped : Nat := 0
  /-- [count] 03 R67, reset 0: records dropped since the ring was last not full. -/
  lost : Nat := 0
  /-- [records] 03 R66, reset empty: records written and not consumed on a USB path, oldest first. -/
  recs : List Event := []
  deriving DecidableEq, Repr

/-- Queue states of SQn_STATUS. -/
inductive QState where
  | disabled | running | halted
  deriving DecidableEq, Repr

/-- Why a queue dispatches nothing (R48, R60, R63). -/
inductive Hold where
  | none
  | barrier (id : Nat)
  | wait (id : Nat) (slot : Nat) (value : U64) (timed : Bool)
  | place (id : Nat)
  | accept (id : Nat)
  | retry (cmd : Instr)
  deriving DecidableEq, Repr

/-- A submission queue (file 03). -/
structure Queue where
  /-- [64] 03 SQn_BASE, reset 0. -/
  base : U64 := 0
  /-- [4] 03 SQn_CFG.LOG2_SIZE, reset 0. -/
  log2 : BitVec 4 := 0
  /-- [2] 03 SQn_CFG.CLASS, reset 0. -/
  cls : BitVec 2 := 0
  /-- [1] 03 SQn_CFG.LOC, reset 0. -/
  loc : Bool := false
  /-- [4] 03 SQn_STATUS.STATE, reset DISABLED. -/
  state : QState := .disabled
  /-- [16] 03 SQn_STATUS.ERROR, reset 0. -/
  error : U16 := 0
  /-- [12] 03 SQn_HEAD, reset 0. -/
  head : Nat := 0
  /-- [12] 03 R45, reset 0: the tail announced by the doorbell. -/
  tail : Nat := 0
  /-- [state] 03 R48, reset none: what holds the queue. -/
  hold : Hold := .none
  /-- [7] 03 R47, reset 0: consecutive grants watched with a command ready. -/
  watched : Nat := 0
  /-- [id] 03 R61, reset 0: id of the queue's previous FENCE. -/
  lastFence : Nat := 0
  /-- [id, tag] 03 R61, reset none: the failed command dispatched first since the previous FENCE. -/
  failed : Option (Nat × U16) := none
  /-- [4 rects + 4] 13 R288, reset none enabled: clip state. -/
  clip : List Rect := []
  deriving DecidableEq, Repr

/-- A command dispatched and not completed (R48, R52, R56). -/
structure CmdRec where
  id : Nat
  q : QueueId
  tag : U16
  op : Byte
  notify : Bool
  refs : List BufRef
  deriving DecidableEq, Repr

/-- Buffer states (R53). -/
inductive BufState where
  | free | live | freeing
  deriving DecidableEq, Repr

/-- A buffer-table entry (R53); generation 1 is the first a handle receives. -/
structure Buf where
  state : BufState := .free
  gen : U16 := 1
  base : Nat := 0
  size : Nat := 0
  fmt : Nat := 0
  ecc : Bool := false
  pitch : Nat := 0
  ready : Option (Nat × U64) := none
  freeQ : QueueId := 0
  freeTag : U16 := 0
  freeId : Nat := 0
  deriving DecidableEq, Repr

/-- A pending FENCE (R60, R61). -/
structure FenceRec where
  id : Nat
  /-- Id of the queue's previous FENCE: the commands between the two are covered. -/
  after : Nat
  q : QueueId
  slot : Nat
  value : U64
  event : Bool
  ignoreErrors : Bool
  drain : List U32
  failed : Option (Nat × U16)
  deriving DecidableEq, Repr

/-- A host DMA in progress (R58). -/
structure DmaRec where
  id : Nat
  out : Bool
  ref : BufRef
  offset : Nat
  host : U64
  len : Nat
  deriving DecidableEq, Repr

/-- Queues, commands, buffer table and fences (file 03). -/
structure QueueSys where
  /-- [64 queues] 03 R44, reset disabled: submission queues. -/
  queues : SMap Queue := []
  /-- [4 classes × 6] 03 R47, reset DC 63 (log 19): queue of each class's last grant, for the round robin. -/
  lastGrant : SMap Nat := []
  /-- [id] model's own, reset DC 1 (log 11): id of the next dispatched command. -/
  nextId : Nat := 1
  /-- [list] 03 R48, reset empty: commands dispatched and incomplete, in dispatch order. -/
  cmds : List CmdRec := []
  /-- [65,536 entries] 03 R53, reset FREE, generation 1: buffer table. -/
  bufs : SMap Buf := []
  /-- [17] 03 R53, reset 1: handles given out at least once, and one more; at 65,536 none is left that never was. -/
  fresh : Nat := 1
  /-- [list] 03 R53, reset empty: handles freed, longest free first. -/
  freed : List U16 := []
  /-- [4,096 × 64] 03 R59, reset 0: fence slots. -/
  slots : SMap U64 := []
  /-- [list] 03 R60, reset empty: pending FENCEs. -/
  fences : List FenceRec := []
  /-- [list] 03 R64, reset empty: TACK_HOLDs in force, slot and value. -/
  holds : List (Nat × U64) := []
  /-- [list] 03 R58, reset empty: host DMA in progress. -/
  dmas : List DmaRec := []
  deriving DecidableEq, Repr

/-- Feed states (R90). -/
inductive FeedState where
  | absent | empty | ready | faulted
  deriving DecidableEq, Repr

/-- The context a feed carries (R71, R104): window oldest first, total of R83, expected sequence, stored table block. -/
structure FeedCtx where
  hist : List Byte := []
  total : Nat := 0
  seq : U32 := 0
  tables : Option (List Byte) := none
  deriving DecidableEq, Repr

/-- A feed (file 05). -/
structure Feed where
  /-- [2] 05 R90, reset ABSENT. -/
  state : FeedState := .absent
  /-- [context] 05 R72, reset empty. -/
  ctx : FeedCtx := {}
  /-- [ref] 05 R91, reset none: save area. -/
  save : BufRef := ⟨0, 0⟩
  /-- [1] 05 R101, reset 0: the save area holds a context of the feed. -/
  saved : Bool := false
  /-- [1] 05 R101, reset 0: the context has changed since it was last saved or restored. -/
  changed : Bool := false
  /-- [list] 05 R91, reset empty: RESET (false) and DELETE (true) waiting for earlier DECODEs. -/
  actions : List (Nat × Bool) := []
  /-- [id] 05 R93, reset none: FREE of the save area accepted. -/
  freeing : Option Nat := none
  /-- [1] 18 R391, reset 0: a MAST reset waits to make the feed ABSENT, with the id bound of its DECODEs. -/
  dropAt : Option Nat := none
  deriving DecidableEq, Repr

/-- The definition of a view-set slot (R118). -/
structure VSet where
  ref : BufRef
  fmt : Nat
  curve : Nat
  count : Nat
  width : Nat
  height : Nat
  peak : Nat
  deriving DecidableEq, Repr

/-- A job of a thresher (R100). -/
inductive Job where
  /-- A DECODE: its body, the target slot's definition, the ACTIVE slot's definition and whether the target was PENDING, taken at dispatch (R123). -/
  | decode (id : Nat) (b : DecodeBody) (target : Option VSet) (active : Option VSet) (pending : Bool)
  /-- An encode job of READBACK (R113): the captured bytes. -/
  | encode (id : Nat) (raw : List Byte)
  deriving DecidableEq, Repr

/-- A thresher (file 05). -/
structure Thresher where
  /-- [1] 05 R110, reset 0: fenced by a fault. -/
  fenced : Bool := false
  /-- [8] 05 R101, reset none: resident feed. -/
  resident : Option FeedId := none
  /-- [4 slots] 05 R100, reset empty: job queue, the running job first (log 12). -/
  jobs : List Job := []
  /-- [stamp] 05 R100, reset 0: when the resident feed last had a job. -/
  lastJob : Nat := 0
  /-- [1] 05 R111, reset 0: leaves service once its running sheaf ends. -/
  leaving : Bool := false
  /-- [16 × 29] 05 R105, reset 0: scoreboard: bytes of each lane's segment known to be written, for the running job. -/
  score : SMap Nat := []
  deriving DecidableEq, Repr

/-- A view-set slot (R118, R121, R122). -/
structure Slot where
  /-- [definition] 06 R118, reset UNDEFINED. -/
  dfn : Option VSet := none
  /-- [list] 06 R121, reset empty: DEFINE (some) and UNDEFINE (none) waiting for earlier DECODEs, by command id. -/
  actions : List (Nat × Option VSet) := []
  /-- [id] 06 R122, reset none: FREE of a PENDING slot's buffer accepted. -/
  freeing : Option Nat := none
  deriving DecidableEq, Repr

/-- Threshers, feeds and view-set slots (files 05, 06). -/
structure Intake where
  /-- [16] 05 R100, reset idle: threshers. -/
  threshers : SMap Thresher := []
  /-- [256] 05 R90, reset ABSENT: feeds. -/
  feeds : SMap Feed := []
  /-- [list] 05 R100, reset empty: DECODEs and encode jobs that wait for a thresher, oldest first, with the thresher they left, if moved. -/
  waiting : List (Job × Option ThresherId) := []
  /-- [32] 05 entry 0x2110.08, reset 0: LAST_FAULT. -/
  lastFault : Nat := 0
  /-- [2 slots] 06 R118, reset UNDEFINED: view-set slots. -/
  slots : SMap Slot := []
  /-- [1] 18 R391, reset 0: the next boundary acts as a commit that selects none. -/
  dropSelect : Bool := false
  /-- [ids, bytes] 05 R99, reset none: DECODEs not completed into whose source or destination range another writer has written, with the
  bytes of their sheaf before the first such write. -/
  races : List (Nat × List Byte) := []
  deriving DecidableEq, Repr

/-- A lens map held by a shadow or in force (R142, R144): header fields as read, both reciprocals, the reference. -/
structure Lens where
  ref : BufRef
  offset : Nat
  integral : Bool
  xtalk : Bool
  wrap : Bool
  width : Nat
  height : Nat
  subX : List Nat
  subY : List Nat
  nu : Nat
  nv : Nat
  base : Nat
  pitch : Nat
  rowPitch : Nat
  slant : Int
  phaseX : Nat
  phaseY : Nat
  originX : Int
  originY : Int
  scaleX : Nat
  scaleY : Nat
  gx : Nat
  gy : Nat
  col0 : Int
  row0 : Int
  k0 : Int
  km : Int
  kp : Int
  table : Nat
  invP : Nat
  invR : Nat
  deriving DecidableEq, Repr

/-- The settings a commit puts in force (R187), with entries of attribute T keyed by index × 256 + sub-index. -/
structure Applied where
  /-- [1,024] 07 R145, reset none: applied lens maps by sail. -/
  lens : SMap (Option Lens) := []
  /-- [7] 09 R178, reset disabled: applied layer descriptors. -/
  layers : SMap (Option LayerBody) := []
  /-- [8 × 4096 × 32] 09 R185, reset linear ramp (empty list stands for the ramp): LUT contents. -/
  luts : SMap (List U32) := []
  /-- [64] 14 R298, reset disabled: applied proof windows. -/
  wins : SMap (Option ProofBody) := []
  /-- [T entries] 09 R187, reset defaults (17): applied values; an absent key has its table default. -/
  vals : SMap (Option Nat) := []
  /-- [T entries × 3] 16 R346, reset 4 (log 70): master that wrote an applied value; 4 where none has. -/
  writers : SMap Nat := []
  deriving DecidableEq, Repr

/-- One shadowed setting (R187). -/
inductive Item where
  | lens (s : SailId) (v : Option Lens)
  | layer (n : Nat) (v : Option LayerBody)
  | lut (n : Nat) (v : List U32)
  | win (n : Nat) (v : Option ProofBody)
  /-- With the master that wrote it (R346). -/
  | val (key : Nat) (v : Nat) (by_ : Nat)
  deriving DecidableEq, Repr

/-- Who committed (R192): a queue, or a dictionary master. -/
inductive Committer where
  | queue (q : QueueId)
  | master (m : Nat)
  deriving DecidableEq, Repr

/-- A validated commit (R188 to R191). -/
structure Commit where
  ordinal : U32
  who : Committer
  tag : U16
  policy : Nat
  items : List Item
  /-- The gating blit and the buffer it writes (R295). -/
  gate : Option (Nat × BufRef)
  /-- True once a deferral has taken its trigger away (R203). -/
  deferred : Bool
  /-- True once its WAIT timeout has run out for the boundary now due (R191). -/
  timedOut : Bool
  deriving DecidableEq, Repr

/-- A chase gate in force (R296): the gating blit, its destination buffer, and the tack it gates. -/
structure Gate where
  blit : Nat
  ref : BufRef
  tack : U32
  plots : List (SailId × Nat)
  deriving DecidableEq, Repr

/-- Shadows, commits and applied settings (file 09). -/
structure Comp where
  /-- [settings] 09 R187, reset defaults: settings in force. -/
  ap : Applied := {}
  /-- [shadow set] 09 R187, reset empty: settings written and not gathered, oldest first, one per key. -/
  shadow : List Item := []
  /-- [4] 09 R189, reset empty: pending commits in ordinal order. -/
  pend : List Commit := []
  /-- [32] 09 R189, reset 0: ordinal of the latest commit. -/
  ordinal : U32 := 0
  /-- [list] 09 R192, reset empty: held items, still pending. -/
  held : List Item := []
  /-- [16] 09 entry 0x2100.07, reset 0. -/
  rejCode : Nat := 0
  /-- [64] 09 entry 0x2100.08, reset 0. -/
  rejData : Nat := 0
  /-- [1] 09 R192, reset 0: a qualifying edge found a WAIT that delays its boundary (LOCKED mode). -/
  waiting : Bool := false
  /-- [list] 13 R296, reset empty: chase gates. -/
  gates : List Gate := []
  deriving DecidableEq, Repr

/-- The SEALED or PUSHING tack (R194). -/
structure ActiveTack where
  seq : U32
  pushing : Bool
  sealedAt : Nat
  good : Nat
  /-- The ACTIVE view-set definition when it sealed (R135). -/
  vset : Option VSet
  deriving DecidableEq, Repr

/-- A retired tack whose flip is due (R208, R209). -/
structure Flip where
  seq : U32
  /-- LOCKED: a qualifying edge has come since its retirement. -/
  armed : Bool
  deriving DecidableEq, Repr

/-- The tack machinery (file 10). -/
structure Tack where
  /-- [32] 10 R195 entry 0x2000.06, reset 1: OPEN tack. -/
  openSeq : U32 := 1
  /-- [state] 10 R194, reset none: SEALED or PUSHING tack. -/
  act : Option ActiveTack := none
  /-- [32] 10 R195 entry 0x2000.07, reset 0: last retired tack. -/
  retired : U32 := 0
  /-- [list] 10 R208, reset none: flips of retired tacks not yet broadcast, oldest first. -/
  flips : List Flip := []
  /-- [1] 10 R203, reset 0: a PERIODIC period has elapsed since the last boundary. -/
  periodDue : Bool := false
  /-- [1] 10 R203, reset 0: a qualifying edge triggers a boundary. -/
  edgeDue : Bool := false
  /-- [8] 10 R204, reset 0: transitions counted. -/
  edges : Nat := 0
  /-- [time] 10 R206, reset 0: last transition of the selected polarity. -/
  lastEdge : Nat := 0
  /-- [time] 10 R206, reset 0: last transition of the polarity that is not selected. -/
  otherEdge : Nat := 0
  /-- [1] 10 R206, reset 0: EV_SYNC_LOST raised and not cleared by an edge. -/
  syncLost : Bool := false
  /-- [time] 10 R203, reset 0: last boundary. -/
  lastBoundary : Nat := 0
  /-- [32] 10 entry 0x2000.11, reset 0. -/
  timeLast : Nat := 0
  /-- [count] 10 R208, reset 0: TACK_OUT pulses due at their flip instants. -/
  pulses : Nat := 0
  deriving DecidableEq, Repr

/-- Where an admitted plot is (R162, R211, R216). -/
inductive Stage where
  | admitted
  /-- Handed on by a fenced cluster and without a place: first in the dispatcher's order (R164, R173). -/
  | handed (c : ClusterId)
  | queued (c : ClusterId)
  | prefetch (c : ClusterId)
  | compute (c : ClusterId)
  | composed
  | discarded
  deriving DecidableEq, Repr

/-- The packet of an admitted plot (R212, R216). -/
inductive Pkt where
  | waiting
  | started
  | sent
  deriving DecidableEq, Repr

/-- An admitted plot: job, reservation and packet (R211 to R217). -/
structure Plot where
  mast : MastId
  sail : SailId
  plot : Nat
  promoted : Bool
  stage : Stage := .admitted
  urgent : Bool := false
  /-- Stamp of its dispatch, for the order of a cluster's queue (R165). -/
  order : Nat := 0
  /-- Scalers taken (R182). -/
  scalers : Option (List Nat) := none
  /-- Bytes remembered as overwritten when it entered the engines (R167). -/
  mark : Nat := 0
  /-- The pixels composed and handed over, in raster order, and their count (R171). -/
  pixels : List U32 := []
  handed : Nat := 0
  pkt : Pkt := .waiting
  seq : U16 := 0
  /-- Completed by repeating a pixel (R173, R217). -/
  repeated : Bool := false
  fails : Nat := 0
  retry : Bool := false
  /-- Sent before a retrain or HOVE and not yet sent again (R272, R413). -/
  resend : Bool := false
  deriving DecidableEq, Repr

/-- A device or host operation on a sail's registers (R244, R252, R256, R258). -/
inductive CfgOp where
  | write (addr : Byte) (data : List U32) (owner : Option Nat)
  /-- With the place in a buffer where the words go, and the words so far by address. -/
  | read (addr count : Byte) (owner : Option Nat) (dst : Option (BufRef × Nat)) (got : SMap U32)
  | ping (token : U32)
  deriving DecidableEq, Repr

/-- A configuration packet outstanding to a sail (R246). -/
structure CfgOut where
  op : CfgOp
  seq : U16
  fails : Nat
  /-- A retransmission of it is due (R241). -/
  due : Bool := false
  /-- When its last bit left (R244). -/
  at_ : Nat := 0
  deriving DecidableEq, Repr

/-- Reachability of a sail (R200, R221). -/
inductive Reach where
  | unreachable | entering | service | unresponsive
  deriving DecidableEq, Repr

/-- A sail as the device knows it (files 10, 11). -/
structure Sail where
  /-- [2] 10 R200, reset UNREACHABLE. -/
  reach : Reach := .unreachable
  /-- [2048] 10 R199, reset 0: OPEN dirty map. -/
  dirty : BitVec 2048 := 0
  /-- [2048] 10 R199, reset 0: SEALED dirty map. -/
  sealedMap : BitVec 2048 := 0
  /-- [32 × 32] 10 R201, reset none: per plot row, sequence of the OPEN tack at which its oldest dirty plot was marked. -/
  rowSeq : SMap (Option U32) := []
  /-- [32 × 32] 10 R201, reset none: the same value for the rows sealed into the SEALED or PUSHING tack. -/
  sealedSeq : SMap (Option U32) := []
  /-- [32 × time] 10 R201, reset 0: per plot row, last marking time. -/
  rowTime : SMap Nat := []
  /-- [13 × 32] 11 R256 entries (0x4000).01 to .04, reset 0: register words 0x00 to 0x0C as last read. -/
  words : List U32 := []
  /-- [8] 11 R245 entry (0x4000).05, reset 0: credits advertised. -/
  credits : Nat := 0
  /-- [32] 11 entry (0x4000).06, reset 0: STATUS flags last reported. -/
  status : U32 := 0
  /-- [16] 11 entry (0x4000).07, reset 0x8000. -/
  temp : U16 := 0x8000
  /-- [32] 11 R244 entry (0x4000).08, reset 0: ns of the last PING. -/
  ackNs : Nat := 0
  /-- [1] 10 R207 entry (0x4001).02, reset 0: present mode in effect. -/
  tacked : Bool := false
  /-- [1] 07 R150 entry (0x4003).01, reset 0: MISMATCH. -/
  mismatch : Bool := false
  /-- [8] 11 R259, reset 0: STATUS flags reported and not yet cleared. -/
  seen : Byte := 0
  /-- [1] 18 R390, reset 1: SOFT_RESET is due at the next entry into service. -/
  soft : Bool := true
  /-- [1] 11 R244, reset 0: entering service after having been UNRESPONSIVE. -/
  returning : Bool := false
  /-- [8] 12 R267, reset 0: FWD_TRIM computed at the last delay measurement. -/
  trim : Nat := 0
  /-- [queue] 11 R258, reset empty: configuration operations waiting. -/
  ops : List CfgOp := []
  /-- [1 packet] 11 R246, reset none: configuration packet outstanding. -/
  out : Option CfgOut := none
  deriving DecidableEq, Repr

/-- Training states of a mast (R261). -/
inductive MastState where
  | down | enumerate | equalise | verify | service | retrain | rateChange | failed
  deriving DecidableEq, Repr

/-- A mast (files 10 to 12, 18). -/
structure Mast where
  /-- [3] 12 R261 entry (0x3002).01, reset DOWN. -/
  state : MastState := .down
  /-- [pin] 12 R262, reset DC 0 (log 6): MASTnn_DET is low: a chain is present. -/
  det : Bool := false
  /-- [8] 12 entry (0x3002).05, reset 0: lane rate code 0 to 3 (Gbit/s 8, 16, 24, 32) while in service. -/
  rate : Nat := 0
  /-- [4] 12 entry (0x3002).06, reset 0: active lane mask. -/
  lanes : BitVec 4 := 0
  /-- [6] 12 entry (0x3002).07, reset 0: sails reachable. -/
  reach : Nat := 0
  /-- [6] 12 entry (0x3002).08, reset 0: sails enumerated. -/
  enumerated : Nat := 0
  /-- [32 × 4 × 4] 12 R266, reset 0: pass mask by hop × 4 + rate; absent means not measured. -/
  pass : SMap (Option (BitVec 4)) := []
  /-- [2] 12 R265, reset 0: rate code of the trial or of training. -/
  trial : Nat := 0
  /-- [32 × 16] 12 entry (0x3002).20, reset 0: HOP_STATE. -/
  hops : SMap U32 := []
  /-- [reports] 12 R265, reset empty: best score per hop, lane: (preset, height × width). -/
  best : SMap (Nat × Nat) := []
  /-- [rate, lanes] 12 R275, reset none: setting to restore when a rate change fails. -/
  prior : Option (Nat × BitVec 4) := none
  /-- [time] 12 R277, reset 0: start of the running training. -/
  since : Nat := 0
  /-- [32] 12 entry (0x3002).0B, reset 0. -/
  lastTrain : Nat := 0
  /-- [times] 12 R272, reset empty: starts of retrains in the last 100 ms. -/
  retrains : List Nat := []
  /-- [times] 12 R271, reset empty: NAKs of reason 1 in the last 1 ms. -/
  naks : List Nat := []
  /-- [5] 12 R273, reset none: first lost hop. -/
  lostHop : Option Nat := none
  /-- [32 × 4] 12 R268, reset empty: CAPS1.RATES of the sails found at the last bring-up or rejoin, by hop. -/
  caps : List (BitVec 4) := []
  /-- [32 × 40] 12 R267, reset empty: the last delay measurement, by hop. -/
  timing : List HopTiming := []
  /-- [1] 12 R263, R273, reset 0: the device's backstay receiver is locked. -/
  backLock : Bool := false
  /-- [time] 12 R273, reset none: start of the rejoin attempt under way. -/
  rejoin : Option Nat := none
  /-- [1] 12 R275, reset 0: the retrain under way restores the setting that a failed change left. -/
  restore : Bool := false
  /-- [1] 11 R229, reset 1: forward lanes in electrical idle. -/
  idle : Bool := true
  /-- [16] 11 R240, reset 0: sequence of the next packet. -/
  txSeq : U16 := 0
  /-- [plots] 10 R210, reset empty: re-marked plots of the SEALED map that wait for their repeat, oldest first. -/
  repairs : List (SailId × Nat) := []
  /-- [5 each] 10 R210, reset DC 31 (log 19): chain position last served in classes 2 and 3. -/
  rr2 : Nat := 31
  rr3 : Nat := 31
  /-- [s32] 10 R214, reset 0: deficit. -/
  deficit : Int := 0
  /-- [time] 19 R411, reset none: end of the last PLOT_WRITE, for the class B pause. -/
  lastPlot : Option Nat := none
  /-- [1] 19 R422, reset 0: admissions withheld for a trim slot. -/
  withhold : Bool := false
  /-- [1] 12 R275, reset none: rate change waiting for a retrain to end. -/
  changeDue : Bool := false
  deriving DecidableEq, Repr

/-- The forward lanes of a mast (file 11). -/
structure Line where
  /-- [4 × 23] 11 R226, reset the seeds of lanes 0 to 3 (PRESUMED, log 99): scrambler registers. -/
  scr : List Nat := [0x1DBFBC, 0x0607BB, 0x1EC760, 0x18C0DB]
  /-- [list] 11 R228, R241, reset empty: what waits for the end of the PLOT_WRITE being serialised. -/
  wait : List Fwd := []
  deriving DecidableEq, Repr

/-- A ray engine cluster (file 08). -/
structure Cluster where
  /-- [3] 08 R172, reset 0: cause of the fence, 0 in service. -/
  cause : Nat := 0
  /-- [1] 08 R174, reset 0: the fence is complete. -/
  done : Bool := false
  /-- [counts] 08 R174, reset 0: jobs handed on and plots repeated at the fence. -/
  handedOn : Nat := 0
  repeats : Nat := 0
  /-- [32] 08 entry 0x2141, reset 0: plots computed. -/
  computed : Nat := 0
  /-- [job] 08 R162, reset none: the plot that the engines still compute though its packet, completed by repetition, has been answered. -/
  tail : Option Plot := none
  deriving DecidableEq, Repr

/-- Delivery: plots, clusters, sails, masts (files 08, 10, 11, 12). -/
structure Push where
  /-- [4,096] 10 R211, reset empty: admitted plots, earliest reservation first. -/
  plots : List Plot := []
  /-- [8] 08 R161, reset in service: clusters. -/
  clusters : SMap Cluster := []
  /-- [1,024] 10 R200, reset UNREACHABLE: sails. -/
  sails : SMap Sail := []
  /-- [32] 12 R261, reset DOWN: masts. -/
  masts : SMap Mast := []
  /-- [5 each] 10 R213, reset DC 31 (log 19): mast last served by the scheduler in classes 1 to 3. -/
  rrA : Nat := 31
  rrB : Nat := 31
  rrC : Nat := 31
  /-- [32] 08 entry 0x2140.0B, reset 0: LAST_FENCE. -/
  lastFence : Nat := 0
  deriving DecidableEq, Repr

/-- The five drawing commands. -/
inductive Draw where
  | fill | copy | blend | pattern | line
  deriving DecidableEq, Repr

/-- A drawing command accepted or waiting for acceptance (R290). -/
structure Blit where
  id : Nat
  q : QueueId
  tag : U16
  draw : Draw
  b : BlitBody
  clip : Option (List Rect)
  rows : Nat := 0
  wmDone : Bool := false
  pat : List (List Byte) := []
  started : Bool := false
  /-- Error code that ends it, once a row has failed, with the first offset outside where that is the reason (R292, R327). -/
  failed : Option (Nat × Option Nat) := none
  deriving DecidableEq, Repr

/-- A READBACK in flight (R308). -/
structure Rb where
  id : Nat
  b : ReadbackBody
  tack : Option U32 := none
  encoding : Bool := false
  /-- Bytes written once it is captured, or its encode job is done. -/
  done : Option Nat := none
  /-- A touched plot was withdrawn, its sail was not deliverable at the seal, or its destination met the lost channel. -/
  lost : Bool := false
  /-- The code it then fails with. -/
  err : Nat := 0x0602
  deriving DecidableEq, Repr

/-- Result of a proof window (R304). -/
structure WinResult where
  crc : U32 := 0
  tack : U32 := 0
  status : Nat := 0
  mism : Nat := 0
  deriving DecidableEq, Repr

/-- Block engine, proof windows, readback (files 13, 14). -/
structure Draws where
  /-- [8 + waiting] 13 R290, reset empty: commands accepted, the running one first. -/
  accepted : List Blit := []
  /-- [list] 13 R290, reset empty: dispatched commands that wait for a place. -/
  waiting : List Blit := []
  /-- [64] 14 entries 0xD002, 0xD003, reset 0: window results. -/
  results : SMap WinResult := []
  /-- [plots] 14 R303, reset empty: last good packet of each plot of the tack: sail, plot, pixels. -/
  contrib : List (SailId × Nat × List U32) := []
  /-- [plots] 14 R303, reset empty: plots of the push set of the tack. -/
  pushSet : List (SailId × Nat) := []
  /-- [plots] 14 R303, reset empty: plots withdrawn from the tack. -/
  withdrawn : List (SailId × Nat) := []
  /-- [4] 14 R307, reset empty: READBACKs in flight. -/
  readbacks : List Rb := []
  /-- [ranges] 13 R292, reset none: address and length of host stores into surfaces that the running drawing command uses. -/
  races : List (Nat × Nat) := []
  deriving DecidableEq, Repr

/-- A queued memory request (R317, R319): class 0 URGENT to 3 LOW, line of 64 bytes, time of entry. -/
structure MemReq where
  cls : Nat
  line : Nat
  at_ : Nat
  /-- Source code (R336). -/
  src : Nat := 0
  /-- The buffer it was issued for (R327). -/
  ref : BufRef := ⟨0, 0⟩
  /-- Classes it has risen (R319). -/
  rises : Nat := 0
  /-- Requests of its class that have overtaken it (R319). -/
  passed : Nat := 0
  /-- Bytes remembered as overwritten when it entered (R167). -/
  mark : Nat := 0
  /-- Its place in the order in which reads were asked for (R321). -/
  num : Nat := 0
  deriving DecidableEq, Repr

/-- A line of a view cache (R166): its 64 bytes, all 0 where it came flagged as uncorrectable (R169). -/
structure VLine where
  bytes : List Byte
  bad : Bool
  deriving DecidableEq, Repr

/-- A cluster's view cache (R166 to R169). -/
structure VCache where
  /-- [3,072 sets × 16 ways × 64 bytes] 08 R166, reset empty: lines held, by address. -/
  lines : SMap (Option VLine) := []
  /-- [42] 08 entry 0x2141, reset 0: lines fetched. -/
  fetched : Nat := 0
  /-- [times] 08 R168, reset empty: refetches within the last 1 ms. -/
  refetches : List Nat := []
  deriving DecidableEq, Repr

/-- A DRAM channel (file 15). -/
structure Channel where
  /-- [64] 15 R317, reset empty: queued writes (their data is visible at once, R318). -/
  writes : List MemReq := []
  /-- [64] 15 R317, reset empty: queued reads; those beyond the 64th wait at their sources. -/
  reads : List MemReq := []
  /-- [1] 15 R317, reset 0: a drain runs: only writes are issued until WQ_LOW are left. -/
  draining : Bool := false
  /-- [32 banks] 15 R319, reset closed: the open page of each bank, by rank × 16 + bank. -/
  pages : SMap (Option Nat) := []
  /-- [3] 15 R331, reset 0: next step of a running retrain, 1 to 4, 0 none. -/
  step : Nat := 0
  /-- [time] 15 R331, reset 0: end of the 20 ms of normal service after a step of a running retrain. -/
  rest : Nat := 0
  /-- [times] 15 R334, reset empty: retrain starts within 1 s. -/
  starts : List Nat := []
  /-- [16 each] 15 entry 0x2201, reset 0: corrected, uncorrectable, retrains, tracking corrections. -/
  corrected : Nat := 0
  uncorrectable : Nat := 0
  retrains : Nat := 0
  tracks : Nat := 0
  /-- [time, count] 15 R325, reset none: last EV_ECC_CORRECTED and corrections since. -/
  eccAt : Option Nat := none
  eccSince : Nat := 0
  deriving DecidableEq, Repr

/-- DRAM and its controller (file 15). -/
structure Dram where
  /-- [capacity bytes] 15 R314, reset DC every byte reads 0 (log 4): contents by device address. -/
  data : List Host.Cell := []
  /-- [bytes] 08 R167, reset empty: bytes overwritten while a tack is SEALED or PUSHING, newest first. -/
  old : List Host.Cell := []
  /-- [requests] 15 R321, reset empty: reads of clusters that their channels have issued and that complete after earlier ones of their cluster. -/
  issued : List MemReq := []
  /-- [count] model's own, reset DC 0 (log 15): reads asked for so far. -/
  asked : Nat := 0
  /-- [8] 08 R166, reset empty: the view caches, by cluster. -/
  caches : SMap VCache := []
  /-- [count] model's own, reset DC 0 (log 20): choices of the memory controller and the caches made so far. -/
  picks : Nat := 0
  /-- [lines] 15 R325, reset empty: lines with upset bits. -/
  upsets : List Upset := []
  /-- [GiB] 15 R313, reset DC 64 (log 13): capacity found at training. -/
  capGiB : Nat := 64
  /-- [ranks] 15 R312, reset DC 1 (log 13): ranks of every channel. -/
  ranks : Nat := 1
  /-- [1] 15 R312, reset DC LPDDR5X (log 13): the devices are LPDDR5X, not LPDDR5. -/
  lp5x : Bool := true
  /-- [identity] 15 R313, reset none (log 13): manufacturer, revision and density of every channel's devices. -/
  ident : Nat × Nat × Nat := (0, 0, 0)
  /-- [1] 15 entry 0x2200.09, reset 0: the controller serves traffic. -/
  up : Bool := false
  /-- [1] 18 R380, R381, reset 0: the DRAM is in self-refresh. -/
  selfRefresh : Bool := false
  /-- [16] 15 entry 0x2200.03, reset 0: data rate in use. -/
  rate : Nat := 0
  /-- [6] 15 entry 0x2200.07, reset 0: points trained at the last boot, as a mask. -/
  points : Nat := 0
  /-- [GiB] 15 R324, reset 0: ECC region in force. -/
  eccGiB : Nat := 0
  /-- [2] 15 entry 0x2200.0C, reset 1: map in use. -/
  map : Nat := 1
  /-- [8] 15 entry 0x2200.0B, reset 0xFF (none): lost channel. -/
  lost : Option (BitVec 5) := none
  /-- [5] 15 R335, reset none: the channel that the device runs without, on the other 31. -/
  gone : Option (BitVec 5) := none
  /-- [3] 15 entry 0x2200.0D, reset 1: refresh band. -/
  band : Nat := 1
  /-- [16] 15 entry 0x2200.0E, reset 0: highest temperature read. -/
  tempMax : U16 := 0
  /-- [time] 15 R323, reset none: since when a DRAM is above 105 °C. -/
  hotSince : Option Nat := none
  /-- [time] 15 R323, reset none: since when every DRAM is below 95 °C. -/
  coolSince : Option Nat := none
  /-- [16] 15 R332, reset none: requested rate switch due. -/
  switchTo : Option Nat := none
  /-- [1] 15 R333, reset 0: a forced thermal step is due. -/
  forced : Bool := false
  /-- [1] 15 R323, reset 0: the rate in use is a forced thermal step. -/
  stepped : Bool := false
  /-- [32] 15 entry 0x2200.0F, reset 0: TRAIN_LAST. -/
  trainLast : Nat := 0
  /-- [32 channels] 15 R317, reset empty: channels. -/
  chans : SMap Channel := []
  deriving DecidableEq, Repr

/-- Memory error logs (R338). -/
structure MemLog where
  /-- [8] 15 entry 0xB012.02, reset 0. -/
  bSource : Nat := 0
  /-- [32] 15 entry 0xB012.03, reset 0. -/
  bHandle : Nat := 0
  /-- [64] 15 entry 0xB012.04, reset 0. -/
  bOffset : Nat := 0
  /-- [32] 15 entry 0xB012.05, reset 0. -/
  bTack : U32 := 0
  /-- [64] 15 entry 0xB013.01, reset 0. -/
  uAddr : Nat := 0
  /-- [8] 15 entry 0xB013.02, reset 0. -/
  uChan : Nat := 0
  /-- [8] 15 entry 0xB013.03, reset 0. -/
  uSource : Nat := 0
  /-- [32] 15 entry 0xB013.04, reset 0. -/
  uTack : U32 := 0
  deriving DecidableEq, Repr

/-- One dictionary write: entry, type code, value as bytes. -/
structure DWrite where
  idx : Nat
  sub : Nat
  ty : Nat
  val : List Byte
  deriving DecidableEq, Repr

/-- A request held in an arbitration window (R355). -/
structure HeldWrite where
  c : Client
  hdr : UHdr
  op : Nat
  recs : List DWrite
  deriving DecidableEq, Repr

/-- An open arbitration window on a group (R355). -/
structure ArbWindow where
  groups : List Nat
  held : List HeldWrite
  deriving DecidableEq, Repr

/-- A claim (R354). -/
structure Claim where
  group : Nat
  master : Nat
  until_ : Nat
  deriving DecidableEq, Repr

/-- A subscription (R353): entry, mode, period in ms, the value last reported, and whether the entry has taken another since. -/
structure Sub where
  c : Client
  idx : Nat
  sub : Nat
  change : Bool
  periodic : Bool
  period : Nat
  last : Nat
  due : Bool := false
  deriving DecidableEq, Repr

/-- A request that waits (R350, R351): what it asks, the frames that it takes, and for one that is malformed its E_FRAME response. -/
structure Wait where
  c : Client
  u : UHdr
  op : Nat
  data : List Byte
  frames : Nat := 1
  bad : Option (List Byte) := none
  deriving DecidableEq, Repr

/-- A segmented CAN transfer in progress (R358): operation, header of its first frame, total length, next segment, bytes so far. -/
structure CanSeg where
  op : Nat
  hdr : UHdr
  total : Nat
  next : Nat
  bytes : List Byte
  deriving DecidableEq, Repr

/-- A client that has sent a request (R343, R349). -/
structure ClientRec where
  c : Client
  level : Nat := 1
  /-- Sequences, times and responses of its last 8 requests, newest last. -/
  dup : List (U16 × Nat × List Byte) := []
  seg : Option CanSeg := none
  deriving DecidableEq, Repr

/-- The dictionary and its service (files 16, 17). -/
structure Dict where
  /-- [entries] 17 R364, reset defaults: values of RW entries without T, and counters; absent is the table default. -/
  vals : SMap (Option Nat) := []
  /-- [256] 16 R345, reset empty: locked entries. -/
  locks : List Nat := []
  /-- [16] 16 R354, reset empty: claims. -/
  claims : List Claim := []
  /-- [64] 16 R353, reset empty: subscriptions. -/
  subs : List Sub := []
  /-- [3 and value per entry] 16 R346, R360, reset 4 (log 70): master that last wrote an entry without T, and the value it wrote; a counter that
  has changed since is the device's own, 4. -/
  writers : SMap (Nat × Nat) := []
  /-- [list] 16 R355, reset empty: open arbitration windows. -/
  arbs : List ArbWindow := []
  /-- [requests] 16 R350, reset empty: requests waiting behind a held write or a handoff, in arrival order: client, header, operation, data. -/
  waiting : List Wait := []
  /-- [clients] 16 R343, reset empty: clients known. -/
  clients : List ClientRec := []
  /-- [8] 16 entry 0xB020.02, reset 0x10. -/
  confNext : Nat := 0x10
  /-- [16 × 64] 16 entry 0xB020.10, reset 0: conflict records. -/
  conf : SMap Nat := []
  /-- [16] 16 entry 0xB021.02, reset 0. -/
  lastStatus : Nat := 0
  /-- [32] 16 entry 0xB021.03, reset 0. -/
  lastEntry : Nat := 0
  /-- [8] 16 entry 0xB021.04, reset 0. -/
  lastMaster : Nat := 0
  /-- [32] 16 entry 0xB021.05, reset 0. -/
  lastTack : U32 := 0
  /-- [settings] 16 R362, reset none: 0x1100 entries in effect (differences from the values written). -/
  comm : SMap (Option Nat) := []
  /-- [list] 16 R362, reset empty: written values of entries 0x1100 that take effect 100 ms after their response: time of the write, key, value. -/
  commDue : List (Nat × Nat × Nat) := []
  deriving DecidableEq, Repr

/-- Power states (file 18). -/
inductive PState where
  | off | resetHeld | boot | underway | hove | forcedHove | moored | shutdown | recovery
  deriving DecidableEq, Repr

/-- Requested resets (R386, R463). -/
inductive ResetReq where
  | warm | cold | coldBist (tests : Nat)
  deriving DecidableEq, Repr

/-- Power, clocks, reset (file 18). -/
structure Power where
  /-- [state] 18 R378, reset boot: power state. -/
  state : PState := .boot
  /-- [8] 18 R386 entry 0x2400.07, reset 1. -/
  cause : Nat := 1
  /-- [1] 18 R377, reset DC crystal (log 6): the clock source is REFCLK_IN. -/
  refclk : Bool := false
  /-- [pin] 18 R387, reset 0: RESET_N held low. -/
  resetLow : Bool := false
  /-- [pin] 18 R393, reset 1: PWR_OK. -/
  pwrOk : Bool := true
  /-- [kind] 18 R386, reset none: requested reset, due 10 ms after its response. -/
  request : Option ResetReq := none
  /-- [8] 18 entry 0x2400.04, reset 0: LAST_WAKE. -/
  lastWake : Nat := 0
  /-- [time] 18 R403, reset 0: since when the power state holds. -/
  since : Nat := 0
  /-- [10] 17 entry 0x2400.06, reset 0: µs in HOVE beyond the whole ms counted. -/
  hoveRest : Nat := 0
  /-- [time] 17 R368, reset 0: start of uptime. -/
  coldAt : Nat := 0
  /-- [time] 18 R392, reset none: first watchdog expiry within 10 s. -/
  wdAt : Option Nat := none
  /-- [1] 19 R415, reset 0: shutdown latched. -/
  latched : Bool := false
  /-- [16] 19 R416, reset 0: Tj at the latch. -/
  latchTj : U16 := 0
  /-- [7 counts] 20 R444, reset 0: consecutive password failures per partition. -/
  pwFails : SMap Nat := []
  /-- [partitions] 21 R463, reset none: tests of the full run that this boot makes. -/
  fullRun : Option Nat := none
  deriving DecidableEq, Repr

/-- An image that passes R397 but for the security version, which is compared again at every boot. -/
structure Image where
  version : U32
  sec : Nat
  deriving DecidableEq, Repr

/-- Firmware slots and update (R395 to R402). -/
structure Fw where
  /-- [4 MiB] 18 R396, reset DC an image of version 0 (log 5): the image of slot A, if valid. -/
  slotA : Option Image := some { version := 0, sec := 0 }
  /-- [4 MiB] 18 R396, reset DC none (log 5): slot B. -/
  slotB : Option Image := none
  /-- [1] 18 R396, reset DC 1 (log 5): a flash is fitted. -/
  flash : Bool := true
  /-- [1] 17 entry 0xC020.01, reset DC 0 (log 5): active slot. -/
  active : Nat := 0
  /-- [32] 17 entry 0x1000.04, reset DC 0 (log 5): version running. -/
  version : U32 := 0
  /-- [3] 17 entry 0xC020.05, reset 0. -/
  state : Nat := 0
  /-- [bytes] 18 R400, reset empty: image received. -/
  rcvd : List Byte := []
  /-- [16] 02 R36, reset 0: error code of the update or recovery. -/
  err : Nat := 0
  /-- [3] 02 R36, reset 0: image state of recovery mode. -/
  recState : Nat := 0
  /-- [1] 18 R401, reset 0: a handoff pauses dictionary service. -/
  handoff : Bool := false
  /-- [2] 18 R398, reset empty: slots whose image failed at boot. -/
  bad : List Nat := []
  /-- [1] 20 R447, reset 0: a restore of defaults waits for the slot that this boot starts from. -/
  restored : Bool := false
  /-- [1] 18 R398, reset none: the image that recovery mode accepted and the device boots. -/
  accepted : Option (Nat × Image) := none
  deriving DecidableEq, Repr

/-- One temperature sensor (R405 to R408). -/
structure Sensor where
  raw : U16 := 0x8000
  work : U16 := 0x8000
  median : U16 := 0x8000
  suspect : Nat := 0
  excluded : Bool := false
  good : Nat := 0
  deriving DecidableEq, Repr

/-- Thermal management (file 19). -/
structure Thermal where
  /-- [24] 19 R405, reset 0x8000: sensors. -/
  sensors : SMap Sensor := []
  /-- [16] 19 R406 entry 0x8000.01, reset 0x8000. -/
  tj : U16 := 0x8000
  /-- [5] 19 R425, reset 0: the sensor giving Tj. -/
  tjSensor : Nat := 0
  /-- [16] 19 R406 entry 0x8000.0B, reset 0x8000. -/
  peak : U16 := 0x8000
  /-- [1] 19 R409, reset 0: warning raised and Tj not yet 3 °C below. -/
  warned : Bool := false
  /-- [4] 19 R410 entry 0x8000.08, reset 0: k. -/
  k : Nat := 0
  /-- [3] 19 R411, reset 0: b. -/
  b : Nat := 0
  /-- [count] 19 R410, reset 0: consecutive samples below 102 °C. -/
  below102 : Nat := 0
  /-- [count] 19 R411, reset 0: consecutive samples at or above 110 °C. -/
  above110 : Nat := 0
  /-- [count] 19 R411, reset 0: consecutive samples below 107 °C. -/
  below107 : Nat := 0
  /-- [count] 19 R414, reset 0: consecutive samples below 110 °C. -/
  below110 : Nat := 0
  /-- [2] 19 R409 entry 0x8000.07, reset 0: throttle class last reported. -/
  cls : Nat := 0
  deriving DecidableEq, Repr

/-- A trim set (R423). -/
structure TrimSet where
  point : U16
  codes : List (Option Byte)
  /-- Number of the set and of its record, 0 to 7 (R423, R429). -/
  num : Nat := 0
  deriving DecidableEq, Repr

/-- A trim run in progress (R419 to R423). -/
structure TrimRun where
  point : U16
  startAt : Nat
  powerUp : Bool
  /-- From when the next slot of the run may begin (R422). -/
  next : Nat
  /-- Items measured: number, and code unless it fell back. -/
  done : List (Nat × Option Byte)
  deriving DecidableEq, Repr

/-- Trim (file 19). -/
structure Trim where
  /-- [8] 19 R423 entry 0x9001, reset empty: stored sets. -/
  sets : List TrimSet := []
  /-- [16] 19 entry 0x9000.04, reset 0x8000. -/
  lastTemp : U16 := 0x8000
  /-- [2] 19 R418 entry 0x9000.08, reset 0. -/
  rcal : Nat := 0
  /-- [37 codes] 19 R424, reset fuse values: code of each item; absent is the fuse value. -/
  codes : SMap (Option Byte) := []
  /-- [33 + 32 codes] 19 R424, reset fuse values: codes in force, masts 0 to 31, item 36, and DRAM channel c at 64 + c; absent is the
  item's fuse value. -/
  inForce : SMap (Option Byte) := []
  /-- [state] 19 R420, reset none: run in progress. -/
  run : Option TrimRun := none
  /-- [1] 19 R420, reset 0: a run is due: requested, or by temperature in HOVE. -/
  due : Bool := false
  deriving DecidableEq, Repr

/-- A copy of a record as its bytes read (R428), and whether a restore has marked it as not to be carried forward (R447). -/
structure Copy where
  raw : List Byte
  dropped : Bool := false
  deriving DecidableEq, Repr

/-- What is programmed: a page of a bank sector and the bytes from its start on. -/
structure Prog where
  sector : Nat
  page : Nat
  bytes : List Byte
  deriving DecidableEq, Repr

/-- A sector of a bank (R428): the bytes of its header, empty when erased, erase count, pages used, copies with their first page. -/
structure Sector where
  header : List Byte := []
  erases : Nat := 0
  used : Nat := 0
  copies : List (Nat × Copy) := []
  deriving DecidableEq, Repr

/-- A counter ring (R437). -/
structure Ring where
  gen : Nat := 0
  bits : Nat := 0
  /-- Occurrences counted in RAM since the last step. -/
  ram : Nat := 0
  /-- True when the sector's header is erased. -/
  blank : Bool := true
  /-- The spare sector that has replaced its own (R427). -/
  spare : Option Nat := none
  erases : Nat := 0
  /-- Erases of the sector that the spare has replaced. -/
  worn : Nat := 0
  dead : Bool := false
  deriving DecidableEq, Repr

/-- A request of the write queue (R433): a record with its data, a bank's copy to append again and a sector to compact (R439), a
counter ring to wrap (R438). -/
inductive LReq where
  | record (id : Nat) (data : List Byte)
  | again (banks : List Nat) (id : Nat)
  | compact (sector : Nat)
  | wrap (ring : Nat)
  deriving DecidableEq, Repr

/-- The ledger (file 20). -/
structure Ledger where
  /-- [112 sectors] 20 R427, reset erased: bank sectors by number. -/
  sectors : SMap Sector := []
  /-- [10 rings] 20 R437, reset erased: counter rings. -/
  rings : SMap Ring := []
  /-- [6] 20 R427, reset 0: spare rings used. -/
  spares : Nat := 0
  /-- [queue] 20 R433, reset empty: writes waiting, in order of first queuing. -/
  queue : List LReq := []
  /-- [request] 20 R433, reset none: the request being written, with what it programs, in order. -/
  writing : Option (LReq × List Prog) := none
  /-- [ring, time] 20 R435, reset none: the count bit programmed last, and from when. -/
  counting : Option (Nat × Nat) := none
  /-- [1] 20 R436, R438, R447 and 22 R470, reset 0: what a load programs waits until the reset has been released. -/
  repair : Bool := false
  /-- [11] 20 R439 entry 0xA000.05, reset 0. -/
  scan : Nat := 0
  /-- [7] 20 R442, reset empty: passwords in force by partition (write digest, read digest). -/
  pw : SMap (List Byte × List Byte) := []
  deriving DecidableEq, Repr

/-- Partition states (R374). -/
inductive PartState where
  | inService | offline | fenced | bist
  deriving DecidableEq, Repr

/-- A partition (file 21). -/
structure Partition where
  state : PartState := .inService
  /-- State to return to when a BIST aborts. -/
  prev : PartState := .offline
  last : Nat := 0
  tests : Nat := 0
  running : Bool := false
  /-- A mast group that leaves service once its packets are answered (R452). -/
  leaving : Bool := false
  deriving DecidableEq, Repr

/-- The self-test engine of a partition under test (R459): pattern generator, compactor, patterns of the variant. -/
structure BistEngine where
  lfsr : U64 := 0
  misr : U64 := 0
  patterns : Nat := 0
  deriving DecidableEq, Repr

/-- Faults, partitions, BIST, test access (file 21). -/
structure Faults where
  /-- [8] 17 R373 entry 0xB030.02, reset 0x10. -/
  next : Nat := 0x10
  /-- [16 × 64] 17 R373, reset 0: fault records. -/
  recs : SMap Nat := []
  /-- [40] 21 R451, reset IN_SERVICE: partitions. -/
  parts : SMap Partition := []
  /-- [list] 21 R452, R453, reset empty: offline (true) and return (false) requests for the next boundary, by partition. -/
  reqs : List (Nat × Bool) := []
  /-- [queue] 21 R458, reset empty: BIST requests accepted and not started. -/
  queue : List Nat := []
  /-- [bits] 21 R457, reset DC empty (log 14): boundary-scan register as last preloaded. -/
  scan : List Bool := []
  /-- [1] 21 R456, reset 0: outcome captured by RETURN_AUTH. -/
  authOk : Bool := false
  /-- [1] 21 R457, reset 0: EXTEST drives the pins from the boundary-scan register. -/
  extest : Bool := false
  /-- [8] 21 R457, reset PRESUMED 0x01 IDCODE (IEEE 1149.1, log 14): JTAG instruction register. -/
  ir : Byte := 0x01
  /-- [engines] 21 R459, reset none: self-tests in progress, by partition. -/
  engines : SMap BistEngine := []
  deriving DecidableEq, Repr

/-- The device. -/
structure Dev where
  fuses : Fuses := {}
  link : HostLink := {}
  host : HostRegs := {}
  xfer : HostXfer := {}
  ring : EventRing := {}
  qs : QueueSys := {}
  intake : Intake := {}
  comp : Comp := {}
  tack : Tack := {}
  push : Push := {}
  draws : Draws := {}
  dram : Dram := {}
  memlog : MemLog := {}
  dict : Dict := {}
  pw : Power := {}
  fw : Fw := {}
  th : Thermal := {}
  trim : Trim := {}
  ledger : Ledger := {}
  flt : Faults := {}
  /-- [32] 11 R226, reset idle: forward lanes of each mast. -/
  lines : SMap Line := []
  /-- [time] model's own, reset DC 0 (log 1): µs since power-on. -/
  now : Nat := 0
  /-- [count] model's own, reset DC 0 (log 3): free values used. -/
  free : Nat := 0
  /-- [list] model's own, reset empty (log 2): what the latest command sent outside. -/
  out : List Out := []
  deriving DecidableEq, Repr

/-- The block: the device and the queue of waiting commands, first in, first out. -/
structure State where
  dev : Dev
  pending : List Instr
  deriving DecidableEq, Repr

/-- The block right after reset: power-on has run, and counts as a COLD reset (R375); RESET_N is released and boot has begun; no command waits. -/
def State.reset : State := { dev := { ledger := { rings := [(4, { ram := 1 })] } }, pending := [] }

end Sys2Proof.Machine
end

