-- ==== Sys2Proof/Machine/Entries.lean ====
section
/-! DEFINITION. The object dictionary's entry map (R363 to R375 and the tables it names): which index and sub-index pairs
exist, with type, access right, attributes and default. No table gives an entry attribute L. -/

namespace Sys2Proof.Machine

/-- Access rights (R339). -/
inductive Acc where
  | ro | wo | rw
  deriving DecidableEq, Repr

/-- One row of the entry map, for the keys lo to hi; a key is index × 256 + sub-index. -/
structure Entry where
  lo : Nat
  hi : Nat
  ty : Nat
  acc : Acc
  t : Bool := false
  p : Bool := false
  l : Bool := false
  /-- A counter: saturates, a write of 0 clears it (R365). -/
  ctr : Bool := false
  dflt : Nat := 0
  deriving DecidableEq, Repr

/-- A read-only row. -/
def Entry.r (k ty : Nat) (dflt : Nat := 0) : Entry := { lo := k, hi := k, ty := ty, acc := .ro, dflt := dflt }
/-- A range of read-only rows. -/
def Entry.rr (lo hi ty : Nat) (dflt : Nat := 0) : Entry := { lo := lo, hi := hi, ty := ty, acc := .ro, dflt := dflt }
/-- A write-only row. -/
def Entry.w (k ty : Nat) : Entry := { lo := k, hi := k, ty := ty, acc := .wo }
/-- A counter. -/
def Entry.c (k : Nat) : Entry := { lo := k, hi := k, ty := 7, acc := .rw, ctr := true }
/-- A read-write row with attribute P. -/
def Entry.ps (k ty dflt : Nat) : Entry := { lo := k, hi := k, ty := ty, acc := .rw, p := true, dflt := dflt }
/-- A read-write row with attribute T. -/
def Entry.ts (k ty dflt : Nat) : Entry := { lo := k, hi := k, ty := ty, acc := .rw, t := true, dflt := dflt }

/-- Identity (R368). -/
def entries1000 (md0512 : Bool) : List Entry :=
  let dt := if md0512 then 0x0512 else 0x1024
  [.r 0x100001 6 dt, .r 0x100002 0xC, .r 0x100003 5 0xB0, .r 0x100004 7, .r 0x100005 7, .r 0x100006 6 0x1F4D,
   .r 0x100007 6 dt, .r 0x100008 6 0xB0, .r 0x100009 0xC, .r 0x10000A 7]

/-- Communication, arbitration, privilege (R362). -/
def entries1100 : List Entry :=
  [.ps 0x110001 5 0x10, .ps 0x110002 7 500000, .ps 0x110003 7 2000000, .ps 0x110004 1 1, .ps 0x110005 7 0,
   .ps 0x110006 7 0, .ps 0x110007 7 0, .ps 0x110008 6 47296, .ps 0x110009 5 255, .ps 0x11000A 5 8, .r 0x11000B 8,
   .ps 0x11000C 1 1] ++
  [.ps 0x140001 7 0x02010304, .r 0x140002 5, .rr 0x140100 0x14010F 0xA, .w 0x180001 0xD, .r 0x180002 5 1,
   .w 0x180003 5, .ps 0x180004 6 300, .w 0x180005 0xD, .w 0x180006 7, .r 0x180007 6]

/-- Panel, tacks, link-wide settings (R193, R220, R260). -/
def entries2000 (md0512 : Bool) : List Entry :=
  [.ts 0x200001 5 0, .ts 0x200002 6 100, .ts 0x200003 5 1, .ts 0x200004 5 0, .ps 0x200005 6 1000, .r 0x200006 7 1,
   .r 0x200007 7, .r 0x200008 5, .ts 0x200009 5 0, .ps 0x20000A 7 65536, .ps 0x20000B 7 458752, .ts 0x20000C 5 2,
   .r 0x20000D 7, .ps 0x20000E 5 1] ++
  [.ts 0x20000F 7 (if md0512 then 0xFFFF else 0xFFFFFFFF), .w 0x200010 5, .r 0x200011 7, .c 0x200012,
   .ps 0x201001 6 10, .r 0x201002 6]

/-- Commits, threshers, views, lenses, clusters, layers, blits (R114, R139, R160, R176, R193, R297). -/
def entries2100 : List Entry :=
  [.r 0x210001 5, .c 0x210002, .c 0x210003, .ps 0x210004 7 100, .c 0x210005, .c 0x210006, .r 0x210007 6, .r 0x210008 0xA,
   .ts 0x211001 6 0xFFFF, .r 0x211002 6 0xFFFF, .r 0x211003 6, .c 0x211004, .c 0x211005, .c 0x211006, .c 0x211007,
   .r 0x211008 7, .rr 0x211100 0x2111FF 0xA] ++
  [.ts 0x212001 5 0xFF, .r 0x212002 5 0xFF, .c 0x212003, .c 0x212004, .rr 0x212100 0x212101 0xA,
   .r 0x213001 6, .c 0x213002, .c 0x213003,
   .ts 0x214001 5 0xFF, .r 0x214002 5 0xFF, .r 0x214003 5, .ts 0x214004 5 1, .c 0x214005, .c 0x214006, .c 0x214007,
   .c 0x214008, .c 0x214009, .c 0x21400A, .r 0x21400B 7, .rr 0x214100 0x214107 0xA] ++
  [.rr 0x215001 0x215007 0xA, .c 0x216001, .c 0x216002, .c 0x216003, .c 0x216004, .r 0x216005 5]

/-- Memory, host port, power (R337, file 02, R369). -/
def entries2200 (md0512 : Bool) : List Entry :=
  [.ps 0x220001 5 1, .ps 0x220002 6 10667, .r 0x220003 6, .ps 0x220004 6 0, .ps 0x220005 5 48, .ps 0x220006 5 16,
   .ps 0x220007 5 0x15, .ps 0x220008 1 0, .r 0x220009 7, .r 0x22000A 0xA, .r 0x22000B 5 0xFF, .r 0x22000C 5 1,
   .r 0x22000D 5 1, .r 0x22000E 0xE, .r 0x22000F 7, .c 0x220010, .c 0x220011, .c 0x220012, .c 0x220013,
   .rr 0x220100 0x22011F 0xA] ++
  [.r 0x230001 5, .r 0x230002 5, .ps 0x230003 5 7, .ps 0x230004 5 34, .r 0x230005 7, .r 0x230006 7, .r 0x230007 7,
   .ps 0x230008 6 0x1F4D, .ps 0x230009 6 (if md0512 then 0x0512 else 0x1024)] ++
  [.ps 0x240001 7 2000, .ps 0x240002 5 0x1F, { lo := 0x240003, hi := 0x240003, ty := 7, acc := .rw }, .r 0x240004 5,
   .c 0x240005, .c 0x240006, .r 0x240007 5, .r 0x240008 6 1600, .ps 0x240009 1 0]

/-- Thermal, trim, ledger, logs (R41, R338, R361, R370 to R373). -/
def entries8000 : List Entry :=
  [.r 0x800001 0xE 0x8000, .ps 0x800002 0xE 1600, .r 0x800003 0xE 1680, .r 0x800004 0xE 1760, .r 0x800005 0xE 1888,
   .r 0x800006 0xE 2000, .r 0x800007 5, .r 0x800008 5, .r 0x800009 7, .r 0x80000A 0xE 192, .r 0x80000B 0xE 0x8000,
   .c 0x80000C, .c 0x80000D, .rr 0x800100 0x800117 0xE 0x8000,
   { lo := 0x800200, hi := 0x800217, ty := 7, acc := .rw, p := true }] ++
  [.ps 0x900001 5 3, .ps 0x900002 0xE 240, .r 0x900003 5, .r 0x900004 0xE 0x8000, .c 0x900005, .c 0x900006, .w 0x900007 5,
   .r 0x900008 5, .rr 0x900100 0x900107 0xE 0x8000, .r 0xA00001 7, .r 0xA00002 6, .c 0xA00003, .c 0xA00004, .r 0xA00005 6,
   .r 0xA00006 7, .r 0xA00007 6, .w 0xA00008 5] ++
  [.c 0xB01001, .r 0xB01002 5, .r 0xB01003 0xA, .r 0xB01004 7, .r 0xB01005 7, .c 0xB01201, .r 0xB01202 5, .r 0xB01203 7,
   .r 0xB01204 0xA, .r 0xB01205 7, .r 0xB01301 0xA, .r 0xB01302 5, .r 0xB01303 5, .r 0xB01304 7, .c 0xB02001,
   .r 0xB02002 5 0x10, .rr 0xB02010 0xB0201F 0xA, .c 0xB02101, .r 0xB02102 6, .r 0xB02103 7, .r 0xB02104 5, .r 0xB02105 7,
   .c 0xB03001, .r 0xB03002 5 0x10, .rr 0xB03010 0xB0301F 0xA]

/-- Life cycle, BIST, firmware, proof windows, wear-spread counters (R311, R374, R375). -/
def entriesC000 : List Entry :=
  [.r 0xC00001 5, .w 0xC00002 5, .w 0xC00003 5, .w 0xC00004 5, .w 0xC00005 6, .w 0xC00006 6, .c 0xC00007, .c 0xC00008,
   .rr 0xC00100 0xC00127 7, .ps 0xC01001 6 78, .r 0xC01002 5 4, .r 0xC02001 5, .ps 0xC02002 5 0, .r 0xC02003 7,
   .r 0xC02004 7, .r 0xC02005 5, .w 0xC02006 5] ++
  [.r 0xD00001 0xA, .c 0xD00002, .c 0xD00003, .c 0xD00004, .ps 0xD00005 5 3, .c 0xD00006, .rr 0xD00100 0xD0013F 0xA,
   .rr 0xD00200 0xD0023F 0xA, .rr 0xD00300 0xD0033F 7, .rr 0xE00001 0xE0000A 0xA]

/-- The per-mast block, by (index − base) × 256 + sub-index (R366, R220, R260, R278). -/
def entriesMast : List Entry :=
  [.r 0x10 7, .c 0x11, .r 0x12 7, .r 0x13 7, .c 0x14, .c 0x15, .c 0x16,
   .c 0x101, .c 0x102, .c 0x103, .c 0x104, .c 0x105, .c 0x106] ++
  [.r 0x201 5, { lo := 0x202, hi := 0x202, ty := 5, acc := .rw, t := true, p := true, dflt := 32 },
   { lo := 0x203, hi := 0x203, ty := 5, acc := .rw, t := true, p := true, dflt := 4 },
   { lo := 0x204, hi := 0x204, ty := 5, acc := .rw, t := true, p := true, dflt := 8 },
   .r 0x205 5, .r 0x206 5, .r 0x207 5, .r 0x208 5, .c 0x209, .c 0x20A, .r 0x20B 7, .w 0x20C 5, .ps 0x20D 6 1000,
   .rr 0x220 0x23F 7]

/-- The per-sail block (R366, R160, R193, R220, R260). -/
def entriesSail : List Entry :=
  [.r 0x01 7, .r 0x02 7, .r 0x03 7, .r 0x04 7, .r 0x05 5, .r 0x06 7, .r 0x07 0xE 0x8000, .r 0x08 7,
   .ts 0x101 5 0, .r 0x102 5, .r 0x103 5, .r 0x104 6, .r 0x105 7, .c 0x106, .w 0x107 5] ++
  [.c 0x201, .c 0x202, .c 0x203, .c 0x204, .c 0x205, .r 0x301 5, .r 0x302 5, .r 0x303 7, .r 0x304 0xA, .r 0x305 5,
   .ts 0x401 6 0x8000, .ts 0x402 6 0x8000, .ts 0x403 6 0x8000, .ts 0x404 5 0]

/-- The rows of one index's area. -/
def entriesOf (md0512 : Bool) (idx : Nat) : List Entry :=
  if idx < 0x1100 then entries1000 md0512 else if idx < 0x2000 then entries1100
  else if idx < 0x2100 then entries2000 md0512 else if idx < 0x2200 then entries2100
  else if idx < 0x3000 then entries2200 md0512 else if idx < 0xC000 then entries8000 else entriesC000

/-- Masts of the part (R1). -/
def mastsOf (md0512 : Bool) : Nat := if md0512 then 16 else 32

/-- The entry of an index and sub-index, if it exists (R363, R366). -/
def entryOf (md0512 : Bool) (idx sub : Nat) : Option Entry :=
  if 0x3000 ≤ idx ∧ idx < 0x3800 then
    if (idx - 0x3000) / 0x40 < mastsOf md0512 then
      entriesMast.find? (fun e => e.lo ≤ (idx - 0x3000) % 0x40 * 256 + sub && (idx - 0x3000) % 0x40 * 256 + sub ≤ e.hi)
    else none
  else if 0x4000 ≤ idx ∧ idx < 0x8000 then
    if (idx - 0x4000) / 0x10 < mastsOf md0512 * 32 then
      entriesSail.find? (fun e => e.lo ≤ idx % 0x10 * 256 + sub && idx % 0x10 * 256 + sub ≤ e.hi)
    else none
  else (entriesOf md0512 idx).find? (fun e => e.lo ≤ idx * 256 + sub && idx * 256 + sub ≤ e.hi)

/-- Key of a per-mast entry: (0x3000 + m × 0x40 + off).sub (R366). -/
def mastKey (m : MastId) (offSub : Nat) : Nat := (0x3000 + m.toNat * 0x40) * 256 + offSub
/-- Key of a per-sail entry: (0x4000 + s × 0x10 + off).sub (R366). -/
def sailKey (s : SailId) (offSub : Nat) : Nat := (0x4000 + s.toNat * 0x10) * 256 + offSub

/-- Default of an entry, "from fuses" included (R364). -/
def entryDefault (f : Fuses) (key : Nat) : Nat :=
  if 0x800200 ≤ key ∧ key ≤ 0x800217 then ((f.neighbours.find? (fun p => p.1 == key - 0x800200)).map (·.2.toNat)).getD 0
  else ((entryOf f.md0512 (key / 256) (key % 256)).map (·.dflt)).getD 0

end Sys2Proof.Machine
end

