-- ==== Sys2Proof/Machine/Ops.lean ====
section
/-! DEFINITION. The named operations over the device's tables, memory and registers that every meaning uses: sparse
tables, bytes, DRAM bytes (the one place that reads or writes memory), dictionary counters, free values, and raising
events (the one shared operation that writes the event ring, R8, R40, R65 to R67). -/

namespace Sys2Proof.Machine

/-! ### Sparse tables -/

/-- The value at a key; the default where the table lists none. -/
def SMap.get {α : Type} (d : α) : SMap α → Nat → α
  | [], _ => d
  | (k, v) :: t, a => if a = k then v else SMap.get d t a

/-- The table without a key. -/
def SMap.erase {α : Type} : SMap α → Nat → SMap α
  | [], _ => []
  | (k, v) :: t, a => if a = k then t else (k, v) :: SMap.erase t a

/-- The table with a value put at a key, keys rising. -/
def SMap.ins {α : Type} : SMap α → Nat → α → SMap α
  | [], a, x => [(a, x)]
  | (k, v) :: t, a, x =>
    if a = k then (k, x) :: t else if a < k then (a, x) :: (k, v) :: t else (k, v) :: SMap.ins t a x

/-- Write a value: the default removes the entry. -/
def SMap.set {α : Type} [DecidableEq α] (d : α) (m : SMap α) (a : Nat) (x : α) : SMap α :=
  if x = d then SMap.erase m a else SMap.ins m a x

/-- Every listed key is above `a`. -/
def SMap.above {α : Type} (a : Nat) : SMap α → Bool
  | [] => true
  | (k, _) :: t => decide (a < k) && SMap.above a t

/-- The canonical form: keys strictly rising, no entry equal to the default. -/
def SMap.wf {α : Type} [DecidableEq α] (d : α) : SMap α → Bool
  | [] => true
  | (k, v) :: t => SMap.above k t && decide (v ≠ d) && SMap.wf d t

/-- The table with every listed value changed. -/
def SMap.change {α : Type} [DecidableEq α] (d : α) (f : α → α) (m : SMap α) : SMap α :=
  (m.map (fun (p : Nat × α) => (p.1, f p.2))).filter (fun (p : Nat × α) => decide (p.2 ≠ d))

/-- Keys of a table rise strictly. -/
def SMap.rising {α : Type} : SMap α → Bool
  | [] => true
  | (k, _) :: t => SMap.above k t && SMap.rising t

/-! ### Sorting -/

/-- Put a member into a sorted list, ahead of those it may precede. -/
def insertBy {α : Type} (le : α → α → Bool) (x : α) : List α → List α
  | [] => [x]
  | y :: t => if le x y then x :: y :: t else y :: insertBy le x t

/-- Sort a list; equals keep their order. -/
def sortBy {α : Type} (le : α → α → Bool) : List α → List α
  | [] => []
  | x :: t => insertBy le x (sortBy le t)

/-! ### Bytes and numbers -/

/-- The n little-endian bytes of a number (R5). -/
def leBytes : Nat → Nat → List Byte
  | 0, _ => []
  | n + 1, v => BitVec.ofNat 8 v :: leBytes n (v / 256)

/-- The number of little-endian bytes (R5). -/
def leNat : List Byte → Nat
  | [] => 0
  | b :: t => b.toNat + 256 * leNat t

/-- n bytes from an offset of a byte list; absent bytes are left out. -/
def slice (l : List Byte) (off n : Nat) : List Byte := (l.drop off).take n

/-- The little-endian field of n bytes at an offset. -/
def field (l : List Byte) (off n : Nat) : Nat := leNat (slice l off n)

/-- The two's complement value of the low w bits. -/
def sext (w v : Nat) : Int :=
  if v % 2 ^ w < 2 ^ (w - 1) then (v % 2 ^ w : Nat) else ((v % 2 ^ w : Nat) : Int) - (2 ^ w : Nat)

/-- The low w bits of an integer, as the unsigned number they encode. -/
def wrapInt (w : Nat) (x : Int) : Nat := (x % ((2 ^ w : Nat) : Int)).toNat

/-- Quotient rounded up. -/
def ceilDiv (a b : Nat) : Nat := (a + b - 1) / b

/-- A bit of a number. -/
def bit (v n : Nat) : Bool := v / 2 ^ n % 2 == 1

/-- Saturating addition. -/
def satAdd (top a b : Nat) : Nat := min top (a + b)

/-- d = (a − b) modulo 2^32 lies in 1 to 2^31 − 1: a is later than b (R485). -/
def later (a b : U32) : Bool := decide (1 ≤ (a - b).toNat) && decide ((a - b).toNat < 2 ^ 31)

/-- a is at or before b (R485). -/
def atOrBefore (a b : U32) : Bool := !later a b

/-! ### Tables of the device -/

/-- A submission queue. -/
def Dev.queue (d : Dev) (q : QueueId) : Queue := SMap.get {} d.qs.queues q.toNat
/-- Write a submission queue. -/
def Dev.setQueue (d : Dev) (q : QueueId) (x : Queue) : Dev :=
  { d with qs := { d.qs with queues := SMap.set {} d.qs.queues q.toNat x } }
/-- A buffer-table entry. -/
def Dev.buf (d : Dev) (h : U16) : Buf := SMap.get {} d.qs.bufs h.toNat
/-- Write a buffer-table entry. -/
def Dev.setBuf (d : Dev) (h : U16) (b : Buf) : Dev :=
  { d with qs := { d.qs with bufs := SMap.set {} d.qs.bufs h.toNat b } }
/-- A fence slot (R59). -/
def Dev.slot (d : Dev) (n : Nat) : U64 := SMap.get 0 d.qs.slots n
/-- A slot is reached when its value is at least the stated one (R59). -/
def Dev.reached (d : Dev) (n : Nat) (v : U64) : Bool := decide (v.toNat ≤ (d.slot n).toNat)
/-- A feed. -/
def Dev.feed (d : Dev) (f : FeedId) : Feed := SMap.get {} d.intake.feeds f.toNat
/-- Write a feed. -/
def Dev.setFeed (d : Dev) (f : FeedId) (x : Feed) : Dev :=
  { d with intake := { d.intake with feeds := SMap.set {} d.intake.feeds f.toNat x } }
/-- A thresher. -/
def Dev.thresher (d : Dev) (t : ThresherId) : Thresher := SMap.get {} d.intake.threshers t.toNat
/-- Write a thresher. -/
def Dev.setThresher (d : Dev) (t : ThresherId) (x : Thresher) : Dev :=
  { d with intake := { d.intake with threshers := SMap.set {} d.intake.threshers t.toNat x } }
/-- A view-set slot. -/
def Dev.vslot (d : Dev) (n : Nat) : Slot := SMap.get {} d.intake.slots n
/-- Write a view-set slot. -/
def Dev.setVslot (d : Dev) (n : Nat) (x : Slot) : Dev :=
  { d with intake := { d.intake with slots := SMap.set {} d.intake.slots n x } }
/-- A sail. -/
def Dev.sail (d : Dev) (s : SailId) : Sail := SMap.get {} d.push.sails s.toNat
/-- Write a sail. -/
def Dev.setSail (d : Dev) (s : SailId) (x : Sail) : Dev :=
  { d with push := { d.push with sails := SMap.set {} d.push.sails s.toNat x } }
/-- A mast. -/
def Dev.mast (d : Dev) (m : MastId) : Mast := SMap.get {} d.push.masts m.toNat
/-- Write a mast. -/
def Dev.setMast (d : Dev) (m : MastId) (x : Mast) : Dev :=
  { d with push := { d.push with masts := SMap.set {} d.push.masts m.toNat x } }
/-- A cluster. -/
def Dev.cluster (d : Dev) (c : ClusterId) : Cluster := SMap.get {} d.push.clusters c.toNat
/-- Write a cluster. -/
def Dev.setCluster (d : Dev) (c : ClusterId) (x : Cluster) : Dev :=
  { d with push := { d.push with clusters := SMap.set {} d.push.clusters c.toNat x } }
/-- A DRAM channel. -/
def Dev.chan (d : Dev) (n : Nat) : Channel := SMap.get {} d.dram.chans n
/-- Write a DRAM channel. -/
def Dev.setChan (d : Dev) (n : Nat) (x : Channel) : Dev :=
  { d with dram := { d.dram with chans := SMap.set {} d.dram.chans n x } }
/-- A temperature sensor. -/
def Dev.sensor (d : Dev) (n : Nat) : Sensor := SMap.get {} d.th.sensors n
/-- Write a temperature sensor. -/
def Dev.setSensor (d : Dev) (n : Nat) (x : Sensor) : Dev :=
  { d with th := { d.th with sensors := SMap.set {} d.th.sensors n x } }
/-- The trim item of a code in force: the PHY group of a DRAM channel, else the item itself (R417). -/
def trimItemOf (k : Nat) : Nat := if k < 64 then k else 32 + (k - 64) / 8
/-- Fuse value of a trim item. -/
def Dev.trimFuse (d : Dev) (i : Nat) : Byte := SMap.get 0 d.fuses.trim i
/-- The code that a circuit's trim goes to (R424). -/
def Dev.trimGoal (d : Dev) (k : Nat) : Byte := (SMap.get none d.trim.codes (trimItemOf k)).getD (d.trimFuse (trimItemOf k))
/-- The code of a circuit's trim in force (R424). -/
def Dev.trimNow (d : Dev) (k : Nat) : Byte := (SMap.get none d.trim.inForce k).getD (d.trimFuse (trimItemOf k))
/-- Set the code in force. -/
def Dev.setTrimNow (d : Dev) (k : Nat) (v : Byte) : Dev := { d with trim := { d.trim with inForce := SMap.set none d.trim.inForce k (some v) } }
/-- A changed code is applied by one DAC step (R424). -/
def Dev.trimStep (d : Dev) (k : Nat) : Dev :=
  let v := d.trimNow k
  if v = d.trimGoal k then d else d.setTrimNow k (if v.toNat < (d.trimGoal k).toNat then v + 1 else v - 1)
/-- A partition; groups of masts the part lacks read OFFLINE (R451). -/
def Dev.partn (d : Dev) (n : Nat) : Partition :=
  if d.fuses.md0512 && decide (20 ≤ n) && decide (n ≤ 23) then { state := .offline } else SMap.get {} d.flt.parts n
/-- Write a partition. -/
def Dev.setPartn (d : Dev) (n : Nat) (x : Partition) : Dev :=
  { d with flt := { d.flt with parts := SMap.set {} d.flt.parts n x } }

/-- Mast of a sail (R10). -/
def mastOf (s : SailId) : MastId := BitVec.ofNat 5 (s.toNat / 32)
/-- Chain position of a sail (R10). -/
def posOf (s : SailId) : Nat := s.toNat % 32
/-- Sail at a chain position of a mast (R10). -/
def sailOf (m : MastId) (p : Nat) : SailId := BitVec.ofNat 10 (m.toNat * 32 + p)
/-- The masts of the part (R1). -/
def Dev.mastList (d : Dev) : List MastId := (List.range (mastsOf d.fuses.md0512)).map (BitVec.ofNat 5)
/-- The sails of a mast, by chain position. -/
def sailsOf (m : MastId) : List SailId := (List.range 32).map (sailOf m)
/-- The sails of the part (R1). -/
def Dev.sailList (d : Dev) : List SailId := (List.range (32 * mastsOf d.fuses.md0512)).map (BitVec.ofNat 10)
/-- The sail exists on the part (R3). -/
def Dev.sailExists (d : Dev) (n : Nat) : Bool := decide (n < 32 * mastsOf d.fuses.md0512)

/-- A client whose mailbox is one of the host paths (R343). -/
def fromHost : Client → Bool
  | .host _ => true
  | _ => false

/-! ### Dictionary values held in RAM -/

/-- Value of a RW entry without T, or of a counter; its default where nothing was written (R364). -/
def Dev.val (d : Dev) (key : Nat) : Nat :=
  match SMap.get none d.dict.vals key with
  | some v => v
  | none => entryDefault d.fuses key

/-- Set such a value. -/
def Dev.setVal (d : Dev) (key v : Nat) : Dev :=
  let x : Option Nat := if v = entryDefault d.fuses key then none else some v
  { d with dict := { d.dict with vals := SMap.set none d.dict.vals key x } }

/-- Advance a U32 counter by n; it stops at the largest value of its type (R365). -/
def Dev.bumpN (d : Dev) (key n : Nat) : Dev := d.setVal key (satAdd 0xFFFFFFFF (d.val key) n)

/-- Advance a counter by one. -/
def Dev.bump (d : Dev) (key : Nat) : Dev := d.bumpN key 1

/-- Applied value of an entry with attribute T (R341). -/
def Applied.val (a : Applied) (f : Fuses) (key : Nat) : Nat :=
  match SMap.get none a.vals key with
  | some v => v
  | none => entryDefault f key

/-- Applied value of a T entry of the device. -/
def Dev.tval (d : Dev) (key : Nat) : Nat := d.comp.ap.val d.fuses key

/-- n occurrences of a wear-spread counter, counted in RAM until its step is reached (R437). -/
def Dev.occur (d : Dev) (c n : Nat) : Dev :=
  let r := SMap.get ({} : Ring) d.ledger.rings c
  { d with ledger := { d.ledger with rings := SMap.set {} d.ledger.rings c { r with ram := r.ram + n } } }

/-! ### Free values (log entry 3) -/

/-- The free value of the device's next use, at an index within that use. -/
def Dev.freeAt (d : Dev) (i : Nat) : U64 := Config.freeValue (d.free * 2 ^ 40 + i)
/-- Count one use of free values. -/
def Dev.useFree (d : Dev) : Dev := { d with free := d.free + 1 }
/-- n free bytes of the next use. -/
def Dev.freeBytes (d : Dev) (n : Nat) : List Byte := (List.range n).map (fun i => (d.freeAt i).setWidth 8)

/-! ### DRAM bytes -/

/-- A byte of DRAM; a byte never written reads 0 (log entry 4). -/
def Dev.byteAt (d : Dev) (a : Nat) : Byte := SMap.get 0 d.dram.data a

/-- n bytes of DRAM from an address. -/
def Dev.readMem (d : Dev) (a n : Nat) : List Byte := (List.range n).map (fun i => d.byteAt (a + i))

/-- Store bytes from an address, in ascending order. -/
def storeBytes : List Host.Cell → Nat → List Byte → List Host.Cell
  | m, _, [] => m
  | m, a, b :: t => storeBytes (SMap.set 0 m a b) (a + 1) t

/-- A write of n bytes at an address falls into the source or the destination range of a DECODE (R99): the sheaf, by its header's
compressed length, and the bytes up to its output length or the capacity, whichever is less (R106). -/
def Dev.crosses (d : Dev) (a n : Nat) (b : DecodeBody) : Bool :=
  let meets := fun (x m : Nat) => decide (a < x + m) && decide (x < a + n)
  let src := (d.buf b.src.handle).base + b.srcOff.toNat
  let dst := d.buf b.dst.handle
  let cap := if b.cap = 0 then dst.size - b.dstOff.toNat else b.cap.toNat
  meets src (32 + leNat (d.readMem (src + 12) 4)) || meets (dst.base + b.dstOff.toNat) (min cap (leNat (d.readMem (src + 8) 4)))

/-- A DECODE is one whose ranges another writer has written into (R99). -/
def Intake.raced (x : Intake) (id : Nat) : Bool := x.races.any (fun (r : Nat × List Byte) => r.1 == id)

/-- The bytes of the sheaf of a DECODE, as far as its source buffer goes. -/
def Dev.sheafNow (d : Dev) (b : DecodeBody) : List Byte :=
  let x := d.buf b.src.handle
  let a := x.base + b.srcOff.toNat
  d.readMem a (min (32 + leNat (d.readMem (a + 12) 4)) (x.size - b.srcOff.toNat))

/-- The DECODEs, placed or waiting, whose ranges a write falls into for the first time, with their sheaves (R99). -/
def Dev.crossed (d : Dev) (a n : Nat) : List (Nat × List Byte) :=
  (d.intake.threshers.flatMap (fun p => p.2.jobs) ++ d.intake.waiting.map (·.1)).filterMap (fun j => match j with
    | .decode id b _ _ _ => if d.crosses a n b && !d.intake.raced id then some (id, d.sheafNow b) else none
    | .encode _ _ => none)

/-- Write DRAM. A DECODE whose ranges it falls into will have an unspecified output (R99). While a tack is SEALED or PUSHING, the overwritten
bytes are remembered: a read of a view cache that is under way may return them (R167). -/
def Dev.writeMem (d : Dev) (a : Nat) (bs : List Byte) : Dev :=
  { d with
    dram := { d.dram with
      data := storeBytes d.dram.data a bs
      old := if d.tack.act.isSome then (List.range bs.length).map (fun i => (a + i, d.byteAt (a + i))) ++ d.dram.old
             else d.dram.old }
    intake := { d.intake with races := d.intake.races ++ d.crossed a bs.length } }

/-- The bytes from an address become unspecified: free values. -/
def Dev.scramble (d : Dev) (a n : Nat) : Dev := (d.writeMem a (d.freeBytes n)).useFree

/-! ### Buffers by reference -/

/-- A handle is live only in state LIVE with the stated generation; handle 0 never is (R49, R53). -/
def Dev.live (d : Dev) (r : BufRef) : Bool :=
  decide (r.handle ≠ 0) && decide ((d.buf r.handle).state = .live) && decide ((d.buf r.handle).gen = r.gen)

/-- Size of a referenced buffer. -/
def Dev.sizeOf (d : Dev) (r : BufRef) : Nat := (d.buf r.handle).size
/-- Bytes of a buffer from an offset, in its logical layout (R316). -/
def Dev.readBuf (d : Dev) (r : BufRef) (off n : Nat) : List Byte := d.readMem ((d.buf r.handle).base + off) n
/-- Write bytes of a buffer from an offset. -/
def Dev.writeBuf (d : Dev) (r : BufRef) (off : Nat) (bs : List Byte) : Dev := d.writeMem ((d.buf r.handle).base + off) bs
/-- The buffer is ready while its ready fence is none or reached (R62). -/
def Dev.readyBuf (d : Dev) (r : BufRef) : Bool :=
  match (d.buf r.handle).ready with
  | none => true
  | some (s, v) => d.reached s v

/-- E_BOUNDS detail: the low 24 bits of the first byte outside (R52). -/
def boundsDetail (size start : Nat) : Nat := (if size ≤ start then start else size) % 2 ^ 24

/-! ### Sending outside -/

/-- The device sends something outside. -/
def Dev.send (d : Dev) (o : Out) : Dev := { d with out := d.out ++ [o] }

/-- Signal an MSI-X vector: sent where Bus Master Enable is set in D0, MSI-X is enabled and the vector unmasked, else pending
(log entry 10). -/
def Dev.msix (d : Dev) (v : Nat) : Dev :=
  let e := SMap.get ({} : MsixEntry) d.host.msix v
  if d.link.bme && !d.link.d3hot && d.link.msixEnable && !d.link.msixMask && !bit e.ctrl.toNat 0 then d.send (.msix v e.addr e.data)
  else { d with host := { d.host with pba := d.host.pba ||| BitVec.ofNat 4 (2 ^ v) } }

/-! ### Events -/

/-- The tack OPEN now. -/
def Dev.openTack (d : Dev) : U32 := d.tack.openSeq

/-- Ring size in records. -/
def EventRing.size (r : EventRing) : Nat := 2 ^ r.log2.toNat

/-- The ring is full when (TAIL + 1) modulo the size equals HEAD (R67). -/
def EventRing.full (r : EventRing) : Bool := (r.tail.toNat + 1) % r.size == r.head.toNat

/-- The sixteen bytes of a record (R8). -/
def Event.bytes (e : Event) : List Byte :=
  leBytes 2 e.type.toNat ++ leBytes 2 e.source.toNat ++ leBytes 4 e.tack.toNat ++ leBytes 8 e.data.toNat

/-- Write one record at TAIL: to host memory on the PCIe path, to the device's own store on a USB path (R66). -/
def Dev.putRecord (d : Dev) (e : Event) : Dev :=
  let d1 := match d.host.owner with
    | some .pcie => d.send (.hostWrite (d.ring.base + BitVec.ofNat 64 (16 * d.ring.tail.toNat)) e.bytes)
    | _ => { d with ring := { d.ring with recs := d.ring.recs ++ [e] } }
  { d1 with ring := { d1.ring with tail := BitVec.ofNat 16 ((d.ring.tail.toNat + 1) % d.ring.size) } }

/-- Count one unsignalled event and signal vector 0 when INT_MOD's COUNT is met; the first one starts the timer (R29). On a USB path whose
function is suspended, the first event signals remote wake where the host has enabled it (R39). -/
def Dev.signal0 (d : Dev) : Dev :=
  if d.host.owner = some .pcie then
    let n := d.host.unsignalled + 1
    if max 1 (d.host.intMod.toNat % 65536) ≤ n then
      { d with host := { d.host with unsignalled := 0, timerOn := false } }.msix 0
    else { d with host := { d.host with unsignalled := n, timerOn := d.host.timerOn || d.host.intMod.toNat / 65536 != 0 } }
  else if d.host.owner = some .usb3 ∧ d.link.susp3 = true ∧ d.link.wake.getLsbD 0 = true then
    { d with link := { d.link with wake := d.link.wake &&& 2 } }.send (.remoteWake .usb3)
  else if d.host.owner = some .usb2 ∧ d.link.susp2 = true ∧ d.link.wake.getLsbD 1 = true then
    { d with link := { d.link with wake := d.link.wake &&& 1 } }.send (.remoteWake .usb2)
  else d

/-- A record is dropped during a session (R65, R67). -/
def Dev.dropRecord (d : Dev) (full : Bool) : Dev :=
  let n := if full then d.ring.lost + 1 else d.ring.lost
  { d with ring := { d.ring with dropped := satAdd 0xFFFFFFFF d.ring.dropped 1, overflow := true, lost := n } }

/-- Raise an event record: dropped without a session, or with the ring disabled or full; else written (R40, R65 to R67). -/
def Dev.record (d : Dev) (e : Event) : Dev :=
  if d.host.owner.isNone then d.bump 0x230007
  else if !d.ring.enabled then d.dropRecord false
  else if d.ring.full then d.dropRecord true
  else (d.putRecord e).signal0

/-- Raise the event of a type, with source and data; its tack sequence is the OPEN tack's (R8). -/
def Dev.event (d : Dev) (type source : Nat) (data : Nat) : Dev :=
  d.record { type := BitVec.ofNat 16 type, source := BitVec.ofNat 16 source, tack := d.openTack, data := BitVec.ofNat 64 data }

/-- Raise an event of vector 3: signalled even when its record is dropped (R67). -/
def Dev.event3 (d : Dev) (type source : Nat) (data : Nat) : Dev := (d.event type source data).msix 3

/-- Log a fault: class, unit, event type (R373, R449). -/
def Dev.logFault (d : Dev) (cls unit type : Nat) : Dev :=
  { d with flt := { d.flt with
      recs := SMap.set 0 d.flt.recs d.flt.next (cls * 2 ^ 56 + unit * 2 ^ 48 + type * 2 ^ 32 + d.openTack.toNat)
      next := if d.flt.next = 0x1F then 0x10 else d.flt.next + 1 } }.bump 0xB03001

/-! ### Commands in flight -/

/-- The device serves commands: UNDERWAY and booted. -/
def Dev.up (d : Dev) : Bool := decide (d.pw.state = .underway)

/-- EV_CMD_ERROR data (R67). -/
def errData (tag code op detail : Nat) : Nat := tag * 2 ^ 48 + code * 2 ^ 32 + op * 2 ^ 24 + detail % 2 ^ 24

/-- EV_CMD_DONE data (R67). -/
def doneData (tag op result : Nat) : Nat := tag * 2 ^ 48 + op * 2 ^ 40 + result % 2 ^ 32

/-- The earlier of two failures, by dispatch order (R61). -/
def firstFail (a : Option (Nat × U16)) (id : Nat) (tag : U16) : Option (Nat × U16) :=
  match a with
  | none => some (id, tag)
  | some (i, t) => if id < i then some (id, tag) else some (i, t)

/-- A failed command poisons the FENCE that covers it (R61). -/
def Dev.poison (d : Dev) (q : QueueId) (id : Nat) (tag : U16) : Dev :=
  if (d.queue q).lastFence < id then d.setQueue q { d.queue q with failed := firstFail (d.queue q).failed id tag }
  else
    { d with qs := { d.qs with fences := d.qs.fences.map (fun f =>
        if f.q = q ∧ f.after < id ∧ id < f.id then { f with failed := firstFail f.failed id tag } else f) } }

/-- A command leaves the list of incomplete commands. -/
def Dev.retireCmd (d : Dev) (id : Nat) : Dev :=
  { d with
    qs := { d.qs with cmds := d.qs.cmds.filter (fun c => c.id != id) }
    intake := { d.intake with races := d.intake.races.filter (fun (r : Nat × List Byte) => r.1 != id) } }

/-- The command record of an id. -/
def Dev.cmd? (d : Dev) (id : Nat) : Option CmdRec := d.qs.cmds.find? (fun c => c.id == id)

/-- A command completes successfully: EV_CMD_DONE when NOTIFY is set, or for ALLOC and QUERY (R52). -/
def Dev.finish (d : Dev) (id : Nat) (result : Nat := 0) : Dev :=
  match d.cmd? id with
  | none => d
  | some c =>
    if c.notify || c.op = 0x02 || c.op = 0x04 then
      (d.retireCmd id).event 0x0101 c.q.toNat (doneData c.tag.toNat c.op.toNat result)
    else d.retireCmd id

/-- A command fails: EV_CMD_ERROR, EV_ERROR_DETAIL directly after it where given, and its FENCE is poisoned (R52, R61). -/
def Dev.failCmd (d : Dev) (id code detail : Nat) (more : Option Nat := none) : Dev :=
  match d.cmd? id with
  | none => d
  | some c =>
    let d1 := ((d.retireCmd id).poison c.q id c.tag).event 0x0102 c.q.toNat (errData c.tag.toNat code c.op.toNat detail)
    match more with
    | none => d1
    | some x => d1.event 0x0103 c.q.toNat x

/-- A command is dispatched: it takes the next id and joins the incomplete commands, with the buffers it names (R48, R56). -/
def Dev.dispatch (d : Dev) (q : QueueId) (h : Hdr) (op : Nat) (refs : List BufRef) : Dev :=
  { d with qs := { d.qs with
      nextId := d.qs.nextId + 1
      cmds := d.qs.cmds ++ [{ id := d.qs.nextId, q := q, tag := h.tag, op := BitVec.ofNat 8 op, notify := h.notify, refs := refs }] } }

/-- A command fails its dispatch checks: EV_CMD_ERROR with code and detail, and no other effect (R51, R52). -/
def Dev.reject (d : Dev) (q : QueueId) (h : Hdr) (op code detail : Nat) (more : Option Nat := none) : Dev :=
  (d.dispatch q h op []).failCmd d.qs.nextId code detail more

/-- A command fails with a detail that the spec does not give: a free value (log entry 3). -/
def Dev.failOpen (d : Dev) (id code : Nat) : Dev := (d.failCmd id code ((d.freeAt 0).toNat % 2 ^ 24)).useFree

/-- A command fails its dispatch checks with such a detail. -/
def Dev.rejectOpen (d : Dev) (q : QueueId) (h : Hdr) (op code : Nat) : Dev :=
  (d.reject q h op code ((d.freeAt 0).toNat % 2 ^ 24)).useFree

/-- A queue that a command holds dispatches nothing; else the command is dispatched (R48, log entry 8). -/
def Dev.issue (d : Dev) (q : QueueId) (f : Dev → Dev) : Dev := if (d.queue q).hold = .none then f d else d

/-- A command that completes at its dispatch, with its effect between (R52). -/
def Dev.instant (d : Dev) (q : QueueId) (h : Hdr) (op : Nat) (f : Dev → Dev) (result : Nat := 0) : Dev :=
  (f (d.dispatch q h op [])).finish d.qs.nextId result

/-- Hold a queue. -/
def Dev.hold (d : Dev) (q : QueueId) (x : Hold) : Dev := d.setQueue q { d.queue q with hold := x }

/-- The first check of a list that fails: a list of (passes, code, detail). -/
def firstBad : List (Bool × Nat × Nat) → Option (Nat × Nat)
  | [] => none
  | (ok, code, det) :: t => if ok then firstBad t else some (code, det)

/-! ### Running a command -/

/-- A command begins: nothing has been sent outside yet (log entry 2). -/
def Dev.begin (d : Dev) : Dev := { d with out := [] }

/-- The blocks outside the always-on domain run: not in MOORED, in reset, shut down or without power (R376, R382, R388, R415). -/
def Dev.powered (d : Dev) : Bool :=
  match d.pw.state with
  | .off | .resetHeld | .moored | .shutdown => false
  | _ => true

/-- Run a meaning of the always-on domain on the device; the queue of waiting commands is as it was. -/
def runAlways (s : State) (f : Dev → Dev) : Host.Outcome State Fault Refusal := .next { s with dev := f s.dev.begin }

/-- Run a meaning of the rest of the device: it has no effect while only the always-on domain runs. -/
def runOn (s : State) (f : Dev → Dev) : Host.Outcome State Fault Refusal :=
  runAlways s (fun d => if d.powered then f d else d)

/-- The mast is one of the part's; the MD0512 ignores DET and backstay of masts 16 to 31 (R2). -/
def Dev.mastExists (d : Dev) (m : MastId) : Bool := decide (m.toNat < mastsOf d.fuses.md0512)

/-- Run a meaning of a mast of the part. -/
def runMast (m : MastId) (s : State) (f : Dev → Dev) : Host.Outcome State Fault Refusal :=
  runOn s (fun d => if d.mastExists m then f d else d)

/-- One microsecond passes with no command waiting (log entry 1). -/
def Dev.tick (d : Dev) : Dev := { d.begin with now := d.now + 1 }

end Sys2Proof.Machine
end

