-- ==== Sys2Proof/Machine/Mem.lean ====
section
/-! DEFINITION. The memory controller's shared operations: address maps (R314 to R316, R324, R335), the channel queues (R317, R319),
inline ECC (R324 to R326), bounds (R327) and requests to a lost channel (R334). -/

namespace Sys2Proof.Machine

/-! ### Capacity and the ECC region (R324, R335) -/

/-- One GiB. -/
def gib : Nat := 2 ^ 30

/-- Bytes of some raw GiB: 31 of every 32 of them while the device runs without a channel (R335). -/
def Dev.rawBytes (d : Dev) (g : Nat) : Nat := if d.dram.gone.isSome then g * gib / 32 * 31 else g * gib

/-- First address of the ECC region, at the top of the address space (R324). -/
def Dev.eccBase (d : Dev) : Nat := d.rawBytes (d.dram.capGiB - d.dram.eccGiB)

/-- Usable bytes: the ECC region offers 7/8 of its raw size (R324). -/
def Dev.capacity (d : Dev) : Nat := d.eccBase + d.rawBytes (min d.dram.eccGiB d.dram.capGiB) / 8 * 7

/-- An address lies in the ECC region. -/
def Dev.inEcc (d : Dev) (a : Nat) : Bool := decide (d.eccBase ≤ a)

/-- Where a data byte of the ECC region lies: n channels hold one DRAM page of 2 KiB each in every 2,048 n bytes, whose columns 0 to 1,791 are
seven granules of data and whose last 256 columns are check bytes (R312, R315, R324). -/
def eccPage (n u : Nat) : Nat := u / (1792 * n) * (2048 * n) + u % (1792 * n)

/-- Where the 8 check bytes of the 64 data bytes at an offset of the ECC region lie: at the columns from 1,792 on of their own page, by granules of
256 bytes (R324). -/
def eccCheck (n u : Nat) : Nat :=
  let v := u % (1792 * n)
  u / (1792 * n) * (2048 * n) + 1792 * n + v / 256 % n * 256 + (v / (256 * n) * 256 + v % 256) / 64 * 8

/-! ### Address maps (R314 to R316, R335) -/

/-- A place in DRAM: channel, rank, bank, row, column (R315). -/
structure Place where
  chan : Nat
  rank : Nat
  bank : Nat
  row : Nat
  col : Nat
  deriving DecidableEq, Repr

/-- Interleave granule of a map (R315). -/
def granule (map : Nat) : Nat := if map = 2 then 2048 else 256

/-- Rank, bank, row and column of the address bits above the channel field and below it, on a channel (R315). -/
def decodeBits (map rowBits chan above low : Nat) : Place :=
  let up := if map = 2 then above else above / 8
  let row := up / 16 % 2 ^ rowBits
  { chan := chan
    rank := up / 16 / 2 ^ rowBits % 2
    bank := if map = 0 then up % 16 else Nat.xor (up % 16) (row % 16)
    row := row
    col := if map = 2 then low else above % 8 * 256 + low }

/-- Place of a device address in a map with 32 channels (R315), rows of the given bits. -/
def mapAddr (map rowBits a : Nat) : Place :=
  let u := a / granule map
  decodeBits map rowBits (u % 32) (u / 32) (a % granule map)

/-- Place of a device address on the 31 channels left: the slot counts past the lost one, and the remainder takes the place of the
bits above the channel field (R335). -/
def mapAddr31 (map rowBits : Nat) (lost : BitVec 5) (a : Nat) : Place :=
  let u := a / granule map
  let s := u % 31
  decodeBits map rowBits (if s < lost.toNat then s else s + 1) (u / 31) (a % granule map)

/-- Row bits of a capacity and rank count (R312). -/
def rowBits (capGiB ranks : Nat) : Nat := 15 + Nat.log2 (capGiB / 32) + 1 - ranks

/-- Byte offset in a view buffer's tiles of 64 × 16 samples of the byte at an offset of its logical layout, for a sample size and a
pitch (R316). -/
def tileOff (ss pitch off : Nat) : Nat :=
  let x := off % pitch / ss
  let y := off / pitch
  (y / 16 * ceilDiv pitch (64 * ss) + x / 64) * (1024 * ss) + (y % 16 * 64 + x % 64) * ss + off % pitch % ss

/-- The view buffer outside the ECC region that holds an address: MAP2 stores it in tiles (R316). -/
def Dev.tiled (d : Dev) (a : Nat) : Option Buf :=
  (d.qs.bufs.map (·.2)).find? (fun (b : Buf) => b.state != .free && (b.fmt == 4 || b.fmt == 5) && !b.ecc &&
    decide (b.base ≤ a) && decide (a < b.base + b.size))

/-- The map that places an address, and the address it is placed by: pages of the ECC region hold their check bytes too (R324), and
under MAP2 view buffers are tiled and everything else is placed as MAP1 places it (R316). -/
def Dev.stored (d : Dev) (a : Nat) : Nat × Nat :=
  if d.inEcc a then (if d.dram.map = 2 then 1 else d.dram.map, d.eccBase + eccPage (if d.dram.gone.isSome then 31 else 32) (a - d.eccBase))
  else if d.dram.map = 2 then
    match d.tiled a with
    | some b => (2, b.base + tileOff (if b.fmt = 5 then 6 else 4) b.pitch (a - b.base))
    | none => (1, a)
  else (d.dram.map, a)

/-- The place of an address (R315, R316, R335). -/
def Dev.placeOf (d : Dev) (a : Nat) : Place :=
  let s := d.stored a
  let rb := rowBits d.dram.capGiB d.dram.ranks
  match d.dram.gone with
  | some c => mapAddr31 s.1 rb c s.2
  | none => mapAddr s.1 rb s.2

/-- The channel that serves an address. -/
def Dev.chanOf (d : Dev) (a : Nat) : Nat := (d.placeOf a).chan

/-! ### Rates (R312, R323, R332) -/

/-- The data rates by bit of TRAINED_POINTS. -/
def rateOfBit (n : Nat) : Nat := [10667, 9600, 8533, 7500, 6400, 5500].getD n 0

/-- The rates of a mask of points, falling. -/
def ratesOf (points : Nat) : List Nat := ((List.range 6).filter (fun i => bit points i)).map rateOfBit

/-- Boot training is running (R333). -/
def Dev.training (d : Dev) : Bool := d.pw.state == .boot && !d.dram.up

/-- The trained rates, falling. -/
def Dev.trainedRates (d : Dev) : List Nat := ratesOf (if d.training then d.val 0x220007 else d.dram.points)

/-- The rate in use, or the one that boot training goes for. -/
def Dev.rateNow (d : Dev) : Nat := if d.training && d.dram.rate == 0 then d.val 0x220002 else d.dram.rate

/-- The next lower trained rate. -/
def Dev.rateBelow (d : Dev) : Option Nat := d.trainedRates.find? (fun r => decide (r < d.rateNow))

/-- The next higher trained rate, up to DATA_RATE. -/
def Dev.rateAbove (d : Dev) : Option Nat :=
  d.trainedRates.reverse.find? (fun r => decide (d.rateNow < r) && decide (r ≤ d.val 0x220002))

/-- The item has been measured in this run. -/
def TrimRun.has (r : TrimRun) (i : Nat) : Bool := r.done.any (fun (x : Nat × Option Byte) => x.1 == i)

/-- The next slot of a trim run in service is that of a DRAM PHY group, by its time (R422). -/
def TrimRun.groupDue (r : TrimRun) (t : Nat) : Bool :=
  !r.powerUp && r.has 36 && !(List.range 4).all (fun (g : Nat) => r.has (32 + g)) && decide (r.next ≤ t)

/-- From 50 µs before a retrain step or a trim slot of a DRAM PHY group until it ends, and from 50 µs before a rate switch, masts start only
packets that are fully composed (R331, R332, R422); the next step of a retrain is due 20 ms after the last one (log entry 96). -/
def Dev.wholeOnly (d : Dev) : Bool :=
  d.trim.run.any (fun (r : TrimRun) => r.groupDue (d.now + 50)) ||
  d.dram.switchTo.isSome || d.dram.chans.any (fun (p : Nat × Channel) => p.2.step != 0 && decide (p.2.rest ≤ d.now + 50)) ||
    (d.dram.hotSince.any (fun t => decide (t + 10000 ≤ d.now + 50)) && d.rateBelow.isSome) ||
    (d.dram.stepped && d.dram.coolSince.any (fun t => decide (t + 1000000 ≤ d.now + 50)) && d.rateAbove.isSome)

/-! ### Channel queues (R317, R319) -/

/-- Source codes of the memory controller's logs: kind in the high half, instance in the low half (R336). -/
def srcCode (kind n : Nat) : Nat := 16 * kind + n % 16
/-- Source code of a thresher. -/
def thresherSrc (t : ThresherId) : Nat := srcCode 2 t.toNat
/-- Source code of a cluster. -/
def clusterSrc (c : ClusterId) : Nat := srcCode 3 c.toNat
/-- Source code of a layer scaler. -/
def scalerSrc (n : Nat) : Nat := srcCode 4 n
/-- Source code of the block engine. -/
def blitSrc : Nat := srcCode 5 0
/-- Source code of the readback unit. -/
def readbackSrc : Nat := srcCode 6 0
/-- Source code of the queue engine. -/
def queueSrc : Nat := srcCode 7 0
/-- Source code of the supervisor. -/
def supervisorSrc : Nat := srcCode 8 0

/-- Bank, with its rank, and row of a request. -/
def Dev.pageOf (d : Dev) (r : MemReq) : Nat × Nat :=
  let p := d.placeOf r.line
  (p.rank * 16 + p.bank, p.row)

/-- A request meets an open page. -/
def Dev.pageHit (d : Dev) (c : Channel) (r : MemReq) : Bool := SMap.get none c.pages (d.pageOf r).1 == some (d.pageOf r).2

/-- The oldest request of the highest class of a queue (R319). -/
def firstReq : List MemReq → Option MemReq
  | [] => none
  | r :: t => match firstReq t with | some s => if s.cls < r.cls then some s else some r | none => some r

/-- The requests of a request's class that are older than it. -/
def olderReqs (rs : List MemReq) (r : MemReq) : List MemReq := (rs.takeWhile (fun (x : MemReq) => x != r)).filter (fun (x : MemReq) => x.cls == r.cls)

/-- The request of a queue that a channel issues next: the oldest of the highest class, or, as the channel chooses, one of that class to
an open page, which no older one may suffer more than 16 times (R319). -/
def Dev.nextReq (d : Dev) (c : Channel) (rs : List MemReq) : Option MemReq :=
  match firstReq rs with
  | none => none
  | some r =>
    match (rs.filter (fun (x : MemReq) => x.cls == r.cls)).find? (fun (x : MemReq) => d.pageHit c x) with
    | none => some r
    | some o =>
      if o = r then some r
      else if (olderReqs rs o).all (fun (x : MemReq) => decide (x.passed < 16)) = true ∧ (Config.freeChoice d.dram.picks).getLsbD 0 = true then some o
      else some r

/-- Remove the first request equal to one, and count the overtaking of the older ones of its class. -/
def dropReq : List MemReq → MemReq → List MemReq
  | [], _ => []
  | r :: t, x => if r = x then t else (if r.cls = x.cls then { r with passed := r.passed + 1 } else r) :: dropReq t x

/-- A channel issues one request of its 64 writes or its first 64 reads, those behind them waiting at their sources: the page it meets is open
then; a drain ends at WQ_LOW (R317, R319). -/
def Dev.issue1 (d : Dev) (ch : Nat) (write : Bool) : Option MemReq × Dev :=
  let c := d.chan ch
  let rs := if write then c.writes else c.reads
  match d.nextReq c (rs.take 64) with
  | none => (none, d)
  | some r =>
    let left := dropReq rs r
    let c1 := { c with pages := SMap.set none c.pages (d.pageOf r).1 (some (d.pageOf r).2) }
    let c2 := if write then { c1 with writes := left, draining := c1.draining && decide (d.val 0x220006 < left.length) } else { c1 with reads := left }
    (some r, { d.setChan ch c2 with dram := { (d.setChan ch c2).dram with picks := d.dram.picks + 1 } })

/-- A channel issues n writes. -/
def Dev.issueWrites (d : Dev) (ch : Nat) : Nat → Dev
  | 0 => d
  | n + 1 => (d.issue1 ch true).2.issueWrites ch n

/-- A drain that runs is not interrupted: writes are issued until WQ_LOW are left (R317). -/
def Dev.finishDrain (d : Dev) (ch : Nat) : Dev :=
  if (d.chan ch).draining then d.issueWrites ch ((d.chan ch).writes.length - d.val 0x220006) else d

/-- The lines that a range of addresses touches. -/
def linesOf (a n : Nat) : List Nat := if n = 0 then [] else (List.range ((a % 64 + n - 1) / 64 + 1)).map (fun i => a / 64 * 64 + 64 * i)

/-- A source asks for a line at a class: the request joins its channel's read queue (R317, R319). -/
def Dev.askLine (d : Dev) (cls src : Nat) (ref : BufRef) (line : Nat) : MemReq × Dev :=
  let x := d.chan (d.chanOf line)
  let r : MemReq := { cls := cls, line := line, at_ := d.now, src := src, ref := ref, mark := d.dram.old.length, num := d.dram.asked }
  let d1 := d.setChan (d.chanOf line) { x with reads := x.reads ++ [r] }
  (r, { d1 with dram := { d1.dram with asked := d.dram.asked + 1 } })

/-- A request is a cluster's. -/
def MemReq.ofCluster (r : MemReq) : Bool := r.src / 16 == 3

/-- A channel issues reads, in its own order, until one is among them; a cluster's read that it issues on the way completes in its cluster's order
(R317, R319, R321). -/
def Dev.serveUntil (d : Dev) (ch : Nat) (r : MemReq) : Nat → Dev
  | 0 => d
  | n + 1 =>
    if !(d.chan ch).reads.contains r then d
    else match d.issue1 ch false with
      | (some x, d1) =>
        (if x.ofCluster then { d1 with dram := { d1.dram with issued := d1.dram.issued ++ [x] } } else d1).serveUntil ch r n
      | (none, d1) => d1

/-- A read that waits is issued, once a drain that runs has ended (R317). -/
def Dev.serveRead (d : Dev) (r : MemReq) : Dev :=
  let ch := d.chanOf r.line
  let d1 := d.finishDrain ch
  d1.serveUntil ch r (d1.chan ch).reads.length

/-- A source reads a range of a buffer at a class, one line after another: each request waits its turn in its channel, and the read ends with the
last (R317, R319, R321). -/
def Dev.readLines (d : Dev) (cls src : Nat) (ref : BufRef) (off n : Nat) : Dev :=
  (linesOf ((d.buf ref.handle).base + off) n).foldl (fun (d : Dev) (line : Nat) =>
    let r := d.askLine cls src ref line
    r.2.serveRead r.1) d

/-- A posted write of a line joins its channel's write queue, merged into the newest entry of its source and class if that holds the line; its
data is visible at once (R317, R318, log entry 15). WQ_HIGH entries start a drain; a source that finds 64 waits until a place frees. -/
def Dev.queueLine (d : Dev) (cls src line : Nat) : Dev :=
  let ch := d.chanOf line
  let c := d.chan ch
  if c.writes.getLast?.any (fun (r : MemReq) => r.line == line && r.cls == cls && r.src == src) then d
  else
    let d1 := if 64 ≤ c.writes.length then d.issueWrites ch (c.writes.length - 63) else d
    let c1 := d1.chan ch
    let ws := c1.writes ++ [({ cls := cls, line := line, at_ := d.now, src := src } : MemReq)]
    d1.setChan ch { c1 with writes := ws, draining := c1.draining || decide (d.val 0x220005 ≤ ws.length) }

/-- The lines of a posted write join their channels' write queues. -/
def Dev.queueWrite (d : Dev) (cls src a n : Nat) : Dev := (linesOf a n).foldl (fun (d : Dev) (l : Nat) => d.queueLine cls src l) d

/-! ### Inline ECC (R324 to R326) -/

/-- A correction is logged, and EV_ECC_CORRECTED raised at most once per channel per 100 ms, with those since the last event (R325, R449). -/
def Dev.reportCorrected (d : Dev) (line : Nat) : Dev :=
  let ch := d.chanOf line
  let c := d.chan ch
  let since := c.eccSince + 1
  let due := match c.eccAt with | none => true | some t => decide (t + 100000 ≤ d.now)
  let d1 := d.setChan ch { c with eccSince := if due then 0 else since, eccAt := if due then some d.now else c.eccAt }
  (if due then d1.event 0x0A02 ch (line / 64 * 2 ^ 32 + min since 0xFFFF) else d1).logFault 9 ch 0x0A02

/-- A correctable error of DRAM: the line is rewritten, counted and reported (R325). -/
def Dev.corrected (d : Dev) (line : Nat) : Dev :=
  let ch := d.chanOf line
  let c := d.chan ch
  let d1 := { d with dram := { d.dram with upsets := d.dram.upsets.filter (fun u => u.line != line) } }
  ((d1.setChan ch { c with corrected := satAdd 0xFFFF c.corrected 1 }).bump 0x220010).reportCorrected line

/-- An uncorrectable error met by a source (its code per R336): counted, logged and raised; the line is not rewritten (R326). -/
def Dev.uncorrectable (d : Dev) (line src : Nat) : Dev :=
  let ch := d.chanOf line
  let c := d.chan ch
  let d1 := (d.setChan ch { c with uncorrectable := satAdd 0xFFFF c.uncorrectable 1 }).bump 0x220011
  let d2 := { d1 with memlog := { d1.memlog with uAddr := line, uChan := ch, uSource := src, uTack := d.openTack } }
  (d2.event 0x0A03 ch (line / 64 * 2 ^ 32 + src * 2 ^ 24)).logFault 10 ch 0x0A03

/-- Upset lines of the ECC region that a range of addresses touches. -/
def Dev.upsetsIn (d : Dev) (a n : Nat) : List Upset :=
  d.dram.upsets.filter (fun u => d.inEcc u.line && decide (u.line < a + n) && decide (a < u.line + 64))

/-- A source meets some upset lines: single-bit errors are corrected, every uncorrectable line is counted, logged and raised, and the first of them
is what the source goes by (R325, R326). -/
def Dev.meetUpsets (d : Dev) (src : Nat) (us : List Upset) : Option Nat × Dev :=
  let d1 := (us.filter (fun (u : Upset) => !u.double)).foldl (fun (d : Dev) (u : Upset) => d.corrected u.line) d
  ((us.find? (fun (u : Upset) => u.double)).map (fun (u : Upset) => u.line),
    (us.filter (fun (u : Upset) => u.double)).foldl (fun (d : Dev) (u : Upset) => d.uncorrectable u.line src) d1)

/-- What a source that reads a range meets (R325, R326). -/
def Dev.checkEcc (d : Dev) (src a n : Nat) : Option Nat × Dev := d.meetUpsets src (d.upsetsIn a n)

/-- A source reads a range of a buffer. -/
def Dev.checkBuf (d : Dev) (src : Nat) (r : BufRef) (off n : Nat) : Option Nat × Dev :=
  d.checkEcc src ((d.buf r.handle).base + off) n

/-- A source reads a range of a buffer at a class, through the channels' queues (R317, R319, R325, R326). -/
def Dev.fetchBuf (d : Dev) (cls src : Nat) (r : BufRef) (off n : Nat) : Option Nat × Dev := (d.readLines cls src r off n).checkBuf src r off n

/-- Upset lines that a write of a range covers in part: the controller reads and merges them, so they are met (R324, log entry 98). -/
def Dev.partUpsets (d : Dev) (a n : Nat) : List Upset :=
  (d.upsetsIn a n).filter (fun (u : Upset) => !(decide (a ≤ u.line) && decide (u.line + 64 ≤ a + n)))

/-! ### Lost channels and bounds (R327, R334) -/

/-- A channel is lost, and the device has not restarted without it (R334, R335). -/
def Dev.stopped (d : Dev) : Bool := d.dram.lost.isSome && d.dram.lost != d.dram.gone

/-- A range touches the lost channel: requests to it fail (R334). No line lies on two channels. -/
def Dev.lostIn (d : Dev) (a n : Nat) : Bool :=
  d.stopped && (linesOf a n).any (fun (line : Nat) => d.dram.lost.map (·.toNat) == some (d.chanOf line))

/-- A range of a buffer touches the lost channel. -/
def Dev.lostBuf (d : Dev) (r : BufRef) (off n : Nat) : Bool := d.lostIn ((d.buf r.handle).base + off) n

/-- A bounds violation of R327, logged (R338): source code, reference, first offset outside. -/
def Dev.boundsLog (d : Dev) (src : Nat) (r : BufRef) (off : Nat) : Dev :=
  { d with memlog := { d.memlog with
      bSource := src, bHandle := r.gen.toNat * 65536 + r.handle.toNat, bOffset := off, bTack := d.openTack } }.bump 0xB01201

/-- The first offset of a buffer's range that lies outside the buffer (R327). -/
def Dev.beyond (d : Dev) (r : BufRef) (off n : Nat) : Option Nat :=
  if n = 0 ∨ off + n ≤ d.sizeOf r then none else some (max off (d.sizeOf r))

/-- What keeps an engine's requests from a range of a buffer: it reaches outside (R327), or the lost channel (R334); the code, and where
its detail is the first offset outside, that offset. -/
def Dev.barred (d : Dev) (r : BufRef) (off n : Nat) : Option (Nat × Option Nat) :=
  match d.beyond r off n with
  | some o => some (0x0A01, some o)
  | none => if d.lostBuf r off n then some (0x0A04, none) else none

/-- A barred request is logged where it reaches outside its buffer (R327, R338). -/
def Dev.barLog (d : Dev) (src : Nat) (r : BufRef) (b : Nat × Option Nat) : Dev :=
  match b.2 with
  | some o => d.boundsLog src r o
  | none => d

/-- A command whose request is barred fails: with the offset outside as its detail, or one that the spec does not give (R327, R334, log
entry 3). -/
def Dev.failBarred (d : Dev) (src id : Nat) (r : BufRef) (b : Nat × Option Nat) : Dev :=
  match b.2 with
  | some o => (d.boundsLog src r o).failCmd id b.1 (o % 2 ^ 24)
  | none => d.failOpen id b.1

/-- An engine writes bytes of a buffer at a class (R318, R319): lines it covers in part are read first (R324), lines it covers whole lose
their upsets (R325). -/
def Dev.put (d : Dev) (cls src : Nat) (r : BufRef) (off : Nat) (bs : List Byte) : Dev :=
  if bs.isEmpty then d
  else
    let a := (d.buf r.handle).base + off
    let d1 := (d.meetUpsets src (d.partUpsets a bs.length)).2
    let d2 := { d1 with dram := { d1.dram with
      upsets := d1.dram.upsets.filter (fun u => !(decide (a ≤ u.line) && decide (u.line + 64 ≤ a + bs.length))) } }
    (d2.writeMem a bs).queueWrite cls src a bs.length

end Sys2Proof.Machine
end

