-- ==== Sys2Proof/Machine/Session.lean ====
section
/-! DEFINITION. Sessions, apertures, violations, buffers and fences as shared operations (files 02, 03). -/

namespace Sys2Proof.Machine

/-! ### Apertures -/

/-- An aperture descriptor. -/
def Dev.ap (d : Dev) (n : Nat) : Ap := SMap.get {} d.host.aps n
/-- Write an aperture descriptor. -/
def Dev.setAp (d : Dev) (n : Nat) (x : Ap) : Dev := { d with host := { d.host with aps := SMap.set {} d.host.aps n x } }

/-- The device closes every open aperture that a test picks, with a STATUS, and signals vector 2 if any closes (R31). -/
def Dev.closeAps (d : Dev) (p : Ap → Bool) (status : Nat) : Dev :=
  let ns := (List.range 64).filter (fun n => (d.ap n).isOpen && p (d.ap n))
  let d1 := ns.foldl (fun d n => d.setAp n { d.ap n with isOpen := false, status := BitVec.ofNat 4 status }) d
  if ns.isEmpty then d1 else d1.msix 2

/-- Handle and generation of an aperture's target (R30). -/
def Ap.ref (a : Ap) : BufRef := { handle := a.target.setWidth 16, gen := (a.target >>> 16).setWidth 16 }

/-! ### Violations -/

/-- Log a host access violation (R41) and, where its row says so, set VIOL, signal vector 2 and raise the event unless one
was raised less than 100 µs earlier (R42). -/
def Dev.violate (d : Dev) (src addr handle : Nat) (viol : Bool) : Dev :=
  let n := d.host.violSince + 1
  let d1 := { d with host := { d.host with
    violSource := src, violAddr := addr, violHandle := handle, violTack := d.openTack, violSince := n } }.bump 0xB01001
  if !viol then d1
  else
    let d2 := { d1 with host := { d1.host with viol := true } }.msix 2
    let due := match d.host.violAt with | none => true | some t => decide (t + 100 ≤ d.now)
    if due then
      { d2 with host := { d2.host with violSince := 0, violAt := some d.now } }.event 0x0108 src
        (min n 0xFFFF * 2 ^ 48 + addr % 2 ^ 48)
    else d2

/-- A vendor request that is unknown, or whose wLength is above 4,096: stalled and logged (R36, R41). -/
def Dev.unknownRequest (d : Dev) (b : Byte) : Dev := (d.send .stall).violate 6 b.toNat 0 false

/-! ### Buffers -/

/-- Pages of the format's base alignment: 12 KiB for VS48, else 4 KiB (R54). -/
def baseAlign (fmt : Nat) : Nat := if fmt = 5 then 12288 else 4096

/-- Occupied ranges (base, end) of LIVE and FREEING buffers, ascending. -/
def Dev.usedRanges (d : Dev) : List (Nat × Nat) :=
  sortBy (fun (a b : Nat × Nat) => decide (a.1 ≤ b.1))
    ((d.qs.bufs.filter (fun p => p.2.state != .free)).map (fun p => (p.2.base, p.2.base + p.2.size)))

/-- Free extents between a low and a high address, given the used ranges ascending. -/
def freeExtents (lo hi : Nat) : List (Nat × Nat) → List (Nat × Nat)
  | [] => if lo < hi then [(lo, hi)] else []
  | (a, b) :: t => (if lo < min a hi then [(lo, min a hi)] else []) ++ freeExtents (max lo b) hi t

/-- Free extents of the ECC region, or of the rest (R324). -/
def Dev.extents (d : Dev) (ecc : Bool) : List (Nat × Nat) :=
  if ecc then freeExtents d.eccBase (if d.dram.eccGiB = 0 then 0 else d.capacity) d.usedRanges
  else freeExtents 0 (min d.eccBase d.capacity) d.usedRanges

/-- A base on the alignment within an extent that leaves room for a size. -/
def fits (al size : Nat) (e : Nat × Nat) : Bool := decide (ceilDiv e.1 al * al + size ≤ e.2)

/-- A base for a buffer: the free candidate where it is a valid one, else the first fit; the spec leaves the choice open
(R54, log entry 16). -/
def Dev.placeBuf (d : Dev) (fmt size : Nat) (ecc : Bool) : Option Nat :=
  let al := baseAlign fmt
  let ok := (d.extents ecc).filter (fits al size)
  let cand := (d.freeAt 0).toNat * al
  if ok.any (fun e => decide (e.1 ≤ cand) && decide (cand + size ≤ e.2)) then some cand
  else ok.head?.map (fun e => ceilDiv e.1 al * al)

/-- A handle that has never been given out: FREE with generation 1, and not among those freed (R53). -/
def Dev.unused (d : Dev) (n : Nat) : Bool :=
  decide (1 ≤ n) && decide (n < 65536) && d.buf (BitVec.ofNat 16 n) == ({} : Buf) && !d.qs.freed.contains (BitVec.ofNat 16 n)

/-- The first number of a range, by its length and start, that a test picks. -/
def firstFrom (p : Nat → Bool) : Nat → Nat → Option Nat
  | 0, _ => none
  | n + 1, a => if p a then some a else firstFrom p n (a + 1)

/-- The handle FREE longest (R53): one never given out, all of which have been FREE since reset, then those freed, oldest first. Which of the
first kind is open: the free candidate where it is one, else the lowest (log entry 7). -/
def Dev.nextHandle (d : Dev) : Option U16 :=
  let c := 1 + (d.freeAt 1).toNat % 65535
  if 65536 ≤ d.qs.fresh then d.qs.freed.head?
  else if d.unused c then some (BitVec.ofNat 16 c)
  else (firstFrom d.unused 65535 1).map (BitVec.ofNat 16)

/-- Take that handle off the list. -/
def Dev.takeHandle (d : Dev) : Dev :=
  if d.qs.fresh < 65536 then { d with qs := { d.qs with fresh := d.qs.fresh + 1 } }
  else { d with qs := { d.qs with freed := d.qs.freed.drop 1 } }

/-- References of the applied state and of commits, shadows and held items to a buffer (R56, R145, R178). -/
def Item.refs : Item → List BufRef
  | .lens _ (some l) => [l.ref]
  | .layer _ (some l) => [l.ref]
  | _ => []

/-- Buffers that settings in force name. -/
def Applied.refs (a : Applied) : List BufRef :=
  a.lens.filterMap (fun p => p.2.map (·.ref)) ++ a.layers.filterMap (fun p => p.2.map (·.ref))

/-- View-set slots that a list of items selects. -/
def selected (is : List Item) : List Nat := is.filterMap (fun i => match i with | .val 0x212001 v _ => some v | _ => none)

/-- Buffers that a tack not yet retired, the applied state, shadows, commits and held items reference (R56). -/
def Dev.settingRefs (d : Dev) : List BufRef :=
  let pend := d.comp.pend.flatMap (·.items) ++ d.comp.held ++ d.comp.shadow
  let sel := d.tval 0x212001 :: selected (d.comp.pend.flatMap (·.items) ++ d.comp.held)
  d.comp.ap.refs ++ pend.flatMap Item.refs ++ sel.filterMap (fun n => if n < 2 then (d.vslot n).dfn.map (·.ref) else none) ++
    (match d.tack.act with | some t => (t.vset.map (·.ref)).toList | none => [])

/-- Nothing references a FREEING buffer any longer (R56, R93, R122). -/
def Dev.unreferenced (d : Dev) (h : U16) : Bool :=
  let b := d.buf h
  let r : BufRef := { handle := h, gen := b.gen }
  !(d.settingRefs.contains r) &&
  !(d.qs.cmds.any (fun c => decide (c.id < b.freeId) && c.refs.contains r)) &&
  !(d.qs.queues.any (fun p => p.2.state != .disabled && p.2.loc && decide (p.2.base.toNat = b.gen.toNat * 65536 + h.toNat))) &&
  !(d.intake.feeds.any (fun p => p.2.state != .absent && p.2.save = r)) &&
  !(d.intake.slots.any (fun p => p.2.dfn.map (·.ref) = some r ||
    p.2.actions.any (fun a => a.2.map (·.ref) = some r)))

/-- The next generation: wraps from 65,535 to 1 (R53). -/
def nextGen (g : U16) : U16 := if g = 0xFFFF then 1 else g + 1

/-- A FREE completes: space and handle return, the generation advances, EV_BUF_FREED is raised (R56). -/
def Dev.bufFreed (d : Dev) (h : U16) (event : Bool) : Dev :=
  let b := d.buf h
  let d1 := d.setBuf h { gen := nextGen b.gen }
  let d2 := { d1 with qs := { d1.qs with freed := d1.qs.freed ++ [h] } }
  if event then d2.event 0x0105 b.freeQ.toNat (b.freeTag.toNat * 2 ^ 48 + b.gen.toNat * 65536 + h.toNat) else d2

/-! ### USB functions and sessions -/

/-- Product ID of the USB functions: 0x10FF in recovery mode, else the part's number (R33, R36). -/
def Dev.usbProduct (d : Dev) : Nat := if d.pw.state = .recovery then 0x10FF else if d.fuses.md0512 then 0x0512 else 0x1024

/-- The USB functions that are attached enumerate (R33, R36). -/
def Dev.enumerate (d : Dev) : Dev :=
  let d1 := if d.link.ss = 0 then d else d.send (.usbDevice .usb3 0x1F4D d.usbProduct false)
  if d.link.hs then d1.send (.usbDevice .usb2 0x1F4D d.usbProduct d.link.fs) else d1

/-- A full run has failed a partition from 28 on: in recovery mode the device is then reachable only through BIST_CTRL (R463). -/
def Dev.coreFenced (d : Dev) : Bool := (List.range 40).any (fun (p : Nat) => decide (28 ≤ p) && (d.partn p).state == .fenced)

/-- Recovery mode begins: only USB 2.0 is left, and it enumerates anew (R36), but where only BIST_CTRL reaches the device (R463). -/
def Dev.enterRecovery (d : Dev) : Dev :=
  { d with
    pw := { d.pw with state := .recovery, since := d.now }
    link := { d.link with usb4 := 0, ss := 0, hs := d.link.hs && !d.coreFenced, fs := d.link.fs && !d.coreFenced } }.enumerate

/-- The host paths that the boot mode offers and entry 0x2300.03 leaves (R394): bit 0 USB4, bit 1 USB 3.2, bit 2 USB 2.0. STANDALONE keeps
USB 2.0 for update requests. -/
def Dev.paths (d : Dev) : Nat :=
  let mode := if d.fuses.straps = 0 then 7 else if d.fuses.straps = 1 then 6 else 4
  Nat.land d.link.pathEnable mode

/-- A path can carry a session request: one that the boot mode offers, and in recovery mode USB 2.0 alone (R36, R394). -/
def Dev.offers (d : Dev) (p : Path) : Bool :=
  if d.pw.state = .recovery then p == .usb2
  else match p with
    | .pcie => bit d.paths 0
    | .usb3 => bit d.paths 1
    | .usb2 => bit d.paths 2

/-- A path opens the session (R24, R28, R65, R288); that EVR_STATUS.OVERFLOW is cleared too is a DESIGN CHOICE (log entry 91). -/
def Dev.openSession (d : Dev) (p : Path) : Dev :=
  let d1 := { d with
    host := { d.host with owner := some p, sessionCtr := d.host.sessionCtr + 1, unsignalled := 0, timerOn := false }
    ring := { d.ring with dropped := 0, overflow := false, lost := 0, enabled := false, recs := [] } }
  { d1 with qs := { d1.qs with queues := d1.qs.queues.map (fun (q : Nat × Queue) => (q.1, { q.2 with clip := [] })) } }.bump 0x230005

/-- Host DMA pending toward host memory fails with E_HOST_GONE (R40). -/
def Dev.failDmas (d : Dev) : Dev :=
  let ids := d.qs.dmas.map (·.id)
  ids.foldl (fun d i => d.failOpen i 0x0114) { d with qs := { d.qs with dmas := [] } }

/-- A session ends (R40): records are dropped and counted, the ring disabled, DMA failed, apertures and queues closed,
holds released (R64). -/
def Dev.endSession (d : Dev) (gone : Bool) : Dev :=
  match d.host.owner with
  | none => d
  | some _ =>
    let d1 := (if gone then d.bump 0x230006 else d).bumpN 0x230007 d.ring.recs.length
    let d2 := { d1 with
      host := { d1.host with owner := none, unsignalled := 0, timerOn := false }
      ring := { d1.ring with enabled := false, recs := [], tail := 0, head := 0 }
      qs := { d1.qs with
        holds := []
        queues := d1.qs.queues.map (fun (q : Nat × Queue) => (q.1, { q.2 with state := .disabled, tail := q.2.head })) } }
    d2.failDmas.closeAps (fun _ => true) 6

/-- The session of one path ends, if that path holds it. -/
def Dev.endOn (d : Dev) (p : Path) (gone : Bool) : Dev := if d.host.owner = some p then d.endSession gone else d

/-! ### Doorbells (R45, R46) -/

/-- A queue halts with a code (R46). -/
def Dev.haltQueue (d : Dev) (q : QueueId) (code : Nat) : Dev :=
  (d.setQueue q { d.queue q with state := .halted, error := BitVec.ofNat 16 code }).event 0x0107 q.toNat (code * 65536 + (d.queue q).head)

/-- A doorbell value is announced: beyond the ring it halts the queue; a queue that is not RUNNING ignores it (R45, R46). -/
def Dev.ringDoorbell (d : Dev) (q : QueueId) (v : Nat) : Dev :=
  let x := d.queue q
  if x.state ≠ .running then d
  else if 2 ^ x.log2.toNat ≤ v then d.haltQueue q 0x0108
  else d.setQueue q { x with tail := v }

/-! ### Fence slots -/

/-- A WAIT whose slot has been reached completes and releases its queue (R63). -/
def Dev.wakeWait (d : Dev) (q : QueueId) : Dev :=
  match (d.queue q).hold with
  | .wait id slot value _ => if d.reached slot value then (d.hold q .none).finish id else d
  | _ => d

/-- Every WAIT and TACK_HOLD on a slot is looked at again after the slot changed (R63, R64). -/
def Dev.slotMoved (d : Dev) : Dev :=
  let d1 := (d.qs.queues.map (fun p => BitVec.ofNat 6 p.1)).foldl (fun d q => d.wakeWait q) d
  { d1 with qs := { d1.qs with holds := d1.qs.holds.filter (fun h => !d1.reached h.1 h.2) } }

/-- A fence slot becomes the larger of its own value and the FENCE's (R60). -/
def Dev.raiseSlot (d : Dev) (n : Nat) (v : U64) : Dev :=
  if (d.slot n).toNat < v.toNat then
    { d with qs := { d.qs with slots := SMap.set 0 d.qs.slots n v } }.slotMoved
  else d

end Sys2Proof.Machine
end

