-- ==== Sys2Proof/Machine/Queue.lean ====
section
/-! DEFINITION. Queue, buffer-table, fence and host-DMA commands (file 03, R50 to R64): each is dispatched from a queue
after steps 1 and 2 of R51. -/

namespace Sys2Proof.Machine

/-- Check a list of (passes, code, detail) in order; the first that fails rejects the command (R51). -/
def Dev.checked (d : Dev) (q : QueueId) (h : Hdr) (op : Nat) (cs : List (Bool × Nat × Nat)) (f : Dev → Dev) : Dev :=
  match firstBad cs with
  | some (code, det) => d.reject q h op code det
  | none => f d

/-! ### NOP -/

/-- NOP completes at dispatch (R50). -/
def Dev.nop (d : Dev) (q : QueueId) (h : Hdr) : Dev := d.issue q (fun d => d.instant q h 0x01 id)

/-- NOP. -/
def execNop (q : QueueId) (h : Hdr) (s : State) : Host.Outcome State Fault Refusal := runOn s (fun d => d.nop q h)

/-! ### ALLOC, FREE, BUF_FREE_COMPLETE -/

/-- Pitch multiple of a format; 0 for UNTYPED and undefined ones (R280). -/
def pitchMul (fmt : Nat) : Nat := if fmt = 3 then 128 else if fmt = 5 then 192 else if fmt = 1 ∨ fmt = 2 ∨ fmt = 4 then 64 else 0

/-- The pitch rule of the ALLOC body (R53). -/
def allocPitch (fmt pitch : Nat) : Bool :=
  if fmt = 0 then pitch == 0 else pitch != 0 && pitch % pitchMul fmt == 0 && decide (pitch ≤ 131072)

/-- The largest free extent of ALLOC's region, in units of 64 KiB (R54), rounded down (DESIGN CHOICE, log entry 92). -/
def Dev.largestFree (d : Dev) (ecc : Bool) : Nat := ((d.extents ecc).foldl (fun m e => max m (e.2 - e.1)) 0) / 65536

/-- Give out a handle with a buffer at a base (R54). -/
def Dev.newBuf (d : Dev) (n : U16) (base size : Nat) (b : AllocBody) : Dev :=
  d.takeHandle.setBuf n { state := .live, gen := (d.buf n).gen, base := base, size := size, fmt := b.fmt.toNat, ecc := b.ecc, pitch := b.pitch.toNat }

/-- ALLOC after its checks: E_NO_HANDLE, E_NO_MEMORY, or a new buffer (R54); the order of the two is a DESIGN CHOICE (log entry 92). -/
def Dev.allocate (d : Dev) (q : QueueId) (h : Hdr) (b : AllocBody) : Dev :=
  let size := ceilDiv b.size.toNat 4096 * 4096
  if d.dram.up = false ∧ d.dram.lost.isSome = true then d.rejectOpen q h 0x02 0x0A04
  else match d.nextHandle with
  | none => d.rejectOpen q h 0x02 0x0104
  | some n =>
    match d.placeBuf b.fmt.toNat size b.ecc with
    | none => d.reject q h 0x02 0x0A02 (d.largestFree b.ecc)
    | some base => d.useFree.instant q h 0x02 (fun d => d.newBuf n base size b) ((d.buf n).gen.toNat * 65536 + n.toNat)

/-- ALLOC: checks in offset order (R51, R54). -/
def Dev.alloc (d : Dev) (q : QueueId) (h : Hdr) (b : AllocBody) : Dev :=
  d.issue q (fun d => d.checked q h 0x02
    [(decide (1 ≤ b.size.toNat) && decide (b.size.toNat ≤ 137438953472), 0x0102, 8), (decide (b.fmt.toNat ≤ 5), 0x0102, 16),
     (allocPitch b.fmt.toNat b.pitch.toNat, 0x0102, 20)] (fun d => d.allocate q h b))

/-- ALLOC. -/
def execAlloc (q : QueueId) (h : Hdr) (b : AllocBody) (s : State) : Host.Outcome State Fault Refusal :=
  runOn s (fun d => d.alloc q h b)

/-- The definition that work dispatched now sees in a slot: the latest DEFINE, UNDEFINE or FREE, waiting ones included
(R121, R122; DESIGN CHOICE, log entry 94); a FREE leaves the ACTIVE slot defined. -/
def Dev.slotDef (d : Dev) (n : Nat) : Option VSet :=
  let x := d.vslot n
  let last := match x.actions.getLast? with | some (i, v) => (i, v) | none => (0, x.dfn)
  match x.freeing with
  | some f => if last.1 < f ∧ d.tval 0x212001 ≠ n then none else last.2
  | none => last.2

/-- A FREE of a save area deletes its feeds, one of a slot's buffer undefines the slot unless it is ACTIVE, once earlier
DECODEs have completed (R93, R122). -/
def Dev.freeMarks (d : Dev) (r : BufRef) (id : Nat) : Dev :=
  { d with intake := { d.intake with
      feeds := d.intake.feeds.map (fun (p : Nat × Feed) =>
        if p.2.state ≠ .absent ∧ p.2.save = r ∧ p.2.freeing = none then (p.1, { p.2 with freeing := some id }) else p)
      slots := d.intake.slots.map (fun (p : Nat × Slot) =>
        if (d.slotDef p.1).map (·.ref) = some r ∨ (p.2.dfn.map (·.ref) = some r ∧ p.2.freeing = none) then
          (p.1, { p.2 with freeing := some id }) else p) } }

/-- A FREE is accepted: the entry is FREEING and its apertures close with STATUS FREED (R55). -/
def Dev.freeBuf (d : Dev) (q : QueueId) (h : Hdr) (r : BufRef) (id : Nat) : Dev :=
  ((d.setBuf r.handle { d.buf r.handle with state := .freeing, freeQ := q, freeTag := h.tag, freeId := id }).closeAps
    (fun a => a.ref.handle = r.handle) 4).freeMarks r id

/-- FREE: handle 0, then the handle (R55). -/
def Dev.free_ (d : Dev) (q : QueueId) (h : Hdr) (r : BufRef) : Dev :=
  d.issue q (fun d => d.checked q h 0x03 [(r.handle != 0, 0x0102, 8), (d.live r, 0x0111, 8)]
    (fun d => d.instant q h 0x03 (fun e => e.freeBuf q h r d.qs.nextId)))

/-- FREE. -/
def execFree (q : QueueId) (h : Hdr) (b : BufRef) (s : State) : Host.Outcome State Fault Refusal :=
  runOn s (fun d => d.free_ q h b)

/-- A FREEING buffer that nothing references any longer completes its FREE (R56). -/
def Dev.bufFreeComplete (d : Dev) (n : U16) : Dev :=
  if (d.buf n).state = .freeing ∧ d.unreferenced n = true then d.bufFreed n true else d

/-- BUF_FREE_COMPLETE. -/
def execBufFreeComplete (handle : U16) (s : State) : Host.Outcome State Fault Refusal :=
  runOn s (fun d => d.bufFreeComplete handle)

/-! ### QUERY -/

/-- State code of a buffer-table entry (R57). -/
def BufState.code : BufState → Nat
  | .free => 0
  | .live => 1
  | .freeing => 2

/-- The 32-byte record of a buffer-table entry (R57); handle 0 has generation 0 (R49). -/
def Dev.bufRecord (d : Dev) (n : Nat) : List Byte :=
  let b := d.buf (BitVec.ofNat 16 n)
  let (rs, rv) := match b.ready with | none => (0xFFFF, 0) | some (s, v) => (s, v.toNat)
  leBytes 2 n ++ leBytes 2 (if n = 0 then 0 else b.gen.toNat) ++ leBytes 1 b.state.code ++ leBytes 1 b.fmt ++
    leBytes 1 b.ecc.toNat ++ leBytes 1 0 ++ leBytes 4 b.pitch ++ leBytes 2 rs ++ leBytes 2 0 ++ leBytes 8 b.size ++ leBytes 8 rv

/-- The snapshot: records of 32 bytes or slots of 8 (R57). -/
def Dev.snapshot (d : Dev) (kind first count : Nat) : List Byte :=
  (List.range count).flatMap (fun i => if kind = 0 then d.bufRecord (first + i) else leBytes 8 (d.slot (first + i)).toNat)

/-- Entries or slots of a kind. -/
def queryTop (kind : Nat) : Nat := if kind = 0 then 65536 else 4096

/-- QUERY: handle, then the fields in offset order, the range last (R57). -/
def Dev.query (d : Dev) (q : QueueId) (h : Hdr) (b : QueryBody) : Dev :=
  let n := b.count.toNat
  let top := queryTop b.kind.toNat
  let len := n * (if b.kind = 0 then 32 else 8)
  d.issue q (fun d =>
    if b.loc = 1 ∧ d.live b.ref = false then d.reject q h 0x04 0x0111 10
    else if 1 < b.kind.toNat then d.reject q h 0x04 0x0102 8
    else if 1 < b.loc.toNat then d.reject q h 0x04 0x0102 9
    else if b.loc = 0 ∧ d.host.owner ≠ some .pcie then d.rejectOpen q h 0x04 0x0115
    else d.checked q h 0x04
      [(decide (b.first.toNat < top), 0x0102, 24), (decide (1 ≤ n) && decide (b.first.toNat + n ≤ top), 0x0102, 28),
       (b.loc == 0 || decide (b.dest.toNat + len ≤ d.sizeOf b.ref), 0x0A01, boundsDetail (d.sizeOf b.ref) b.dest.toNat)]
      (fun d => if b.loc = 1 ∧ d.lostBuf b.ref b.dest.toNat len = true then d.rejectOpen q h 0x04 0x0A04 else d.instant q h 0x04 (fun e =>
        if b.loc = 0 then e.send (.hostWrite b.dest (d.snapshot b.kind.toNat b.first.toNat n))
        else e.put 1 queueSrc b.ref b.dest.toNat (d.snapshot b.kind.toNat b.first.toNat n)) n))

/-- QUERY. -/
def execQuery (q : QueueId) (h : Hdr) (b : QueryBody) (s : State) : Host.Outcome State Fault Refusal :=
  runOn s (fun d => d.query q h b)

/-! ### FENCE, WAIT, TACK_HOLD -/

/-- The value is above every value signalled or pending on the slot (R61). -/
def Dev.fenceOrder (d : Dev) (slot : Nat) (v : U64) : Bool :=
  decide ((d.slot slot).toNat < v.toNat) && d.qs.fences.all (fun f => f.slot != slot || decide (f.value.toNat < v.toNat))

/-- The next command is a FENCE: it ends its queue's run of covered commands, however it fares (R61). -/
def Dev.markFence (d : Dev) (q : QueueId) : Dev := d.setQueue q { d.queue q with lastFence := d.qs.nextId, failed := none }

/-- A FENCE that passed its checks starts waiting, binds its buffer, and is a barrier (R60 to R62). -/
def Dev.startFence (d : Dev) (q : QueueId) (h : Hdr) (b : FenceBody) : Dev :=
  let id := d.qs.nextId
  let d1 := (d.markFence q).dispatch q h 0x08 (if b.ref.handle = 0 then [] else [b.ref])
  let d2 := if b.ref.handle = 0 then d1
    else d1.setBuf b.ref.handle { d1.buf b.ref.handle with ready := some (b.slot.toNat, b.value) }
  let rec_ : FenceRec :=
    { id := id, after := (d.queue q).lastFence, q := q, slot := b.slot.toNat, value := b.value, event := b.event,
      ignoreErrors := b.ignoreErrors, drain := if b.drainPush then (d.tack.act.map (·.seq)).toList else [],
      failed := (d.queue q).failed }
  let d3 := { d2 with qs := { d2.qs with fences := d2.qs.fences ++ [rec_] } }
  if b.noBarrier then d3 else d3.hold q (.barrier id)

/-- FENCE: handle, slot, order (R51, R61). -/
def Dev.fence (d : Dev) (q : QueueId) (h : Hdr) (b : FenceBody) : Dev :=
  d.issue q (fun d =>
    match firstBad [(b.ref.handle == 0 || d.live b.ref, 0x0111, 12), (decide (b.slot.toNat < 4096), 0x0102, 8),
      (d.fenceOrder b.slot.toNat b.value, 0x0105, 16)] with
    | some (code, det) => (d.markFence q).reject q h 0x08 code det
    | none => d.startFence q h b)

/-- FENCE. -/
def execFence (q : QueueId) (h : Hdr) (b : FenceBody) (s : State) : Host.Outcome State Fault Refusal :=
  runOn s (fun d => d.fence q h b)

/-- Every command of its queue dispatched before the FENCE has completed, and the drained tacks have retired (R60). -/
def Dev.fenceReady (d : Dev) (f : FenceRec) : Bool :=
  d.qs.cmds.all (fun c => decide (c.q ≠ f.q) || decide (f.id ≤ c.id)) &&
  (match d.tack.act with | none => true | some t => !f.drain.contains t.seq)

/-- A barrier ends with its FENCE. -/
def Dev.liftBarrier (d : Dev) (q : QueueId) (id : Nat) : Dev := if (d.queue q).hold = .barrier id then d.hold q .none else d

/-- A ready FENCE fails as poisoned, or signals (R60, R61). -/
def Dev.fenceEnd (d : Dev) (f : FenceRec) : Dev :=
  let d1 := ({ d with qs := { d.qs with fences := d.qs.fences.filter (fun g => g.id != f.id) } }).liftBarrier f.q f.id
  match if f.ignoreErrors then none else f.failed with
  | some (_, tag) => d1.failCmd f.id 0x0109 tag.toNat
  | none =>
    let d2 := d1.finish f.id
    let d3 := if f.event then d2.event 0x0104 f.slot f.value.toNat else d2
    d3.raiseSlot f.slot f.value

/-- The oldest pending FENCE of a queue, if it is ready, ends. -/
def Dev.fenceSignal (d : Dev) (q : QueueId) : Dev :=
  match d.qs.fences.find? (fun f => f.q == q) with
  | some f => if d.fenceReady f then d.fenceEnd f else d
  | none => d

/-- FENCE_SIGNAL. -/
def execFenceSignal (q : QueueId) (s : State) : Host.Outcome State Fault Refusal := runOn s (fun d => d.fenceSignal q)

/-- WAIT: completes at once where its slot is reached, else holds its queue (R63). -/
def Dev.wait (d : Dev) (q : QueueId) (h : Hdr) (b : WaitBody) : Dev :=
  d.issue q (fun d => d.checked q h 0x09 [(decide (b.slot.toNat < 4096), 0x0102, 8)] (fun d =>
    if d.reached b.slot.toNat b.value then d.instant q h 0x09 id
    else (d.dispatch q h 0x09 []).hold q (.wait d.qs.nextId b.slot.toNat b.value (b.timeout != 0))))

/-- WAIT. -/
def execWait (q : QueueId) (h : Hdr) (b : WaitBody) (s : State) : Host.Outcome State Fault Refusal :=
  runOn s (fun d => d.wait q h b)

/-- The timeout of a WAIT runs out: it fails with E_WAIT_TIMEOUT and the queue continues (R63). -/
def Dev.waitTimeout (d : Dev) (q : QueueId) : Dev :=
  match (d.queue q).hold with
  | .wait id _ _ true => (d.hold q .none).failOpen id 0x0106
  | _ => d

/-- WAIT_TIMEOUT. -/
def execWaitTimeout (q : QueueId) (s : State) : Host.Outcome State Fault Refusal := runOn s (fun d => d.waitTimeout q)

/-- TACK_HOLD: a hold in force until its slot is reached; the command completes at once. An edge that has not yet sealed or
broadcast no longer does: the next edge after the release counts (R64, R209). -/
def Dev.tackHold (d : Dev) (q : QueueId) (h : Hdr) (b : WaitBody) : Dev :=
  d.issue q (fun d => d.checked q h 0x0A [(decide (b.slot.toNat < 4096), 0x0102, 8)] (fun d =>
    d.instant q h 0x0A (fun e =>
      if d.reached b.slot.toNat b.value then e
      else { e with
        qs := { e.qs with holds := e.qs.holds ++ [(b.slot.toNat, b.value)] }
        tack := { e.tack with edgeDue := false, flips := e.tack.flips.map (fun (f : Flip) => { f with armed := false }) } })))

/-- TACK_HOLD. -/
def execTackHold (q : QueueId) (h : Hdr) (b : WaitBody) (s : State) : Host.Outcome State Fault Refusal :=
  runOn s (fun d => d.tackHold q h b)

/-! ### Host DMA -/

/-- A DMA is checked and starts: path, handle, length, bounds (R58). -/
def Dev.dma (d : Dev) (out : Bool) (q : QueueId) (h : Hdr) (b : DmaBody) : Dev :=
  let op := if out then 0x11 else 0x10
  d.issue q (fun d =>
    if d.host.owner ≠ some .pcie then d.rejectOpen q h op 0x0115
    else d.checked q h op
      [(d.live b.ref, 0x0111, 8), (decide (1 ≤ b.len.toNat) && decide (b.len.toNat ≤ 67108864), 0x0102, 32),
       (decide (b.offset.toNat + b.len.toNat ≤ d.sizeOf b.ref), 0x0A01, boundsDetail (d.sizeOf b.ref) b.offset.toNat)]
      (fun d =>
        let x : DmaRec := { id := d.qs.nextId, out := out, ref := b.ref, offset := b.offset.toNat, host := b.host, len := b.len.toNat }
        let d1 := d.dispatch q h op [b.ref]
        { d1 with qs := { d1.qs with dmas := d1.qs.dmas ++ [x] } }))

/-- DMA_IN starts (R58). -/
def Dev.dmaIn (d : Dev) (q : QueueId) (h : Hdr) (b : DmaBody) : Dev := d.dma false q h b

/-- DMA_IN. -/
def execDmaIn (q : QueueId) (h : Hdr) (b : DmaBody) (s : State) : Host.Outcome State Fault Refusal :=
  runOn s (fun d => d.dmaIn q h b)

/-- DMA_OUT starts (R58). -/
def Dev.dmaOut (d : Dev) (q : QueueId) (h : Hdr) (b : DmaBody) : Dev := d.dma true q h b

/-- DMA_OUT. -/
def execDmaOut (q : QueueId) (h : Hdr) (b : DmaBody) (s : State) : Host.Outcome State Fault Refusal :=
  runOn s (fun d => d.dmaOut q h b)

/-- Source code of a host path in the memory logs (R336): kind 1, the path as instance. -/
def hostSrc (p : Path) : Nat := 16 + (match p with | .pcie => 0 | .usb3 => 1 | .usb2 => 2)

/-- A DMA toward the host ends: its bytes are sent, or an uncorrectable line fails it (R58, R326). -/
def Dev.dmaOutEnd (d : Dev) (x : DmaRec) : Dev :=
  match d.fetchBuf 3 (hostSrc .pcie) x.ref x.offset x.len with
  | (some _, d1) => d1.failOpen x.id 0x0A03
  | (none, d1) => (d1.send (.hostWrite x.host (d1.readBuf x.ref x.offset x.len))).finish x.id

/-- A DMA finishes: with the host's bytes for DMA_IN, with an error completion (none) that fails it (R58), or with requests that are not
issued (R327, R334). A DMA_IN that ends with an error completion has written none of its bytes (DESIGN CHOICE, log entry 106). -/
def Dev.dmaComplete (d : Dev) (id : Nat) (host : Option (List Byte)) : Dev :=
  match d.qs.dmas.find? (fun x => x.id == id) with
  | none => d
  | some x =>
    let d1 := { d with qs := { d.qs with dmas := d.qs.dmas.filter (fun y => y.id != id) } }
    match host with
    | none => d1.failOpen id 0x0116
    | some bs =>
      match d1.barred x.ref x.offset x.len with
      | some b => d1.failBarred (hostSrc .pcie) id x.ref b
      | none =>
        if x.out then d1.dmaOutEnd x
        else if bs.length = x.len then (d1.put 3 (hostSrc .pcie) x.ref x.offset bs).finish id
        else d

/-- DMA_COMPLETE. -/
def execDmaComplete (id : Nat) (host : Option (List Byte)) (s : State) : Host.Outcome State Fault Refusal :=
  runOn s (fun d => d.dmaComplete id host)

end Sys2Proof.Machine
end

