-- ==== Sys2Proof/Machine/Mark.lean ====
section
/-! DEFINITION. The gleaner's dirty maps (R199, R201) and which sails are deliverable (R150, R200): the shared marking
operation that every cause of marking uses. Plot (column, row) has number row × 64 + column. -/

namespace Sys2Proof.Machine

/-- Applied lens map of a sail. -/
def Dev.lensOf (d : Dev) (s : SailId) : Option Lens := SMap.get none d.comp.ap.lens s.toNat

/-- The sail has an applied map and is not in MISMATCH: marks for it count (R150). -/
def Dev.mapped (d : Dev) (s : SailId) : Bool := (d.lensOf s).isSome && !(d.sail s).mismatch

/-- The mast is enabled in entry 0x2000.0F (R200). -/
def Dev.mastEnabled (d : Dev) (m : MastId) : Bool := bit (d.tval 0x20000F) m.toNat

/-- The mast is in service: trained, a retrain or rate change included (R200, R261). -/
def Mast.inService (x : Mast) : Bool := x.state == .service || x.state == .retrain || x.state == .rateChange

/-- A sail is deliverable (R200). -/
def Dev.deliverable (d : Dev) (s : SailId) : Bool :=
  d.mastEnabled (mastOf s) && (d.mast (mastOf s)).inService && (d.sail s).reach == .service && d.mapped s

/-- Number of a plot. -/
def plotNo (col row : Nat) : Nat := row * 64 + col

/-- The plots of a rectangle of plot columns and rows, ends exclusive, as a map. -/
def rectMask (c0 c1 r0 r1 : Nat) : BitVec 2048 :=
  let row := 2 ^ min c1 64 - 2 ^ min c0 64
  (List.range 32).foldl (fun m r => if r0 ≤ r ∧ r < r1 then m ||| BitVec.ofNat 2048 (row * 2 ^ (64 * r)) else m) 0

/-- The plots that exist on a sail of a map's width and height (R150). -/
def Lens.plots (l : Lens) : BitVec 2048 := rectMask 0 (l.width / 64) 0 (l.height / 64)

/-- The bits of one plot row. -/
def rowBitsOf (x : BitVec 2048) (r : Nat) : Nat := x.toNat / 2 ^ (64 * r) % 2 ^ 64

/-- The number of set bits of a map. -/
def popcount (x : BitVec 2048) : Nat := (List.range 2048).countP (fun i => x.getLsbD i)

/-- The plots of a map, in ascending order. -/
def plotsOf (x : BitVec 2048) : List Nat := (List.range 2048).filter (fun i => x.getLsbD i)

/-- Marks new plots of a sail in the OPEN map: the rows' first sequence and last time follow (R199, R201). -/
def Sail.mark (x : Sail) (new : BitVec 2048) (seq : U32) (now : Nat) : Sail :=
  let rows := (List.range 32).filter (fun r => rowBitsOf new r != 0)
  { x with
    dirty := x.dirty ||| new
    rowSeq := rows.foldl (fun t r => if rowBitsOf x.dirty r = 0 then SMap.set none t r (some seq) else t) x.rowSeq
    rowTime := rows.foldl (fun t r => SMap.set 0 t r now) x.rowTime }

/-- Mark plots of a sail in the OPEN map; marks for a sail without a map in force, of plots that do not exist or are dirty
already, change nothing (R150, R199). -/
def Dev.markPlots (d : Dev) (s : SailId) (mask : BitVec 2048) : Dev :=
  match d.lensOf s with
  | none => d
  | some l =>
    let x := d.sail s
    let new := mask &&& l.plots &&& ~~~x.dirty
    if x.mismatch || new == 0 then d else d.setSail s (x.mark new d.openTack d.now)

/-- Mark every plot of a sail. -/
def Dev.markSail (d : Dev) (s : SailId) : Dev := d.markPlots s (BitVec.allOnes 2048)

/-- The sails that have an applied map. -/
def Dev.lensSails (d : Dev) : List SailId := d.comp.ap.lens.map (fun p => BitVec.ofNat 10 p.1)

/-- Mark every plot of every sail that a test picks. -/
def Dev.markSails (d : Dev) (p : SailId → Lens → Bool) : Dev :=
  (d.lensSails.filter (fun s => match d.lensOf s with | some l => p s l | none => false)).foldl (fun d s => d.markSail s) d

/-- Plots dirty in the OPEN map (entry 0x2000.0D). -/
def Dev.dirtyOpen (d : Dev) : Nat := d.push.sails.foldl (fun n p => n + popcount p.2.dirty) 0

/-- The map references a view (R137): the views it uses are base to base + U × V − 1. -/
def Lens.uses (l : Lens) (v : Nat) : Bool := decide (l.base ≤ v) && decide (v < l.base + l.nu * l.nv)

/-- The slot selected in the applied state, if any (R118); none once a MAST reset has dropped the selection (R391). -/
def Dev.activeSlot (d : Dev) : Option Nat :=
  let n := d.tval 0x212001
  if d.intake.dropSelect = false ∧ n < 2 ∧ (d.vslot n).dfn.isSome then some n else none

/-- Definition of the ACTIVE slot. -/
def Dev.activeSet (d : Dev) : Option VSet := d.activeSlot.bind (fun n => (d.vslot n).dfn)

end Sys2Proof.Machine
end

