-- ==== Sys2Proof/Machine/Crc.lean ====
section
/-! DEFINITION. The three checks of the spec: CRC-32C (R71), the CRC-16 of the link (R230) and CRC-32 (R301). -/

namespace Sys2Proof.Machine

/-- One bit of a reflected CRC register. -/
def crcRefBit (poly r : Nat) : Nat := if r % 2 = 1 then Nat.xor (r / 2) poly else r / 2

/-- n bits of a reflected CRC register. -/
def crcRefBits (poly : Nat) : Nat → Nat → Nat
  | 0, r => r
  | n + 1, r => crcRefBits poly n (crcRefBit poly r)

/-- A reflected 32-bit CRC register fed with bytes. -/
def crcRef (poly : Nat) : Nat → List Byte → Nat
  | r, [] => r
  | r, b :: t => crcRef poly (crcRefBits poly 8 (Nat.xor r b.toNat)) t

/-- CRC-32C: reflected polynomial 0x82F6_3B78, initial and final 0xFFFF_FFFF (R71). -/
def crc32c (bs : List Byte) : Nat := Nat.xor (crcRef 0x82F63B78 0xFFFFFFFF bs) 0xFFFFFFFF

/-- CRC-32: reflected polynomial 0xEDB8_8320 (R301). -/
def crc32 (bs : List Byte) : Nat := Nat.xor (crcRef 0xEDB88320 0xFFFFFFFF bs) 0xFFFFFFFF

/-- n bits of the CRC-16 register, most significant bit first. -/
def crc16Bits : Nat → Nat → Nat
  | 0, r => r
  | n + 1, r => crc16Bits n (if 0x8000 ≤ r then Nat.xor (r * 2 % 0x10000) 0x1021 else r * 2)

/-- CRC-16, polynomial 0x1021, initial 0xFFFF, neither reflected nor inverted (R230, R237). -/
def crc16 (bs : List Byte) : Nat := bs.foldl (fun r b => crc16Bits 8 (Nat.xor r (b.toNat * 256))) 0xFFFF

end Sys2Proof.Machine
end

