-- ==== Sys2Proof/Machine/Pvz.lean ====
section
/-! DEFINITION. The Plovnoiz sheaf decoder (file 04): header, directory, entropy tables, tokens, and the first fault of
R88 with its positions. -/

namespace Sys2Proof.Machine

/-- A fault of a sheaf: its code, the two words of EV_ERROR_DETAIL (R107), and the output offset by which token and view
faults are ordered (R133). -/
structure PFault where
  code : Nat
  hi : Nat
  lo : Nat
  at_ : Nat := 0
  deriving DecidableEq, Repr

/-- A sheaf header (R70). -/
structure SheafHdr where
  seed : Bool
  kind : Nat
  reuse : Bool
  lanes : Nat
  outLen : Nat
  compLen : Nat
  seq : Nat
  crc : Nat
  deriving DecidableEq, Repr

/-- Header fields of the 32 bytes at the start of a sheaf (R70). -/
def sheafHdr (s : List Byte) : SheafHdr :=
  { seed := field s 4 1 == 1, kind := field s 5 1, reuse := bit (field s 6 1) 0, lanes := field s 7 1,
    outLen := field s 8 4, compLen := field s 12 4, seq := field s 16 4, crc := field s 20 4 }

/-- E_SHEAF_HEADER at an input offset. -/
def hdrFault (off : Nat) : PFault := { code := 0x0208, hi := off, lo := 0 }

/-- The first fault of a list of checks. -/
def firstFault : List (Bool × PFault) → Option PFault
  | [] => none
  | (ok, f) :: t => if ok then firstFault t else some f

/-- The largest output or compressed length (R70). -/
def sheafMax : Nat := 268435456

/-- Steps 1 to 8 of R88. -/
def hdrChecks (s : List Byte) : Option PFault :=
  let h := sheafHdr s
  firstFault
    [(slice s 0 3 == [0x50#8, 0x56#8, 0x5A#8], hdrFault 0), (field s 3 1 == 2, hdrFault 3),
     (field s 4 1 == 1 || field s 4 1 == 2, hdrFault 4), (decide (h.kind ≤ 2), hdrFault 5),
     (decide (field s 6 1 ≤ 1) && !(h.reuse && (h.seed || h.kind == 0)), hdrFault 6),
     (decide (1 ≤ h.lanes) && decide (h.lanes ≤ 16) && (h.kind != 0 || h.lanes == 1), hdrFault 7),
     (decide (1 ≤ h.outLen) && decide (h.outLen ≤ sheafMax), hdrFault 8),
     (decide (1 ≤ h.compLen) && decide (h.compLen ≤ sheafMax) && (h.kind != 0 || h.compLen == h.outLen), hdrFault 12)]

/-- The table offset that R70 requires. -/
def tableOffset (h : SheafHdr) : Nat := if h.kind != 0 && !h.reuse then 32 + 8 * h.lanes else 0

/-- Steps 9 and 10 of R88, on the header. -/
def formChecks (s : List Byte) : Option PFault :=
  firstFault [(field s 24 4 == tableOffset (sheafHdr s), hdrFault 24), (field s 28 4 == 0, hdrFault 28)]

/-- Steps 11 to 14 of R88, against the feed: FAULTED, has history, expected sequence. -/
def seqChecks (s : List Byte) (faulted hasHist : Bool) (expSeq : Nat) : Option PFault :=
  let h := sheafHdr s
  let crc := crc32c (slice s 32 h.compLen)
  firstFault
    [(crc == h.crc, { code := 0x0207, hi := 20, lo := crc }),
     (h.seed || !faulted, { code := 0x020A, hi := 4, lo := 0 }),
     (h.seed || hasHist, { code := 0x0205, hi := 4, lo := 0 }),
     (h.seed || h.seq == expSeq, { code := 0x0206, hi := 16, lo := expSeq })]

/-- Segment and stream lengths of the lanes (R77). -/
def laneDir (s : List Byte) (n : Nat) : List (Nat × Nat) :=
  (List.range n).map (fun k => (field s (32 + 8 * k) 4, field s (36 + 8 * k) 4))

/-- Step 15 of R88: the directory lies within the payload, and each length is at least 1. -/
def dirChecks (s : List Byte) (h : SheafHdr) : Option PFault :=
  if h.compLen < 8 * h.lanes then some (hdrFault 12)
  else firstFault ((List.range (2 * h.lanes)).map (fun i => (decide (1 ≤ field s (32 + 4 * i) 4), hdrFault (32 + 4 * i))))

/-! ### Entropy tables -/

/-- The bits of bytes, bit 0 of the first byte first (R78). -/
def bitsOf (bs : List Byte) : List Bool := bs.flatMap (fun b => (List.range 8).map (fun i => b.getLsbD i))

/-- The value of n bits, the first the least significant (R78). -/
def bitsVal : List Bool → Nat
  | [] => 0
  | b :: t => (if b then 1 else 0) + 2 * bitsVal t

/-- A table read from the block: precision, symbols with frequencies in ascending order, and the bytes it took. -/
structure FreqTable where
  p : Nat
  freqs : List (Nat × Nat)
  size : Nat
  deriving DecidableEq, Repr

/-- E_TABLE at an input offset, in table t. -/
def tabFault (off t : Nat) : PFault := { code := 0x0209, hi := off, lo := t }

/-- LIST entries in order, checked in the order of their bytes (R80): symbol below the alphabet size and ascending, then
frequency 1 to N. -/
def listEntries (s : List Byte) (t a n lim : Nat) : Nat → Nat → Option Nat → List (Nat × Nat) → Except PFault (List (Nat × Nat))
  | 0, _, _, acc => .ok acc.reverse
  | k + 1, off, prev, acc =>
    if lim < off + 1 then .error (tabFault off t)
    else
      let sy := field s off 1
      if a ≤ sy || (match prev with | some q => decide (sy ≤ q) | none => false) then .error (tabFault off t)
      else if lim < off + 3 then .error (tabFault (off + 1) t)
      else
        let f := field s (off + 1) 2
        if f = 0 || n < f then .error (tabFault (off + 1) t)
        else listEntries s t a n lim k (off + 3) (some sy) ((sy, f) :: acc)

/-- Sum of frequencies. -/
def freqSum (l : List (Nat × Nat)) : Nat := l.foldl (fun acc x => acc + x.2) 0

/-- One table at an input offset (R79, R80): t its number, a the alphabet size, maxP its limit, lim the end of the payload. -/
def readTable (s : List Byte) (t a maxP lim off : Nat) : Except PFault FreqTable :=
  if lim < off + 1 then .error (tabFault off t)
  else
    let b := field s off 1
    let mode := b / 16
    let p := b % 16
    let n := 2 ^ p
    if 3 ≤ mode then .error (tabFault off t)
    else if mode = 0 then
      if p ≠ 0 then .error (tabFault off t)
      else if lim < off + 2 then .error (tabFault (off + 1) t)
      else if a ≤ field s (off + 1) 1 then .error (tabFault (off + 1) t)
      else .ok { p := 0, freqs := [(field s (off + 1) 1, 1)], size := 2 }
    else if p = 0 || maxP < p then .error (tabFault off t)
    else if mode = 1 then
      if lim < off + 2 then .error (tabFault (off + 1) t)
      else
        match listEntries s t a n lim (field s (off + 1) 1 + 1) (off + 2) none [] with
        | .error e => .error e
        | .ok l =>
          if n < freqSum l then .error (tabFault off t)
          else .ok { p := p, freqs := l, size := 2 + 3 * l.length }
    else
      let size := 1 + ceilDiv (a * (p + 1)) 8
      if lim < off + size then
        .error (tabFault (off + 1 + (lim - (off + 1)) * 8 / (p + 1) * (p + 1) / 8) t)
      else
        let bits := bitsOf (slice s (off + 1) (size - 1))
        let fr := (List.range a).map (fun i => (i, bitsVal ((bits.drop (i * (p + 1))).take (p + 1))))
        if (bits.drop (a * (p + 1))).any id then .error (tabFault (off + 1 + a * (p + 1) / 8) t)
        else if freqSum fr = 0 || n < freqSum fr then .error (tabFault off t)
        else .ok { p := p, freqs := fr.filter (fun x => x.2 != 0), size := size }

/-- A decode entry of a slot (R82). -/
structure Dec where
  sym : Nat
  nb : Nat
  base : Nat
  deriving DecidableEq, Repr

/-- A built table: precision and the slots, none unassigned. -/
structure DecTable where
  p : Nat
  slots : List (Option Dec)
  deriving DecidableEq, Repr

/-- Put a symbol in n slots of the spreading walk (R81): the slots and the position reached. -/
def placeSym (n step s : Nat) : Nat → List (Option Nat) × Nat → List (Option Nat) × Nat
  | 0, x => x
  | k + 1, (l, pos) => placeSym n step s k (l.set pos (some s), (pos + step) % n)

/-- The symbols of the slots (R81). -/
def spread (ft : FreqTable) : List (Option Nat) :=
  let n := 2 ^ ft.p
  let step := (n / 2 + n / 8 + 1) / 2 * 2 + 1
  (ft.freqs.foldl (fun acc x => placeSym n step x.1 x.2 acc) (List.replicate n none, 0)).1

/-- Decode entries in ascending slot order; `seen` counts the slots below that hold each symbol (R82). -/
def decEntries (p : Nat) (fr : List (Nat × Nat)) : List (Option Nat) → SMap Nat → List (Option Dec)
  | [], _ => []
  | none :: t, seen => none :: decEntries p fr t seen
  | some s :: t, seen =>
    let f := ((fr.find? (fun x => x.1 == s)).map (·.2)).getD 0
    let y := f + SMap.get 0 seen s
    let nb := p - Nat.log2 y
    some { sym := s, nb := nb, base := y * 2 ^ nb - 2 ^ p } :: decEntries p fr t (SMap.ins seen s (SMap.get 0 seen s + 1))

/-- The decode entries of a table (R81, R82). -/
def buildTable (ft : FreqTable) : DecTable := { p := ft.p, slots := decEntries ft.p ft.freqs (spread ft) [] }

/-- The literal, length and distance tables. -/
structure Tables where
  lit : DecTable
  len : DecTable
  dist : DecTable
  deriving DecidableEq, Repr

/-- The table block at an offset (R79): the tables and the block's length. -/
def readTables (s : List Byte) (off lim : Nat) : Except PFault (Tables × Nat) :=
  match readTable s 0 256 12 lim off with
  | .error e => .error e
  | .ok a =>
    match readTable s 1 48 11 lim (off + a.size) with
    | .error e => .error e
    | .ok b =>
      match readTable s 2 40 11 lim (off + a.size + b.size) with
      | .error e => .error e
      | .ok c => .ok ({ lit := buildTable a, len := buildTable b, dist := buildTable c }, a.size + b.size + c.size)

/-! ### Tokens -/

/-- Why a lane stops: illegal code, length overrun, distance, or exhaustion of the destination. -/
inductive LaneStop where
  | illegal | past | overrun | distance | exhausted
  deriving DecidableEq, Repr

/-- A lane while it decodes: unread bits, bits read, the three states. -/
structure Lane where
  bits : List Bool
  pos : Nat
  lit : Nat
  len : Nat
  dist : Nat
  deriving DecidableEq, Repr

/-- Read n bits (R78); none past the end of the stream. -/
def Lane.read (l : Lane) (n : Nat) : Option (Nat × Lane) :=
  if l.bits.length < n then none
  else some (bitsVal (l.bits.take n), { l with bits := l.bits.drop n, pos := l.pos + n })

/-- Decode a symbol from a state (R82). -/
def Lane.sym (l : Lane) (t : DecTable) (x : Nat) : Except (LaneStop × Lane) (Nat × Nat × Lane) :=
  match t.slots.getD x none with
  | none => .error (.illegal, l)
  | some e =>
    match l.read e.nb with
    | none => .error (.past, l)
    | some (v, l1) => .ok (e.sym, e.base + v, l1)

/-- Extra bits and base of length_value (R84). -/
def lengthForm (q : Nat) : Nat × Nat :=
  if q < 4 then (q, 0)
  else if q < 16 then
    let m := 2 + (q - 4) / 2
    ((2 + (q - 4) % 2) * 2 ^ (m - 1), m - 1)
  else (2 ^ (q - 8), q - 8)

/-- Extra bits and base of distance_value (R85). -/
def distForm (c : Nat) : Nat × Nat :=
  if c < 4 then (c + 1, 0) else (1 + (2 + c % 2) * 2 ^ (c / 2 - 1), c / 2 - 1)

/-- What a lane produces against a history: the feed's bytes so far, newest first, and how many exist since the SEED. -/
structure Sink where
  rev : List Byte
  total : Nat
  /-- The matches, newest first: bytes since the SEED where each begins, distance, length. -/
  copies : List (Nat × Nat × Nat) := []
  /-- The literal, length and distance symbols that have occurred, as masks (R113). -/
  lits : Nat := 0
  lens : Nat := 0
  dists : Nat := 0
  deriving DecidableEq, Repr

/-- Emit a byte. -/
def Sink.put (k : Sink) (b : Byte) : Sink := { k with rev := b :: k.rev, total := k.total + 1 }

/-- Emit a literal. -/
def Sink.literal (k : Sink) (b : Nat) : Sink := { k.put (BitVec.ofNat 8 b) with lits := k.lits ||| 2 ^ b }

/-- A match begins. -/
def Sink.match_ (k : Sink) (sym dist len : Nat) : Sink :=
  { k with copies := (k.total, dist, len) :: k.copies, dists := k.dists ||| 2 ^ sym }

/-- Emit n literals; stops at output offset `cap` of the sheaf, whose output began at total `h`. -/
def literals (tb : Tables) (h cap : Nat) : Nat → Lane → Sink → Except (LaneStop × Lane × Sink) (Lane × Sink)
  | 0, l, k => .ok (l, k)
  | n + 1, l, k =>
    match l.sym tb.lit l.lit with
    | .error (e, l1) => .error (e, l1, k)
    | .ok (b, x, l1) =>
      if cap ≤ k.total - h then .error (.exhausted, l1, k)
      else literals tb h cap n { l1 with lit := x } (k.literal b)

/-- Copy n bytes from distance d back, byte by byte (R83); a byte before the valid history of a restored area is a free value (log entry
107). -/
def copyBytes (h cap d : Nat) : Nat → Sink → Except Sink Sink
  | 0, k => .ok k
  | n + 1, k => if cap ≤ k.total - h then .error k else copyBytes h cap d n (k.put (k.rev.getD (d - 1) (Config.lostHistory k.rev d)))

/-- One token; `left` bytes of the segment remain (R83, R89). -/
def token (tb : Tables) (h cap left : Nat) (l : Lane) (k : Sink) : Except (LaneStop × Lane × Sink) (Lane × Sink) :=
  match l.sym tb.len l.len with
  | .error (e, l1) => .error (e, l1, k)
  | .ok (c, x, l1) =>
    let k := { k with lens := k.lens ||| 2 ^ c }
    let lf := lengthForm (c % 24)
    match Lane.read { l1 with len := x } lf.2 with
    | none => .error (.past, l1, k)
    | some (e, l2) =>
      let v := lf.1 + e
      if c < 24 then
        if left < v + 1 then .error (.overrun, l2, k) else literals tb h cap (v + 1) l2 k
      else if left < v + 4 then .error (.overrun, l2, k)
      else
        match l2.sym tb.dist l2.dist with
        | .error (e2, l3) => .error (e2, l3, k)
        | .ok (dc, xd, l3) =>
          let df := distForm dc
          match Lane.read { l3 with dist := xd } df.2 with
          | none => .error (.past, l3, k)
          | some (e3, l4) =>
            let dd := df.1 + e3
            if 1048575 < dd then .error (.illegal, l4, k)
            else if k.total < dd then .error (.distance, l4, k)
            else
              match copyBytes h cap dd (v + 4) (k.match_ dc dd (v + 4)) with
              | .error k1 => .error (.exhausted, l4, k1)
              | .ok k1 => .ok (l4, k1)

/-- The outcome of a lane that stops: why, the lane, what was produced, the output offset of the failing token's first byte. -/
abbrev LaneFail := LaneStop × Lane × Sink × Nat

/-- Decode tokens until the segment ends at total `stop`; the fuel bounds the tokens by the bytes left. -/
def tokens (tb : Tables) (h cap stop : Nat) : Nat → Lane → Sink → Except LaneFail (Lane × Sink)
  | 0, l, k => .ok (l, k)
  | n + 1, l, k =>
    if stop ≤ k.total then .ok (l, k)
    else if cap ≤ k.total - h then .error (.exhausted, l, k, k.total - h)
    else
      match token tb h cap (stop - k.total) l k with
      | .error (e, l1, k1) => .error (e, l1, k1, k.total - h)
      | .ok (l1, k1) => tokens tb h cap stop n l1 k1

/-- The three initial states (R83). -/
def laneStart (tb : Tables) (bits : List Bool) : Option Lane :=
  match Lane.read { bits := bits, pos := 0, lit := 0, len := 0, dist := 0 } tb.lit.p with
  | none => none
  | some (a, l1) =>
    match l1.read tb.len.p with
    | none => none
    | some (b, l2) =>
      match l2.read tb.dist.p with
      | none => none
      | some (c, l3) => some { l3 with lit := a, len := b, dist := c }

/-- The error code of a lane's stop. -/
def LaneStop.code : LaneStop → Nat
  | .illegal => 0x0201
  | .past => 0x0201
  | .overrun => 0x0203
  | .distance => 0x0202
  | .exhausted => 0x0204

/-- A token fault of lane k whose stream starts at an input offset (R88, R89, R107). -/
def laneFault (k off len : Nat) (e : LaneStop) (pos outOff : Nat) : PFault :=
  { code := e.code, hi := if e = .past then off + len else off + pos / 8, lo := k * 2 ^ 28 + outOff, at_ := outOff }

/-- A fault at a lane's end, or before its first token: no output offset applies (R86, R107). -/
def laneEndFault (k off at_ : Nat) : PFault := { code := 0x0201, hi := off, lo := k * 2 ^ 28 + 0xFFFFFFF, at_ := at_ }

/-- Decode the lanes in order (R83, R86, R87): the sink, and the first fault. -/
def decodeLanes (tb : Tables) (s : List Byte) (h cap outLen : Nat) :
    List (Nat × Nat) → Nat → Nat → Sink → Sink × Option PFault
  | [], _, _, k => (k, none)
  | (seg, str) :: rest, n, off, k =>
    if cap ≤ k.total - h then (k, some { code := 0x0204, hi := cap, lo := outLen - cap, at_ := cap })
    else
      match laneStart tb (bitsOf (slice s off str)) with
      | none => (k, some { laneEndFault n (off + str) (k.total - h) with lo := n * 2 ^ 28 + 0xFFFFFFF })
      | some l =>
        match tokens tb h cap (k.total + seg) seg l k with
        | .error (e, l1, k1, o) =>
          if e = .exhausted then (k1, some { code := 0x0204, hi := cap, lo := outLen - cap, at_ := cap })
          else (k1, some (laneFault n off str e l1.pos o))
        | .ok (l1, k1) =>
          if 8 ≤ l1.bits.length then (k1, some (laneEndFault n (off + str) (k1.total - h)))
          else if l1.bits.any id then (k1, some (laneEndFault n (off + l1.pos / 8) (k1.total - h)))
          else decodeLanes tb s h cap outLen rest (n + 1) (off + str) k1

/-- The result of a sheaf: what it produced (all of it, or what came before the fault), its fault, its table block. -/
structure Decoded where
  out : List Byte
  fault : Option PFault
  block : Option (List Byte)
  /-- The matches: output offset, distance, length. -/
  copies : List (Nat × Nat × Nat) := []
  deriving DecidableEq, Repr

/-- Tables of a sheaf and the offset where its streams start; a stored block is read as it was received (R75, step 17). -/
def sheafTables (s : List Byte) (h : SheafHdr) (stored : Option (List Byte)) : Except PFault (Tables × Nat × List Byte) :=
  if h.reuse then
    match stored with
    | none => .error { code := 0x0209, hi := 6, lo := 0 }
    | some b =>
      match readTables b 0 b.length with
      | .error e => .error e
      | .ok (t, _) => .ok (t, 32 + 8 * h.lanes, b)
  else
    match readTables s (32 + 8 * h.lanes) (32 + h.compLen) with
    | .error e => .error e
    | .ok (t, n) => .ok (t, 32 + 8 * h.lanes + n, slice s (32 + 8 * h.lanes) n)

/-- Steps 15 to 19 of R88 for LZ and VIEW, with the destination's capacity (R108). -/
def decodeLz (s : List Byte) (h : SheafHdr) (c : FeedCtx) (cap : Nat) : Decoded :=
  match dirChecks s h with
  | some f => { out := [], fault := some f, block := none }
  | none =>
    let dir := laneDir s h.lanes
    if dir.foldl (fun a x => a + x.1) 0 ≠ h.outLen then { out := [], fault := some (hdrFault 8), block := none }
    else
      match sheafTables s h c.tables with
      | .error f => { out := [], fault := some f, block := none }
      | .ok (tb, off, blk) =>
        if off + dir.foldl (fun a x => a + x.2) 0 ≠ 32 + h.compLen then
          { out := [], fault := some (hdrFault 12), block := none }
        else
          let k0 : Sink := if h.seed then { rev := [], total := 0 } else { rev := c.hist.reverse, total := c.total }
          let r := decodeLanes tb s k0.total cap h.outLen dir 0 off k0
          { out := (r.1.rev.take (r.1.total - k0.total)).reverse, fault := r.2, block := some blk,
            copies := r.1.copies.reverse.map (fun (c : Nat × Nat × Nat) => (c.1 - k0.total, c.2)) }

/-- A RAW sheaf (R76) against the capacity (R108). -/
def decodeRaw (s : List Byte) (h : SheafHdr) (cap : Nat) : Decoded :=
  if cap < h.outLen then
    { out := slice s 32 cap, fault := some { code := 0x0204, hi := cap, lo := h.outLen - cap, at_ := cap }, block := none }
  else { out := slice s 32 h.outLen, fault := none, block := none }

/-- The payload of a sheaf against a feed's context, its header and CRC left aside (R76, R83). -/
def decodePayload (s : List Byte) (c : FeedCtx) (cap : Nat) : Decoded :=
  let h := sheafHdr s
  if h.kind = 0 then decodeRaw s h cap else decodeLz s h c cap

/-! ### The scoreboard (R87, R105) -/

/-- Where the segments of a sheaf begin in its output. -/
def segStarts : List (Nat × Nat) → Nat → List Nat
  | [], _ => []
  | (seg, _) :: t, a => a :: segStarts t (a + seg)

/-- The lane whose segment holds an output offset. -/
def laneAt (starts : List Nat) (o : Nat) : Nat := starts.countP (fun a => decide (a ≤ o)) - 1

/-- The next byte that a lane waits for, by what the scoreboard records of each lane: the bytes of its own segment before it, the
lower-numbered lane that writes it, and the bytes that lane has then written (R105). -/
def nextStall (starts : List Nat) (score : SMap Nat) (lane : Nat) : List (Nat × Nat × Nat) → Option (Nat × Nat × Nat)
  | [] => none
  | (o, dist, len) :: t =>
    let a := starts.getD lane 0
    let waits := (List.range len).find? (fun i => decide (SMap.get 0 score lane ≤ o + i - a) && decide (dist ≤ o + i) && decide (o + i - dist < a) &&
      decide (SMap.get 0 score (laneAt starts (o + i - dist)) ≤ o + i - dist - starts.getD (laneAt starts (o + i - dist)) 0))
    match if laneAt starts o = lane then waits else none with
    | some i =>
      let j := laneAt starts (o + i - dist)
      some (o + i - a, j, o + i - dist - starts.getD j 0 + 1)
    | none => nextStall starts score lane t

/-- How far the unit of a lane can have written the lane's segment: up to the byte that it waits for, or to the end (R105). -/
def laneReach (dir : List (Nat × Nat)) (score : SMap Nat) (copies : List (Nat × Nat × Nat)) (lane : Nat) : Nat :=
  match nextStall (segStarts dir 0) score lane copies with
  | some w => w.1
  | none => (dir.getD lane (0, 0)).1

/-- A lane can hold one of the four lane units: they take lanes in ascending order, and fewer than four lower-numbered lanes still wait (R105). -/
def laneHeld (dir : List (Nat × Nat)) (score : SMap Nat) (copies : List (Nat × Nat × Nat)) (lane : Nat) : Bool :=
  decide ((List.range lane).countP (fun (j : Nat) => (nextStall (segStarts dir 0) score j copies).isSome) < 4)

/-- The scoreboard after a match of a lane resumes: the lower-numbered lane has then written the byte that the match waited for, which its own
unit can have done, and the lane its copy (R105). -/
def resumeScore (dir : List (Nat × Nat)) (score : SMap Nat) (copies : List (Nat × Nat × Nat)) (lane : Nat) : Option (SMap Nat) :=
  match nextStall (segStarts dir 0) score lane copies with
  | some (own, low, n) =>
    if laneHeld dir score copies lane && decide (n ≤ laneReach dir score copies low) then
      some (SMap.set 0 (SMap.set 0 score low n) lane (own + 1))
    else none
  | none => none

/-- A whole sheaf against a feed's context, after the checks of R96 (steps 9 to 19 of R88). -/
def decodeSheaf (s : List Byte) (faulted hasHist : Bool) (c : FeedCtx) (cap : Nat) : Decoded :=
  match (match formChecks s with | some f => some f | none => seqChecks s faulted hasHist c.seq.toNat) with
  | some f => { out := [], fault := some f, block := none }
  | none => decodePayload s c cap

/-- The context after a successful sheaf (R73 to R75, R104). -/
def FeedCtx.after (c : FeedCtx) (h : SheafHdr) (r : Decoded) : FeedCtx :=
  let hist := (if h.seed then [] else c.hist) ++ r.out
  { hist := hist.drop (hist.length - 1048576)
    total := (if h.seed then 0 else c.total) + r.out.length
    seq := BitVec.ofNat 32 (h.seq + 1)
    tables := if h.kind = 0 then (if h.seed then none else c.tables) else r.block }

end Sys2Proof.Machine
end

