-- ==== Sys2Proof/Machine/Views.lean ====
section
/-! DEFINITION. View sets (file 06): sample formats and transfer curves, the residual stream and its reconstruction, and
the view-set slots. -/

namespace Sys2Proof.Machine

/-! ### Sample formats (R115 to R117, R120) -/

/-- Bytes of a stored sample (R279): 4, 8 for RGBA16, 6 for VS48. -/
def sampleSize (fmt : Nat) : Nat := if fmt = 3 then 8 else if fmt = 5 then 6 else 4

/-- Largest n, built from its bits downward, whose k-th power is at most a: the floor of the k-th root below 2^bits. -/
def rootBits (k a : Nat) : Nat → Nat → Nat
  | 0, acc => acc
  | i + 1, acc => if (acc + 2 ^ i) ^ k ≤ a then rootBits k a i (acc + 2 ^ i) else rootBits k a i acc

/-- POWER22: round(65,535 × (c ÷ 1,023)^2.2), half up: the largest n with (2n − 1)^5 × 1,023^11 ≤ 131,070^5 × c^11 (R117). -/
def power22 (c : Nat) : Nat :=
  let ok := fun n => (2 * n - 1) ^ 5 * 1023 ^ 11 ≤ 131070 ^ 5 * c ^ 11
  (List.range 16).foldr (fun i acc => if ok (acc + 2 ^ i) then acc + 2 ^ i else acc) 0

/-- SMPTE ST 2084 EOTF of c ÷ 1,023, over 10,000 cd/m², in units of 2^−64, by floored roots (R117; the constants m1 =
2610/16384, m2 = 2523/32, c1 = 107/128, c2 = 2413/128, c3 = 2392/128 are the standard's: PRESUMED, log entry 18). -/
def pqUnit (c : Nat) : Nat :=
  let x := rootBits 2523 (c ^ 32 * 2 ^ (64 * 2523) / 1023 ^ 32) 65 0
  let num := x - 107 * 2 ^ 57
  let r := num * 128 * 2 ^ 64 / (2413 * 2 ^ 64 - 2392 * x)
  rootBits 1305 (r ^ 8192 / 2 ^ (64 * (8192 - 1305))) 65 0

/-- PQ: min(65,535, round(65,535 × Y ÷ PQ_PEAK)), half up (R117). -/
def pqLinear (peak c : Nat) : Nat :=
  min 65535 ((2 * 65535 * 10000 * pqUnit c + peak * 2 ^ 64) / (2 * peak * 2 ^ 64))

/-- Linear value of a 10-bit code under a curve, 1 PQ, 2 POWER22 (R117). -/
def linear10 (curve peak c : Nat) : Nat := if curve = 1 then pqLinear peak c else power22 c

/-- A channel of a stored sample as its code: VS32 10 bits, VS48 16 bits (R115, R116). -/
def sampleCode (fmt : Nat) (bs : List Byte) (ch : Nat) : Nat :=
  if fmt = 5 then field bs (2 * ch) 2 else leNat bs / 2 ^ (20 - 10 * ch) % 1024

/-- Bytes of a row of a view (R119). -/
def VSet.pitch (v : VSet) : Nat := v.width * sampleSize v.fmt
/-- Buffer offset of a sample (R120). -/
def VSet.offset (v : VSet) (view x y : Nat) : Nat := view * (v.pitch * v.height) + y * v.pitch + x * sampleSize v.fmt
/-- Bits per channel (R128). -/
def VSet.bits (v : VSet) : Nat := if v.fmt = 5 then 16 else 10
/-- Tiles of a view (R124). -/
def VSet.tiles (v : VSet) : Nat := (v.width / 64) * (v.height / 64)
/-- A stored code of a view. -/
def Dev.viewCode (d : Dev) (v : VSet) (view x y ch : Nat) : Nat :=
  sampleCode v.fmt (d.readBuf v.ref (v.offset view x y) (sampleSize v.fmt)) ch

/-! ### The residual stream (R124 to R127, R131, R133) -/

/-- A tile record: view, tile, header, residual values. -/
structure TileRec where
  view : Nat
  tile : Nat
  hdr : Nat
  z : List Nat
  deriving DecidableEq, Repr

/-- The residuals of a tile (R126): how many remain, and the bytes; none where the bytes end inside the record. -/
def residuals : Nat → List Byte → Option (List Nat × List Byte)
  | 0, bs => some ([], bs)
  | _ + 1, [] => none
  | n + 1, b :: t =>
    if b.toNat ≤ 0xFC then (residuals n t).map (fun r => (b.toNat :: r.1, r.2))
    else if b = 0xFD then
      match t with
      | lo :: hi :: u => (residuals n u).map (fun r => ((lo.toNat + 256 * hi.toNat) :: r.1, r.2))
      | _ => none
    else if b = 0xFE then
      match t with
      | k :: u => (residuals (n - k.toNat) u).map (fun r => (List.replicate (min (k.toNat + 1) (n + 1)) 0 ++ r.1, r.2))
      | [] => none
    else some (List.replicate (n + 1) 0, t)

/-- A tile header that R125 allows. -/
def tileHdrOk (h : Nat) : Bool := !bit h 0 && (bit h 31 || (h / 2 ^ 30 % 2 == 0 && h / 2 % 2 ^ 26 == 0))

/-- What a run's reconstruction rests on, taken at dispatch (R123): target, ACTIVE definition, target PENDING. -/
structure RunCtx where
  target : VSet
  active : Option VSet
  pending : Bool
  deriving DecidableEq, Repr

/-- An INTER tile's reference is valid (R131). -/
def refOk (c : RunCtx) (view h : Nat) : Bool :=
  let rv := h / 2 % 256
  if !bit h 31 then true
  else if !bit h 30 then decide (rv < view)
  else match c.active with
    | some a => c.pending && a.fmt == c.target.fmt && a.curve == c.target.curve && a.peak == c.target.peak &&
        a.width == c.target.width && a.height == c.target.height && decide (rv < a.count)
    | none => false

/-- Position words of E_TILE_HEADER and E_NO_REFERENCE (R133). -/
def tilePos (view tile low : Nat) : Nat := view % 256 * 2 ^ 24 + tile % 65536 * 2 ^ 8 + low

/-- Tile records from an output offset (R124 to R126): how many are due, and the records before the first fault. A header that breaks R131 and
has no reference fails as E_TILE_HEADER (DESIGN CHOICE, log entry 116). -/
def tileRecs (c : RunCtx) (view0 first total : Nat) : Nat → Nat → List Byte → List TileRec × Option PFault
  | 0, off, bs =>
    let last := first + total - 1
    let pos := tilePos (view0 + last / c.target.tiles) (last % c.target.tiles) 0
    ([], if bs.isEmpty then none else some { code := 0x0303, hi := off, lo := pos, at_ := off })
  | n + 1, off, bs =>
    let i := first + (total - (n + 1))
    let view := view0 + i / c.target.tiles
    let tile := i % c.target.tiles
    let h := field bs 0 4
    let cut : PFault := { code := 0x0303, hi := off + bs.length, lo := tilePos view tile 0, at_ := off + bs.length }
    if bs.length < 4 then ([], some cut)
    else if !tileHdrOk h then ([], some { code := 0x0303, hi := off, lo := tilePos view tile 0, at_ := off })
    else if !refOk c view h then ([], some { code := 0x0301, hi := off, lo := tilePos view tile (h / 2 % 256), at_ := off })
    else
      match residuals 12288 (bs.drop 4) with
      | none => ([], some cut)
      | some (z, rest) =>
        let r := tileRecs c view0 first total n (off + (bs.length - rest.length)) rest
        ({ view := view, tile := tile, hdr := h, z := z } :: r.1, r.2)

/-- The run prefix is one that R124 allows: the first fault of its fields, its completeness before its range (DESIGN CHOICE, log entry 116). -/
def prefixFault (c : RunCtx) (view0 : Nat) (bs : List Byte) : Option PFault :=
  let first := field bs 0 4
  let count := field bs 4 4
  if bs.length < 8 then
    some { code := 0x0303, hi := bs.length, lo := tilePos view0 0xFFFF 0, at_ := bs.length }
  else if c.target.tiles ≤ first then some { code := 0x0302, hi := 0, lo := first, at_ := 0 }
  else if count = 0 ∨ (c.target.count - view0) * c.target.tiles < first + count then
    some { code := 0x0302, hi := 4, lo := count, at_ := 4 }
  else none

/-- A residual run (R124): the tile records before the first fault, and the fault. -/
def viewRun (c : RunCtx) (view0 : Nat) (bs : List Byte) : List TileRec × Option PFault :=
  match prefixFault c view0 bs with
  | some f => ([], some f)
  | none => tileRecs c view0 (field bs 0 4) (field bs 4 4) (field bs 4 4) 8 (bs.drop 8)

/-! ### Reconstruction (R127 to R130, R132) -/

/-- The signed residual of z (R127). -/
def unzig (z : Nat) : Int := if z % 2 = 0 then (z / 2 : Nat) else -((z / 2 : Nat) : Int) - 1

/-- A sample from its prediction (R130). -/
def reconSample (bits near pred : Nat) (q : Int) : Nat :=
  if near = 0 then wrapInt bits (pred + q)
  else (max 0 (min ((2 ^ bits - 1 : Nat) : Int) (pred + q * ((2 * near + 1 : Nat) : Int)))).toNat

/-- The median predictor of an INTRA tile (R128). -/
def medPred (a b c : Nat) : Nat := if max a b ≤ c then min a b else if c ≤ min a b then max a b else a + b - c

/-- One row of an INTRA channel: residuals, the row above, the samples to the left and above-left (none at x = 0), and
whether it is the top row. -/
def intraRow (bits near : Nat) (top : Bool) : List Int → List Nat → Option (Nat × Nat) → List Nat
  | [], _, _ => []
  | q :: qs, above, left =>
    let b := above.headD 0
    let pred := match left with
      | none => if top then 2 ^ (bits - 1) else b
      | some (a, c) => if top then a else medPred a b c
    let s := reconSample bits near pred q
    s :: intraRow bits near top qs above.tail (some (s, b))

/-- The rows of an INTRA channel, from the row above them. -/
def intraRows (bits near : Nat) : Bool → List (List Int) → List Nat → List (List Nat)
  | _, [], _ => []
  | top, q :: qs, above =>
    let r := intraRow bits near top q above none
    r :: intraRows bits near false qs r

/-- A coordinate held within 0 to n − 1. -/
def clampTo (n : Nat) (x : Int) : Nat := (max 0 (min ((n - 1 : Nat) : Int) x)).toNat

/-- The prediction of an INTER sample (R129), from the set and view that the header names. -/
def Dev.interPred (d : Dev) (v : VSet) (view : Nat) (dx dy : Int) (x y ch : Nat) : Nat :=
  let x2 := 2 * (x : Int) + dx
  let y2 := 2 * (y : Int) + dy
  let xi := x2 / 2
  let yi := y2 / 2
  let fx := (x2 % 2).toNat
  let fy := (y2 % 2).toNat
  let ref := fun (u w : Int) => d.viewCode v view (clampTo v.width u) (clampTo v.height w) ch
  ((2 - fx) * (2 - fy) * ref xi yi + fx * (2 - fy) * ref (xi + 1) yi + (2 - fx) * fy * ref xi (yi + 1) +
    fx * fy * ref (xi + 1) (yi + 1) + 2) / 4

/-- The set that an INTER header reads. -/
def RunCtx.refSet (c : RunCtx) (h : Nat) : VSet := if bit h 30 then c.active.getD c.target else c.target

/-- Reconstructed rows of one channel of a tile. -/
def Dev.tileChannel (d : Dev) (c : RunCtx) (t : TileRec) (ch : Nat) : List (List Nat) :=
  let near := t.hdr / 2 ^ 27 % 8
  let res := fun (x y : Nat) => unzig (t.z.getD ((y * 64 + x) * 3 + ch) 0)
  if bit t.hdr 31 then
    let x0 := 64 * (t.tile % (c.target.width / 64))
    let y0 := 64 * (t.tile / (c.target.width / 64))
    (List.range 64).map (fun y => (List.range 64).map (fun x =>
      reconSample c.target.bits near
        (d.interPred (c.refSet t.hdr) (t.hdr / 2 % 256) (sext 9 (t.hdr / 2 ^ 9)) (sext 9 (t.hdr / 2 ^ 18)) (x0 + x) (y0 + y) ch)
        (res x y)))
  else intraRows c.target.bits near true ((List.range 64).map (fun y => (List.range 64).map (fun x => res x y))) (List.replicate 64 0)

/-- The stored bytes of a sample from its three codes. -/
def sampleBytes (fmt r g b : Nat) : List Byte :=
  if fmt = 5 then leBytes 2 r ++ leBytes 2 g ++ leBytes 2 b else leBytes 4 (r * 2 ^ 20 + g * 2 ^ 10 + b)

/-- Buffer offset of a row of a tile. -/
def VSet.tileRow (v : VSet) (view tile y : Nat) : Nat :=
  v.offset view (64 * (tile % (v.width / 64))) (64 * (tile / (v.width / 64)) + y)

/-- A source reconstructs one tile into the store (R128 to R130, R132). -/
def Dev.reconTile (d : Dev) (src : Nat) (c : RunCtx) (t : TileRec) : Dev :=
  let r := d.tileChannel c t 0
  let g := d.tileChannel c t 1
  let b := d.tileChannel c t 2
  (List.range 64).foldl (fun e y =>
    e.put 2 src c.target.ref (c.target.tileRow t.view t.tile y)
      ((List.range 64).flatMap (fun x =>
        sampleBytes c.target.fmt ((r.getD y []).getD x 0) ((g.getD y []).getD x 0) ((b.getD y []).getD x 0)))) d

/-- The samples of the tiles a run addresses become unspecified (R106, R133). -/
def Dev.scrambleRun (d : Dev) (c : RunCtx) (view0 first count : Nat) : Dev :=
  (List.range count).foldl (fun e i =>
    let view := view0 + (first + i) / c.target.tiles
    let tile := (first + i) % c.target.tiles
    (List.range 64).foldl (fun e y =>
      e.scramble ((e.buf c.target.ref.handle).base + c.target.tileRow view tile y) (64 * sampleSize c.target.fmt)) e) d

/-! ### Jobs that target a slot -/

/-- Every DECODE and encode job dispatched and not completed. -/
def Dev.jobs (d : Dev) : List Job := d.intake.threshers.flatMap (fun p => p.2.jobs) ++ d.intake.waiting.map (·.1)

/-- A DECODE into a slot. -/
def Job.targets (n : Nat) : Job → Option Nat
  | .decode id b _ _ _ => if b.viewTarget ∧ b.viewSet.toNat = n then some id else none
  | .encode _ _ => none

/-- No DECODE that targets the slot and was dispatched before an id is still running (R121, R122). -/
def Dev.slotQuiet (d : Dev) (n id : Nat) : Bool := (d.jobs.filterMap (Job.targets n)).all (fun i => decide (id ≤ i))

/-! ### VIEWSET_DEFINE (R119, R121, R122) -/

/-- The slot is ACTIVE or selected by a pending commit (R121). -/
def Dev.slotInUse (d : Dev) (n : Nat) : Bool :=
  d.activeSlot == some n || (selected (d.comp.pend.flatMap (·.items) ++ d.comp.held)).contains n

/-- The definition a DEFINE names. -/
def viewSetOf (b : ViewSetBody) : VSet :=
  { ref := b.ref, fmt := b.fmt.toNat, curve := b.curve.toNat, count := b.count.toNat, width := b.width.toNat,
    height := b.height.toNat, peak := b.peak.toNat }

/-- Width or height within R118's limits. -/
def viewDim (n : Nat) : Bool := decide (64 ≤ n) && decide (n ≤ 16384) && n % 64 == 0

/-- Checks of a DEFINE's fields, sample count and buffer (R119 steps 2 to 4). -/
def Dev.defineChecks (d : Dev) (b : ViewSetBody) : List (Bool × Nat × Nat) :=
  let v := viewSetOf b
  let x := d.buf b.ref.handle
  [(v.fmt == 4 || v.fmt == 5, 0x0102, 14),
   (if v.fmt = 5 then v.curve == 0 else v.curve == 1 || v.curve == 2, 0x0102, 15),
   (decide (1 ≤ v.count) && decide (v.count ≤ 256), 0x0102, 16), (viewDim v.width, 0x0302, 18), (viewDim v.height, 0x0302, 20),
   (if v.curve = 1 then decide (100 ≤ v.peak) && decide (v.peak ≤ 10000) else v.peak == 0, 0x0102, 22),
   (decide (v.count * v.width * v.height ≤ 8589934592), 0x0302, 16),
   (x.fmt == v.fmt && x.pitch == v.pitch && decide (v.count * v.pitch * v.height ≤ x.size), 0x0302, 10)]

/-- Checks of an UNDEFINE's fields (R119 step 2). -/
def undefineChecks (b : ViewSetBody) : List (Bool × Nat × Nat) :=
  [(b.ref.handle == 0, 0x0102, 10), (b.ref.gen == 0, 0x0102, 12), (b.fmt == 0, 0x0102, 14), (b.curve == 0, 0x0102, 15),
   (b.count == 0, 0x0102, 16), (b.width == 0, 0x0102, 18), (b.height == 0, 0x0102, 20), (b.peak == 0, 0x0102, 22)]

/-- The first waiting DEFINE or UNDEFINE of a slot applies once earlier DECODEs into it have completed (R121). -/
def Dev.slotAction (d : Dev) (n : Nat) : Dev :=
  let x := d.vslot n
  match x.actions with
  | [] => d
  | (id, v) :: rest =>
    if d.slotQuiet n id then
      (d.setVslot n { dfn := v, actions := rest, freeing := x.freeing.filter (fun f => decide (id < f)) }).finish id
    else d

/-- VIEWSET_DEFINE (R119): checked, then waiting for earlier DECODEs, or applied at once. -/
def Dev.viewsetDefine (d : Dev) (q : QueueId) (h : Hdr) (b : ViewSetBody) : Dev :=
  let n := b.slot.toNat
  d.issue q (fun d => d.checked q h 0x28
    ([(b.action != 0 || d.live b.ref, 0x0111, 10), (decide (n ≤ 1), 0x0102, 8), (decide (b.action.toNat ≤ 1), 0x0102, 9)] ++
     (if b.action = 0 then d.defineChecks b else undefineChecks b) ++ [(!d.slotInUse n, 0x0102, 8)])
    (fun d =>
      let id := d.qs.nextId
      let d1 := d.dispatch q h 0x28 (if b.action = 0 then [b.ref] else [])
      (d1.setVslot n { d1.vslot n with actions := (d1.vslot n).actions ++ [(id, if b.action = 0 then some (viewSetOf b) else none)] }).slotAction n))

/-- VIEWSET_DEFINE. -/
def execViewsetDefine (q : QueueId) (h : Hdr) (b : ViewSetBody) (s : State) : Host.Outcome State Fault Refusal :=
  runOn s (fun d => d.viewsetDefine q h b)

/-- The next DEFINE or UNDEFINE of a slot takes effect (R121). -/
def Dev.viewsetDefineTakesEffect (d : Dev) (slot : BitVec 1) : Dev := d.slotAction slot.toNat

/-- VIEWSET_DEFINE_TAKES_EFFECT. -/
def execViewsetDefineTakesEffect (slot : BitVec 1) (s : State) : Host.Outcome State Fault Refusal :=
  runOn s (fun d => d.viewsetDefineTakesEffect slot)

/-- A slot whose buffer was freed becomes UNDEFINED once earlier DECODEs into it have completed; the ACTIVE slot stays (R122). A slot that a
pending commit selects is no exception (DESIGN CHOICE, log entry 116). -/
def Dev.pendingSlotFreeEffect (d : Dev) (slot : BitVec 1) : Dev :=
  let n := slot.toNat
  let x := d.vslot n
  match x.freeing with
  | none => d
  | some id =>
    if d.slotQuiet n id ∧ d.activeSlot ≠ some n ∧ x.actions.all (fun a => decide (id < a.1)) = true then
      d.setVslot n { x with dfn := none, freeing := none }
    else d

/-- PENDING_SLOT_FREE_EFFECT. -/
def execPendingSlotFreeEffect (slot : BitVec 1) (s : State) : Host.Outcome State Fault Refusal :=
  runOn s (fun d => d.pendingSlotFreeEffect slot)

end Sys2Proof.Machine
end

