-- ==== Sys2Proof/Machine/Thresher.lean ====
section
/-! DEFINITION. Threshers and feeds (file 05): DECODE and its placement, save and restore, the verdict on a sheaf and what
success and failure leave, FEED_RESET, thresher faults, moved jobs and encode jobs. -/

namespace Sys2Proof.Machine

/-! ### Which threshers serve -/

/-- A partition is in service and not about to leave it. -/
def Dev.partUp (d : Dev) (p : Nat) : Bool := (d.partn p).state == .inService && !(d.partn p).leaving

/-- A thresher is in service: enabled in the applied state, not fenced, its group in service (R114, R451). -/
def Dev.thresherUp (d : Dev) (t : ThresherId) : Bool :=
  bit (d.tval 0x211001) t.toNat && !(d.thresher t).fenced && d.partUp (8 + t.toNat / 4)

/-- The sixteen threshers. -/
def allThreshers : List ThresherId := (List.range 16).map (BitVec.ofNat 4)

/-- The thresher on which a feed is resident. -/
def Dev.residentOn (d : Dev) (f : FeedId) : Option ThresherId :=
  allThreshers.find? (fun t => (d.thresher t).resident == some f)

/-- A stamp later than every thresher's last job. -/
def Dev.stamp (d : Dev) : Nat := (allThreshers.foldl (fun m t => max m (d.thresher t).lastJob) 0) + 1

/-- Among in-service threshers with an empty queue: one that holds no feed, else the one whose feed has gone longest without
a job; the lower number wins ties (R100). -/
def Dev.chooseThresher (d : Dev) : Option ThresherId :=
  let age := fun t => if (d.thresher t).resident.isNone then 0 else (d.thresher t).lastJob + 1
  (allThreshers.filter (fun t => d.thresherUp t && (d.thresher t).jobs.isEmpty && !(d.thresher t).leaving)).foldl
    (fun acc t => match acc with | none => some t | some u => if age t < age u then some t else some u) none

/-! ### Jobs of feeds -/

/-- The feed of a DECODE job. -/
def Job.feed : Job → Option FeedId
  | .decode _ b _ _ _ => some b.feed
  | .encode _ _ => none

/-- The command id of a job. -/
def Job.id : Job → Nat
  | .decode id _ _ _ _ => id
  | .encode id _ => id

/-- No DECODE on the feed dispatched before an id is still running (R91, R93). -/
def Dev.feedQuiet (d : Dev) (f : FeedId) (id : Nat) : Bool :=
  d.jobs.all (fun j => j.feed != some f || decide (id ≤ j.id))

/-- A RESET or DELETE of the feed dispatched before an id has not yet taken effect: a DECODE with that id does not run before it (R91). -/
def Dev.actionFirst (d : Dev) (f : FeedId) (id : Nat) : Bool := (d.feed f).actions.any (fun (a : Nat × Bool) => decide (a.1 < id))

/-- A feed that DECODEs and RESET or DELETE dispatched now find absent: ABSENT, or its deletion is accepted (R91, R93). -/
def Feed.gone (x : Feed) : Bool :=
  x.state == .absent || x.freeing.isSome || x.dropAt.isSome || x.actions.any (·.2)

/-- A feed becomes ABSENT and leaves its thresher (R91 to R93). -/
def Dev.feedAbsent (d : Dev) (f : FeedId) : Dev :=
  let d1 := d.setFeed f {}
  match d.residentOn f with
  | some t => d1.setThresher t { d1.thresher t with resident := none }
  | none => d1

/-- Feeds that a MAST reset dropped become ABSENT once their DECODEs have completed (R391). -/
def Dev.dropFeeds (d : Dev) : Dev :=
  (d.intake.feeds.filterMap (fun p => p.2.dropAt.map (fun b => (BitVec.ofNat 8 p.1, b)))).foldl
    (fun (d : Dev) (p : FeedId × Nat) =>
      if d.feedQuiet p.1 p.2 then ((d.feed p.1).actions.map (fun a => a.1)).foldl (fun (d : Dev) (i : Nat) => d.finish i) (d.feedAbsent p.1)
      else d) d

/-! ### Faults of threshers and feeds (R110) -/

/-- The feed goes FAULTED, its history and stored tables are discarded, its expected sequence stays (R73), and EV_FEED_FAULTED is raised; the
tag is that of the failed job, or 0. -/
def Dev.faultFeed (d : Dev) (f : FeedId) (t : ThresherId) (cause tag : Nat) : Dev :=
  (d.setFeed f { d.feed f with state := .faulted, ctx := { seq := (d.feed f).ctx.seq }, saved := false, changed := false }).event 0x0201 f.toNat
    (tag * 2 ^ 48 + 0x020B * 2 ^ 32 + t.toNat * 2 ^ 24 + cause * 2 ^ 16)

/-- A thresher fault is counted and recorded (R114); causes 1 and 2 are class 5 of the fault log (R449). A thresher that holds no feed is
recorded with feed 0, and cause 6 is not recorded here (DESIGN CHOICE, log entry 93). -/
def Dev.noteThresherFault (d : Dev) (f : FeedId) (t : ThresherId) (cause : Nat) : Dev :=
  let d1 := ({ d with intake := { d.intake with
    lastFault := t.toNat * 2 ^ 24 + cause * 2 ^ 16 + f.toNat } }).bump 0x211007
  if cause = 1 ∨ cause = 2 then d1.logFault 5 t.toNat 0x0201 else d1

/-- Detail of a sheaf failure (R107). -/
def sheafDetail (t f : Nat) : Nat := t * 2 ^ 16 + f

/-- A READBACK whose encode job failed is no longer in flight. -/
def Dev.dropReadback (d : Dev) (id : Nat) : Dev :=
  { d with draws := { d.draws with readbacks := d.draws.readbacks.filter (fun r => r.id != id) } }

/-- A job fails with E_THRESHER_FAULT, cause and thresher (0xFF for cause 6) (R107, R110, R112). An encode job has no feed:
its detail's feed field is a free value. Cause 6 leaves FEEDS_FAULTED and LAST_FAULT as they are (DESIGN CHOICE, log entry 93). -/
def Dev.failThresher (d : Dev) (j : Job) (t cause : Nat) : Dev :=
  match j with
  | .decode id b _ _ _ => d.failCmd id 0x020B (sheafDetail t b.feed.toNat) (some (cause * 2 ^ 32 + t))
  | .encode id _ =>
    ((d.dropReadback id).failCmd id 0x020B (sheafDetail t ((d.freeAt 0).toNat % 256)) (some (cause * 2 ^ 32 + t))).useFree

/-! ### Save and restore (R101 to R103) -/

/-- The bytes of a save area's state block without its check, split at the check (R102). -/
def saveParts (f : FeedId) (x : Feed) : List Byte × List Byte :=
  let tb := x.ctx.tables.getD []
  (leBytes 4 1 ++ leBytes 1 f.toNat ++ leBytes 1 (if x.state = .ready then 2 else 1) ++ leBytes 2 tb.length ++
     leBytes 4 x.ctx.seq.toNat ++ leBytes 4 x.ctx.hist.length ++ leBytes 8 x.ctx.total,
   leBytes 2 0 ++ leBytes 2 0 ++ tb ++ List.replicate (1038 - tb.length) 0#8)

/-- The feed is as good as ABSENT: its save area has been freed, or a MAST reset has dropped it, and its earlier DECODEs have completed
(R93, R391). -/
def Dev.feedEnding (d : Dev) (f : FeedId) : Bool :=
  (match (d.feed f).freeing with | some i => d.feedQuiet f i | none => false) ||
  (match (d.feed f).dropAt with | some i => d.feedQuiet f i | none => false)

/-- A save: the state block and the valid history, skipped where the context has not changed (R101) or the feed ends (R93); a partly written
line of the ECC region that is uncorrectable, or one on the lost channel, faults the feed with cause 4 (R103, R334, log entry 93). -/
def Dev.saveFeed (d : Dev) (f : FeedId) (t : ThresherId) : Dev :=
  let x := d.feed f
  if !x.changed || d.feedEnding f then d
  else
    let p := saveParts f x
    let n := x.ctx.hist.length
    let tails := if n % 64 = 0 then [(1024, 46)] else [(1024, 46), (4096 + n / 64 * 64, n % 64)]
    let bad := tails.any (fun y => (d.checkBuf (thresherSrc t) x.save y.1 y.2).1.isSome) || d.lostBuf x.save 0 1070 || d.lostBuf x.save 4096 n
    let d1 := tails.foldl (fun (e : Dev) (y : Nat × Nat) => (e.fetchBuf 2 (thresherSrc t) x.save y.1 y.2).2) d
    if bad then (d1.noteThresherFault f t 4).faultFeed f t 4 0
    else
      let d2 := (d1.put 2 (thresherSrc t) x.save 0 (p.1 ++ leBytes 4 (crc32c (p.1 ++ p.2 ++ x.ctx.hist)) ++ p.2)).put 2 (thresherSrc t) x.save 4096
        x.ctx.hist
      d2.setFeed f { x with saved := true, changed := false }

/-- The context a save area holds, if it passes its check and R102 allows what it holds (R103): state and context. -/
def readSave (f : FeedId) (blk : List Byte) (hist : Nat → List Byte) : Option (FeedState × FeedCtx) :=
  let n := field blk 12 4
  let tl := field blk 6 2
  let total := field blk 16 8
  let st := field blk 5 1
  if 1048576 < n then none
  else
    let hs := hist n
    let tb := slice blk 32 tl
    let tabs := tl == 0 || (match readTables tb 0 tl with | .ok (_, k) => k == tl | .error _ => false)
    if field blk 24 4 == crc32c (slice blk 0 24 ++ blk.drop 28 ++ hs) && field blk 0 4 == 1 && field blk 4 1 == f.toNat &&
        (st == 1 || st == 2) && (tl == 0 || (decide (6 ≤ tl) && decide (tl ≤ 1038))) && decide (n ≤ total) && tabs &&
        field blk 28 4 == 0 && (blk.drop (32 + tl)).all (fun b => b == 0) then
      some (if st = 2 then .ready else .empty,
        { hist := hs, total := total, seq := BitVec.ofNat 32 (field blk 8 4), tables := if tl = 0 then none else some tb })
    else none

/-- A thresher takes a feed at a sheaf boundary: it saves the one it holds, then restores the new one; the cause (3 or 4) for
which the restore faults the feed (R100 to R103). -/
def Dev.bind_ (d : Dev) (f : FeedId) (t : ThresherId) : Option Nat × Dev :=
  let d1 := match (d.thresher t).resident with | some g => d.saveFeed g t | none => d
  let d2 := d1.setThresher t { d1.thresher t with resident := some f }
  let x := d2.feed f
  if !x.saved then (none, d2)
  else
    let blk := d2.readBuf x.save 0 1070
    let n := min (field blk 12 4) 1048576
    let bad := (d2.checkBuf (thresherSrc t) x.save 0 1070).1.isSome || (d2.checkBuf (thresherSrc t) x.save 4096 n).1.isSome ||
      d2.lostBuf x.save 0 1070 || d2.lostBuf x.save 4096 n
    let d3 := (((d2.fetchBuf 2 (thresherSrc t) x.save 0 1070).2).fetchBuf 2 (thresherSrc t) x.save 4096 n).2
    if bad then (some 4, d3)
    else
      match readSave f blk (fun k => d3.readBuf x.save 4096 k) with
      | none => (some 3, d3)
      | some (st, c) => (none, (d3.setFeed f { x with state := if x.state = .faulted then .faulted else st, ctx := c }).bump 0x211004)

/-! ### Placement (R97, R100, R111, R112) -/

/-- A job joins a thresher's queue. -/
def Dev.pushJob (d : Dev) (t : ThresherId) (j : Job) : Dev :=
  d.setThresher t { d.thresher t with jobs := (d.thresher t).jobs ++ [j] }

/-- A job leaves the list of those that wait for a thresher. -/
def Dev.unwait (d : Dev) (id : Nat) : Dev :=
  { d with intake := { d.intake with waiting := d.intake.waiting.filter (fun w => w.1.id != id) } }

/-- A job waits for a thresher, in dispatch order. -/
def Dev.addWaiting (d : Dev) (j : Job) (left : Option ThresherId) : Dev :=
  { d with intake := { d.intake with
      waiting := d.intake.waiting.filter (fun w => decide (w.1.id ≤ j.id)) ++ [(j, left)] ++
        d.intake.waiting.filter (fun w => decide (j.id < w.1.id)) } }

/-- No thresher is in service. -/
def Dev.noThresher (d : Dev) : Bool := allThreshers.all (fun t => !d.thresherUp t)

/-- The thresher that can take the next job of a feed now: where the feed is resident, if that has a free slot; else the one
that R100 chooses. -/
def Dev.placeFor (d : Dev) (f : FeedId) : Option ThresherId :=
  match d.residentOn f with
  | some t => if d.thresherUp t && !(d.thresher t).leaving && decide ((d.thresher t).jobs.length < 4) then some t else none
  | none => d.chooseThresher

/-- A DECODE goes to a thresher, which first takes its feed where needed; a restore that faults the feed fails the job, which is the feed's
latest (R100, R103, R110). -/
def Dev.giveJob (d : Dev) (j : Job) (f : FeedId) (t : ThresherId) : Dev :=
  let r := if (d.thresher t).resident = some f then (none, d) else d.bind_ f t
  let d1 := r.2.unwait j.id
  match r.1 with
  | none => d1.pushJob t j
  | some cause =>
    let tag := ((d1.cmd? j.id).map (·.tag.toNat)).getD 0
    let d2 := d1.setThresher t { d1.thresher t with lastJob := d1.stamp }
    ((d2.failThresher j t.toNat cause).noteThresherFault f t cause).faultFeed f t cause tag

/-- Waiting encode jobs go to threshers, oldest first, or fail where none is in service (R100, R112, R309). -/
def Dev.placeEncodes (d : Dev) : Dev :=
  (d.intake.waiting.filterMap (fun w => match w.1 with | .encode _ _ => some w.1 | _ => none)).foldl (fun d j =>
    if d.noThresher then (d.unwait j.id).failThresher j 0xFF 6
    else match d.chooseThresher with
      | some t => (d.unwait j.id).pushJob t j
      | none => d) d

/-- A thresher group that leaves service is OFFLINE once its four threshers have left (R452). -/
def Dev.settleGroup (d : Dev) (p : Nat) : Dev :=
  let ts := allThreshers.filter (fun t => t.toNat / 4 + 8 == p)
  if (d.partn p).leaving && ts.all (fun t => (d.thresher t).jobs.isEmpty && !(d.thresher t).leaving) then
    d.setPartn p { d.partn p with state := .offline, leaving := false }
  else d

/-- The job at the head of a thresher ends: the thresher is free for its next one, or, leaving service, saves its feed and
gives up its queue (R111). An encode job binds no feed and leaves the stamp of the resident feed's last job (R113). -/
def Dev.endJob (d : Dev) (t : ThresherId) : Dev :=
  let x := d.thresher t
  let rest := x.jobs.drop 1
  let last := if (x.jobs.head?.bind Job.feed).isSome then d.stamp else x.lastJob
  let d1 := d.setThresher t { x with jobs := if x.leaving then [] else rest, lastJob := last, score := [] }
  let d2 :=
    if x.leaving then
      let d2 := rest.foldl (fun (d : Dev) (j : Job) => d.addWaiting j (some t)) d1
      let d3 := match x.resident with | some g => d2.saveFeed g t | none => d2
      d3.setThresher t { d3.thresher t with resident := none, leaving := false }
    else d1
  (d2.settleGroup (8 + t.toNat / 4)).dropFeeds.placeEncodes

/-- A thresher that the applied state takes out of service finishes its sheaf, or leaves at once (R111). -/
def Dev.thresherBoundary (d : Dev) (t : ThresherId) : Dev :=
  let x := d.thresher t
  if bit (d.tval 0x211001) t.toNat && d.partUp (8 + t.toNat / 4) then d.setThresher t { x with leaving := false }
  else if x.jobs.isEmpty then
    let d1 := match x.resident with | some g => d.saveFeed g t | none => d
    d1.setThresher t { d1.thresher t with resident := none, leaving := false }
  else d.setThresher t { x with leaving := true }

/-- What a boundary does to threshers and their groups (R111, R452). -/
def Dev.threshersAtBoundary (d : Dev) : Dev :=
  ([8, 9, 10, 11].foldl (fun (d : Dev) (p : Nat) => d.settleGroup p)
    (allThreshers.foldl (fun d t => d.thresherBoundary t) d)).placeEncodes

/-! ### DECODE (R95, R100) -/

/-- The view-set checks of a DECODE (R123). -/
def Dev.viewTargetChecks (d : Dev) (b : DecodeBody) : List (Bool × Nat × Nat) :=
  if b.viewTarget then
    let v := d.slotDef b.viewSet.toNat
    [(decide (b.viewSet.toNat ≤ 1), 0x0102, 28), (v.isSome, 0x0302, 28),
     (match v with | some v => decide (b.firstView.toNat < v.count) | none => false, 0x0302, 30)]
  else []

/-- DECODE: the checks of R95, then a job that waits for its thresher and holds its queue until it is placed. -/
def Dev.decode (d : Dev) (q : QueueId) (h : Hdr) (b : DecodeBody) : Dev :=
  d.issue q (fun d =>
    let ss := d.sizeOf b.src
    let ds := d.sizeOf b.dst
    d.checked q h 0x20
      ([(d.live b.src, 0x0111, 10), (d.live b.dst, 0x0111, 24), (!(d.feed b.feed).gone, 0x0102, 8),
        (decide (b.srcOff.toNat + 32 ≤ ss), 0x0A01, boundsDetail ss b.srcOff.toNat)] ++ d.viewTargetChecks b ++
       [(decide (b.dstOff.toNat < ds), 0x0A01, b.dstOff.toNat % 2 ^ 24),
        (decide (b.dstOff.toNat + b.cap.toNat ≤ ds), 0x0A01, ds % 2 ^ 24)])
      (fun d =>
        let n := b.viewSet.toNat
        let target := if b.viewTarget then d.slotDef n else none
        let refs := [b.src, b.dst] ++ (target.map (·.ref)).toList ++
          (if b.viewTarget then (d.activeSet.map (·.ref)).toList else [])
        let j : Job := .decode d.qs.nextId b target d.activeSet (d.activeSlot != some n)
        ((d.dispatch q h 0x20 refs).addWaiting j none).hold q (.place d.qs.nextId)))

/-- DECODE. -/
def execDecode (q : QueueId) (h : Hdr) (b : DecodeBody) (s : State) : Host.Outcome State Fault Refusal :=
  runOn s (fun d => d.decode q h b)

/-- The DECODE that holds a queue is placed once a thresher can take it and no earlier job of its feed waits (R97, R100), nor, where a thresher
would first take its feed, an earlier RESET (R91); it fails where no thresher is in service (R112). -/
def Dev.decodeJobPlace (d : Dev) (q : QueueId) : Dev :=
  match (d.queue q).hold with
  | .place id =>
    match d.intake.waiting.find? (fun w => w.1.id == id) with
    | none => d
    | some (j, _) =>
      match j.feed with
      | none => d
      | some f =>
        if d.noThresher then (((d.unwait id).hold q .none).failThresher j 0xFF 6).dropFeeds
        else if d.intake.waiting.any (fun w => w.1.feed == some f && decide (w.1.id < id)) then d
        else if (d.residentOn f).isNone ∧ d.actionFirst f id = true then d
        else match d.placeFor f with
          | none => d
          | some t => ((d.hold q .none).giveJob j f t).dropFeeds
  | _ => d

/-- DECODE_JOB_PLACE. -/
def execDecodeJobPlace (q : QueueId) (s : State) : Host.Outcome State Fault Refusal := runOn s (fun d => d.decodeJobPlace q)

/-! ### The verdict on a sheaf (R88, R96, R107, R108, R133) -/

/-- The first uncorrectable line of a range, as the fault of a thresher: its offset in the range and its channel (R107); or the lost
channel (R334). -/
def Dev.uncFault (d : Dev) (r : BufRef) (off n : Nat) : Option PFault :=
  let a := (d.buf r.handle).base + off
  if d.lostIn a n then some { code := 0x0A04, hi := 0, lo := 0 }
  else ((d.upsetsIn a n).find? (·.double)).map (fun u => { code := 0x0A03, hi := u.line - a, lo := d.chanOf u.line })

/-- Capacity of a DECODE (R108). -/
def Dev.capOf (d : Dev) (b : DecodeBody) : Nat := if b.cap = 0 then d.sizeOf b.dst - b.dstOff.toNat else b.cap.toNat

/-- The first n bytes of the sheaf of a DECODE, as the thresher has read them: another writer since its dispatch changes nothing that the
payload CRC detects (R99). -/
def Dev.sheafBytes (d : Dev) (id : Nat) (b : DecodeBody) (n : Nat) : List Byte :=
  match d.intake.races.find? (fun (r : Nat × List Byte) => r.1 == id) with
  | some r => r.2.take n
  | none => d.readBuf b.src b.srcOff.toNat n

/-- What the payload of a DECODE decodes to, its other faults left aside: nothing where the header is not one (R88 steps 1 to 8) or the
sheaf reaches outside its buffer (R96). -/
def Dev.payloadOf (d : Dev) (id : Nat) (b : DecodeBody) : Decoded :=
  let hd := d.sheafBytes id b 32
  let n := 32 + (sheafHdr hd).compLen
  if (hdrChecks hd).isSome ∨ d.sizeOf b.src < b.srcOff.toNat + n then { out := [], fault := none, block := none }
  else decodePayload (d.sheafBytes id b n) (d.feed b.feed).ctx (d.capOf b)

/-- A match waiting on a lower-numbered segment resumes, where its lane holds a unit and the lower lane can have written the byte: the
scoreboard then holds that byte and its copy (R87, R105). -/
def Dev.matchStallResume (d : Dev) (t : ThresherId) (lane : BitVec 4) : Dev :=
  let x := d.thresher t
  match x.jobs.head? with
  | some (.decode id b _ _ _) =>
    let h := sheafHdr (d.sheafBytes id b 32)
    match resumeScore (laneDir (d.sheafBytes id b (32 + 8 * h.lanes)) h.lanes) x.score (d.payloadOf id b).copies lane.toNat with
    | some sc => d.setThresher t { x with score := sc }
    | none => d
  | _ => d

/-- MATCH_STALL_RESUME. -/
def execMatchStallResume (t : ThresherId) (lane : BitVec 4) (s : State) : Host.Outcome State Fault Refusal :=
  runOn s (fun d => d.matchStallResume t lane)

/-- The ranges of its reference that an INTER tile reads, by row: buffer offset and length (R129). -/
def refRows (c : RunCtx) (r : TileRec) : List (Nat × Nat) :=
  if bit r.hdr 31 then
    let v := c.refSet r.hdr
    let xs := fun (x : Nat) => clampTo v.width ((2 * ((64 * (r.tile % (c.target.width / 64)) + x : Nat) : Int) + sext 9 (r.hdr / 2 ^ 9)) / 2)
    let y0 := 2 * ((64 * (r.tile / (c.target.width / 64)) : Nat) : Int) + sext 9 (r.hdr / 2 ^ 18)
    (List.range 65).map (fun (i : Nat) =>
      (v.offset (r.hdr / 2 % 256) (xs 0) (clampTo v.height ((y0 + 2 * Int.ofNat i) / 2)), (xs 64 + 1 - xs 0) * sampleSize v.fmt))
  else []

/-- An INTER tile reads an uncorrectable line of its reference (R326). -/
def Dev.refUnc (d : Dev) (c : RunCtx) (r : TileRec) : Option PFault :=
  (refRows c r).findSome? (fun (x : Nat × Nat) =>
    (d.uncFault (c.refSet r.hdr).ref x.1 x.2).map (fun (f : PFault) => { f with hi := 0xFFFFFFFF }))

/-- Upset lines of its destination that a sheaf meets: those it writes in part, and those that a match further back than the 262,144 bytes
of the output cache reads (R104, R324). -/
def Dev.backUpsets (d : Dev) (b : DecodeBody) (r : Decoded) : List Upset :=
  let a := (d.buf b.dst.handle).base + b.dstOff.toNat
  d.dram.upsets.filter (fun (u : Upset) => (d.partUpsets a r.out.length).contains u ||
    (d.inEcc u.line && r.copies.any (fun (c : Nat × Nat × Nat) => decide (262144 < c.2.1) && decide (c.2.1 < c.1 + c.2.2) &&
      decide (u.line < a + (c.1 + c.2.2 - c.2.1)) && decide (a + (c.1 - c.2.1) < u.line + 64))))

/-- An uncorrectable line among them (R107). -/
def Dev.backUnc (d : Dev) (b : DecodeBody) (r : Decoded) : Option PFault :=
  ((d.backUpsets b r).find? (fun (u : Upset) => u.double)).map
    (fun (u : Upset) => { code := 0x0A03, hi := 0xFFFFFFFF, lo := d.chanOf u.line })

/-- What a sheaf comes to: its fault, the bytes it produced, and the tile records of a VIEW_TARGET run. -/
structure Verdict where
  fault : Option PFault
  dec : Decoded
  recs : List TileRec
  deriving DecidableEq, Repr

/-- A verdict of failure before any byte is decoded. -/
def Verdict.early (f : PFault) : Verdict := { fault := some f, dec := { out := [], fault := some f, block := none }, recs := [] }

/-- The run of a VIEW_TARGET sheaf against what its tokens produced (R133): the lower output offset is reported, the token
fault on a tie. -/
def Dev.viewVerdict (d : Dev) (c : RunCtx) (view0 : Nat) (r : Decoded) : Verdict :=
  let v := viewRun c view0 r.out
  let first := match r.fault, v.2 with
    | none, g => g
    | some f, none => some f
    | some f, some g => if g.at_ < f.at_ then some g else some f
  { fault := match first with | some f => some f | none => v.1.findSome? (fun t => d.refUnc c t), dec := r, recs := v.1 }

/-- The verdict on the sheaf of a DECODE (R88 with R96 between steps 8 and 9); the payload is read from step 11 on. -/
def Dev.verdict (d : Dev) (id : Nat) (b : DecodeBody) (target active : Option VSet) (pending : Bool) : Verdict :=
  let off := b.srcOff.toNat
  let x := d.feed b.feed
  match d.uncFault b.src off 32 with
  | some f => .early f
  | none =>
    let hd := d.sheafBytes id b 32
    let h := sheafHdr hd
    match hdrChecks hd with
    | some f => .early f
    | none =>
      if d.sizeOf b.src < off + 32 + h.compLen then
        .early { code := 0x0A01, hi := h.compLen, lo := min (d.sizeOf b.src - off) 0xFFFFFFFF }
      else if b.viewTarget ∧ h.kind ≠ 2 then .early (hdrFault 5)
      else
        match (match formChecks hd with | some f => some f | none => d.uncFault b.src off (32 + h.compLen)) with
        | some f => .early f
        | none =>
          let r := decodeSheaf (d.sheafBytes id b (32 + h.compLen)) (x.state == .faulted) (x.state == .ready) x.ctx (d.capOf b)
          match target with
          | none => { fault := r.fault, dec := r, recs := [] }
          | some v => d.viewVerdict { target := v, active := active, pending := pending } b.firstView.toNat r

/-- Some destination byte of a sheaf lies on the lost channel (R334). -/
def Dev.destLost (d : Dev) (b : DecodeBody) (target : Option VSet) (v : Verdict) : Bool :=
  d.lostBuf b.dst b.dstOff.toNat v.dec.out.length ||
    (match target with
      | some w => v.recs.any (fun t => (List.range 64).any (fun y => d.lostBuf w.ref (w.tileRow t.view t.tile y) (64 * sampleSize w.fmt)))
      | none => false)

/-- The verdict on the sheaf of a DECODE, its destination included. -/
def Dev.judge (d : Dev) (id : Nat) (b : DecodeBody) (target active : Option VSet) (pending : Bool) : Verdict :=
  let v := d.verdict id b target active pending
  if v.fault.isSome then v
  else if d.destLost b target v then { v with fault := some { code := 0x0A04, hi := 0, lo := 0 } }
  else { v with fault := d.backUnc b v.dec }

/-- The reads of a sheaf meet and correct single-bit errors, and report an uncorrectable line (R325, R326). -/
def Dev.readSource (d : Dev) (id : Nat) (b : DecodeBody) (t : ThresherId) : Dev :=
  let hd := d.sheafBytes id b 32
  let n := if (hdrChecks hd).isSome then 32 else min (32 + (sheafHdr hd).compLen) (d.sizeOf b.src - b.srcOff.toNat)
  (d.fetchBuf 2 (thresherSrc t) b.src b.srcOff.toNat n).2

/-- So do the reads of a run's references (R325, R326). -/
def Dev.readRefs (d : Dev) (c : RunCtx) (rs : List TileRec) (t : ThresherId) : Dev :=
  rs.foldl (fun (d : Dev) (r : TileRec) =>
    (refRows c r).foldl (fun (d : Dev) (x : Nat × Nat) => (d.fetchBuf 2 (thresherSrc t) (c.refSet r.hdr).ref x.1 x.2).2) d) d

/-- Everything that a sheaf reads: source, references, and its own output (R104, R325, R326). -/
def Dev.readAll (d : Dev) (t : ThresherId) (id : Nat) (b : DecodeBody) (target active : Option VSet) (pending : Bool) (v : Verdict) : Dev :=
  let d1 := d.readSource id b t
  let d2 := match target with
    | some w => d1.readRefs { target := w, active := active, pending := pending } v.recs t
    | none => d1
  (d2.meetUpsets (thresherSrc t) (d2.backUpsets b v.dec)).2

/-! ### Success and failure (R98, R106, R137) -/

/-- The feed after a successful sheaf (R98, R104). -/
def Dev.feedAfter (d : Dev) (f : FeedId) (h : SheafHdr) (r : Decoded) : Dev :=
  let x := d.feed f
  d.setFeed f { x with state := .ready, ctx := x.ctx.after h r, changed := true }

/-- Destination bytes and, for VIEW_TARGET, the samples of the tiles that the run addresses become unspecified, whatever the fault: the tokens
are decoded while the rest of the payload is read (R99, R106, R108). -/
def Dev.spoilRange (d : Dev) (b : DecodeBody) (target : Option VSet) (h : SheafHdr) (out : List Byte) : Dev :=
  let d1 := d.scramble ((d.buf b.dst.handle).base + b.dstOff.toNat) (min h.outLen (d.capOf b))
  match target with
  | some w =>
    let c : RunCtx := { target := w, active := none, pending := false }
    if h.kind = 2 ∧ (prefixFault c b.firstView.toNat out).isNone = true then d1.scrambleRun c b.firstView.toNat (field out 0 4) (field out 4 4) else d1
  | none => d1

/-- The same for the sheaf of a DECODE that has not yet ended: its tokens are decoded against the feed as it stands. -/
def Dev.spoil (d : Dev) (id : Nat) (b : DecodeBody) (target : Option VSet) : Dev :=
  d.spoilRange b target (sheafHdr (d.sheafBytes id b 32)) (d.payloadOf id b).out

/-- The output of a DECODE that another writer disturbed, and the history it leaves, are unspecified (R99): header and bytes decoded are those
of the sheaf against the feed before it. -/
def Dev.disturbed (d : Dev) (b : DecodeBody) (target : Option VSet) (h : SheafHdr) (out : List Byte) : Dev :=
  let d1 := d.spoilRange b target h out
  let x := d1.feed b.feed
  (d1.setFeed b.feed { x with ctx := { x.ctx with hist := d1.freeBytes x.ctx.hist.length } }).useFree

/-- The writes of a feed's own thresher are no other engine's: they disturb no other DECODE of that feed (R99). -/
def Dev.ownWrites (d : Dev) (f : FeedId) (old : Intake) : Dev :=
  { d with intake := { d.intake with
      races := d.intake.races.filter (fun (r : Nat × List Byte) => old.raced r.1 || !d.jobs.any (fun j => j.id == r.1 && j.feed == some f)) } }

/-- A sheaf succeeds as one step (R98): bytes, samples, feed, counters, completion, marks. -/
def Dev.sheafOk (d : Dev) (t : ThresherId) (id : Nat) (b : DecodeBody) (target active : Option VSet) (pending : Bool) : Dev :=
  let v := d.judge id b target active pending
  let h := sheafHdr (d.sheafBytes id b 32)
  let d1 := ((d.readAll t id b target active pending v).put 2 (thresherSrc t) b.dst b.dstOff.toNat v.dec.out).feedAfter b.feed h v.dec
  let d2 := match target with
    | some w => (v.recs.foldl (fun (e : Dev) (r : TileRec) => e.reconTile (thresherSrc t) { target := w, active := active, pending := pending } r) d1).bumpN 0x212003 v.recs.length
    | none => d1
  let d2r := if d.intake.raced id then d2.disturbed b target h (d.payloadOf id b).out else d2
  let d3 := (d2r.bump 0x211005).finish id h.outLen
  if b.viewTarget ∧ d3.activeSlot = some b.viewSet.toNat then d3.markSails (fun _ l => v.recs.any (fun r => l.uses r.view)) else d3

/-- SHEAF_SUCCESS: the job at the head of the thresher's queue, where its sheaf decodes without a fault. -/
def Dev.sheafSuccess (d : Dev) (t : ThresherId) : Dev :=
  match (d.thresher t).jobs.head? with
  | some (.decode id b target active pending) =>
    if (d.judge id b target active pending).fault.isNone ∧ (d.thresher t).fenced = false ∧ d.actionFirst b.feed id = false then
      ((d.sheafOk t id b target active pending).ownWrites b.feed d.intake).endJob t
    else d
  | _ => d

/-- SHEAF_SUCCESS. -/
def execSheafSuccess (t : ThresherId) (s : State) : Host.Outcome State Fault Refusal := runOn s (fun d => d.sheafSuccess t)

/-- A sheaf fails with its first fault; the feed is as before (R106, R107). The data of EV_ERROR_DETAIL for E_CHANNEL_LOST, which the table of
R107 does not give, is a free value (DESIGN CHOICE, log entry 108). -/
def Dev.sheafBad (d : Dev) (t : ThresherId) (id : Nat) (b : DecodeBody) (target active : Option VSet) (pending : Bool) (v : Verdict)
    (f : PFault) : Dev :=
  let d1 := ((d.readAll t id b target active pending v).spoil id b target).bump 0x211006
  let d2 := if f.code = 0x0301 then d1.bump 0x212004 else d1
  if f.code = 0x0A04 then (d2.failCmd id f.code (sheafDetail t.toNat b.feed.toNat) (some (d2.freeAt 0).toNat)).useFree
  else d2.failCmd id f.code (sheafDetail t.toNat b.feed.toNat) (some (f.hi * 2 ^ 32 + f.lo))

/-- SHEAF_FAILURE: the job at the head of the thresher's queue, where its sheaf has a fault. -/
def Dev.sheafFailure (d : Dev) (t : ThresherId) : Dev :=
  match (d.thresher t).jobs.head? with
  | some (.decode id b target active pending) =>
    let v := d.judge id b target active pending
    match v.fault with
    | some f =>
      if (d.thresher t).fenced ∨ d.actionFirst b.feed id = true then d
      else ((d.sheafBad t id b target active pending v f).ownWrites b.feed d.intake).endJob t
    | none => d
  | _ => d

/-- SHEAF_FAILURE. -/
def execSheafFailure (t : ThresherId) (s : State) : Host.Outcome State Fault Refusal := runOn s (fun d => d.sheafFailure t)

/-! ### FEED_RESET (R91 to R93) -/

/-- The save area of a CREATE is one that R91 allows. -/
def Dev.saveAreaOk (d : Dev) (f : FeedId) (r : BufRef) : Bool :=
  d.live r && (d.buf r.handle).fmt == 0 && decide (1052672 ≤ (d.buf r.handle).size) &&
    d.intake.feeds.all (fun p => p.1 == f.toNat || p.2.state == .absent || p.2.save != r)

/-- The first waiting RESET or DELETE of a feed takes effect once earlier DECODEs on it have completed (R91). A RESET sets the expected
sequence to 0 (DESIGN CHOICE, log entry 93). -/
def Dev.feedAction (d : Dev) (f : FeedId) : Dev :=
  let x := d.feed f
  match x.actions with
  | [] => d
  | (id, del) :: rest =>
    if !d.feedQuiet f id then d
    else if del then (d.feedAbsent f).finish id
    else
      let res := (d.residentOn f).isSome
      (d.setFeed f { x with state := .empty, ctx := {}, saved := x.saved && res, changed := res, actions := rest }).finish id

/-- The checks of FEED_RESET, in its own order (R91). -/
def Dev.feedResetChecks (d : Dev) (b : FeedResetBody) : List (Bool × Nat × Nat) :=
  let x := d.feed b.feed
  [(decide (b.action.toNat ≤ 2), 0x0102, 9), (if b.action = 1 then x.state == .absent else !x.gone, 0x0102, 8)] ++
  (if b.action = 1 then [(d.saveAreaOk b.feed b.save, 0x0102, 10)]
   else [(b.save.handle == 0, 0x0102, 10), (b.save.gen == 0, 0x0102, 12)])

/-- FEED_RESET: CREATE makes the feed EMPTY; RESET and DELETE wait for earlier DECODEs, or take effect at once (R91). -/
def Dev.feedReset (d : Dev) (q : QueueId) (h : Hdr) (b : FeedResetBody) : Dev :=
  d.issue q (fun d => d.checked q h 0x21 (d.feedResetChecks b) (fun d =>
    let id := d.qs.nextId
    if b.action = 1 then d.instant q h 0x21 (fun e => e.setFeed b.feed { state := .empty, save := b.save })
    else
      let d1 := d.dispatch q h 0x21 []
      (d1.setFeed b.feed { d1.feed b.feed with actions := (d1.feed b.feed).actions ++ [(id, b.action == 2)] }).feedAction b.feed))

/-- FEED_RESET. -/
def execFeedReset (q : QueueId) (h : Hdr) (b : FeedResetBody) (s : State) : Host.Outcome State Fault Refusal :=
  runOn s (fun d => d.feedReset q h b)

/-- The next RESET or DELETE of a feed takes effect (R91). -/
def Dev.feedActionTakesEffect (d : Dev) (f : FeedId) : Dev := d.feedAction f

/-- FEED_ACTION_TAKES_EFFECT. -/
def execFeedActionTakesEffect (f : FeedId) (s : State) : Host.Outcome State Fault Refusal :=
  runOn s (fun d => d.feedActionTakesEffect f)

/-- A feed whose save area was freed becomes ABSENT once its earlier DECODEs have completed; its waiting RESETs and DELETEs
end with it (R93). -/
def Dev.saveAreaFreeEffect (d : Dev) (f : FeedId) : Dev :=
  let x := d.feed f
  match x.freeing with
  | some id =>
    if d.feedQuiet f id then (x.actions.map (·.1)).foldl (fun d i => d.finish i) (d.feedAbsent f) else d
  | none => d

/-- SAVE_AREA_FREE_EFFECT. -/
def execSaveAreaFreeEffect (f : FeedId) (s : State) : Host.Outcome State Fault Refusal :=
  runOn s (fun d => d.saveAreaFreeEffect f)

/-! ### Thresher faults (R110) -/

/-- The running job of a faulted thresher fails; a sheaf's destination is unspecified (R51, R110). -/
def Dev.failRunning (d : Dev) (j : Job) (t : ThresherId) (cause : Nat) : Dev :=
  match j with
  | .decode id b target _ _ => ((d.spoil id b target).ownWrites b.feed d.intake).failThresher j t.toNat cause
  | .encode _ _ => d.failThresher j t.toNat cause

/-- A fault with cause 1, 2 or 5 (R110): the job in progress fails, the resident feed goes FAULTED, the thresher is fenced
and its queued jobs move. A thresher that holds no feed records feed 0 (DESIGN CHOICE, log entry 93). -/
def Dev.fenceThresher (d : Dev) (t : ThresherId) (cause : Nat) : Dev :=
  let x := d.thresher t
  if x.fenced then d
  else
    let tag := ((x.jobs.head?.bind (fun j => d.cmd? j.id)).map (·.tag.toNat)).getD 0
    let d1 := match x.jobs with | j :: _ => d.failRunning j t cause | [] => d
    let d2 := d1.noteThresherFault (x.resident.getD 0) t cause
    let d3 := match x.resident with | some f => d2.faultFeed f t cause tag | none => d2
    let d4 := d3.setThresher t { fenced := true, lastJob := d.stamp }
    ((x.jobs.drop 1).foldl (fun d j => d.addWaiting j (some t)) d4).dropFeeds.placeEncodes

/-- A parity error (cause 1), or the fence of the thresher's partition (cause 5) (R110); no fault is reported of a partition that is OFFLINE
or under BIST (R450). -/
def Dev.thresherFault (d : Dev) (t : ThresherId) (fence : Bool) : Dev :=
  let st := (d.partn (8 + t.toNat / 4)).state
  if st = .offline ∨ st = .bist then d else d.fenceThresher t (if fence then 5 else 1)

/-- A fault of a thresher group's partition: it is fenced, and its four threshers with cause 5 (R110, R451). The spec gives the fault no class:
the class field of EV_PARTITION_FENCED is a free value, and nothing is logged (DESIGN CHOICE, log entry 109). -/
def Dev.thresherGroupFault (d : Dev) (g : Nat) : Dev :=
  let d1 := d.setPartn (8 + g) { d.partn (8 + g) with state := .fenced, leaving := false }
  let d2 := ((List.range 4).map (fun i => BitVec.ofNat 4 (4 * g + i))).foldl (fun (d : Dev) (t : ThresherId) => d.fenceThresher t 5) d1
  (d2.event 0x0F02 (8 + g) (2 ^ 56 + (d2.freeAt 0).toNat % 256 * 2 ^ 48)).useFree

/-- THRESHER_FAULT. -/
def execThresherFault (t : ThresherId) (fence : Bool) (s : State) : Host.Outcome State Fault Refusal :=
  runOn s (fun d => d.thresherFault t fence)

/-- A lane unit of a running job makes no progress for 100 µs: cause 2 (R110). -/
def Dev.thresherProgressTimeout (d : Dev) (t : ThresherId) : Dev :=
  if (d.thresher t).jobs.isEmpty then d else d.fenceThresher t 2

/-- THRESHER_PROGRESS_TIMEOUT. -/
def execThresherProgressTimeout (t : ThresherId) (s : State) : Host.Outcome State Fault Refusal :=
  runOn s (fun d => d.thresherProgressTimeout t)

/-- The moved jobs of a feed: those that left a thresher and joined none yet. -/
def Dev.movedJobs (d : Dev) (f : FeedId) : List (Job × ThresherId) :=
  d.intake.waiting.filterMap (fun w => if w.1.feed = some f then w.2.map (fun t => (w.1, t)) else none)

/-- Moved jobs join a thresher, with EV_FEED_MIGRATED, or fail with cause 6 where none is in service (R111, R112). A job that then fails in
its restore counts as moved (DESIGN CHOICE, log entry 93). -/
def Dev.jobsJoinThresher (d : Dev) (f : FeedId) : Dev :=
  match d.movedJobs f with
  | [] => d
  | (j, left) :: rest =>
    if d.noThresher then (((j, left) :: rest).foldl (fun d x => (d.unwait x.1.id).failThresher x.1 0xFF 6) d).dropFeeds
    else if d.actionFirst f j.id then d
    else
      match d.placeFor f with
      | none => d
      | some t =>
        let d1 := (((j, left) :: rest).foldl (fun d x => d.giveJob x.1 f t) d).dropFeeds
        d1.event 0x0202 f.toNat ((rest.length + 1) * 2 ^ 16 + left.toNat * 2 ^ 8 + t.toNat)

/-- JOBS_JOIN_THRESHER. -/
def execJobsJoinThresher (f : FeedId) (s : State) : Host.Outcome State Fault Refusal :=
  runOn s (fun d => d.jobsJoinThresher f)

/-! ### Encode jobs (R113) -/

/-- The number of symbols of an alphabet that a mask names. -/
def symCount (a mask : Nat) : Nat := (List.range a).countP (fun i => bit mask i)

/-- A table of an encoded sheaf has the mode and precision of R113, for the symbols that occur: SINGLE for one, else the shorter of LIST and
DENSE at the stated precision. Where none occurs, the spec gives no form. -/
def encTableOk (ft : FreqTable) (a p mode mask : Nat) : Bool :=
  let list := 2 + 3 * ft.freqs.length
  let dense := 1 + ceilDiv (a * (p + 1)) 8
  if symCount a mask = 0 then true
  else if symCount a mask = 1 then mode == 0
  else ft.p == p && (if list < dense then mode == 1 else if dense < list then mode == 2 else mode == 1 || mode == 2)

/-- The three tables of an encoded LZ sheaf with one lane, against what its lane used. -/
def encTablesOk (s : List Byte) (lim : Nat) (k : Sink) : Bool :=
  match readTable s 0 256 12 lim 40 with
  | .error _ => false
  | .ok a =>
    match readTable s 1 48 11 lim (40 + a.size) with
    | .error _ => false
    | .ok b =>
      match readTable s 2 40 11 lim (40 + a.size + b.size) with
      | .error _ => false
      | .ok c =>
        encTableOk a 256 11 (field s 40 1 / 16) k.lits && encTableOk b 48 10 (field s (40 + a.size) 1 / 16) k.lens &&
          encTableOk c 40 10 (field s (40 + a.size + b.size) 1 / 16) k.dists

/-- The lane of an encoded sheaf ends in the states 0 that the encoder started from, with distances of at most 65,536, and uses its tables as
R113 says. -/
def encLaneOk (s : List Byte) (h : SheafHdr) : Bool :=
  match readTables s 40 (32 + h.compLen) with
  | .error _ => false
  | .ok (tb, n) =>
    match laneStart tb (bitsOf (slice s (40 + n) (field s 36 4))) with
    | none => false
    | some l =>
      match tokens tb 0 h.outLen h.outLen h.outLen l { rev := [], total := 0 } with
      | .error _ => false
      | .ok (l1, k) =>
        l1.lit == 0 && l1.len == 0 && l1.dist == 0 && k.copies.all (fun (c : Nat × Nat × Nat) => decide (c.2.1 ≤ 65536)) &&
          encTablesOk s (32 + h.compLen) k

/-- An upper bound of the LZ sheaf that stores some bytes as literals alone, with frequencies in proportion to theirs: header, directory,
tables, and a lane of at most 11 − floor(log2 f) bits a literal and 25 bits a run of up to 65,536. An encoder emits RAW only where LZ would
not be shorter (R113): DEDUCED, log entry 41. -/
def literalBound (raw : List Byte) : Nat :=
  let n := raw.length
  let cs := ((List.range 256).map (fun b => raw.countP (fun x => x.toNat == b))).filter (fun c => c != 0)
  let lit := if cs.length = 1 then 2 else min (2 + 3 * cs.length) 385
  let bits := if cs.length = 1 then 0 else (cs.map (fun c => c * (11 - Nat.log2 (max 1 (c * 1792 / n))))).foldl (· + ·) 0
  32 + 8 + lit + 8 + 2 + ceilDiv (31 + bits + ceilDiv n 65536 * 25) 8

/-- A sheaf that the device's encoder may produce from captured bytes (R113): it decodes to them and has R113's properties.
Which LZ parse it takes is the device's. -/
def encodes (raw s : List Byte) : Bool :=
  let h := sheafHdr s
  (hdrChecks s).isNone && h.seed && !h.reuse && h.lanes == 1 && h.seq == 0 && h.outLen == raw.length &&
    s.length == 32 + h.compLen &&
    (let r := decodeSheaf s false false {} raw.length
     r.fault.isNone && r.out == raw) &&
    ((h.kind == 0 && decide (raw.length ≤ literalBound raw)) || (h.kind == 1 && decide (s.length < raw.length) && encLaneOk s h))

/-- An encode job finishes with one sheaf in the READBACK's destination (R113, R309); a sheaf the encoder cannot produce is
none. -/
def Dev.encodeJobComplete (d : Dev) (t : ThresherId) (sheaf : List Byte) : Dev :=
  match (d.thresher t).jobs.head? with
  | some (.encode id raw) =>
    match d.draws.readbacks.find? (fun r => r.id == id) with
    | some r =>
      if encodes raw sheaf = false ∨ (d.thresher t).fenced = true then d
      else if d.lostBuf r.b.ref r.b.offset.toNat sheaf.length then
        ({ d with draws := { d.draws with readbacks := d.draws.readbacks.map (fun (x : Rb) =>
            if x.id = id then { x with lost := true, err := 0x0A04 } else x) } }).endJob t
      else
        let d1 := d.put 3 (thresherSrc t) r.b.ref r.b.offset.toNat sheaf
        ({ d1 with draws := { d1.draws with readbacks := d1.draws.readbacks.map (fun (x : Rb) =>
            if x.id = id then { x with done := some sheaf.length } else x) } }).endJob t
    | none => d
  | _ => d

/-- ENCODE_JOB_COMPLETE. -/
def execEncodeJobComplete (t : ThresherId) (sheaf : List Byte) (s : State) : Host.Outcome State Fault Refusal :=
  runOn s (fun d => d.encodeJobComplete t sheaf)

end Sys2Proof.Machine
end

