-- ==== Sys2Proof/Machine/Shadow.lean ====
section
/-! DEFINITION. The one shadow set of the device (R187): writing a shadowed setting, putting settings in force, and the
settings that a list of pending commits leads to (R188). -/

namespace Sys2Proof.Machine

/-- Which setting an item sets. -/
def Item.key : Item → Nat × Nat
  | .lens s _ => (0, s.toNat)
  | .layer n _ => (1, n)
  | .lut n _ => (2, n)
  | .win n _ => (3, n)
  | .val k _ _ => (4, k)

/-- Put an item into a list of items, one per setting, the later value winning (R187, R190). -/
def putItem (is : List Item) (i : Item) : List Item := is.filter (fun j => j.key != i.key) ++ [i]

/-- Write a shadow: it replaces one that no commit has gathered (R145, R178, R187). -/
def Dev.stage (d : Dev) (i : Item) : Dev := { d with comp := { d.comp with shadow := putItem d.comp.shadow i } }

/-- Put a value of an entry with attribute T in force. -/
def Applied.setVal (a : Applied) (f : Fuses) (key v : Nat) : Applied :=
  let x : Option Nat := if v = entryDefault f key then none else some v
  { a with vals := SMap.set none a.vals key x }

/-- Put one item in force. -/
def Applied.put (a : Applied) (f : Fuses) : Item → Applied
  | .lens s v => { a with lens := SMap.set none a.lens s.toNat v }
  | .layer n v => { a with layers := SMap.set none a.layers n v }
  | .lut n v => { a with luts := SMap.set [] a.luts n v }
  | .win n v => { a with wins := SMap.set none a.wins n v }
  | .val k v w => { a.setVal f k v with writers := SMap.set 4 a.writers k w }

/-- The settings in force after a list of items. -/
def Applied.puts (a : Applied) (f : Fuses) (is : List Item) : Applied := is.foldl (fun a i => a.put f i) a

/-- The settings that the next boundary starts from: after a MAST reset it selects none, of itself (R391). -/
def Dev.baseAp (d : Dev) : Applied := if d.intake.dropSelect then d.comp.ap.put d.fuses (.val 0x212001 0xFF 4) else d.comp.ap

/-- The settings that result from applying every held item and every pending commit, in order (R188, R192). -/
def Dev.projected (d : Dev) : Applied := d.baseAp.puts d.fuses (d.comp.held ++ d.comp.pend.flatMap (·.items))

/-- The shadowed value of an entry with attribute T: the shadow, else the latest pending, else the applied one (R341). -/
def Dev.shadowVal (d : Dev) (key : Nat) : Nat :=
  match d.comp.shadow.findSome? (fun i => match i with | .val k v _ => if k = key then some v else none | _ => none) with
  | some v => v
  | none => d.projected.val d.fuses key

end Sys2Proof.Machine
end

