-- ==== Sys2Proof/Machine/Lens.lean ====
section
/-! DEFINITION. Lens maps and ray mapping (file 07): LENS_SET, and the fixed-point evaluation of one ray. -/

namespace Sys2Proof.Machine

/-! ### The header (R142, R144) -/

/-- Reported width and height of a sail, where it has reported them: its CAPS0 word. -/
def Sail.dims (x : Sail) : Option (Nat × Nat) :=
  match x.words[2]? with
  | some w => if w = 0 then none else some (w.toNat / 65536 % 8192, w.toNat % 4096)
  | none => none

/-- A dimension of a header is in range and equals the reported one. -/
def dimOk (n top : Nat) (rep : Option Nat) : Bool :=
  decide (64 ≤ n) && decide (n ≤ top) && n % 64 == 0 && (match rep with | some r => n == r | none => true)

/-- The header checks in offset order: (passes, code, header offset, field bytes) (R144). -/
def lensChecks (h : List Byte) (rep : Option (Nat × Nat)) : List (Bool × Nat × Nat × Nat) :=
  let int := field h 2 1 == 1
  let opt := field h 3 1
  let nu := field h 14 2
  let nv := field h 16 2
  let pitch := field h 20 4
  let rp := field h 24 4
  let sl := sext 32 (field h 28 4)
  let gx := field h 56 2
  let gy := field h 58 2
  [(field h 0 2 == 1, 0x0401, 0, 2), (decide (field h 2 1 ≤ 1), 0x0401, 2, 1),
   (decide (opt < 4) && !(int && bit opt 0), 0x0401, 3, 1),
   (dimOk (field h 4 2) 4096 (rep.map (·.1)), 0x0401, 4, 2), (dimOk (field h 6 2) 2048 (rep.map (·.2)), 0x0401, 6, 2),
   (decide (1 ≤ nu) && decide (nu ≤ if int then 16 else 256), 0x0401, 14, 2),
   (decide (1 ≤ nv) && decide (nv ≤ if int then 16 else 1), 0x0401, 16, 2),
   (decide (field h 18 2 + nu * nv ≤ 256), 0x0401, 18, 2)] ++
  [(decide (2 * 2 ^ 24 ≤ pitch) && decide (pitch ≤ 255 * 2 ^ 24), 0x0401, 20, 4),
   (decide (2 * 2 ^ 24 ≤ rp) && decide (rp ≤ 255 * 2 ^ 24), 0x0401, 24, 4),
   (if int then sl == 0 else decide (-(2 ^ 30) ≤ sl) && decide (sl ≤ 2 ^ 30), 0x0401, 28, 4),
   (decide (field h 32 4 < pitch), 0x0401, 32, 4),
   (if int then decide (field h 36 4 < rp) else field h 36 4 == 0, 0x0401, 36, 4),
   (decide (1 ≤ field h 48 4) && decide (field h 48 4 < 2 ^ 28), 0x0401, 48, 4),
   (decide (1 ≤ field h 52 4) && decide (field h 52 4 < 2 ^ 28), 0x0401, 52, 4),
   (decide (1 ≤ gx) && decide (gx ≤ 4096), 0x0401, 56, 2), (decide (1 ≤ gy) && decide (gy ≤ 1024), 0x0401, 58, 2)] ++
  [(field h 70 1 == 0, 0x0103, 70, 1), (field h 71 1 == 0, 0x0103, 71, 1),
   (field h 72 4 % 64 == 0 && decide (128 ≤ field h 72 4), 0x0403, 72, 4), (field h 76 4 == gx * gy * 8, 0x0403, 76, 4)] ++
  (List.range 48).map (fun i => (field h (80 + i) 1 == 0, 0x0103, 80 + i, 1))

/-- The lens map of a header at a buffer offset, with its two reciprocals (R142, R144). -/
def lensOfHeader (r : BufRef) (off : Nat) (h : List Byte) : Lens :=
  { ref := r, offset := off, integral := field h 2 1 == 1, xtalk := bit (field h 3 1) 0, wrap := bit (field h 3 1) 1
    width := field h 4 2, height := field h 6 2
    subX := [field h 8 1, field h 10 1, field h 12 1], subY := [field h 9 1, field h 11 1, field h 13 1]
    nu := field h 14 2, nv := field h 16 2, base := field h 18 2
    pitch := field h 20 4, rowPitch := field h 24 4, slant := sext 32 (field h 28 4)
    phaseX := field h 32 4, phaseY := field h 36 4
    originX := sext 32 (field h 40 4), originY := sext 32 (field h 44 4)
    scaleX := field h 48 4, scaleY := field h 52 4, gx := field h 56 2, gy := field h 58 2
    col0 := sext 16 (field h 60 2), row0 := sext 16 (field h 62 2)
    k0 := sext 16 (field h 64 2), km := sext 16 (field h 66 2), kp := sext 16 (field h 68 2), table := field h 72 4
    invP := 2 ^ 56 / field h 20 4, invR := 2 ^ 56 / field h 24 4 }

/-! ### LENS_SET (R143 to R145) -/

/-- A failure of LENS_SET: code, detail and EV_ERROR_DETAIL data. -/
abbrev LensBad := Nat × Nat × Option Nat

/-- The map of one sail at a buffer offset: read by the queue engine, checked, its table inside the buffer (R144 steps 1 to 4). A header on
the lost channel or in an uncorrectable line fails it with a detail that the spec does not give (R326, R334, log entries 3 and 39). -/
def Dev.readLens (d : Dev) (r : BufRef) (s off : Nat) : Except LensBad Lens × Dev :=
  let size := d.sizeOf r
  let open_ := fun (d : Dev) (code : Nat) => ((Except.error (code, (d.freeAt 0).toNat % 2 ^ 24, none) : Except LensBad Lens), d.useFree)
  if size < off + 128 then (.error (0x0A01, boundsDetail size off, none), d)
  else if d.lostBuf r off 128 then open_ d 0x0A04
  else
    match d.checkBuf queueSrc r off 128 with
    | (some _, d1) => open_ d1 0x0A03
    | (none, d1) =>
      let h := d1.readBuf r off 128
      match (lensChecks h (d1.sail (BitVec.ofNat 10 s)).dims).find? (fun c => !c.1) with
      | some (_, code, ho, n) =>
        (.error (code, if code = 0x0103 then 16 else ho * 2 ^ 16 + s, some (s * 2 ^ 48 + ho * 2 ^ 32 + field h ho n)), d1)
      | none =>
        let l := lensOfHeader r off h
        (if size < off + l.table + l.gx * l.gy * 8 then .error (0x0A01, boundsDetail size (off + l.table), none) else .ok l, d1)

/-- The maps of n sails from one on, in ascending order; the first failure fails them all. -/
def Dev.readLenses (d : Dev) (r : BufRef) (stride : Nat) : Nat → Nat → Nat → Except LensBad (List Item) × Dev
  | 0, _, _ => (.ok [], d)
  | n + 1, s, off =>
    match d.readLens r s off with
    | (.error e, d1) => (.error e, d1)
    | (.ok l, d1) =>
      match d1.readLenses r stride n (s + 1) (off + stride) with
      | (.error e, d2) => (.error e, d2)
      | (.ok t, d2) => (.ok (Item.lens (BitVec.ofNat 10 s) (some l) :: t), d2)

/-- LENS_SET's own fields, in the order of R51; R3 limits the sails. -/
def Dev.lensFields (d : Dev) (b : LensSetBody) : List (Bool × Nat × Nat) :=
  let top := 32 * mastsOf d.fuses.md0512
  let n := b.count.toNat
  [(b.none || d.live b.ref, 0x0111, 12), (decide (b.first.toNat < top), 0x0102, 8),
   (decide (1 ≤ n) && decide (n ≤ 1024), 0x0102, 10)] ++
  (if b.none then [(b.ref.handle == 0, 0x0102, 12), (b.ref.gen == 0, 0x0102, 14), (b.offset == 0, 0x0102, 16), (b.stride == 0, 0x0102, 24)]
   else [(b.offset.toNat % 64 == 0, 0x0102, 16), (b.stride.toNat % 64 == 0, 0x0102, 24)]) ++
  [(decide (b.first.toNat + n ≤ top), 0x0102, 10), (b.none || (d.buf b.ref.handle).fmt == 0, 0x0102, 12)]

/-- A LENS_SET fails and is counted (R160). -/
def Dev.lensReject (d : Dev) (q : QueueId) (h : Hdr) (e : LensBad) : Dev := (d.reject q h 0x30 e.1 e.2.1 e.2.2).bump 0x213002

/-- LENS_SET writes the lens shadow of each named sail, or fails whole (R144). -/
def Dev.lensSet (d : Dev) (q : QueueId) (h : Hdr) (b : LensSetBody) : Dev :=
  d.issue q (fun d =>
    match firstBad (d.lensFields b) with
    | some (code, det) => d.lensReject q h (code, det, none)
    | none =>
      let items := if b.none then
          (.ok ((List.range b.count.toNat).map (fun i => Item.lens (BitVec.ofNat 10 (b.first.toNat + i)) none)), d)
        else d.readLenses b.ref b.stride.toNat b.count.toNat b.first.toNat b.offset.toNat
      match items with
      | (.error e, d1) => d1.lensReject q h e
      | (.ok is, d1) => d1.instant q h 0x30 (fun e => is.foldl (fun e i => e.stage i) e))

/-- LENS_SET. -/
def execLensSet (q : QueueId) (h : Hdr) (b : LensSetBody) (s : State) : Host.Outcome State Fault Refusal :=
  runOn s (fun d => d.lensSet q h b)

/-! ### The ray pipeline (R140, R151 to R157) -/

/-- Bytes of DRAM as a unit reads them, and which of them lie in lines flagged as uncorrectable (R169, R326). -/
structure Mem where
  byte : Nat → Byte
  bad : Nat → Bool

/-- n bytes as a number, little-endian; 0 where a line that the read touches is uncorrectable (R166, R169). -/
def Mem.num (m : Mem) (a n : Nat) : Nat :=
  if m.bad a || m.bad (a + n - 1) then 0 else leNat ((List.range n).map (fun i => m.byte (a + i)))

/-- Lines at hand, by address. -/
abbrev Lines := List (Nat × VLine)

/-- The bytes of some lines; other bytes are not read. -/
def Lines.mem (ls : Lines) : Mem :=
  let line := fun (a : Nat) => ls.find? (fun (x : Nat × VLine) => x.1 == a / 64 * 64)
  { byte := fun a => ((line a).map (fun x => x.2.bytes.getD (a % 64) 0)).getD 0
    bad := fun a => ((line a).map (fun x => x.2.bad)).getD false }

/-- Address of the correction entry of a column and row (R143); `a` is the address of the map's header. -/
def Lens.node (l : Lens) (a j k : Nat) : Nat := a + l.table + (k * l.gx + j) * 8

/-- Component e (0 to 3) of the correction entry of a column and row (R143). -/
def Lens.entry (l : Lens) (m : Mem) (a j k e : Nat) : Int := sext 16 (m.num (l.node a j k + 2 * e) 2)

/-- The four corrections at a lens position (R152). A position beyond s14.24 keeps its integer and takes the edge node (DESIGN CHOICE, log
entry 117). -/
def Lens.correct (l : Lens) (m : Mem) (a : Nat) (lx ly : Int) (e : Nat) : Int :=
  let gx : Int := lx - l.col0 * 2 ^ 24 - 2 ^ 23
  let gy : Int := ly - l.row0 * 2 ^ 24 - 2 ^ 23
  let j := gx / 2 ^ 24
  let k := gy / 2 ^ 24
  let ax := gx % 2 ^ 24 / 2 ^ 12
  let ay := gy % 2 ^ 24 / 2 ^ 12
  let at_ := fun (j k : Int) => l.entry m a (clampTo l.gx j) (clampTo l.gy k) e
  ((4096 - ax) * (4096 - ay) * at_ j k + ax * (4096 - ay) * at_ (j + 1) k + (4096 - ax) * ay * at_ j (k + 1) +
    ax * ay * at_ (j + 1) (k + 1) + 2 ^ 23) / 2 ^ 24

/-- The sail pixel and lens positions of the ray of a pixel and channel: sx, sy, lx, ly (R151). -/
def Lens.position (l : Lens) (px py c : Nat) : Int × Int × Int × Int :=
  let sx : Int := ((px * 2 ^ 24 + l.subX.getD c 0 * 2 ^ 16 : Nat) : Int)
  let sy : Int := ((py * 2 ^ 24 + l.subY.getD c 0 * 2 ^ 16 : Nat) : Int)
  let tx : Int := sx - (sy * l.slant + 2 ^ 29) / 2 ^ 30 - l.phaseX
  let ty : Int := sy - l.phaseY
  (sx, sy, (tx * l.invP + 2 ^ 31) / 2 ^ 32, (ty * l.invR + 2 ^ 31) / 2 ^ 32)

/-- The lines of the correction nodes that a ray reads (R152, R162). -/
def Lens.nodeLines (l : Lens) (a px py c : Nat) : List Nat :=
  let p := l.position px py c
  let j := (p.2.2.1 - l.col0 * 2 ^ 24 - 2 ^ 23) / 2 ^ 24
  let k := (p.2.2.2 - l.row0 * 2 ^ 24 - 2 ^ 23) / 2 ^ 24
  let at_ := fun (j k : Int) => l.node a (clampTo l.gx j) (clampTo l.gy k) / 64 * 64
  [at_ j k, at_ (j + 1) k, at_ j (k + 1), at_ (j + 1) (k + 1)]

/-- Where a ray looks: corrected indices before the edge rule and the view-image position (R151). -/
structure RayPos where
  cu : Int
  cv : Int
  x : Int
  y : Int
  deriving DecidableEq, Repr

/-- The mapping pipeline of R151 for the ray of a pixel and channel. Positions beyond s15.16 keep their integer and do not wrap (DESIGN CHOICE,
log entry 117). -/
def Lens.map (l : Lens) (m : Mem) (a px py c : Nat) : RayPos :=
  let (sx, sy, lx, ly) := l.position px py c
  let fx : Int := lx % 2 ^ 24
  let fy : Int := ly % 2 ^ 24
  let vu : Int := fx * l.nu / 2 ^ 8
  let vv : Int := if l.integral then fy * l.nv / 2 ^ 8 else 0
  let cx : Int := sx - ((fx - 2 ^ 23) * l.pitch + 2 ^ 23) / 2 ^ 24
  let cy : Int := if l.integral then sy - ((fy - 2 ^ 23) * l.rowPitch + 2 ^ 23) / 2 ^ 24 else sy
  { cu := vu + l.correct m a lx ly 0 * 16
    cv := if l.integral then vv + l.correct m a lx ly 1 * 16 else 0
    x := l.originX + (l.scaleX * cx + 2 ^ 31) / 2 ^ 32 + l.correct m a lx ly 2 * 16
    y := l.originY + (l.scaleY * cy + 2 ^ 31) / 2 ^ 32 + l.correct m a lx ly 3 * 16 }

/-- The edge rule of R153 on an index against a view count. -/
def edgeIndex (wrap : Bool) (n : Nat) (i : Int) : Nat :=
  if wrap then (i % ((n * 2 ^ 16 : Nat) : Int)).toNat else (max 0 (min (((n - 1) * 2 ^ 16 : Nat) : Int) i)).toNat

/-- The upper neighbour of a view index (R153). -/
def edgeNext (wrap : Bool) (n i0 : Nat) : Nat := if wrap then (i0 + 1) % n else min (i0 + 1) (n - 1)

/-- The blend weight of a fixed-point position's fraction (R153, R154). -/
def weight16 (i : Nat) : Nat := (i % 2 ^ 16 + 128) / 2 ^ 8

/-- Address of a tap of a view, its position clamped to the view (R141, R154). -/
def VSet.tapAt (v : VSet) (base view : Nat) (x y : Int) : Nat := base + v.offset view (clampTo v.width x) (clampTo v.height y)

/-- Linear value of a tap of a view: VS32 codes by R117, VS48 as stored (R154). A VS48 sample that straddles two lines reads both, so it
is 0 where either is uncorrectable (R166, R169). -/
def VSet.tap (v : VSet) (m : Mem) (base view : Nat) (x y : Int) (ch : Nat) : Nat :=
  let a := v.tapAt base view x y
  if v.fmt = 5 then m.num a 6 / 2 ^ (16 * ch) % 65536 else linear10 v.curve v.peak (m.num a 4 / 2 ^ (20 - 10 * ch) % 1024)

/-- The lines that a tap reads (R166). -/
def VSet.tapLines (v : VSet) (base view : Nat) (x y : Int) : List Nat := linesOf (v.tapAt base view x y) (sampleSize v.fmt)

/-- The rounding bilinear blend of four taps with weights of 0 to 256; taps of weight 0 are not read (R154, R156). -/
def bilinear (wx wy : Nat) (t : Int → Int → Nat) (x0 y0 : Int) : Nat :=
  let term := fun (w : Nat) (x y : Int) => if w = 0 then 0 else w * t x y
  (term ((256 - wx) * (256 - wy)) x0 y0 + term (wx * (256 - wy)) (x0 + 1) y0 + term ((256 - wx) * wy) x0 (y0 + 1) +
    term (wx * wy) (x0 + 1) (y0 + 1) + 2 ^ 15) / 2 ^ 16

/-- What the taps of a bilinear blend read. -/
def bilinearReads {α : Type} (wx wy : Nat) (t : Int → Int → List α) (x0 y0 : Int) : List α :=
  let term := fun (w : Nat) (x y : Int) => if w = 0 then [] else t x y
  term ((256 - wx) * (256 - wy)) x0 y0 ++ term (wx * (256 - wy)) (x0 + 1) y0 ++ term ((256 - wx) * wy) x0 (y0 + 1) ++
    term (wx * wy) (x0 + 1) (y0 + 1)

/-- b(view) of R154 at a view-image position. -/
def VSet.sampleAt (v : VSet) (m : Mem) (base view : Nat) (x y : Int) (ch : Nat) : Nat :=
  let xs := x - 2 ^ 15
  let ys := y - 2 ^ 15
  bilinear (weight16 (xs % 2 ^ 16).toNat) (weight16 (ys % 2 ^ 16).toNat) (fun x y => v.tap m base view x y ch)
    (xs / 2 ^ 16) (ys / 2 ^ 16)

/-- The lines that b(view) reads. -/
def VSet.sampleLines (v : VSet) (base view : Nat) (x y : Int) : List Nat :=
  let xs := x - 2 ^ 15
  let ys := y - 2 ^ 15
  bilinearReads (weight16 (xs % 2 ^ 16).toNat) (weight16 (ys % 2 ^ 16).toNat) (fun x y => v.tapLines base view x y) (xs / 2 ^ 16) (ys / 2 ^ 16)

/-- Blend of two values with a weight of 0 to 256; a value of weight 0 is not computed (R154 to R156). -/
def blend256 (w : Nat) (a b : Unit → Nat) : Nat :=
  ((if w = 256 then 0 else (256 - w) * a ()) + (if w = 0 then 0 else w * b ()) + 128) / 256

/-- What the two values of a blend read. -/
def blendReads {α : Type} (w : Nat) (a b : Unit → List α) : List α := (if w = 256 then [] else a ()) ++ (if w = 0 then [] else b ())

/-- S of R154 at an index after the edge rule. -/
def Lens.lenticular (l : Lens) (v : VSet) (m : Mem) (base : Nat) (p : RayPos) (ch i : Nat) : Nat :=
  let i0 := i / 2 ^ 16
  blend256 (weight16 i) (fun _ => v.sampleAt m base (l.base + i0) p.x p.y ch)
    (fun _ => v.sampleAt m base (l.base + edgeNext l.wrap l.nu i0) p.x p.y ch)

/-- The value of an INTEGRAL ray (R155). -/
def Lens.integralRay (l : Lens) (v : VSet) (m : Mem) (base : Nat) (p : RayPos) (ch iu iv : Nat) : Nat :=
  let u0 := iu / 2 ^ 16
  let v0 := iv / 2 ^ 16
  let u1 := edgeNext l.wrap l.nu u0
  let v1 := edgeNext l.wrap l.nv v0
  let b := fun (u w : Nat) => v.sampleAt m base (l.base + w * l.nu + u) p.x p.y ch
  let row := fun (w : Nat) => blend256 (weight16 iu) (fun _ => b u0 w) (fun _ => b u1 w)
  blend256 (weight16 iv) (fun _ => row v0) (fun _ => row v1)

/-- CROSSTALK3 of R157: the edge rule applies to each of the three indices. -/
def Lens.crosstalk (l : Lens) (v : VSet) (m : Mem) (base : Nat) (p : RayPos) (ch : Nat) : Nat :=
  let s := fun (i : Int) => ((l.lenticular v m base p ch (edgeIndex l.wrap l.nu i) : Nat) : Int)
  let acc := l.k0 * s p.cu + l.km * s (p.cu - 2 ^ 16) + l.kp * s (p.cu + 2 ^ 16)
  (max 0 (min 65535 ((acc + 2 ^ 13) / 2 ^ 14))).toNat

/-- The lines that S of R154 reads. -/
def Lens.lenticularLines (l : Lens) (v : VSet) (base : Nat) (p : RayPos) (i : Nat) : List Nat :=
  blendReads (weight16 i) (fun _ => v.sampleLines base (l.base + i / 2 ^ 16) p.x p.y)
    (fun _ => v.sampleLines base (l.base + edgeNext l.wrap l.nu (i / 2 ^ 16)) p.x p.y)

/-- The lines that an INTEGRAL ray reads. -/
def Lens.integralLines (l : Lens) (v : VSet) (base : Nat) (p : RayPos) (iu iv : Nat) : List Nat :=
  let b := fun (u w : Nat) => v.sampleLines base (l.base + w * l.nu + u) p.x p.y
  let row := fun (w : Nat) => blendReads (weight16 iu) (fun _ => b (iu / 2 ^ 16) w) (fun _ => b (edgeNext l.wrap l.nu (iu / 2 ^ 16)) w)
  blendReads (weight16 iv) (fun _ => row (iv / 2 ^ 16)) (fun _ => row (edgeNext l.wrap l.nv (iv / 2 ^ 16)))

/-- The view-set lines of the tap footprint of a ray, its corrections read from `m` (R162). -/
def Lens.rayLines (l : Lens) (v : VSet) (m : Mem) (a base px py c : Nat) : List Nat :=
  let p := l.map m a px py c
  let s := fun (i : Int) => l.lenticularLines v base p (edgeIndex l.wrap l.nu i)
  if l.integral then l.integralLines v base p (edgeIndex l.wrap l.nu p.cu) (edgeIndex l.wrap l.nv p.cv)
  else if l.xtalk then s p.cu ++ s (p.cu - 2 ^ 16) ++ s (p.cu + 2 ^ 16)
  else s p.cu

/-- What an engine hands on for one ray: L0 value and the indices after the edge rule (R158). -/
structure RayOut where
  value : Nat
  cu : Nat
  cv : Nat
  deriving DecidableEq, Repr

/-- One ray: addresses of the map's header and of the view set's buffer, the set ACTIVE when the tack sealed (R135, R158). -/
def Lens.ray (l : Lens) (set : Option VSet) (m : Mem) (a base px py c : Nat) : RayOut :=
  let p := l.map m a px py c
  let cu := edgeIndex l.wrap l.nu p.cu
  let cv := if l.integral then edgeIndex l.wrap l.nv p.cv else 0
  { value := match set with
      | none => 0
      | some v => if l.integral then l.integralRay v m base p c cu cv else if l.xtalk then l.crosstalk v m base p c else l.lenticular v m base p c cu
    cu := cu, cv := cv }

/-- The L0 word of a pixel: red in [47:32], green in [31:16], blue in [15:0] (R170). -/
def l0Word (os : Nat → RayOut) : BitVec 48 := BitVec.ofNat 48 ((os 0).value * 2 ^ 32 + (os 1).value * 2 ^ 16 + (os 2).value)

/-- The record that a cluster hands to the compositor for a pixel of a plot (R171): PY, PX, CV and CU of the three rays, the L0 word. -/
def handRecord (os : Nat → RayOut) (px py : Nat) : BitVec 208 :=
  let idx := fun (g : RayOut → Nat) => (g (os 0)) % 2 ^ 24 * 2 ^ 48 + (g (os 1)) % 2 ^ 24 * 2 ^ 24 + (g (os 2)) % 2 ^ 24
  BitVec.ofNat 208 (py % 64 * 2 ^ 198 + px % 64 * 2 ^ 192 + idx RayOut.cv * 2 ^ 120 + idx RayOut.cu * 2 ^ 48 + (l0Word os).toNat)

/-- A ray of a record, as the compositor reads it (R170, R171). -/
def recordRay (w : BitVec 208) (c : Nat) : RayOut :=
  { value := w.toNat / 2 ^ (32 - 16 * c) % 2 ^ 16
    cu := w.toNat / 2 ^ (96 - 24 * c) % 2 ^ 24
    cv := w.toNat / 2 ^ (168 - 24 * c) % 2 ^ 24 }

/-- Clocks per plot of a sail's mode (R159). -/
def Lens.clocks (l : Lens) : Nat := if l.integral || l.xtalk then 768 else 384

end Sys2Proof.Machine
end

