-- ==== Sys2Proof/Machine/Compose.lean ====
section
/-! DEFINITION. Planar layers, gains and LUTs (file 09, R177 to R186): LAYER_SET and LUT_LOAD, footprints and line-buffer
widths, and the composition of one pixel. -/

namespace Sys2Proof.Machine

/-! ### The descriptor (R177, R178) -/

/-- Disparity X as a raw s8.8 number. -/
def layerDx (b : LayerBody) : Int := sext 32 b.dispX.toNat
/-- Disparity Y as a raw s8.8 number. -/
def layerDy (b : LayerBody) : Int := sext 32 b.dispY.toNat
/-- Left edge on the panel. -/
def layerX (b : LayerBody) : Int := sext 32 b.dstX.toNat
/-- Top edge on the panel. -/
def layerY (b : LayerBody) : Int := sext 32 b.dstY.toNat
/-- The raw u8.24 step across (R180). -/
def layerStepX (b : LayerBody) : Nat := b.srcW.toNat * 2 ^ 24 / b.dstW.toNat
/-- The raw u8.24 step down (R180). -/
def layerStepY (b : LayerBody) : Nat := b.srcH.toNat * 2 ^ 24 / b.dstH.toNat

/-- A disparity field is the sign extension of its low 17 bits (R6). -/
def dispOk (v : U32) : Bool := sext 17 v.toNat == sext 32 v.toNat

/-- An effective scale of 1/64 to 4 (R178). -/
def scaleOk (src dst f : Nat) : Bool := decide (f * dst ≤ 64 * src) && decide (src ≤ 4 * f * dst)

/-- Every field after the action is 0, in offset order, under DISABLE (R178). -/
def layerZeros (b : LayerBody) : List (Bool × Nat × Nat) :=
  [(b.ref.handle == 0, 0x0501, 10), (b.ref.gen == 0, 0x0501, 12), (b.fmt == 0, 0x0501, 14), (b.curve == 0, 0x0501, 15),
   (b.srcX == 0, 0x0501, 16), (b.srcY == 0, 0x0501, 18), (b.srcW == 0, 0x0501, 20), (b.srcH == 0, 0x0501, 22),
   (b.dstX == 0, 0x0501, 24), (b.dstY == 0, 0x0501, 28), (b.dstW == 0, 0x0501, 32), (b.dstH == 0, 0x0501, 36)] ++
  [(b.dispX == 0, 0x0501, 40), (b.dispY == 0, 0x0501, 44), (b.cenU == 0, 0x0501, 48), (b.cenV == 0, 0x0501, 50),
   (b.blend == 0, 0x0501, 52), (b.decim == 0, 0x0501, 53), (b.peak == 0, 0x0501, 54)]

/-- Ranges of SET's fields in offset order, then the relations (R178 steps 2 and 3). -/
def layerRanges (b : LayerBody) (bufFmt : Nat) : List (Bool × Nat × Nat) :=
  let f := b.fmt.toNat
  let c := b.curve.toNat
  let k := b.decim.toNat
  [((f == 1 || f == 2 || f == 3 || f == 5) && bufFmt == f, 0x0501, 14),
   (if f = 3 ∨ f = 5 then c == 0 else c == 1 || c == 2, 0x0501, 15),
   (decide (1 ≤ b.srcW.toNat) && decide (b.srcW.toNat ≤ 16384), 0x0501, 20),
   (decide (1 ≤ b.srcH.toNat) && decide (b.srcH.toNat ≤ 16384), 0x0501, 22),
   (decide (1 ≤ b.dstW.toNat) && decide (b.dstW.toNat ≤ 131072), 0x0501, 32),
   (decide (1 ≤ b.dstH.toNat) && decide (b.dstH.toNat ≤ 65536), 0x0501, 36), (dispOk b.dispX, 0x0501, 40), (dispOk b.dispY, 0x0501, 44),
   (decide (b.blend.toNat ≤ 2), 0x0501, 52), (k == 1 || k == 2 || k == 4, 0x0501, 53),
   (if c = 1 then decide (100 ≤ b.peak.toNat) && decide (b.peak.toNat ≤ 10000) else b.peak == 0, 0x0501, 54)] ++
  [(b.srcW.toNat % k == 0, 0x0501, 20), (b.srcH.toNat % k == 0, 0x0501, 22),
   (scaleOk b.srcW.toNat b.dstW.toNat k && scaleOk b.srcH.toNat b.dstH.toNat k, 0x0501, 20)]

/-- The source rectangle against its buffer (R178 step 4): rows within the pitch, then rows within the size; details of R52. -/
def rectBounds (x y w h ss pitch size : Nat) : List (Bool × Nat × Nat) :=
  [(decide ((x + w) * ss ≤ pitch), 0x0A01, (y * pitch + pitch) % 2 ^ 24),
   (decide ((y + h) * pitch ≤ size), 0x0A01, boundsDetail size (y * pitch + x * ss))]

/-- The checks of LAYER_SET in order (R178). -/
def Dev.layerChecks (d : Dev) (b : LayerBody) : List (Bool × Nat × Nat) :=
  let x := d.buf b.ref.handle
  [(b.action != 0 || d.live b.ref, 0x0111, 10),
   (decide (1 ≤ b.layer.toNat) && decide (b.layer.toNat ≤ 7), 0x0501, 8), (decide (b.action.toNat ≤ 1), 0x0501, 9)] ++
  (if b.action = 1 then layerZeros b
   else layerRanges b x.fmt ++
     rectBounds b.srcX.toNat b.srcY.toNat b.srcW.toNat b.srcH.toNat (sampleSize b.fmt.toNat) x.pitch x.size)

/-- LAYER_SET writes a layer's shadow (R178). -/
def Dev.layerSet (d : Dev) (q : QueueId) (h : Hdr) (b : LayerBody) : Dev :=
  d.issue q (fun d => d.checked q h 0x40 (d.layerChecks b) (fun d =>
    d.instant q h 0x40 (fun e => e.stage (.layer b.layer.toNat (if b.action = 0 then some b else none)))))

/-- LAYER_SET. -/
def execLayerSet (q : QueueId) (h : Hdr) (b : LayerBody) (s : State) : Host.Outcome State Fault Refusal :=
  runOn s (fun d => d.layerSet q h b)

/-- The 4,096 entries of LUT contents as read (R185, R186). -/
def lutWords (bs : List Byte) : Nat → List U32
  | 0 => []
  | n + 1 => BitVec.ofNat 32 (field bs 0 4) :: lutWords (bs.drop 4) n

/-- LUT_LOAD copies 16,384 bytes into a LUT's shadow at dispatch (R186); an uncorrectable line or the lost channel fails it (R326, R334). -/
def Dev.lutLoad (d : Dev) (q : QueueId) (h : Hdr) (b : LutBody) : Dev :=
  d.issue q (fun d => d.checked q h 0x42
    [(d.live b.ref, 0x0111, 10), (decide (b.lut.toNat ≤ 7), 0x0102, 8), (b.offset.toNat % 64 == 0, 0x0102, 16),
     (decide (b.offset.toNat + 16384 ≤ d.sizeOf b.ref), 0x0A01, boundsDetail (d.sizeOf b.ref) b.offset.toNat)]
    (fun d =>
      if d.lostBuf b.ref b.offset.toNat 16384 then d.rejectOpen q h 0x42 0x0A04
      else match d.checkBuf queueSrc b.ref b.offset.toNat 16384 with
        | (some _, d1) => d1.rejectOpen q h 0x42 0x0A03
        | (none, d1) => d1.instant q h 0x42 (fun e => e.stage (.lut b.lut.toNat (lutWords (d1.readBuf b.ref b.offset.toNat 16384) 4096)))))

/-- LUT_LOAD. -/
def execLutLoad (q : QueueId) (h : Hdr) (b : LutBody) (s : State) : Host.Outcome State Fault Refusal :=
  runOn s (fun d => d.lutLoad q h b)

/-! ### Footprints and line buffers (R181, R183) -/

/-- How far disparity widens a rectangle: ceil(|d| × max(C, n − 1 − C)) (R181). -/
def extent (disp : Int) (cen n : Nat) : Nat := ceilDiv (disp.natAbs * max cen ((n - 1) * 256 - cen)) 65536

/-- Panel position of a sail's pixel (0, 0) (R10). -/
def sailOrigin (s : SailId) : Int × Int := (((4096 * (s.toNat / 32) : Nat) : Int), ((2048 * (s.toNat % 32) : Nat) : Int))

/-- The plots of a sail that contain a pixel of panel columns x0 to x1 − 1 and rows y0 to y1 − 1. -/
def panelPlots (s : SailId) (l : Lens) (x0 x1 y0 y1 : Int) : BitVec 2048 :=
  let o := sailOrigin s
  let lo := fun (x o : Int) => (max 0 (x - o)).toNat
  let hi := fun (x o : Int) (n : Nat) => (max 0 (min (n : Int) (x - o))).toNat
  let a := lo x0 o.1
  let b := hi x1 o.1 l.width
  let c := lo y0 o.2
  let e := hi y1 o.2 l.height
  if a < b ∧ c < e then rectMask (a / 64) ((b - 1) / 64 + 1) (c / 64) ((e - 1) / 64 + 1) else 0

/-- Widening left and right on a sail (R181). -/
def layerEx (b : LayerBody) (l : Lens) : Nat := extent (layerDx b) b.cenU.toNat l.nu
/-- Widening above and below on a sail (R181). -/
def layerEy (b : LayerBody) (l : Lens) : Nat := if l.integral then extent (layerDy b) b.cenV.toNat l.nv else 0

/-- The footprint of a layer on a sail (R181). -/
def footprint (b : LayerBody) (s : SailId) (l : Lens) : BitVec 2048 :=
  let ex : Int := layerEx b l
  let ey : Int := layerEy b l
  panelPlots s l (layerX b - ex) (layerX b + b.dstW.toNat + ex) (layerY b - ey) (layerY b + b.dstH.toNat + ey)

/-- The footprint of a write of source rows r0 to r1 of a layer (R181). -/
def rowFootprint (b : LayerBody) (s : SailId) (l : Lens) (r0 r1 : Nat) : BitVec 2048 :=
  let ex : Int := layerEx b l
  let ey : Int := layerEy b l
  let f : Int := b.decim.toNat
  let top := layerY b + ((r0 : Int) - f) * b.dstH.toNat / b.srcH.toNat - ey
  let bot := layerY b - (-(((r1 : Int) + 1 + f) * b.dstH.toNat)) / b.srcH.toNat + ey
  panelPlots s l (layerX b - ex) (layerX b + b.dstW.toNat + ex) (max top (layerY b - ey))
    (min (bot + 1) (layerY b + b.dstH.toNat + ey))

/-- W of R183, for a layer on a sail with n views along U. -/
def lineWidth (b : LayerBody) (nu : Nat) : Nat :=
  ceilDiv (layerStepX b * (16384 + (layerDx b).natAbs * (nu - 1))) (b.decim.toNat * 2 ^ 32) + 2

/-- The largest raw disparity with which W is at most 8,192 on a sail, saturated to 0xFFFF (R188). -/
def lineFit (b : LayerBody) (nu : Nat) : Nat :=
  if nu ≤ 1 then 0xFFFF else min 0xFFFF ((8190 * (b.decim.toNat * 2 ^ 32) / layerStepX b - 16384) / (nu - 1))

/-! ### Samples and blending (R179, R180, R184) -/

/-- Linear channel value and alpha of a source sample at an address (R179). -/
def layerTexel (b : LayerBody) (m : Mem) (a ch : Nat) : Nat × Nat :=
  let v := m.num a 4
  let c8 := v / 2 ^ (16 - 8 * ch) % 256
  if b.fmt = 1 then (linear10 b.curve.toNat b.peak.toNat (c8 * 4 + c8 / 64), v / 2 ^ 24 * 257)
  else if b.fmt = 2 then (linear10 b.curve.toNat b.peak.toNat (v / 2 ^ (20 - 10 * ch) % 1024), v / 2 ^ 30 * 21845)
  else if b.fmt = 3 then (m.num (a + 2 * ch) 2, m.num (a + 6) 2)
  else (m.num (a + 2 * ch) 2, 0xFFFF)

/-- Alpha on the scale of 65,536 (R179). -/
def a16 (a : Nat) : Nat := a + a / 2 ^ 15

/-- Premultiplied colour and alpha of a source sample (R179). -/
def premul (b : LayerBody) (m : Mem) (a ch : Nat) : Nat × Nat :=
  let t := layerTexel b m a ch
  ((t.1 * a16 t.2 + 32768) / 65536, t.2)

/-- Decimated sample (i, j): the mean over f × f source samples of colour and of alpha (R179). -/
def decimated (b : LayerBody) (m : Mem) (base pitch i j ch : Nat) : Nat × Nat :=
  let f := b.decim.toNat
  let ts := (List.range f).flatMap (fun dy => (List.range f).map (fun dx =>
    premul b m (base + (b.srcY.toNat + f * j + dy) * pitch + (b.srcX.toNat + f * i + dx) * sampleSize b.fmt.toNat) ch))
  let mean := fun (g : Nat × Nat → Nat) => ((ts.map g).foldl (· + ·) 0 + f * f / 2) / (f * f)
  (mean (·.1), mean (·.2))

/-- Shifted position of a ray within a layer, in 1/256 pixel from its left and top edges (R180). -/
def layerPos (b : LayerBody) (l : Lens) (x y : Int) (ch : Nat) (o : RayOut) : Int × Int :=
  let iu := min o.cu ((l.nu - 1) * 2 ^ 16)
  let iv := min o.cv ((l.nv - 1) * 2 ^ 16)
  ((x - layerX b) * 256 + (l.subX.getD ch 0 : Nat) + layerDx b * ((iu : Int) - (b.cenU.toNat * 256 : Nat)) / 2 ^ 16,
   (y - layerY b) * 256 + (l.subY.getD ch 0 : Nat) +
     (if l.integral then layerDy b * ((iv : Int) - (b.cenV.toNat * 256 : Nat)) / 2 ^ 16 else 0))

/-- A position within the shifted rectangle as a decimated sample position, s18.16 (R180). -/
def decimPos (r : Int) (step f : Nat) : Int :=
  let k := Nat.log2 f
  (r * step + 2 ^ (15 + k)) / 2 ^ (16 + k)

/-- Blend modes (R184). -/
def blendMode (mode d p a : Nat) : Nat :=
  if mode = 0 then min 65535 (p + (d * (65536 - a16 a) + 32768) / 65536) else if mode = 1 then p else min 65535 (d + p)

/-- One layer over one channel of a pixel (R180, R184). -/
def layerOver (b : LayerBody) (l : Lens) (m : Mem) (base pitch : Nat) (x y : Int) (ch : Nat) (o : RayOut) (dv : Nat) : Nat :=
  let r := layerPos b l x y ch o
  if r.1 < 0 ∨ ((b.dstW.toNat * 256 : Nat) : Int) ≤ r.1 ∨ r.2 < 0 ∨ ((b.dstH.toNat * 256 : Nat) : Int) ≤ r.2 then dv
  else
    let f := b.decim.toNat
    let xs := decimPos r.1 (layerStepX b) f - 2 ^ 15
    let ys := decimPos r.2 (layerStepY b) f - 2 ^ 15
    let tap := fun (i j : Int) => decimated b m base pitch (clampTo (b.srcW.toNat / f) i) (clampTo (b.srcH.toNat / f) j) ch
    let mix := fun (g : Nat × Nat → Nat) =>
      bilinear (weight16 (xs % 2 ^ 16).toNat) (weight16 (ys % 2 ^ 16).toNat) (fun i j => g (tap i j)) (xs / 2 ^ 16) (ys / 2 ^ 16)
    blendMode b.blend.toNat dv (mix (·.1)) (mix (·.2))

/-- The gain of R185. -/
def gained (v g : Nat) : Nat := min 65535 ((v * g + 16384) / 32768)

/-- A LUT entry's channel; the empty list stands for the linear ramp (R185). -/
def lutEntry (t : List U32) (i ch : Nat) : Nat :=
  if t.isEmpty then i / 4 else (t.getD i 0).toNat / 2 ^ (20 - 10 * ch) % 1024

/-- The interpolated LUT output (R185). -/
def lutOut (t : List U32) (v ch : Nat) : Nat :=
  (lutEntry t (v / 16) ch * (16 - v % 16) + lutEntry t (min (v / 16 + 1) 4095) ch * (v % 16) + 8) / 16

/-- The enabled layers of the applied state, ascending (R177). -/
def Dev.layersOn (d : Dev) : List LayerBody := d.comp.ap.layers.filterMap (·.2)

/-- The layers whose footprint contains a plot of a sail (R182). -/
def Dev.layersAt (d : Dev) (s : SailId) (l : Lens) (plot : Nat) : List LayerBody :=
  d.layersOn.filter (fun b => (footprint b s l).getLsbD plot)

/-- The composed 10-bit value of one channel of a pixel of a sail, from its record (R171, R177), with the bytes that each layer's scaler
reads. -/
def Dev.composeChannel (d : Dev) (ml : LayerBody → Mem) (s : SailId) (l : Lens) (w : BitVec 208) (px py ch : Nat) : Nat :=
  let o := recordRay w ch
  let org := sailOrigin s
  let v := d.layersOn.foldl (fun dv b =>
    layerOver b l (ml b) (d.buf b.ref.handle).base (d.buf b.ref.handle).pitch (org.1 + (px : Nat)) (org.2 + (py : Nat)) ch o dv) o.value
  lutOut (SMap.get [] d.comp.ap.luts (d.tval (sailKey s 0x404))) (gained v (d.tval (sailKey s (0x401 + ch)))) ch

/-- The composed 30-bit pixel of a record of a plot (R171, R177, R234). -/
def Dev.composeRecord (d : Dev) (ml : LayerBody → Mem) (s : SailId) (l : Lens) (plot : Nat) (w : BitVec 208) : U32 :=
  let c := fun ch => d.composeChannel ml s l w (plot % 64 * 64 + w.toNat / 2 ^ 192 % 64) (plot / 64 * 64 + w.toNat / 2 ^ 198 % 64) ch
  BitVec.ofNat 32 (c 0 * 2 ^ 20 + c 1 * 2 ^ 10 + c 2)

/-- The byte ranges of a layer's buffer that a plot's pass through a scaler reads: the rows, and within them the samples, that its pixels map
to, widened by disparity and decimation and clamped to the source rectangle (R181, R183, R296). -/
def Dev.layerReads (d : Dev) (b : LayerBody) (s : SailId) (l : Lens) (plot : Nat) : List (Nat × Nat) :=
  let o := sailOrigin s
  let f : Int := b.decim.toNat
  let clip := fun (n : Nat) (v : Int) => (max 0 (min ((n : Int) - 1) v)).toNat
  let first := fun (at_ e : Int) (src dst : Nat) => clip src ((at_ - e) * src / dst - f)
  let last := fun (at_ e : Int) (src dst : Nat) => clip src ((at_ + 63 + e) * src / dst + f)
  let x := o.1 + ((64 * (plot % 64) : Nat) : Int) - layerX b
  let y := o.2 + ((64 * (plot / 64) : Nat) : Int) - layerY b
  let c0 := first x (layerEx b l) b.srcW.toNat b.dstW.toNat
  let c1 := last x (layerEx b l) b.srcW.toNat b.dstW.toNat
  let r0 := first y (layerEy b l) b.srcH.toNat b.dstH.toNat
  let r1 := last y (layerEy b l) b.srcH.toNat b.dstH.toNat
  let ss := sampleSize b.fmt.toNat
  (List.range (r1 + 1 - r0)).map (fun k =>
    ((b.srcY.toNat + r0 + k) * (d.buf b.ref.handle).pitch + (b.srcX.toNat + c0) * ss, (c1 + 1 - c0) * ss))

end Sys2Proof.Machine
end

