-- ==== Sys2Proof/Machine/Cache.lean ====
section
/-! DEFINITION. The view caches and the reads of ray engines and layer scalers (R14, R162, R165 to R169): requests in the channels' read
queues, their fills, and one plot's composed pixels. -/

namespace Sys2Proof.Machine

/-! ### What a read of DRAM returns (R14, R167) -/

/-- The next choice that the memory controller or a cache makes (log entry 20), and the count of it. -/
def Dev.pick (d : Dev) : Nat × Dev :=
  ((Config.freeChoice d.dram.picks).toNat, { d with dram := { d.dram with picks := d.dram.picks + 1 } })

/-- A byte as it was before the newest k bytes were overwritten. -/
def Dev.byteBefore (d : Dev) (k a : Nat) : Byte :=
  (((d.dram.old.take k).reverse.find? (fun (c : Host.Cell) => c.1 == a)).map (·.2)).getD (d.byteAt a)

/-- What the DECODE that a thresher runs has written, or is writing, to DRAM (R14, R98, R106). -/
def Dev.inFlight (d : Dev) (t : ThresherId) : Dev :=
  match (d.thresher t).jobs.head? with
  | some (.decode id b target active pending) =>
    let v := d.judge id b target active pending
    if v.fault.isSome then d.spoil id b target
    else
      let d1 := d.put 2 (thresherSrc t) b.dst b.dstOff.toNat v.dec.out
      match target with
      | some w => v.recs.foldl (fun (e : Dev) (r : TileRec) =>
          e.reconTile (thresherSrc t) { target := w, active := active, pending := pending } r) d1
      | none => d1
  | _ => d

/-- The threshers whose running DECODE writes into a buffer. -/
def Dev.writersOf (d : Dev) (r : BufRef) : List ThresherId :=
  allThreshers.filter (fun t => match (d.thresher t).jobs.head? with
    | some (.decode _ b target _ _) => b.dst == r || target.map (·.ref) == some r
    | _ => false)

/-- The 64 bytes that a read of a line of a buffer returns, for a choice: they stood there at one instant since `mark` bytes had been
overwritten (R167), and a sample that a running DECODE rewrites reads as old or new (R14). -/
def Dev.seen (d : Dev) (r : BufRef) (mark line choice : Nat) : List Byte :=
  let x := d.buf r.handle
  let k := if d.dram.old.length ≤ mark then 0 else choice / 2 ^ 32 % (d.dram.old.length - mark + 1)
  let ws := d.writersOf r
  let new := ws.map (fun t => d.inFlight t)
  (List.range 64).map (fun i =>
    let sample := (line + i - x.base) / sampleSize x.fmt - (line - x.base) / sampleSize x.fmt
    (new.find? (fun (e : Dev) => e.byteAt (line + i) != d.byteAt (line + i) && bit choice sample)).elim (d.byteBefore k (line + i))
      (fun (e : Dev) => e.byteAt (line + i)))

/-- A line is one that an uncorrectable error is known in (R326). -/
def Dev.lineBad (d : Dev) (a : Nat) : Bool := d.dram.upsets.any (fun (u : Upset) => u.double && d.inEcc u.line && u.line == a / 64 * 64)

/-! ### The view caches (R166 to R169) -/

/-- A cluster's view cache. -/
def Dev.cache (d : Dev) (c : ClusterId) : VCache := SMap.get {} d.dram.caches c.toNat
/-- Write a cluster's view cache. -/
def Dev.setCache (d : Dev) (c : ClusterId) (x : VCache) : Dev :=
  { d with dram := { d.dram with caches := SMap.set {} d.dram.caches c.toNat x } }

/-- The lines held in the set of a line: 3,072 sets (R166). -/
def VCache.peers (x : VCache) (line : Nat) : List Nat :=
  (x.lines.map (·.1)).filter (fun l => Config.cacheSet (l / 64) % 3072 == Config.cacheSet (line / 64) % 3072)

/-- A line joins a cluster's cache; of 16 in its set one of the cache's choice leaves (R166). -/
def Dev.keepLine (d : Dev) (c : ClusterId) (line : Nat) (v : VLine) : Dev :=
  let x := d.cache c
  let ps := if x.lines.length < 16 then [] else x.peers line
  let p := d.pick
  let out := if ps.length < 16 then x.lines else SMap.erase x.lines (ps.getD (p.1 % ps.length) 0)
  p.2.setCache c { x with lines := SMap.set none out line (some v), fetched := satAdd 0x3FFFFFFFFFF x.fetched 1 }

/-- A line that a channel returns to a cluster: zeros outside its buffer (R327), nothing known from the lost channel (R334), zeros flagged
where it is uncorrectable (R169), else its bytes, a single-bit error corrected (R325). -/
def Dev.lineRead (d : Dev) (c : ClusterId) (r : MemReq) : VLine × Dev :=
  let x := d.buf r.ref.handle
  let zeros := List.replicate 64 0#8
  if r.line < x.base ∨ x.base + x.size < r.line + 64 then ({ bytes := zeros, bad := false }, d.boundsLog (clusterSrc c) r.ref (r.line - x.base))
  else if d.lostIn r.line 64 then ({ bytes := d.freeBytes 64, bad := false }, d.useFree)
  else
    match d.checkEcc (clusterSrc c) r.line 64 with
    | (some _, d1) => ({ bytes := zeros, bad := true }, d1.bump 0x21400A)
    | (none, d1) => ({ bytes := d1.seen r.ref r.mark r.line d1.pick.1, bad := false }, d1.pick.2)

/-- A cluster's reads that have not completed, in the order in which it asked for them: those that wait in a channel and those issued. -/
def Dev.asks (d : Dev) (c : ClusterId) : List MemReq :=
  sortBy (fun (a b : MemReq) => decide (a.num ≤ b.num))
    (((List.range 32).flatMap (fun ch => (d.chan ch).reads) ++ d.dram.issued).filter (fun (r : MemReq) => r.src == clusterSrc c))

/-- A read of a cluster completes: its channel issues it, where it has not, and the line fills the cache. -/
def Dev.filled (d : Dev) (c : ClusterId) (r : MemReq) : Dev :=
  let d1 := d.serveRead r
  let d2 := { d1 with dram := { d1.dram with issued := d1.dram.issued.filter (fun (x : MemReq) => x != r) } }
  let f := d2.lineRead c r
  f.2.keepLine c r.line f.1

/-- A cluster requests a line that it neither holds nor has requested, at class URGENT or HIGH (R162, R165, R166). One that it has requested keeps
its class, though a job of an URGENT mast needs it now (DESIGN CHOICE, log entry 20). -/
def Dev.requestLine (d : Dev) (c : ClusterId) (urgent : Bool) (ref : BufRef) (line : Nat) : Dev :=
  if (SMap.get none (d.cache c).lines line).isSome ∨ (d.asks c).any (fun (r : MemReq) => r.line == line) = true then d
  else (d.askLine (if urgent then 0 else 1) (clusterSrc c) ref line).2

/-- A line as a cluster reads it: from its cache, or from DRAM once its request and those before it have completed (R162, R166, R321). -/
def Dev.fetchLine (d : Dev) (c : ClusterId) (urgent : Bool) (ref : BufRef) (line : Nat) : VLine × Dev :=
  match SMap.get none (d.cache c).lines line with
  | some v => (v, d)
  | none =>
    let d1 := d.requestLine c urgent ref line
    let rs := d1.asks c
    let first := rs.takeWhile (fun (r : MemReq) => r.line != line) ++ (rs.find? (fun (r : MemReq) => r.line == line)).toList
    let d2 := first.foldl (fun (d : Dev) (r : MemReq) => d.filled c r) d1
    ((SMap.get none (d2.cache c).lines line).getD { bytes := List.replicate 64 0#8, bad := false }, d2)

/-- Some lines as a cluster reads them, each once. -/
def Dev.fetchLines (d : Dev) (c : ClusterId) (urgent : Bool) (ref : BufRef) (ls : List Nat) : Lines × Dev :=
  ls.foldl (fun (a : Lines × Dev) (line : Nat) =>
    if a.1.any (fun (x : Nat × VLine) => x.1 == line) then a
    else
      let f := a.2.fetchLine c urgent ref line
      ((line, f.1) :: a.1, f.2)) ([], d)

/-- The caches are empty and the clusters' requests gone, as at a boundary (R167). -/
def Dram.flushCaches (x : Dram) : Dram :=
  { x with
    old := []
    issued := []
    caches := SMap.change {} (fun (v : VCache) => { v with lines := [] }) x.caches
    chans := SMap.change {} (fun (v : Channel) => { v with reads := [] }) x.chans }

/-- Lines whose data or tag failed leave a cache, chosen by the fault, not by the spec: the taps that read them fetch them again (R168). -/
def Dev.dropLines (d : Dev) (c : ClusterId) : Nat → Dev
  | 0 => d
  | n + 1 =>
    let x := d.cache c
    match x.lines[d.pick.1 % max 1 x.lines.length]? with
    | some l => (d.pick.2.setCache c { x with lines := SMap.erase x.lines l.1 }).dropLines c n
    | none => d

/-! ### One plot (R162, R170, R171, R177) -/

/-- Address of the header of a map. -/
def Dev.lensAt (d : Dev) (l : Lens) : Nat := (d.buf l.ref.handle).base + l.offset

/-- The sail pixel of a plot's i-th pixel in raster order. -/
def plotPixel (plot i : Nat) : Nat × Nat := (plot % 64 * 64 + i % 64, plot / 64 * 64 + i / 64)

/-- Members of a list, each once. -/
def once (l : List Nat) : List Nat := l.foldr (fun a t => if t.contains a then t else a :: t) []

/-- The lines of correction nodes that a plot reads. -/
def Dev.plotNodes (d : Dev) (l : Lens) (plot : Nat) : List Nat :=
  once ((List.range 4096).flatMap (fun i => (List.range 3).flatMap (fun c =>
    l.nodeLines (d.lensAt l) (plotPixel plot i).1 (plotPixel plot i).2 c)))

/-- The view-set lines of a plot's tap footprint, with the corrections that stand in DRAM. -/
def Dev.plotTaps (d : Dev) (l : Lens) (set : Option VSet) (plot : Nat) : List Nat :=
  match set with
  | none => []
  | some v => once ((List.range 4096).flatMap (fun i => (List.range 3).flatMap (fun c =>
      l.rayLines v { byte := d.byteAt, bad := fun _ => false } (d.lensAt l) (d.buf v.ref.handle).base (plotPixel plot i).1
        (plotPixel plot i).2 c)))

/-- The view set of the tack being pushed (R135). -/
def Dev.pushedSet (d : Dev) : Option VSet := d.tack.act.bind (fun (t : ActiveTack) => t.vset)

/-- Prefetch: a cluster requests the lines of a plot's nodes and tap footprint (R162). -/
def Dev.prefetch (d : Dev) (c : ClusterId) (urgent : Bool) (l : Lens) (plot : Nat) : Dev :=
  let d1 := (d.plotNodes l plot).foldl (fun (d : Dev) (a : Nat) => d.requestLine c urgent l.ref a) d
  let d2 := (match d.pushedSet with
    | some v => (d.plotTaps l (some v) plot).foldl (fun (d : Dev) (a : Nat) => d.requestLine c urgent v.ref a) d1
    | none => d1)
  { d with dram := d2.dram }

/-- One ray of a plot: its nodes and its taps read by its cluster (R151, R158, R162). -/
def Dev.plotRay (d : Dev) (c : ClusterId) (urgent : Bool) (l : Lens) (px py ch : Nat) : RayOut × Dev :=
  let a := d.lensAt l
  let ns := d.fetchLines c urgent l.ref (l.nodeLines a px py ch)
  match d.pushedSet with
  | none => (l.ray none ns.1.mem a 0 px py ch, ns.2)
  | some v =>
    let base := (d.buf v.ref.handle).base
    let ts := ns.2.fetchLines c urgent v.ref (l.rayLines v ns.1.mem a base px py ch)
    (l.ray (some v) (Lines.mem (ts.1 ++ ns.1)) a base px py ch, ts.2)

/-- The record of a plot's i-th pixel (R170, R171). -/
def Dev.plotRecord (d : Dev) (c : ClusterId) (urgent : Bool) (l : Lens) (plot i : Nat) : BitVec 208 × Dev :=
  let p := plotPixel plot i
  let r := d.plotRay c urgent l p.1 p.2 0
  let g := r.2.plotRay c urgent l p.1 p.2 1
  let b := g.2.plotRay c urgent l p.1 p.2 2
  (handRecord (fun ch => if ch = 0 then r.1 else if ch = 1 then g.1 else b.1) (i % 64) (i / 64), b.2)

/-- The bytes of a layer's source as its scaler reads them, since a mark: zeros outside the buffer (R327), nothing known from the lost
channel (R334); samples of an uncorrectable line read as 0 (R326). -/
def Dev.layerMem (d : Dev) (mark choice : Nat) (b : LayerBody) : Mem :=
  let x := d.buf b.ref.handle
  { byte := fun a =>
      if a < x.base ∨ x.base + x.size ≤ a then 0
      else if d.lostIn a 1 then (d.freeAt a).setWidth 8
      else (d.seen b.ref mark (a / 64 * 64) choice).getD (a % 64) 0
    bad := fun a => d.lineBad a }

/-- A job's memory requests carry class URGENT: its mast was URGENT, and it is presented in class 2, not promoted (R16, R165, R214). -/
def Plot.hurried (p : Plot) : Bool := p.urgent && !p.promoted

/-- A plot's pixels from the i-th on, n of them, as the compositor writes them (R171, R177). -/
def Dev.composeFrom (d : Dev) (c : ClusterId) (p : Plot) (l : Lens) : Nat → Nat → List U32 × Dev
  | 0, _ => ([], d)
  | n + 1, i =>
    let r := d.plotRecord c p.hurried l p.plot i
    let px := r.2.composeRecord (r.2.layerMem p.mark r.2.pick.1) p.sail l p.plot r.1
    let t := r.2.pick.2.composeFrom c p l n (i + 1)
    (px :: t.1, t.2)

/-- A layer scaler reads a range of its source for its line buffers: what lies outside the buffer is not issued but logged (R327, R338), nor
what lies on the lost channel (R334); the rest goes through the channels' queues and meets what it meets (R319, R325, R326). -/
def Dev.scalerRead (d : Dev) (cls src : Nat) (ref : BufRef) (off n : Nat) : Dev :=
  let d1 := match d.beyond ref off n with
    | some o => d.boundsLog src ref o
    | none => d
  let k := min n (d.sizeOf ref - off)
  if d.lostBuf ref off k then d1 else (d1.fetchBuf cls src ref off k).2

/-- What a plot's passes through its scalers read of their sources, at the class of the job (R182, R214). -/
def Dev.scalerReads (d : Dev) (p : Plot) (l : Lens) : Dev :=
  let ss := p.scalers.getD []
  ((d.layersAt p.sail l p.plot).zipIdx).foldl (fun (d : Dev) (x : LayerBody × Nat) =>
    (d.layerReads x.1 p.sail l p.plot).foldl (fun (d : Dev) (r : Nat × Nat) =>
      d.scalerRead (if p.hurried then 0 else 1) (scalerSrc (ss.getD (x.2 % max 1 ss.length) 0)) x.1.ref r.1 r.2) d) d

/-! ### The queue of a cluster (R161, R162, R165) -/

/-- The eight clusters. -/
def allClusters : List ClusterId := (List.range 8).map (BitVec.ofNat 3)

/-- A cluster is in service: enabled, not fenced, its partition and its slice's in service (R175, R176, R451). -/
def Dev.clusterUp (d : Dev) (c : ClusterId) : Bool :=
  bit (d.tval 0x214001) c.toNat && (d.cluster c).cause == 0 && d.partUp c.toNat && d.partUp (12 + c.toNat / 2)

/-- The cluster that a stage names. -/
def Stage.cluster : Stage → Option ClusterId
  | .queued c => some c
  | .prefetch c => some c
  | .compute c => some c
  | _ => none

/-- Change an admitted plot. -/
def Dev.setPlot (d : Dev) (p : Plot) (f : Plot → Plot) : Dev :=
  { d with push := { d.push with plots := d.push.plots.map (fun (x : Plot) =>
      if x.sail = p.sail ∧ x.plot = p.plot ∧ x.seq = p.seq ∧ x.pkt = p.pkt ∧ x.repeated = p.repeated then f x else x) } }

/-- A job goes before another in a cluster's queue (R165). -/
def Plot.ahead (p q : Plot) : Bool := if p.urgent == q.urgent then decide (p.order ≤ q.order) else p.urgent

/-- The queued job that a cluster takes next. -/
def Dev.nextQueued (d : Dev) (c : ClusterId) : Option Plot :=
  let qs := d.push.plots.filter (fun (p : Plot) => p.stage == .queued c)
  qs.find? (fun p => qs.all (fun q => p.ahead q))

/-- A cluster that prefetches nothing begins to prefetch its next job: it requests the job's nodes and the lines of its taps (R162). -/
def Dev.advance (d : Dev) (c : ClusterId) : Dev :=
  if d.clusterUp c && !(d.push.plots.any (fun (p : Plot) => p.stage == .prefetch c)) then
    match d.nextQueued c with
    | some p =>
      let d1 := (match d.lensOf p.sail with | some l => d.prefetch c p.hurried l p.plot | none => d)
      d1.setPlot p (fun x => { x with stage := .prefetch c })
    | none => d
  else d

/-- Jobs have left their clusters: the next ones begin to prefetch (R162). -/
def Dev.advanceAll (d : Dev) : Dev := allClusters.foldl (fun (d : Dev) (c : ClusterId) => d.advance c) d

end Sys2Proof.Machine
end

