-- ==== Sys2Proof/Machine/Commit.lean ====
section
/-! DEFINITION. COMMIT (file 09, R187 to R192): gathering the shadows, validation against the settings that every pending
commit leads to, readiness, and the application of pending commits at a boundary under the three policies. -/

namespace Sys2Proof.Machine

/-! ### Validation (R188) -/

/-- Why a commit is rejected: code, detail and EV_ERROR_DETAIL data. -/
abbrev CommitBad := Nat × Nat × Option Nat

/-- The sails that have a map in some settings, ascending. -/
def Applied.maps (a : Applied) : List (Nat × Lens) := a.lens.filterMap (fun p => p.2.map (fun l => (p.1, l)))

/-- Step 3: the selection names a defined slot or none (R134). -/
def Dev.checkSelect (d : Dev) (a : Applied) : Option CommitBad :=
  let n := a.val d.fuses 0x212001
  if n = 0xFF ∨ (n < 2 ∧ (d.slotDef n).isSome = true) then none else some (0x0302, n % 256 * 65536, none)

/-- Step 4: every map fits the view count of the set that will be ACTIVE (R146). -/
def Dev.checkMaps (d : Dev) (a : Applied) : Option CommitBad :=
  let n := a.val d.fuses 0x212001
  if n = 0xFF then none
  else (d.slotDef n).bind (fun v =>
    (a.maps.find? (fun p => decide (v.count < p.2.base + p.2.nu * p.2.nv))).map (fun p => (0x0402, n * 65536 + p.1, none)))

/-- Layer number, width, largest disparity that fits and sail for each sail that a layer's footprint touches. -/
def layerWidths (a : Applied) (b : LayerBody) : List (Nat × Nat × Nat) :=
  (a.maps.filter (fun p => footprint b (BitVec.ofNat 10 p.1) p.2 != 0)).map (fun p =>
    (lineWidth b p.2.nu, lineFit b p.2.nu, p.1))

/-- The largest W of a layer over its sails and the lowest sail that has it (R188). -/
def widest (ws : List (Nat × Nat × Nat)) : Nat × Nat :=
  ws.foldl (fun (m : Nat × Nat) (w : Nat × Nat × Nat) => if m.1 < w.1 then (w.1, w.2.2) else m) (0, 0)

/-- Step 5: W of every enabled layer on every sail that its footprint touches is at most 8,192 (R183, R188). -/
def checkLines (a : Applied) : Option CommitBad :=
  (a.layers.filterMap (·.2)).findSome? (fun b =>
    let ws := layerWidths a b
    let m := widest ws
    if 8192 < m.1 then
      some (0x0502, b.layer.toNat * 65536, some (b.layer.toNat * 2 ^ 56 + m.1 % 2 ^ 24 * 2 ^ 32 +
        (ws.foldl (fun n w => min n w.2.1) 0xFFFF) * 65536 + m.2))
    else none)

/-- Rate code 0 to 3 of a rate in Gbit/s. -/
def rateCode (gbps : Nat) : Option Nat :=
  if gbps = 8 then some 0 else if gbps = 16 then some 1 else if gbps = 24 then some 2 else if gbps = 32 then some 3 else none

/-- Rates that a sail's CAPS1 reports (R253). -/
def Sail.rates (x : Sail) : Nat := (x.words.getD 3 0).toNat / 2 ^ 27 % 16

/-- The device counts the sail among those reachable: in service, entering it, or UNRESPONSIVE (R278). -/
def Sail.reachable (x : Sail) : Bool := x.reach != .unreachable

/-- R275's checks of one mast whose settings a commit gathers. -/
def Dev.checkRate (d : Dev) (a : Applied) (m : MastId) : Option CommitBad :=
  let v := fun k => a.val d.fuses (mastKey m k)
  let range := (0x0703, m.toNat * 65536 + 0x3FF, none)
  match rateCode (v 0x202) with
  | none => some range
  | some r =>
    if v 0x203 < 2 ∨ 4 < v 0x203 then some range
    else match (sailsOf m).find? (fun s => (d.sail s).reachable && !((d.mast m).caps.getD (posOf s) 0).getLsbD r) with
      | some s => some (0x0703, m.toNat * 65536 + s.toNat, none)
      | none => if v 0x202 < v 0x204 then some range else none

/-- Some item of a list sets an entry. -/
def setsKey (is : List Item) (k : Nat) : Bool := is.any (fun i => i.key == (4, k))

/-- Step 6: link settings of the masts that the commit sets (R275). -/
def Dev.checkRates (d : Dev) (a : Applied) : Option CommitBad :=
  (d.mastList.filter (fun m => [0x202, 0x203, 0x204].any (fun k => setsKey d.comp.shadow (mastKey m k)))).findSome?
    (fun m => d.checkRate a m)

/-- Step 7: mode, period, divide and polarity (R205). -/
def Dev.checkTiming (d : Dev) (a : Applied) : Option CommitBad :=
  ([(1, 0, 2), (2, 10, 10000), (3, 1, 255), (4, 0, 1)].find? (fun (p : Nat × Nat × Nat) =>
    let v := a.val d.fuses (0x200000 + p.1)
    decide (v < p.2.1) || decide (p.2.2 < v))).map (fun p => (0x0601, p.1 * 65536, none))

/-- The window's rectangle lies on its sail (R299). -/
def Dev.winFits (d : Dev) (b : ProofBody) : Bool :=
  let n := ((d.sail (b.sail.setWidth 10)).dims).getD (4096, 2048)
  decide (b.x.toNat + b.w.toNat ≤ n.1) && decide (b.y.toNat + b.h.toNat ≤ n.2)

/-- Step 8: every enabled window's rectangle (R299). -/
def Dev.checkWins (d : Dev) (a : Applied) : Option CommitBad :=
  ((a.wins.filterMap (·.2)).find? (fun b => !d.winFits b)).map (fun b =>
    (0x0901, b.window.toNat * 65536 + b.sail.toNat % 1024, none))

/-- Steps 2 to 8 of R188, the first failure. -/
def Dev.validate (d : Dev) : Option CommitBad :=
  let a := d.projected.puts d.fuses d.comp.shadow
  if 4 ≤ d.comp.pend.length then some (0x0503, 0, none)
  else [d.checkSelect a, d.checkMaps a, checkLines a, d.checkRates a, d.checkTiming a, d.checkWins a].findSome? id

/-- A rejected commit sets entries 0x2100.07 and 0x2100.08, and its counter (R160, R189, R193). -/
def Dev.noteReject (d : Dev) (e : CommitBad) : Dev :=
  let d1 := { d with comp := { d.comp with rejCode := e.1, rejData := e.2.2.getD (e.2.1 % 2 ^ 24) } }
  if e.1 = 0x0502 then d1.bump 0x210006 else if e.1 = 0x0402 then d1.bump 0x213003 else d1

/-- A valid commit takes the next ordinal and every shadow, and joins the pending ones; deferred commits may trigger again
(R187, R189, R203). -/
def Dev.acceptCommit (d : Dev) (who : Committer) (tag : U16) (policy : Nat) (gate : Option (Nat × BufRef)) : Dev :=
  let c : Commit := { ordinal := d.comp.ordinal + 1, who := who, tag := tag, policy := policy, items := d.comp.shadow, gate := gate,
                      deferred := false, timedOut := false }
  let d1 := { d with comp := { d.comp with
    ordinal := d.comp.ordinal + 1
    shadow := []
    pend := d.comp.pend.map (fun (p : Commit) => { p with deferred := false }) ++ [c] } }
  if gate.isSome then d1.bump 0x216003 else d1

/-- The gate that a COMMIT with CHASE finds: the drawing command dispatched last on the queue with the tag, WATERMARK set,
not completed (R295). -/
def Dev.findGate (d : Dev) (b : CommitBody) : Option (Nat × BufRef) :=
  if b.chase then
    ((d.draws.accepted ++ d.draws.waiting).filter (fun x =>
      decide (x.q.toNat = b.chaseQueue.toNat) && decide (x.tag = b.chaseTag) && x.b.wm)).foldl
        (fun (g : Option (Nat × BufRef)) (x : Blit) =>
          if (match g with | none => true | some p => decide (p.1 < x.id)) then some (x.id, x.b.dst) else g) none
  else none

/-- COMMIT's body, step 1 of R188 (R187, R295). -/
def commitFields (b : CommitBody) : List (Bool × Nat × Nat) :=
  [(decide (b.policy.toNat ≤ 2), 0x0102, 8), (!b.chase || decide (b.chaseQueue.toNat ≤ 63), 0x0102, 10)]

/-- COMMIT gathers, validates and completes (R187 to R189). -/
def Dev.commit (d : Dev) (q : QueueId) (h : Hdr) (b : CommitBody) : Dev :=
  d.issue q (fun d =>
    match firstBad (commitFields b) with
    | some e => (d.noteReject (e.1, e.2, none)).reject q h 0x41 e.1 e.2
    | none =>
      match d.validate with
      | some e => (d.noteReject e).reject q h 0x41 e.1 e.2.1 e.2.2
      | none => d.instant q h 0x41 (fun e => e.acceptCommit (.queue q) h.tag b.policy.toNat (e.findGate b))
          (d.comp.ordinal + 1).toNat)

/-- COMMIT. -/
def execCommit (q : QueueId) (h : Hdr) (b : CommitBody) (s : State) : Host.Outcome State Fault Refusal :=
  runOn s (fun d => d.commit q h b)

/-! ### Readiness (R191) -/

/-- The buffer that an item must find ready: layer source, selected slot, lens map. -/
def Dev.needs (d : Dev) : Item → Option BufRef
  | .layer _ (some b) => some b.ref
  | .lens _ (some l) => some l.ref
  | .val k v _ => if k = 0x212001 ∧ v < 2 then (d.slotDef v).map (·.ref) else none
  | _ => none

/-- An item is ready; a chase gate counts its buffer as ready (R62, R296). -/
def Dev.itemReady (d : Dev) (gate : Option (Nat × BufRef)) (i : Item) : Bool :=
  match d.needs i with
  | none => true
  | some r => gate.map (·.2) == some r || d.readyBuf r

/-- Kind of an item in the events of R192: 0 layer source, 1 view set, 2 lens maps. -/
def Item.kind : Item → Nat
  | .val _ _ _ => 1
  | .lens _ _ => 2
  | _ => 0

/-- The items of a commit that are not ready: view set, then layers, then lens maps, each ascending. -/
def Dev.notReady (d : Dev) (c : Commit) : List Item :=
  let bad := c.items.filter (fun i => !d.itemReady c.gate i)
  let of := fun k => sortBy (fun (a b : Item) => decide (a.key.2 ≤ b.key.2)) (bad.filter (fun i => i.kind == k))
  of 1 ++ of 0 ++ of 2

/-- A pending commit triggers: the first one, unless it was deferred and its items are still not ready (R203). -/
def Dev.triggered (d : Dev) : Bool :=
  match d.comp.pend.head? with
  | none => false
  | some c => !c.deferred || (d.notReady c).isEmpty

/-- The WAIT commit that delays a boundary: the first pending commit with an item not ready, HOLD ones apart, if it has policy
WAIT and its timeout has not run out (R191). -/
def Dev.waitBlocks (d : Dev) : Bool :=
  match d.comp.pend.find? (fun c => c.policy != 2 && !(d.notReady c).isEmpty) with
  | some c => c.policy == 1 && !c.timedOut
  | none => false

/-! ### Application at a boundary (R190 to R192) -/

/-- What the application of commits did: items now in force, events, chase gates. -/
structure Took where
  items : List Item
  events : List (Nat × Nat × Nat)
  gates : List (Nat × BufRef)

/-- Source of a commit's events (R192). -/
def Committer.source : Committer → Nat
  | .queue q => q.toNat
  | .master m => 0xFF00 + m

/-- Ready slot of the buffer that an item waits for. -/
def Dev.slotOfItem (d : Dev) (i : Item) : Nat :=
  (((d.needs i).bind (fun r => (d.buf r.handle).ready)).map (·.1)).getD 0xFFFF

/-- EV_LAYER_HELD for each held layer, the view set, and all held lens maps together (R192). -/
def Dev.heldEvents (d : Dev) (c : Commit) (held : List Item) : List (Nat × Nat × Nat) :=
  let tag := c.tag.toNat * 2 ^ 48
  let one := held.filterMap (fun i =>
    if i.kind = 2 then none
    else some (0x0501, if i.kind = 1 then 0 else i.key.2, tag + i.kind * 2 ^ 40 + d.slotOfItem i * 65536))
  let sails := (held.filter (fun i => i.kind == 2)).map (fun i => i.key.2)
  one ++ (match sails with | [] => [] | s :: _ => [(0x0501, 0, tag + 2 * 2 ^ 40 + sails.length * 65536 + s)])

/-- Subscriptions whose entry has taken another value report it, even where it changes back (R353). -/
def Dev.noteChange (d : Dev) (changed : Nat → Bool) : Dev :=
  { d with dict := { d.dict with subs := d.dict.subs.map (fun (x : Sub) => if changed (x.idx * 256 + x.sub) then { x with due := true } else x) } }

/-- Put items in force and hold others; each setting that they name replaces a held one (R192). -/
def Dev.putItems (d : Dev) (now bad : List Item) : Dev :=
  let ap := d.comp.ap.puts d.fuses now
  { d with comp := { d.comp with
      ap := ap
      held := d.comp.held.filter (fun (j : Item) => !((now ++ bad).any (fun (i : Item) => i.key == j.key))) ++ bad } }.noteChange
    (fun (k : Nat) => ap.val d.fuses k != d.tval k)

/-- A commit is deferred: it stays pending with those behind it (R190, R191). -/
def Dev.deferCommit (d : Dev) (i : Item) (c : Commit) (t : List Commit) : Dev × Took :=
  (({ d with comp := { d.comp with pend := { c with deferred := true, timedOut := false } :: t } }).bump 0x210003,
   { items := [], gates := []
     events := [(0x0503, c.who.source, c.tag.toNat * 2 ^ 48 + i.kind * 2 ^ 40 + (if i.kind = 0 then i.key.2 else 0) * 2 ^ 36 +
       c.timedOut.toNat * 2 ^ 32 + c.ordinal.toNat)] })

/-- A commit applies: the items not ready stay held, the others are in force (R191, R192). -/
def Dev.takeCommit (d : Dev) (bad : List Item) (c : Commit) : Dev × Took :=
  let now := c.items.filter (fun i => !(bad.any (fun j => j.key == i.key)))
  (((d.putItems now bad).bump 0x210002).bumpN 0x210005 bad.length,
   { items := now, gates := c.gate.toList
     events := d.heldEvents c bad ++
       [(0x0502, c.who.source, c.tag.toNat * 2 ^ 48 + min bad.length 0xFFFF * 2 ^ 32 + c.ordinal.toNat)] })

/-- What two applications did. -/
def Took.append (a b : Took) : Took :=
  { items := a.items ++ b.items, events := a.events ++ b.events, gates := a.gates ++ b.gates }

/-- Pending commits apply in ordinal order, up to the first that readiness defers (R190, R191). -/
def Dev.applyPend (d : Dev) : List Commit → Dev × Took
  | [] => ({ d with comp := { d.comp with pend := [] } }, { items := [], events := [], gates := [] })
  | c :: t =>
    match d.notReady c, decide (c.policy = 2) with
    | i :: _, false => d.deferCommit i c t
    | bad, _ =>
      let x := d.takeCommit bad c
      let r := x.1.applyPend t
      (r.1, x.2.append r.2)

/-- Step 1 of a boundary: held items whose buffer is ready apply, then pending commits (R190 to R192, R197). -/
def Dev.applyCommits (d : Dev) : Dev × Took :=
  let now := d.comp.held.filter (fun i => d.itemReady none i)
  let r := (d.putItems now []).applyPend d.comp.pend
  (r.1, { r.2 with items := now ++ r.2.items })

end Sys2Proof.Machine
end

