-- ==== Sys2Proof/Machine/Line.lean ====
section
/-! DEFINITION. What a mast puts on its forward lanes (file 11): the bytes of packets (R230 to R236), ordered sets (R227, R263), and
the 130-bit blocks of each lane, scrambled and striped (R226, R228). -/

namespace Sys2Proof.Machine

/-! ### Forward packets (R230 to R236) -/

/-- Values of 30 bits joined into bytes, padded with zero bits (R234, R300). -/
def pack30 (vs : List Nat) : List Byte :=
  leBytes (ceilDiv (30 * vs.length) 8) (vs.foldr (fun v n => v % 2 ^ 30 + 2 ^ 30 * n) 0)

/-- A packet: 16-byte header with its check, body padded to units of 16 bytes, 16-byte trailer with the CRC-32C (R230, R231). -/
def packet (type : Nat) (retry : Bool) (dest seq : Nat) (body : List Byte) : List Byte :=
  let b := body ++ List.replicate ((16 - body.length % 16) % 16) 0#8
  let h := leBytes 1 type ++ leBytes 1 retry.toNat ++ leBytes 2 dest ++ leBytes 2 seq ++ leBytes 2 b.length ++ leBytes 6 0
  let hb := h ++ leBytes 2 (crc16 h) ++ b
  hb ++ leBytes 4 (crc32c hb) ++ leBytes 12 0

/-- The bytes of what a mast sends, for packets (R232 to R236). -/
def Fwd.bytes : Fwd → List Byte
  | .plotWrite s seq r t c w ps =>
    packet 1 r s.toNat seq.toNat (leBytes 4 t.toNat ++ leBytes 1 c ++ leBytes 1 w ++ leBytes 1 1 ++ leBytes 25 0 ++ pack30 (ps.map (·.toNat)))
  | .tack seq copy adjust => packet 2 false 0x83FF 0 (leBytes 4 seq.toNat ++ leBytes 1 copy ++ leBytes 1 0 ++ leBytes 2 adjust ++ leBytes 8 0)
  | .cfgWrite s seq r a ds =>
    packet 3 r s.toNat seq.toNat (leBytes 1 a.toNat ++ leBytes 1 ds.length ++ leBytes 14 0 ++ ds.flatMap (fun w => leBytes 4 w.toNat))
  | .cfgRead s seq r a n => packet 4 r s.toNat seq.toNat (leBytes 1 a.toNat ++ leBytes 1 n.toNat ++ leBytes 14 0)
  | .ping s seq r t => packet 5 r s.toNat seq.toNat (leBytes 4 t.toNat ++ leBytes 12 0)
  | _ => []

/-! ### Ordered sets (R227, R263) -/

/-- How many copies of an ordered set a mast sends; none for a packet. -/
def Fwd.copies : Fwd → Nat
  | .align _ => 1
  | .eiEnter => 1
  | .exit n => n
  | .train t => t.sets
  | _ => 0

/-- The sixteen bytes of copy i of an ordered set on a lane (R227, R263). The device's training sets give Position 0 (R264). -/
def Fwd.setBytes (f : Fwd) (lane i : Nat) : List Byte :=
  match f with
  | .align n => [0xA1, BitVec.ofNat 8 lane, n] ++ List.replicate 13 0x4A
  | .eiEnter => [0xE1, BitVec.ofNat 8 lane] ++ List.replicate 14 0xE1
  | .exit _ => [0xE2, BitVec.ofNat 8 lane] ++ (List.range 14).map (fun k => if k % 2 = 0 then 0x00 else 0xFF)
  | .train t =>
    [if t.two then 0x2D else 0x1E, BitVec.ofNat 8 lane, 0, t.mast.setWidth 8, BitVec.ofNat 8 t.rate, t.lanes.setWidth 8,
      BitVec.ofNat 8 (t.presets.getD lane 0), BitVec.ofNat 8 t.phase, t.countdown - BitVec.ofNat 8 i, if t.mark then 1 else 0] ++
      List.replicate 6 (if t.two then 0x45 else 0x4A)
  | _ => []

/-! ### Blocks (R226, R228) -/

/-- One step of the scrambler's register: x^23 + x^21 + x^16 + x^8 + x^5 + x^2 + 1 (R226, log entry 99). -/
def scrStep (r : Nat) : Nat := if 0x400000 ≤ r then Nat.xor (r * 2 % 0x800000) 0x210125 else r * 2

/-- The next n scrambling bits, first bit lowest, and the register after them (R226). -/
def scrBits : Nat → Nat → Nat × Nat
  | 0, r => (0, r)
  | n + 1, r => let x := scrBits n (scrStep r); ((if 0x400000 ≤ r then 1 else 0) + 2 * x.1, x.2)

/-- Bytes scrambled from a register, and the register after them. -/
def scramble : Nat → List Byte → List Byte × Nat
  | r, [] => ([], r)
  | r, b :: t => let s := scrBits 8 r; let x := scramble s.2 t; ((b ^^^ BitVec.ofNat 8 s.1) :: x.1, x.2)

/-- A block: the sync header in bits 0 and 1, then sixteen bytes, each least significant bit first (R226). -/
def block (sync : Nat) (bs : List Byte) : BitVec 130 := BitVec.ofNat 130 (sync + 4 * leNat bs)

/-- The data blocks of a lane's bytes (R226). -/
def dataBlocks (bs : List Byte) : List (BitVec 130) := (List.range (bs.length / 16)).map (fun i => block 1 (slice bs (16 * i) 16))

/-- Bytes i, i + n, i + 2n … of a stream: those of its i-th active lane of n (R226). -/
def stripe (bs : List Byte) (n i : Nat) : List Byte := (List.range (bs.length / n)).map (fun k => bs.getD (n * k + i) 0)

/-- The physical lanes of a mask, ascending. -/
def lanesOf (m : BitVec 4) : List Nat := (List.range 4).filter (fun i => m.getLsbD i)

/-- A stream of whole units, filled up with IDLE units so that every active lane ends on a block (R228, log entry 99). -/
def fillUp (bs : List Byte) (n : Nat) : List Byte := bs ++ List.replicate ((16 * n - bs.length % (16 * n)) % (16 * n)) 0#8

/-- Scrambler register of a lane. -/
def Line.reg (l : Line) (lane : Nat) : Nat := l.scr.getD lane 0

/-- What the lanes have sent, by lane. -/
abbrev Blocks := List (Nat × List (BitVec 130))

/-- More blocks on a lane. -/
def addBlocks (bs : Blocks) (lane : Nat) (new : List (BitVec 130)) : Blocks :=
  bs.map (fun x => if x.1 = lane then (x.1, x.2 ++ new) else x)

/-- Data bytes leave, striped over the active lanes and scrambled (R226). -/
def Line.data (l : Line) (lanes : List Nat) (out : Blocks) (bs : List Byte) : Blocks × Line :=
  if bs.isEmpty then (out, l)
  else
    let full := fillUp bs lanes.length
    let one := fun (i : Nat) => scramble (l.reg (lanes.getD i 0)) (stripe full lanes.length i)
    (List.range lanes.length).foldl (fun (a : Blocks × Line) (i : Nat) =>
      let x := one i
      (addBlocks a.1 (lanes.getD i 0) (dataBlocks x.1), { a.2 with scr := a.2.scr.set (lanes.getD i 0) x.2 })) (out, l)

/-- The scramblers' seeds of lanes 0 to 3 (R226, log entry 99). -/
def scrSeeds : List Nat := [0x1DBFBC, 0x0607BB, 0x1EC760, 0x18C0DB]

/-- Copies of an ordered set leave on every lane; ALIGN resets the scramblers (R226, R227). -/
def Line.set (l : Line) (lanes : List Nat) (out : Blocks) (f : Fwd) : Blocks × Line :=
  (lanes.foldl (fun (o : Blocks) (i : Nat) => addBlocks o i ((List.range f.copies).map (fun k => block 2 (f.setBytes i k)))) out,
    match f with | .align _ => { l with scr := scrSeeds } | _ => l)

/-- The blocks of a run: packets back to back, ordered sets between them; the data still to leave is a third member (R226 to R228). -/
def Line.run (l : Line) (lanes : List Nat) : List Fwd → Blocks → List Byte → Blocks × Line
  | [], out, bs => l.data lanes out bs
  | f :: t, out, bs =>
    if f.copies = 0 then l.run lanes t out (bs ++ f.bytes)
    else
      let x := l.data lanes out bs
      let y := x.2.set lanes x.1 f
      y.2.run lanes t y.1 []

/-! ### Sending -/

/-- A mast's line. -/
def Dev.line (d : Dev) (m : MastId) : Line := SMap.get {} d.lines m.toNat
/-- Write a mast's line. -/
def Dev.setLine (d : Dev) (m : MastId) (x : Line) : Dev := { d with lines := SMap.set {} d.lines m.toNat x }

/-- The lanes on which a mast sends something: its active ones; all four while it trains (R226, R263). -/
def Mast.sends (x : Mast) (fs : List Fwd) : List Nat :=
  if fs.any (fun f => match f with | .train _ => true | _ => false) || x.lanes == 0 then [0, 1, 2, 3] else lanesOf x.lanes

/-- A mast sends a run of packets and ordered sets: what they are, and the blocks that carry them (R226 to R228). -/
def Dev.sendRun (d : Dev) (m : MastId) (fs : List Fwd) : Dev :=
  let lanes := (d.mast m).sends fs
  let x := (d.line m).run lanes fs (lanes.map (fun i => (i, []))) []
  { d.setLine m x.2 with out := d.out ++ fs.map (fun (f : Fwd) => Out.mast m f) ++ [.lanes m x.1] }

/-- A mast sends one thing. -/
def Dev.sendMast (d : Dev) (m : MastId) (f : Fwd) : Dev := d.sendRun m [f]

/-- A mast serialises a PLOT_WRITE (R216). -/
def Dev.serialising (d : Dev) (m : MastId) : Bool := d.push.plots.any (fun (p : Plot) => p.mast == m && p.pkt == .started)

/-- What a mast sends next, at its next packet boundary (R216, R228). -/
def Dev.sendAtBoundary (d : Dev) (m : MastId) (fs : List Fwd) : Dev :=
  if d.serialising m then d.setLine m { d.line m with wait := (d.line m).wait ++ fs } else d.sendRun m fs

/-- At a packet boundary, what waited for it leaves. -/
def Dev.sendWaiting (d : Dev) (m : MastId) : Dev :=
  let x := d.line m
  if x.wait.isEmpty then d else (d.setLine m { x with wait := [] }).sendRun m x.wait

/-- The pixels handed over so far, the last one repeated to the end (R173, R217). -/
def Plot.padded (p : Plot) : List U32 :=
  p.pixels ++ List.replicate (4096 - p.pixels.length) (p.pixels.getLastD 0)

/-- A PLOT_WRITE leaves to its end, and what waited for it follows: header, position and pixels (R216, R233, R234). -/
def Dev.sendPlot (d : Dev) (p : Plot) (pixels : List U32) : Dev :=
  (d.sendMast p.mast (.plotWrite p.sail p.seq p.retry ((d.tack.act.map (·.seq)).getD 0) (p.plot % 64) (p.plot / 64) pixels)).sendWaiting p.mast

end Sys2Proof.Machine
end

