-- ==== Sys2Proof/Machine/Proof.lean ====
section
/-! DEFINITION. Proof windows and READBACK (file 14): the checked stream, what a boundary marks for them, what they find at
retirement, PROOF_SET and READBACK. -/

namespace Sys2Proof.Machine

/-! ### Rectangles and streams (R300, R301) -/

/-- The plots that a rectangle of sail pixels touches. -/
def touched (x y w h : U16) : BitVec 2048 :=
  rectMask (x.toNat / 64) ((x.toNat + w.toNat - 1) / 64 + 1) (y.toNat / 64) ((y.toNat + h.toNat - 1) / 64 + 1)

/-- Contributing pixel of a sail, where its plot has contributed (R303). -/
def contribAt (cs : List (SailId × Nat × List U32)) (s : SailId) (px py : Nat) : Option U32 :=
  (cs.find? (fun c => c.1 == s && c.2.1 == plotNo (px / 64) (py / 64))).bind (fun c => c.2.2[py % 64 * 64 + px % 64]?)

/-- The pixels of a rectangle in raster order; none where a plot of it has not contributed. -/
def rectPixels (cs : List (SailId × Nat × List U32)) (s : SailId) (x y w h : U16) : Option (List U32) :=
  (List.range h.toNat).foldr (fun j acc => (List.range w.toNat).foldr (fun i acc =>
    acc.bind (fun t => (contribAt cs s (x.toNat + i) (y.toNat + j)).map (fun p => p :: t))) acc) (some [])

/-- The 30 bits of a pixel under a channel mask (R300). -/
def mask30 (m : BitVec 3) (p : U32) : Nat :=
  let ch := fun i => if m.getLsbD i then p.toNat / 2 ^ (10 * i) % 1024 * 2 ^ (10 * i) else 0
  ch 0 + ch 1 + ch 2

/-! ### Windows -/

/-- A window result. -/
def Dev.win (d : Dev) (n : Nat) : WinResult := SMap.get {} d.draws.results n
/-- Write a window result. -/
def Dev.setWin (d : Dev) (n : Nat) (x : WinResult) : Dev :=
  { d with draws := { d.draws with results := SMap.set {} d.draws.results n x } }

/-- The sail of a window. -/
def winSail (b : ProofBody) : SailId := b.sail.setWidth 10
/-- The plots that a window touches. -/
def winPlots (b : ProofBody) : BitVec 2048 := touched b.x b.y b.w b.h

/-- The windows enabled in the applied state that check anything: not INVALID (R299). -/
def Dev.winsOn (d : Dev) : List ProofBody :=
  (d.comp.ap.wins.filterMap (·.2)).filter (fun b => (d.win b.window.toNat).status != 5)

/-- Applied windows that a sail's reported dimensions leave outside become INVALID (R299). -/
def Dev.invalidateWins (d : Dev) (s : SailId) : Dev :=
  ((d.comp.ap.wins.filterMap (·.2)).filter (fun b => winSail b == s && !d.winFits b)).foldl
    (fun (d : Dev) (b : ProofBody) => d.setWin b.window.toNat { d.win b.window.toNat with status := 5 }) d

/-- A SET applied at a boundary: its mismatch count restarts, INVALID ends, every touched plot is marked (R299, R302, R305). -/
def Dev.winApplied (d : Dev) (b : ProofBody) : Dev :=
  let r := d.win b.window.toNat
  let st := if d.winFits b then (if r.status = 5 then 0 else r.status) else 5
  let d1 := d.setWin b.window.toNat { r with mism := 0, status := st }
  if st = 5 then d1 else d1.markPlots (winSail b) (winPlots b)

/-- A DISABLE applied at a boundary ends INVALID (R299). -/
def Dev.winDisabled (d : Dev) (n : Nat) : Dev := if (d.win n).status = 5 then d.setWin n { d.win n with status := 0 } else d

/-- One pass over the windows: those with a touched plot dirty have every other touched plot marked (R302). -/
def Dev.winPass (d : Dev) : Dev :=
  d.winsOn.foldl (fun (d : Dev) (b : ProofBody) =>
    if (d.sail (winSail b)).dirty &&& winPlots b = 0 then d else d.markPlots (winSail b) (winPlots b)) d

/-- Step 2 of a boundary for windows: newly applied SETs and DISABLEs, then passes until no further window is drawn in (R299, R302). -/
def Dev.winMarks (d : Dev) (items : List Item) : Dev :=
  (List.range 64).foldl (fun (d : Dev) (_ : Nat) => d.winPass)
    (items.foldl (fun (d : Dev) (i : Item) => match i with
      | .win n _ => (match SMap.get none d.comp.ap.wins n with | some b => d.winApplied b | none => d.winDisabled n)
      | _ => d) d)

/-- Some plot of a list is one of a sail's plots in a map. -/
def hits (l : List (SailId × Nat)) (s : SailId) (m : BitVec 2048) : Bool := l.any (fun p => p.1 == s && m.getLsbD p.2)

/-- A CHECK that failed: counted, raised, and pushed again under AUTO_REPUSH (R304, R305). -/
def Dev.winMismatch (d : Dev) (b : ProofBody) (crc : Nat) (seq : U32) : Dev :=
  let n := b.window.toNat
  let k := min ((d.win n).mism + 1) 255
  let d1 := ((d.setWin n { crc := BitVec.ofNat 32 crc, tack := seq, status := 2, mism := k }).bump 0xD00003).event 0x0901 n
    (crc * 2 ^ 32 + b.expected.toNat)
  if b.autoRepush && decide (k ≤ d.val 0xD00005) then d1.markPlots (winSail b) (winPlots b) else d1

/-- A window evaluates at the retirement of a tack that pushed a plot it touches (R302 to R304). -/
def Dev.winRetire (d : Dev) (seq : U32) (b : ProofBody) : Dev :=
  let n := b.window.toNat
  let s := winSail b
  if !hits d.draws.pushSet s (winPlots b) then d
  else
    let ps := if hits d.draws.withdrawn s (winPlots b) then none else rectPixels d.draws.contrib s b.x b.y b.w b.h
    match ps with
    | none => (d.setWin n { d.win n with status := 4 }).bump 0xD00004
    | some ps =>
      let crc := crc32 (pack30 (ps.map (mask30 b.mask)))
      if b.mode = 1 then d.setWin n { d.win n with crc := BitVec.ofNat 32 crc, tack := seq, status := 3 }
      else if crc = b.expected.toNat then
        (d.setWin n { crc := BitVec.ofNat 32 crc, tack := seq, status := 1, mism := 0 }).bump 0xD00002
      else d.winMismatch b crc seq

/-- Every field after DISABLE is 0, in offset order. -/
def proofZeros (b : ProofBody) : List (Bool × Nat × Nat) :=
  [(b.sail == 0, 0x0102, 10), (b.x == 0, 0x0102, 12), (b.y == 0, 0x0102, 14), (b.w == 0, 0x0102, 16), (b.h == 0, 0x0102, 18),
   (b.mask == 0, 0x0102, 20), (b.mode == 0, 0x0102, 21), (!b.autoRepush, 0x0102, 22), (b.expected == 0, 0x0102, 24)]

/-- PROOF_SET's fields in offset order (R298); R3 limits the sail. -/
def Dev.proofFields (d : Dev) (b : ProofBody) : List (Bool × Nat × Nat) :=
  [(decide (b.window.toNat ≤ 63), 0x0102, 8), (decide (b.action.toNat ≤ 1), 0x0102, 9)] ++
  (if b.action = 1 then proofZeros b
   else [(d.sailExists b.sail.toNat, 0x0102, 10), (decide (1 ≤ b.w.toNat) && decide (b.w.toNat ≤ 4096), 0x0102, 16),
     (decide (1 ≤ b.h.toNat) && decide (b.h.toNat ≤ 2048), 0x0102, 18), (b.mask != 0, 0x0102, 20),
     (decide (b.mode.toNat ≤ 1), 0x0102, 21), (!b.autoRepush || b.mode == 0, 0x0102, 22),
     (b.mode == 0 || b.expected == 0, 0x0102, 24)])

/-- PROOF_SET writes its window's shadow (R298). -/
def Dev.proofSet (d : Dev) (q : QueueId) (h : Hdr) (b : ProofBody) : Dev :=
  d.issue q (fun d => d.checked q h 0x60 (d.proofFields b) (fun d =>
    d.instant q h 0x60 (fun e => e.stage (.win b.window.toNat (if b.action = 1 then none else some b)))))

/-- PROOF_SET. -/
def execProofSet (q : QueueId) (h : Hdr) (b : ProofBody) (s : State) : Host.Outcome State Fault Refusal :=
  runOn s (fun d => d.proofSet q h b)

/-! ### READBACK (R307 to R309) -/

/-- Raw size of a READBACK (R307). -/
def rbSize (b : ReadbackBody) : Nat :=
  if b.fmt = 0 then ceilDiv (b.w.toNat * b.h.toNat * 30) 8 else (b.h.toNat - 1) * b.pitch.toNat + b.w.toNat * 4

/-- Bytes of its destination that a READBACK may write: an encoded sheaf may be 32 bytes longer (R307). -/
def rbRange (b : ReadbackBody) : Nat := rbSize b + (if b.encode then 32 else 0)

/-- The sail of a READBACK. -/
def rbSail (b : ReadbackBody) : SailId := b.sail.setWidth 10
/-- The plots that a READBACK touches. -/
def rbPlots (b : ReadbackBody) : BitVec 2048 := touched b.x b.y b.w b.h

/-- READBACK's checks before reachability: handle, fields, rectangle (R51, R307). -/
def Dev.rbFields (d : Dev) (b : ReadbackBody) : List (Bool × Nat × Nat) :=
  let n := ((d.sail (rbSail b)).dims).getD (4096, 2048)
  [(d.live b.ref, 0x0111, 20), (d.sailExists b.sail.toNat, 0x0102, 8), ((d.lensOf (rbSail b)).isSome, 0x0902, 8),
   (decide (1 ≤ b.w.toNat) && decide (b.w.toNat ≤ 4096), 0x0902, 14),
   (decide (1 ≤ b.h.toNat) && decide (b.h.toNat ≤ 2048), 0x0902, 16), (decide (b.fmt.toNat ≤ 1), 0x0102, 18),
   (decide (b.x.toNat < n.1), 0x0902, 10), (decide (b.y.toNat < n.2), 0x0902, 12),
   (decide (b.x.toNat + b.w.toNat ≤ n.1), 0x0902, 14), (decide (b.y.toNat + b.h.toNat ≤ n.2), 0x0902, 16),
   (if b.fmt = 0 then b.pitch == 0 else b.pitch.toNat % 4 == 0 && decide (4 * b.w.toNat ≤ b.pitch.toNat), 0x0102, 32)]

/-- The sail answers: neither UNREACHABLE nor UNRESPONSIVE (R200). -/
def Sail.answers (x : Sail) : Bool := x.reach != .unreachable && x.reach != .unresponsive

/-- READBACK: checked, then in flight, or holding its queue where 4 are (R307). -/
def Dev.readback (d : Dev) (q : QueueId) (h : Hdr) (b : ReadbackBody) : Dev :=
  d.issue q (fun d =>
    match firstBad (d.rbFields b) with
    | some e => d.reject q h 0x61 e.1 e.2
    | none =>
      let size := d.sizeOf b.ref
      if !(d.sail (rbSail b)).answers then d.rejectOpen q h 0x61 0x0602
      else if size < b.offset.toNat + rbRange b then
        d.reject q h 0x61 0x0A01 (boundsDetail size b.offset.toNat)
      else if 4 ≤ d.draws.readbacks.length then d.hold q (.retry (.readback q h b))
      else
        let d1 := d.dispatch q h 0x61 [b.ref]
        { d1 with draws := { d1.draws with readbacks := d1.draws.readbacks ++ [{ id := d.qs.nextId, b := b }] } })

/-- READBACK. -/
def execReadback (q : QueueId) (h : Hdr) (b : ReadbackBody) (s : State) : Host.Outcome State Fault Refusal :=
  runOn s (fun d => d.readback q h b)

/-- A queue that a READBACK holds dispatches it once a place is free. -/
def Dev.retryReadback (d : Dev) (q : QueueId) : Dev :=
  match (d.queue q).hold with
  | .retry (.readback _ h b) => if d.draws.readbacks.length < 4 then (d.hold q .none).readback q h b else d
  | _ => d

/-- Queues that a READBACK holds, lowest first. -/
def Dev.retryReadbacks (d : Dev) : Dev :=
  (d.qs.queues.map (fun p => BitVec.ofNat 6 p.1)).foldl (fun (d : Dev) (q : QueueId) => d.retryReadback q) d

/-- Step 2 of a boundary for READBACKs: those that wait mark their plots and capture from the tack that seals (R308). -/
def Dev.rbMarks (d : Dev) : Dev :=
  (d.draws.readbacks.filter (fun r => r.tack.isNone)).foldl (fun (d : Dev) (r : Rb) => d.markPlots (rbSail r.b) (rbPlots r.b))
    { d with draws := { d.draws with readbacks := d.draws.readbacks.map (fun (r : Rb) =>
        if r.tack.isNone then { r with tack := some d.openTack } else r) } }

/-- READBACKs whose plots are not all in the push set of the tack they capture from are lost (R308). -/
def Dev.rbSealed (d : Dev) : Dev :=
  { d with draws := { d.draws with readbacks := d.draws.readbacks.map (fun (r : Rb) =>
      if r.done = none ∧ r.encoding = false ∧ (plotsOf (rbPlots r.b)).any (fun p => !d.draws.pushSet.contains (rbSail r.b, p)) = true then
        { r with lost := true } else r) } }

/-- The captured bytes of a READBACK, in pieces: offset in its range and bytes (R300, R307). -/
def rbBytes (b : ReadbackBody) (ps : List U32) : List (Nat × List Byte) :=
  if b.fmt = 0 then [(0, pack30 (ps.map (·.toNat)))]
  else (List.range b.h.toNat).map (fun j => (j * b.pitch.toNat,
    ((ps.drop (j * b.w.toNat)).take b.w.toNat).flatMap (fun p => leBytes 4 (3 * 2 ^ 30 + p.toNat % 2 ^ 30))))

/-- The captured range as one run of bytes for an encode job; what lies between the rows of format 1 is open (R309). -/
def rbRaw (gap : Nat → Byte) (b : ReadbackBody) (ps : List U32) : List Byte :=
  (rbBytes b ps).foldl (fun acc p => acc ++ (List.range (p.1 - acc.length)).map (fun i => gap (acc.length + i)) ++ p.2) []

/-- Change one READBACK in flight. -/
def Dev.setRb (d : Dev) (id : Nat) (f : Rb → Rb) : Dev :=
  { d with draws := { d.draws with readbacks := d.draws.readbacks.map (fun (r : Rb) => if r.id = id then f r else r) } }

/-- A READBACK's tack retires: its bytes are written at class LOW, or go to an encode job (R308, R309). -/
def Dev.rbCapture (d : Dev) (r : Rb) : Dev :=
  match rectPixels d.draws.contrib (rbSail r.b) r.b.x r.b.y r.b.w r.b.h with
  | none => d.setRb r.id (fun x => { x with lost := true })
  | some ps =>
    if r.b.encode then
      (((d.setRb r.id (fun x => { x with encoding := true })).addWaiting
        (.encode r.id (rbRaw (fun i => (d.freeAt i).setWidth 8) r.b ps)) none).useFree).placeEncodes
    else if d.lostBuf r.b.ref r.b.offset.toNat (rbSize r.b) then d.setRb r.id (fun x => { x with lost := true, err := 0x0A04 })
    else
      let d1 := (rbBytes r.b ps).foldl (fun (d : Dev) (p : Nat × List Byte) => d.put 3 readbackSrc r.b.ref (r.b.offset.toNat + p.1) p.2) d
      d1.setRb r.id (fun x => { x with done := some (((rbBytes r.b ps).map (fun p => p.2.length)).foldl (· + ·) 0) })

/-- Every READBACK that captures from a tack, at its retirement. -/
def Dev.rbRetire (d : Dev) (seq : U32) : Dev :=
  (d.draws.readbacks.filter (fun r => decide (r.tack = some seq) && !r.lost && r.done.isNone && !r.encoding)).foldl
    (fun (d : Dev) (r : Rb) => d.rbCapture r) d

/-- A READBACK that is captured or encoded completes with the bytes written; one that lost a plot fails, its destination
unspecified (R308). -/
def Dev.readbackComplete (d : Dev) (id : Nat) : Dev :=
  match d.draws.readbacks.find? (fun r => r.id == id) with
  | none => d
  | some r =>
    if r.lost then
      (((d.dropReadback id).scramble ((d.buf r.b.ref.handle).base + r.b.offset.toNat) (rbRange r.b)).failOpen id r.err).retryReadbacks
    else match r.done with
      | none => d
      | some n => (((d.dropReadback id).bump 0xD00006).finish id n).retryReadbacks

/-- READBACK_COMPLETE. -/
def execReadbackComplete (id : Nat) (s : State) : Host.Outcome State Fault Refusal := runOn s (fun d => d.readbackComplete id)

end Sys2Proof.Machine
end

