-- ==== Sys2Proof/Machine/Tack.lean ====
section
/-! DEFINITION. Tacks (file 10): holds, withdrawal, retirement, the three timing modes and the flip's pulse. The boundary
itself stands in Machine/Boundary.lean. -/

namespace Sys2Proof.Machine

/-- A TACK_HOLD is in force (R64). -/
def Dev.held (d : Dev) : Bool := !d.qs.holds.isEmpty

/-- Every plot of the push set has been acknowledged or withdrawn (R198). -/
def Dev.sealedEmpty (d : Dev) : Bool := d.push.sails.all (fun p => p.2.sealedMap == 0)

/-- The SEALED or PUSHING tack retires: windows, READBACKs, EV_TACK_RETIRED, then its flip is due (R198, R208, R304, R308). -/
def Dev.retire (d : Dev) (t : ActiveTack) : Dev :=
  let us := min (d.now - t.sealedAt) 0xFFFFFFFF
  let d1 := (d.winsOn.foldl (fun (d : Dev) (b : ProofBody) => d.winRetire t.seq b) d).rbRetire t.seq
  let d2 := if bit (d1.val 0x20000E) 0 then d1.event 0x0601 0 (t.seq.toNat * 2 ^ 32 + t.good) else d1
  let d3 := { d2 with
    tack := { d2.tack with act := none, retired := t.seq, timeLast := us, flips := d2.tack.flips ++ [({ seq := t.seq, armed := false } : Flip)] }
    draws := { d2.draws with contrib := [], pushSet := [], withdrawn := [] }
    comp := { d2.comp with gates := [] }
    dram := { d2.dram with old := [] } }
  (d3.setVal 0x200012 (max us (d3.val 0x200012))).occur 2 1

/-- The tack retires once nothing of its push set is left. -/
def Dev.checkRetire (d : Dev) : Dev :=
  match d.tack.act with
  | some t => if d.sealedEmpty then d.retire t else d
  | none => d

/-- The older of two marking sequences, the first on a tie (R201, R202, R485). -/
def older (a b : Option U32) : Option U32 :=
  match a, b with
  | some x, some y => if later x y then some y else some x
  | some x, none => some x
  | none, y => y

/-- The plots of a withdrawn sail return to its OPEN map with the age of their rows (R202). -/
def Sail.unseal (x : Sail) : Sail :=
  { x with
    dirty := x.dirty ||| x.sealedMap
    sealedMap := 0
    rowSeq := x.sealedSeq.foldl (fun (t : SMap (Option U32)) (p : Nat × Option U32) =>
      if rowBitsOf x.sealedMap p.1 = 0 then t else SMap.set none t p.1 (older p.2 (SMap.get none t p.1))) x.rowSeq
    sealedSeq := [] }

/-- A packet of a sail that is being serialised runs to its end, though its plot is withdrawn: what is not composed repeats the last pixel
(R216, R217; log entry 100). A mast that is not in service sends nothing more. -/
def Dev.endPackets (d : Dev) (s : SailId) : Dev :=
  (d.push.plots.filter (fun (p : Plot) => p.sail == s && p.pkt == .started && (d.mast p.mast).inService && !(d.mast p.mast).idle)).foldl
    (fun (d : Dev) (p : Plot) => d.sendPlot p p.padded) d

/-- Withdraw a sail's plots: bits, reservations, jobs and gates; READBACKs that touch one are lost (R202, R303, R308), and the clusters that held
their jobs go on with the next (R162). The tack may then retire. -/
def Dev.withdrawPlots (d : Dev) (s : SailId) : Dev :=
  let x := d.sail s
  let ps := plotsOf x.sealedMap
  let d0 := d.endPackets s
  let m := d0.mast (mastOf s)
  let d1 := (d0.setSail s x.unseal).setMast (mastOf s) { m with repairs := m.repairs.filter (fun r => r.1 != s) }
  Dev.advanceAll { d1 with
    push := { d1.push with plots := d1.push.plots.filter (fun p => p.sail != s) }
    comp := { d1.comp with gates := d1.comp.gates.map (fun (g : Gate) => { g with plots := g.plots.filter (fun p => p.1 != s) }) }
    draws := { d1.draws with
      withdrawn := d1.draws.withdrawn ++ ps.map (fun p => (s, p))
      readbacks := d1.draws.readbacks.map (fun (r : Rb) =>
        if r.tack.isSome ∧ r.tack = d.tack.act.map (·.seq) ∧ rbSail r.b = s ∧ rbPlots r.b &&& x.sealedMap ≠ 0 then { r with lost := true } else r) } }

/-! ### Timing modes (R203 to R206) -/

/-- A qualifying edge: flips of retired tacks are armed, and the boundary is triggered or meets a WAIT; under a hold, or while a
tack is SEALED or PUSHING, it triggers nothing (R192, R203, R206, R209). -/
def Dev.qualifyingEdge (d : Dev) : Dev :=
  let d1 := { d with tack := { d.tack with edges := 0, syncLost := false } }
  if d1.held then d1
  else
    let d2 := { d1 with tack := { d1.tack with flips := d1.tack.flips.map (fun (f : Flip) => { f with armed := true }) } }
    if d2.tack.act.isSome then d2
    else if d2.waitBlocks then { d2 with comp := { d2.comp with waiting := true } }
    else { d2 with tack := { d2.tack with edgeDue := true } }

/-- A boundary that WAIT delayed in LOCKED mode is triggered by the first TACK_SYNC_IN edge after its items are ready, whether or not that edge
qualifies (R192). -/
def Dev.delayedEdge (d : Dev) : Dev :=
  if d.comp.waiting ∧ d.waitBlocks = false ∧ d.held = false ∧ d.tack.act = none then { d with tack := { d.tack with edgeDue := true } } else d

/-- No transition within SYNC_TIMEOUT in LOCKED mode: EV_SYNC_LOST once, until a qualifying edge (R206). -/
def Dev.syncTimeout (d : Dev) : Dev :=
  if d.tval 0x200001 = 2 ∧ d.tack.syncLost = false then
    { d with tack := { d.tack with syncLost := true } }.event 0x0604 0 (min ((d.now - d.tack.lastEdge) / 1000) 0xFFFFFFFF)
  else d

/-- SYNC_TIMEOUT. -/
def execSyncTimeout (s : State) : Host.Outcome State Fault Refusal := runOn s (fun d => d.syncTimeout)

/-- TACK_OUT pulses at the flip instant of a broadcast tack (R208); not while a hold is in force (R64). -/
def Dev.tackOutPulse (d : Dev) : Dev :=
  if d.tack.pulses = 0 ∨ d.held = true then d else { d with tack := { d.tack with pulses := d.tack.pulses - 1 } }.send .tackOut

/-- TACK_OUT_PULSE. -/
def execTackOutPulse (s : State) : Host.Outcome State Fault Refusal := runOn s (fun d => d.tackOutPulse)

end Sys2Proof.Machine
end

