-- ==== Sys2Proof/Machine/Link.lean ====
section
/-! DEFINITION. The Shroud Link as the device drives it (file 11): electrical idle, configuration traffic to sails, answers,
failures, entry into service, and SAIL_CFG_WRITE and SAIL_CFG_READ. -/

namespace Sys2Proof.Machine

/-! ### Configuration traffic (R246, R256, R258) -/

/-- The packet of a configuration operation. -/
def CfgOp.fwd (s : SailId) (seq : U16) (retry : Bool) : CfgOp → Fwd
  | .write a ds _ => .cfgWrite s seq retry a ds
  | .read a n _ _ _ => .cfgRead s seq retry a n
  | .ping t => .ping s seq retry t

/-- Forward packet type of an operation (R232). -/
def CfgOp.type : CfgOp → Nat
  | .write _ _ _ => 3
  | .read _ _ _ _ _ => 4
  | .ping _ => 5

/-- The command that an operation serves, if any. -/
def CfgOp.owner : CfgOp → Option Nat
  | .write _ _ o => o
  | .read _ _ o _ _ => o
  | .ping _ => none

/-- A change of present mode of a sail in service: its CFG_WRITE follows the TACK of the previous tack (R252). -/
def CfgOp.isMode : CfgOp → Bool
  | .write a ds o => a == 6 && o.isNone && ds != [0x100]
  | _ => false

/-- A change of present mode waits for its answer: no PLOT_WRITE goes to the sail (R252). -/
def Sail.modeWaits (x : Sail) : Bool := x.ops.any (·.isMode) || (match x.out with | some o => o.op.isMode | none => false)

/-- A mast gives a new packet the next sequence (R240) and counts it. -/
def Dev.takeSeq (d : Dev) (m : MastId) : Dev :=
  (d.setMast m { d.mast m with txSeq := (d.mast m).txSeq + 1 }).bump (mastKey m 0x101)

/-! ### Electrical idle (R229, R411, R412) -/

/-- Lane rate of a mast in Gbit/s. -/
def Mast.gbps (x : Mast) : Nat := 8 * (x.rate + 1)

/-- EXIT blocks on each lane: as many as fill 0.5 µs and 0.25 µs for every reachable sail (R229). -/
def Mast.exitBlocks (x : Mast) : Nat := ceilDiv ((500 + 250 * x.reach) * x.gbps) 130

/-- The number of lanes in a mask. -/
def laneCount (m : BitVec 4) : Nat := (List.range 4).countP (fun i => m.getLsbD i)

/-- A mast's ALIGN (R227, R228). -/
def Mast.alignSet (x : Mast) : Fwd := .align (BitVec.ofNat 8 (laneCount x.lanes))

/-- A mast's lanes leave electrical idle with its trained state: EXIT blocks, then ALIGN (R229, R276). -/
def Dev.mastExit (d : Dev) (m : MastId) : Dev :=
  let x := d.mast m
  if x.idle && x.inService then (d.setMast m { x with idle := false }).sendRun m [.exit x.exitBlocks, x.alignSet] else d

/-- A mast's running lanes enter electrical idle: EI_ENTER, counted (R229, R260). -/
def Dev.eiEnter (d : Dev) (m : MastId) : Dev :=
  let x := d.mast m
  if x.idle then d else ((d.setMast m { x with idle := true }).sendMast m .eiEnter).bump (mastKey m 0x106)

/-- Pause between PLOT_WRITEs in µs under class B (R411). -/
def Dev.pause (d : Dev) : Nat := if d.th.b = 0 then 0 else 2 ^ d.th.b

/-- A class B pause has passed since the mast's previous PLOT_WRITE (R411). -/
def Dev.pauseOver (d : Dev) (m : MastId) : Bool :=
  match (d.mast m).lastPlot with
  | some t => decide (t + d.pause ≤ d.now)
  | none => true

/-- In a class B pause that is long enough, with a further packet reserved, a mast in SERVICE idles its forward lanes (R412). -/
def Dev.pauseIdle (d : Dev) (m : MastId) : Dev :=
  let x := d.mast m
  if d.th.b ≠ 0 ∧ x.state = .service ∧ 10 + x.reach ≤ 4 * d.pause ∧
      d.push.plots.any (fun (p : Plot) => p.mast == m && p.pkt != .sent) = true then d.eiEnter m
  else d

/-- The mast's link takes a packet now: in SERVICE, no PLOT_WRITE being serialised, and not in the electrical idle of a pause (R216,
R241, R411). -/
def Dev.linkFree (d : Dev) (m : MastId) : Bool :=
  d.up && (d.mast m).state == .service && !d.serialising m && (!(d.mast m).idle || d.pauseOver m)

/-! ### Sending configuration packets -/

/-- A sail's configuration packet leaves, and the time of its last bit is kept (R241, R244, R246). -/
def Dev.sendOp (d : Dev) (s : SailId) (o : CfgOut) (retry : Bool) : Dev :=
  let d1 := d.mastExit (mastOf s)
  (d1.setSail s { d1.sail s with out := some { o with due := false, at_ := d1.now } }).sendMast (mastOf s) (o.op.fwd s o.seq retry)

/-- A sail's next configuration packet leaves where the link takes one: the retransmission that is due, else, once none is outstanding, the
next operation (R241, R246, R258). -/
def Dev.kick (d : Dev) (s : SailId) : Dev :=
  let x := d.sail s
  let m := mastOf s
  if !d.linkFree m then d
  else match x.out, x.ops with
  | some o, _ => if o.due then (d.bump (mastKey m 0x102)).sendOp s o true else d
  | none, op :: t =>
    if op.isMode && x.reach == .service && !d.tack.flips.isEmpty then d
    else ((d.setSail s { x with ops := t }).takeSeq m).sendOp s { op := op, seq := (d.mast m).txSeq, fails := 0 } false
  | none, [] => d

/-- A retransmission of a sail is due (R241). -/
def Dev.outDue (d : Dev) (s : SailId) : Bool := match (d.sail s).out with | some o => o.due | none => false

/-- The configuration packets that a mast's sails wait for leave, retransmissions ahead of every packet not yet started (R241). -/
def Dev.kickMast (d : Dev) (m : MastId) : Dev :=
  (((sailsOf m).filter (fun s => d.outDue s)) ++ sailsOf m).foldl (fun (d : Dev) (s : SailId) => d.kick s) d

/-- A mast leaves electrical idle; configuration packets that waited follow (R229, R411). -/
def Dev.wakeMast (d : Dev) (m : MastId) : Dev := if (d.mast m).idle then (d.mastExit m).kickMast m else d

/-- Configuration operations of the device itself go ahead of those of commands (R258). -/
def Dev.pushOwn (d : Dev) (s : SailId) (ops : List CfgOp) : Dev :=
  let x := d.sail s
  (d.setSail s { x with ops := x.ops.filter (fun o => o.owner.isNone) ++ ops ++ x.ops.filter (fun o => o.owner.isSome) }).kick s

/-- An operation of a command joins the sail's queue (R258). -/
def Dev.pushOp (d : Dev) (s : SailId) (op : CfgOp) : Dev :=
  let x := d.sail s
  (d.setSail s { x with ops := x.ops ++ [op] }).kick s

/-- Commands that wait on a sail fail with E_SAIL_UNREACHABLE, and its configuration traffic ends (R241, R258). -/
def Dev.dropOps (d : Dev) (s : SailId) : Dev :=
  let x := d.sail s
  let ids := (x.out.toList.map (·.op) ++ x.ops).filterMap (·.owner)
  ids.foldl (fun (d : Dev) (i : Nat) => d.failOpen i 0x0602) (d.setSail s { x with ops := [], out := none })

/-- A mast that idles in a pause for a packet whose plot has been withdrawn leaves electrical idle, so that none idles when the tack retires
(R412). -/
def Dev.endIdle (d : Dev) (m : MastId) : Dev :=
  if d.up && (d.mast m).state == .service && !d.push.plots.any (fun (p : Plot) => p.mast == m && p.pkt != .sent) then d.wakeMast m else d

/-- A sail becomes UNREACHABLE: its plots are withdrawn and its commands fail (R202, R262). -/
def Dev.loseSail (d : Dev) (s : SailId) : Dev :=
  if (d.sail s).reach = .unreachable then d
  else
    let d1 := d.setSail s { d.sail s with reach := .unreachable, seen := 0, returning := false }
    (((d1.withdrawPlots s).dropOps s).endIdle (mastOf s)).checkRetire

/-- A mast's group of partitions is in service (R452, R453). -/
def Dev.groupUp (d : Dev) (m : MastId) : Bool := d.partUp (16 + m.toNat / 4)

/-- A mast's lanes stop at once, if they run; that is an entry into electrical idle too (R229, R260). -/
def Dev.stopLanes (d : Dev) (m : MastId) : Dev :=
  let x := d.mast m
  if x.idle then d else (((d.setMast m { x with idle := true }).sendMast m .stop).setLine m {}).bump (mastKey m 0x106)

/-- The lanes of a mast stop and every sail of it becomes UNREACHABLE (R262). -/
def Dev.stopMast (d : Dev) (m : MastId) (st : MastState) : Dev :=
  let d0 := d.stopLanes m
  let d1 := d0.setMast m { d0.mast m with state := st }
  let d2 := (sailsOf m).foldl (fun (d : Dev) (s : SailId) => d.loseSail s) d1
  d2.setMast m { d2.mast m with
    rate := 0, lanes := 0, reach := 0, lostHop := none, rejoin := none, restore := false, backLock := false
    prior := none, changeDue := false, pass := [], best := [], timing := [], deficit := 0, withhold := false }

/-- A mast group that leaves service is OFFLINE once none of its packets is outstanding: lanes that run enter electrical idle and its
sails are UNREACHABLE (R229, R452). -/
def Dev.settleMasts (d : Dev) (m : MastId) : Dev :=
  let k := m.toNat / 4
  let ms := (List.range 4).map (fun i => BitVec.ofNat 5 (4 * k + i))
  if (d.partn (16 + k)).leaving && !d.push.plots.any (fun (p : Plot) => ms.contains p.mast) &&
      ms.all (fun m => (sailsOf m).all (fun s => (d.sail s).out.isNone)) then
    let d1 := ms.foldl (fun (d : Dev) (m : MastId) => (d.eiEnter m).stopMast m (if (d.mast m).state == .failed then .failed else .down)) d
    d1.setPartn (16 + k) { d1.partn (16 + k) with state := .offline, leaving := false }
  else d

/-! ### Lost hops (R273) -/

/-- EV_MAST_DEGRADED (R277), counted; lane and hop faults are logged (R449). -/
def Dev.degraded (d : Dev) (m : MastId) (cause hop : Nat) : Dev :=
  let x := d.mast m
  let rate := if x.inService then 8 * (x.rate + 1) else 0
  let lanes := if x.inService then x.lanes.toNat else 0
  let d1 := (d.event 0x0701 m.toNat (rate * 2 ^ 56 + lanes * 2 ^ 48 + x.reach * 2 ^ 40 + cause * 2 ^ 32 + hop * 2 ^ 24)).bump (mastKey m 0x20A)
  if cause = 1 then d1.logFault 1 m.toNat 0x0701 else if cause = 3 then d1.logFault 2 m.toNat 0x0701 else d1

/-- Sails from a chain position on become UNREACHABLE, and the mast counts those left; no hop behind the cut is lost and awaits a rejoin
(R268, R273). -/
def Dev.cutAt (d : Dev) (m : MastId) (p : Nat) : Dev :=
  let x := d.mast m
  let behind := match x.lostHop with | some h => decide (p < h) | none => false
  (((sailsOf m).filter (fun s => decide (p ≤ posOf s))).foldl (fun (d : Dev) (s : SailId) => d.loseSail s)
    (d.setMast m { x with
      reach := min p x.reach, lostHop := if behind then none else x.lostHop, rejoin := if behind then none else x.rejoin })).kickMast m

/-- Hop p of a mast is lost (R273). -/
def Dev.hopLost (d : Dev) (m : MastId) (p : Nat) : Dev :=
  let d1 := d.cutAt m p
  (d1.setMast m { d1.mast m with lostHop := some p }).degraded m 3 p

/-- A sail becomes UNRESPONSIVE by the last failure of a packet: sequence, type, cause (R241, R259); the sail before it is asked whether it
still hears it, and for the first sail the device's own backstay lock is looked at (R273). -/
def Dev.unresponsive (d : Dev) (s : SailId) (seq : U16) (type why : Nat) : Dev :=
  let m := mastOf s
  let n := popcount (d.sail s).sealedMap
  let d1 := (d.setSail s { d.sail s with reach := .unresponsive, seen := 0, returning := false }).bump (sailKey s 0x203)
  let d2 := ((d1.withdrawPlots s).event 0x0703 s.toNat (seq.toNat * 2 ^ 48 + type * 2 ^ 40 + why * 2 ^ 32 + n * 2 ^ 16)).logFault 3 m.toNat 0x0703
  let d3 := (((d2.dropOps s).endIdle m).checkRetire).kickMast m
  let prev := sailOf m (posOf s - 1)
  if posOf s = 0 then (if (d3.mast m).backLock then d3 else d3.hopLost m 0)
  else if (d3.sail prev).answers then d3.pushOwn prev [.read 0x11 1 none none []] else d3

/-! ### Entry into service (R256) -/

/-- A sail begins its entry into service: SOFT_RESET where it is due and has not been acknowledged (R390), then the read of words 0x00 to 0x0C. -/
def Dev.enter (d : Dev) (s : SailId) (returning : Bool) : Dev :=
  let x := d.sail s
  let d1 := d.setSail s { x with reach := .entering, returning := returning }
  d1.pushOwn s ((if x.soft then [.write 6 [0x100] none] else []) ++ [.read 0 13 none none []])

/-- The present mode that a sail runs: TACKED only with DBUF (R207). -/
def Dev.wantMode (d : Dev) (s : SailId) : Nat :=
  if d.tval (sailKey s 0x101) = 1 ∧ bit ((d.sail s).words.getD 3 0).toNat 31 = true then 1 else 0

/-- Flags that STATUS reports for the first time since they were cleared; MISSED_TACK is counted (R251, R259). -/
def Dev.noteFlags (d : Dev) (s : SailId) (f : Byte) : Dev :=
  let x := d.sail s
  let d1 := d.setSail s { x with seen := x.seen ||| f }
  if (f &&& ~~~x.seen).getLsbD 6 then d1.bump (sailKey s 0x204) else d1

/-- The registers have been read: MISMATCH, INVALID windows, the flags found, then FWD_TRIM, CONTROL and STATUS are written (R251, R256). -/
def Dev.sailRead (d : Dev) (s : SailId) (ws : List U32) : Dev :=
  let f : Byte := (ws.getD 5 0).setWidth 8 &&& 0xF8
  let d0 := (d.setSail s { d.sail s with words := ws }).noteFlags s f
  let x := d0.sail s
  let bad := match d0.lensOf s, x.dims with
    | some l, some n => decide (l.width ≠ n.1) || decide (l.height ≠ n.2)
    | _, _ => false
  let d1 := (d0.setSail s { x with mismatch := x.mismatch || bad }).invalidateWins s
  d1.pushOwn s [.write 7 [BitVec.ofNat 32 x.trim] none, .write 6 [BitVec.ofNat 32 (d1.wantMode s)] none, .write 5 [f.setWidth 32] none]

/-- Step 3 has been acknowledged: the sail is in service and marked in full; a present mode that a boundary has changed since step 2 was queued
is written, and flags reported since the read are cleared next (R207, R224, R244, R252, R256). -/
def Dev.inService (d : Dev) (s : SailId) : Dev :=
  let x := d.sail s
  let d1 := d.setSail s { x with reach := .service, returning := false }
  let d2 := if x.returning then
      d1.event 0x0704 s.toNat ((x.words.getD 5 0 &&& 0xF8).toNat * 2 ^ 32 + (x.words.getD 12 0).toNat % 65536 * 65536 + 256)
    else d1
  let d3 := d2.markSail s
  let ops : List CfgOp :=
    (if x.tacked = decide (d3.wantMode s = 1) then [] else [.write 6 [BitVec.ofNat 32 (d3.wantMode s)] none]) ++
    (if x.seen = 0 then [] else [.write 5 [x.seen.setWidth 32] none])
  if ops.isEmpty then d3 else d3.pushOwn s ops

/-! ### Completion of configuration operations -/

/-- An operation of the device has been acknowledged; SOFT_RESET is due no more (R390). -/
def Dev.ownWritten (d : Dev) (s : SailId) (a : Byte) (ds : List U32) : Dev :=
  let x := d.sail s
  if a = 6 then d.setSail s { x with tacked := (ds.getD 0 0).getLsbD 0, soft := x.soft && !(ds.getD 0 0).getLsbD 8 }
  else if a = 5 then
    let d1 := d.setSail s { x with seen := x.seen &&& ~~~((ds.getD 0 0).setWidth 8) }
    if x.reach = .entering then d1.inService s else d1
  else d

/-- ns from a PING's last bit to its ACK; what is below 1 µs is a free value (R244, log entry 1). -/
def Dev.ackTime (d : Dev) (o : CfgOut) : Nat := min 0xFFFFFFFF (1000 * (d.now - o.at_) + (d.freeAt 0).toNat % 1000)

/-- An operation has been acknowledged (R244, R256, R258). -/
def Dev.opAcked (d : Dev) (s : SailId) (o : CfgOut) : Dev :=
  match o.op with
  | .write _ _ (some id) => d.finish id
  | .write a ds none => d.ownWritten s a ds
  | .read _ _ _ _ _ => d
  | .ping _ =>
    let d1 := d.useFree.setSail s { d.sail s with ackNs := d.ackTime o }
    if (d.sail s).reach = .unresponsive then d1.enter s true else d1

/-- A CFG_READ has all its words (R256, R258, R273). -/
def Dev.opRead (d : Dev) (s : SailId) (owner : Option Nat) (dst : Option (BufRef × Nat)) (a : Byte) (got : SMap U32) : Dev :=
  match owner with
  | some id => d.finish id (if dst.isNone then (SMap.get 0 got a.toNat).toNat else 0)
  | none =>
    if a = 0 then d.sailRead s ((List.range 13).map (fun i => SMap.get 0 got i))
    else if a = 0x11 ∧ bit (SMap.get 0 got 0x11).toNat 4 = false ∧ posOf s + 1 < (d.mast (mastOf s)).reach then
      d.hopLost (mastOf s) (posOf s + 1)
    else d

/-- The outstanding operation of a sail ends, and the next one follows. -/
def Dev.opDone (d : Dev) (s : SailId) (f : Dev → Dev) : Dev := (f (d.setSail s { d.sail s with out := none })).kick s

/-! ### ACK, NAK, timeout, CFG_DATA (R239 to R243) -/

/-- The plot whose packet with a sequence is outstanding: sent at least once and not answered. -/
def Dev.plotOf (d : Dev) (m : MastId) (sq : U16) : Option Plot :=
  d.push.plots.find? (fun p => p.mast == m && p.seq == sq && (p.pkt == .sent || p.retry))

/-- The sail of a mast that has a configuration packet outstanding with a sequence. -/
def Dev.opOf (d : Dev) (m : MastId) (sq : U16) : Option SailId :=
  (sailsOf m).find? (fun s => match (d.sail s).out with | some o => o.seq == sq | none => false)

/-- Release a plot's reservation (R212). -/
def Dev.release (d : Dev) (p : Plot) : Dev :=
  { d with push := { d.push with plots := d.push.plots.filter (fun x =>
      !(x.sail == p.sail && x.plot == p.plot && x.seq == p.seq && x.pkt == p.pkt && x.repeated == p.repeated)) } }

/-- A packet that was completed by repetition has been answered: its reservation is released, and its cluster's engines go on with the plot,
where they have not finished it (R162, R242). -/
def Dev.answered (d : Dev) (p : Plot) : Dev :=
  match p.stage with
  | .compute c => (d.release p).setCluster c { d.cluster c with tail := some p }
  | _ => d.release p

/-- A plot is acknowledged with good content: it leaves the SEALED map and contributes (R198, R199, R220, R303). -/
def Dev.plotGood (d : Dev) (p : Plot) : Dev :=
  let x := d.sail p.sail
  let d1 := (d.setSail p.sail { x with sealedMap := x.sealedMap &&& ~~~(BitVec.ofNat 2048 (2 ^ p.plot)) }).bump (sailKey p.sail 0x106)
  { d1 with
    tack := { d1.tack with act := d1.tack.act.map (fun (t : ActiveTack) => { t with good := t.good + 1 }) }
    draws := { d1.draws with contrib := (p.sail, p.plot, p.pixels) ::
      d1.draws.contrib.filter (fun c => !(c.1 == p.sail && c.2.1 == p.plot)) } }

/-- An answer without an outstanding packet is ignored and counted (R243). -/
def Dev.stray (d : Dev) (m : MastId) : Dev := d.bump (mastKey m 0x105)

/-- ACK (R212, R242, R243): a plot's reservation and credits are released; a repeated packet leaves its plot dirty. -/
def Dev.ackReceived (d : Dev) (m : MastId) (s : SailId) (sq : U16) : Dev :=
  match d.plotOf m sq with
  | some p =>
    if p.sail ≠ s then d.stray m
    else if p.repeated then d.answered p
    else ((d.release p).plotGood p).checkRetire
  | none =>
    match (d.sail s).out, decide (mastOf s = m) with
    | some o, true =>
      if o.seq ≠ sq then d.stray m
      else match o.op with
        | .read _ _ _ _ _ => d.stray m
        | _ => d.opDone s (fun d => d.opAcked s o)
    | _, _ => d.stray m

/-- A backstay packet is received: the device's receiver is locked (R263, R273). -/
def Dev.heard (d : Dev) (m : MastId) : Dev := d.setMast m { d.mast m with backLock := true }

/-- Run a meaning of a backstay packet of a mast of the part. -/
def runBack (m : MastId) (s : State) (f : Dev → Dev) : Host.Outcome State Fault Refusal := runMast m s (fun d => f (d.heard m))

/-- ACK_RECEIVED. -/
def execAckReceived (m : MastId) (s : SailId) (sq : U16) (st : State) : Host.Outcome State Fault Refusal :=
  runBack m st (fun d => (d.ackReceived m s sq).settleMasts m)

/-- A failure (0 timeout, 1 or 2 NAK) of a plot's packet: the third makes the sail UNRESPONSIVE, another queues a retransmission;
a packet completed by repetition is only released (R241, R242). -/
def Dev.plotFailed (d : Dev) (p : Plot) (why : Nat) : Dev :=
  if p.pkt = .waiting then d
  else if p.repeated then d.answered p
  else if 2 ≤ p.fails then d.unresponsive p.sail p.seq 1 why
  else d.setPlot p (fun x => { x with pkt := .waiting, retry := true, fails := x.fails + 1 })

/-- A failure of a configuration packet (R241): its retransmission is due; a PING to an UNRESPONSIVE sail is not repeated (R244). -/
def Dev.opFailed (d : Dev) (s : SailId) (o : CfgOut) (why : Nat) : Dev :=
  if o.due then d
  else if (d.sail s).reach = .unresponsive then d.setSail s { d.sail s with out := none }
  else if 2 ≤ o.fails then d.unresponsive s o.seq o.op.type why
  else
    let op := match o.op with | .read a n w t _ => .read a n w t [] | x => x
    (d.setSail s { d.sail s with out := some { o with op := op, fails := o.fails + 1, due := true } }).kick s

/-- A NAK of reason 3 or 4 (any other value is taken like 3) of a configuration packet: the command fails, or, for the device's own
traffic, the sail becomes UNRESPONSIVE at once (R239, R258). -/
def Dev.opRefused (d : Dev) (s : SailId) (o : CfgOut) (reason : Nat) : Dev :=
  match o.op.owner with
  | some id => d.opDone s (fun d => d.failCmd id 0x0702 (reason * 65536 + s.toNat))
  | none => if (d.sail s).reach = .unresponsive then d.setSail s { d.sail s with out := none } else d.unresponsive s o.seq o.op.type reason

/-- NAKs of reason 1 within the last 1 ms, the new one included (R271). -/
def Dev.countNak (d : Dev) (m : MastId) : Dev :=
  let x := d.mast m
  d.setMast m { x with naks := x.naks.filter (fun t => decide (d.now < t + 1000)) ++ [d.now] }

/-- A NAK before its retrain trigger is looked at (R239, R241 to R243, R260). -/
def Dev.nakAnswer (d : Dev) (m : MastId) (s : SailId) (sq : U16) (reason : Byte) : Dev :=
  let soft := reason == 1 || reason == 2
  let note := fun (d : Dev) => d.bump (sailKey s (if soft then 0x201 else 0x205))
  match d.plotOf m sq with
  | some p =>
    if p.sail ≠ s then d.stray m
    else if soft then (note d).plotFailed p reason.toNat
    else if p.repeated then (note d).answered p
    else (note d).unresponsive s sq 1 reason.toNat
  | none =>
    match (d.sail s).out, decide (mastOf s = m) with
    | some o, true =>
      if o.seq ≠ sq then d.stray m
      else if soft then (note d).opFailed s o reason.toNat else (note d).opRefused s o reason.toNat
    | _, _ => d.stray m

/-- No answer 50 µs after a packet (R241); a mast that retrains counts none, nor does forced HOVE (R272, R413). -/
def Dev.retransmitTimeout (d : Dev) (m : MastId) (sq : U16) : Dev :=
  if (d.mast m).state ≠ .service ∨ d.up = false then d
  else
    let note := fun (d : Dev) (s : SailId) => (d.bump (mastKey m 0x103)).bump (sailKey s 0x202)
    match d.plotOf m sq with
    | some p => if p.pkt = .sent then (note d p.sail).plotFailed p 0 else d
    | none =>
      match d.opOf m sq with
      | some s => (match (d.sail s).out with | some o => if o.due then d else (note d s).opFailed s o 0 | none => d)
      | none => d

/-- RETRANSMIT_TIMEOUT. -/
def execRetransmitTimeout (m : MastId) (sq : U16) (s : State) : Host.Outcome State Fault Refusal :=
  runMast m s (fun d => (d.retransmitTimeout m sq).settleMasts m)

/-- CFG_DATA: the word is stored, and the last one completes its operation (R258); a destination on the lost channel fails it (R334). -/
def Dev.cfgDataReceived (d : Dev) (m : MastId) (s : SailId) (sq : U16) (addr : Byte) (data : U32) : Dev :=
  match (d.sail s).out, decide (mastOf s = m) with
  | some o, true =>
    match o.op with
    | .read a n w t got =>
      if o.seq ≠ sq then d.stray m
      else if addr.toNat < a.toNat ∨ a.toNat + n.toNat ≤ addr.toNat then d
      else if (match t with | some (r, off) => d.lostBuf r (off + 4 * (addr.toNat - a.toNat)) 4 | none => false) then
        d.opDone s (fun d => match w with | some id => d.failOpen id 0x0A04 | none => d)
      else
        let g := SMap.ins got addr.toNat data
        let d1 := match t with | some (r, off) => d.put 3 supervisorSrc r (off + 4 * (addr.toNat - a.toNat)) (leBytes 4 data.toNat) | none => d
        if g.length = n.toNat then d1.opDone s (fun d => d.opRead s w t a g)
        else d1.setSail s { d1.sail s with out := some { o with op := .read a n w t g } }
    | _ => d.stray m
  | _, _ => d.stray m

/-- CFG_DATA_RECEIVED. -/
def execCfgDataReceived (m : MastId) (s : SailId) (sq : U16) (addr : Byte) (data : U32) (st : State) :
    Host.Outcome State Fault Refusal := runBack m st (fun d => (d.cfgDataReceived m s sq addr data).settleMasts m)

/-- A PING to a sail is outstanding or waits. -/
def Sail.pinged (x : Sail) : Bool :=
  (x.out.toList.map (·.op) ++ x.ops).any (fun (o : CfgOp) => match o with | .ping _ => true | _ => false)

/-- PING_TIMER: a PING to every deliverable or UNRESPONSIVE sail, behind the device's traffic to it; one that still waits for its last PING is
sent no second (R244, R246). -/
def Dev.pingTimer (d : Dev) : Dev :=
  if !d.up then d
  else (d.sailList.filter (fun s => (d.deliverable s || (d.sail s).reach == .unresponsive) && !(d.sail s).pinged)).foldl
    (fun (d : Dev) (s : SailId) => d.useFree.pushOwn s [.ping ((d.freeAt 0).setWidth 32)]) d

/-- PING_TIMER. -/
def execPingTimer (s : State) : Host.Outcome State Fault Refusal := runOn s (fun d => d.pingTimer)

/-- CREDIT: the latest total counts for later reservations (R245). -/
def Dev.creditReceived (d : Dev) (s : SailId) (total : Byte) : Dev := d.setSail s { d.sail s with credits := total.toNat }

/-- CREDIT_RECEIVED. -/
def execCreditReceived (s : SailId) (total : Byte) (st : State) : Host.Outcome State Fault Refusal :=
  runBack (mastOf s) st (fun d => d.creditReceived s total)

/-- A STATUS packet is recorded; new flags are reported, MISSED_TACK counted, FRAME_LOST marks the sail in full; a sail in service has them
cleared, another at its entry (R224, R251, R256, R259). -/
def Dev.statusFlags (d : Dev) (s : SailId) (flags : U32) (temp : U16) : Dev :=
  let x := d.sail s
  let f : Byte := flags.setWidth 8 &&& 0xF8
  let new := f &&& ~~~x.seen
  let d1 := d.setSail s { x with status := flags, temp := temp }
  if new = 0 then d1
  else
    let d2 := (d1.noteFlags s f).event 0x0704 s.toNat (f.toNat * 2 ^ 32 + temp.toNat * 65536)
    let d3 := if new.getLsbD 7 then d2.markSail s else d2
    if x.reach = .service then d3.pushOwn s [.write 5 [new.setWidth 32] none] else d3

/-- STRAY_ANSWER (R243). -/
def execStrayAnswer (m : MastId) (s : State) : Host.Outcome State Fault Refusal := runMast m s (fun d => d.stray m)

/-- ALIGN is due: the mast sends one at its next packet boundary (R228). -/
def Dev.alignDue (d : Dev) (m : MastId) : Dev :=
  let x := d.mast m
  if d.up && x.state == .service && !x.idle then d.sendAtBoundary m [x.alignSet] else d

/-- ALIGN_DUE. -/
def execAlignDue (m : MastId) (s : State) : Host.Outcome State Fault Refusal := runMast m s (fun d => d.alignDue m)

/-! ### Packets of plots (R216, R228, R412) -/

/-- A packet has been serialised to its end: what waited for it follows, then configuration packets, then the idle of a pause. One that ends
in a pause of its mast is sent again after it (R272, R413). -/
def Dev.emitPlot (d : Dev) (p : Plot) (repeated : Bool) (pixels : List U32) : Dev :=
  let away := (d.mast p.mast).state != .service
  let d1 := d.setPlot p (fun x => { x with pkt := .sent, repeated := repeated, pixels := pixels, resend := away })
  let d2 := d1.setMast p.mast { d1.mast p.mast with lastPlot := some d.now }
  (((d2.sendPlot p pixels).kickMast p.mast).pauseIdle p.mast)

/-! ### SAIL_CFG_WRITE and SAIL_CFG_READ (R257, R258) -/

/-- A SAIL_CFG command past its own checks: link, sail, then its operation (R258). -/
def Dev.sailCfg (d : Dev) (q : QueueId) (h : Hdr) (op : Nat) (s : SailId) (refs : List BufRef) (f : Nat → CfgOp) : Dev :=
  if !(d.mast (mastOf s)).inService then d.rejectOpen q h op 0x0701
  else if !(d.sail s).answers then d.rejectOpen q h op 0x0602
  else (d.dispatch q h op refs).pushOp s (f d.qs.nextId)

/-- SAIL_CFG_WRITE: the maker area only (R254, R257). -/
def Dev.sailCfgWrite (d : Dev) (q : QueueId) (h : Hdr) (b : CfgWriteBody) : Dev :=
  d.issue q (fun d => d.checked q h 0x70
    [(d.sailExists b.sail.toNat, 0x0102, 8), (decide (0x80 ≤ b.addr.toNat), 0x0102, 10),
     (decide (1 ≤ b.count.toNat) && decide (b.count.toNat ≤ 12), 0x0102, 11),
     (decide (b.addr.toNat + b.count.toNat ≤ 256), 0x0102, 11)]
    (fun d => d.sailCfg q h 0x70 (b.sail.setWidth 10) [] (fun id => .write b.addr (b.data.take b.count.toNat) (some id))))

/-- SAIL_CFG_WRITE. -/
def execSailCfgWrite (q : QueueId) (h : Hdr) (b : CfgWriteBody) (s : State) : Host.Outcome State Fault Refusal :=
  runOn s (fun d => d.sailCfgWrite q h b)

/-- SAIL_CFG_READ's checks: a handle of 0 takes one word as the result (R257, R258). -/
def Dev.cfgReadFields (d : Dev) (b : CfgReadBody) : List (Bool × Nat × Nat) :=
  let reg := b.ref.handle == 0
  [(reg || d.live b.ref, 0x0111, 12), (d.sailExists b.sail.toNat, 0x0102, 8),
   (decide (1 ≤ b.count.toNat) && decide (b.count.toNat ≤ 64), 0x0102, 11), (!reg || b.count == 1, 0x0102, 11),
   (decide (b.addr.toNat + b.count.toNat ≤ 256), 0x0102, 11),
   (reg || decide (b.offset.toNat + 4 * b.count.toNat ≤ d.sizeOf b.ref), 0x0A01, boundsDetail (d.sizeOf b.ref) b.offset.toNat)]

/-- SAIL_CFG_READ: any words (R254, R258). -/
def Dev.sailCfgRead (d : Dev) (q : QueueId) (h : Hdr) (b : CfgReadBody) : Dev :=
  d.issue q (fun d => d.checked q h 0x71 (d.cfgReadFields b) (fun d =>
    let reg := b.ref.handle == 0
    d.sailCfg q h 0x71 (b.sail.setWidth 10) (if reg then [] else [b.ref])
      (fun id => .read b.addr b.count (some id) (if reg then none else some (b.ref, b.offset.toNat)) [])))

/-- SAIL_CFG_READ. -/
def execSailCfgRead (q : QueueId) (h : Hdr) (b : CfgReadBody) (s : State) : Host.Outcome State Fault Refusal :=
  runOn s (fun d => d.sailCfgRead q h b)

end Sys2Proof.Machine
end

