-- ==== Sys2Proof/Machine/Train.lean ====
section
/-! DEFINITION. Mast bring-up, training and degradation (file 12): states, pass masks, hop timing, the ladder that chooses a
setting, retrains, rate changes, lost hops and rejoins. -/

namespace Sys2Proof.Machine

/-! ### Pass masks and hop timing (R265 to R267) -/

/-- Forget a rate's measurements: a sweep of presets begins. -/
def Mast.sweep (x : Mast) (r : Nat) : Mast := { x with trial := r, pass := x.pass.filter (fun p => p.1 % 4 != r), best := [] }

/-- A sweep ends: a hop that reported nothing passes on no lane. -/
def Mast.closeSweep (x : Mast) (n : Nat) : Mast :=
  { x with pass := (List.range n).foldl (fun (t : SMap (Option (BitVec 4))) (h : Nat) =>
      if (SMap.get none t (h * 4 + x.trial)).isNone then SMap.set none t (h * 4 + x.trial) (some 0) else t) x.pass }

/-- EYE_REPORT: a passing preset sets its lane's bit and competes for the best score, the lower preset winning ties (R265, R266). -/
def Mast.report (x : Mast) (r : EyeReport) : Mast :=
  let h := posOf r.sail
  let k := h * 4 + x.trial
  let ok := r.errors == 0 && decide (80 ≤ r.height.toNat) && decide (308 ≤ r.width.toNat) && decide (r.preset.toNat ≤ 10) && decide (r.lane.toNat ≤ 3)
  let mask := (SMap.get none x.pass k).getD 0
  let score := r.height.toNat * r.width.toNat
  let b := SMap.get (0, 0) x.best (h * 4 + r.lane.toNat)
  let better := decide (b.2 < score) || (b.2 == score && decide (r.preset.toNat < b.1))
  { x with
    pass := SMap.ins x.pass k (some (if ok then mask ||| BitVec.ofNat 4 (2 ^ r.lane.toNat) else mask))
    best := if ok && better then SMap.set (0, 0) x.best (h * 4 + r.lane.toNat) (r.preset.toNat, score) else x.best }

/-- trim of the sail ahead of a hop: 480 − fwd_base − wire, with wire a u16 and the trim an s16 (R267). -/
def trimOf (t : HopTiming) : Int :=
  let wire := wrapInt 16 (((t.hopRt.toNat : Int) - (t.turnaround.toNat : Int)) / 2)
  sext 16 (wrapInt 16 (480 - (t.fwdBase.toNat : Int) - (wire : Int)))

/-- A trim of 0 to 255 meets a hop's delays (R267). -/
def trimOk (t : HopTiming) : Bool := decide (0 ≤ trimOf t) && decide (trimOf t ≤ 255)

/-- A hop's timing, where its delays are measured, is one that a trim can meet; hop 0 has none (R267). -/
def timingOk (ts : List HopTiming) (h : Nat) : Bool :=
  h == 0 || (match ts[h]? with | some t => trimOk t | none => ts.isEmpty)

/-- A hop may run at a rate: the rate is in its sail's CAPS1 and its timing holds (R267, R268). -/
def Mast.may (x : Mast) (h r : Nat) : Bool := timingOk x.timing h && (x.caps.getD h 0).getLsbD r

/-! ### The ladder (R268) -/

/-- What the ladder comes to: measure a rate, use a rate on the first hops with a lane mask, or no setting at all. -/
inductive Plan where
  | measure (r : Nat)
  | use (r k : Nat) (mask : BitVec 4)
  | fail

/-- The lowest n lanes of a mask. -/
def lowestLanes (n : Nat) (m : BitVec 4) : BitVec 4 :=
  (((List.range 4).filter (fun i => m.getLsbD i)).take n).foldl (fun a i => a ||| BitVec.ofNat 4 (2 ^ i)) 0

/-- The lanes that pass on every one of the first k hops at a rate; none where a hop is not measured. -/
def Mast.common (x : Mast) (k r : Nat) : Option (BitVec 4) :=
  (List.range k).foldl (fun (a : Option (BitVec 4)) (h : Nat) =>
    match a, SMap.get none x.pass (h * 4 + r) with | some m, some p => some (m &&& p) | _, _ => none) (some 15#4)

/-- One rung of the ladder: a rate on the first k hops; one that a sail lacks in CAPS1 fails untried. -/
def Mast.rung (x : Mast) (k r : Nat) : Option Plan :=
  if (List.range k).all (fun h => x.may h r) then
    match x.common k r with
    | none => some (.measure r)
    | some m => if 2 ≤ laneCount m then some (.use r k m) else none
  else none

/-- The rungs in the order of R268: all n hops at descending rates, then shorter chains. -/
def Mast.ladder (x : Mast) (n : Nat) (rates shorter : List Nat) : Plan :=
  ((rates.map (fun r => (n, r)) ++ ((List.range n).reverse.flatMap (fun k => shorter.map (fun r => (k, r))))).findSome?
    (fun (p : Nat × Nat) => if p.1 = 0 then none else x.rung p.1 p.2)).getD .fail

/-- Rate codes from a top one down to MIN_RATE. -/
def Dev.ratesFrom (d : Dev) (m : MastId) (top : Nat) : List Nat :=
  (List.range (top + 1)).reverse.filter (fun r => decide (d.tval (mastKey m 0x204) ≤ 8 * (r + 1)))

/-- Target rate code of a mast. -/
def Dev.targetRate (d : Dev) (m : MastId) : Nat := (rateCode (d.tval (mastKey m 0x202))).getD 3
/-- Target lanes of a mast. -/
def Dev.targetLanes (d : Dev) (m : MastId) : Nat := d.tval (mastKey m 0x203)

/-! ### Training sets (R263) -/

/-- The preset that the device uses on a lane of hop 0: the best of its last sweep; 4, as in ENUMERATE, while there is none (R264, R265,
log entry 99). -/
def Mast.preset (x : Mast) (lane : Nat) : Nat :=
  let b := SMap.get (0, 0) x.best lane
  if b.2 = 0 then 4 else b.1

/-- The presets of the four lanes of hop 0. -/
def Mast.presets (x : Mast) : List Nat := (List.range 4).map (fun i => x.preset i)

/-- The device's training sets of a phase at a rate: TS2 once its backstay receiver is locked, TS1 before (R263). -/
def Dev.trainSet (d : Dev) (m : MastId) (phase r : Nat) (lanes : BitVec 4) : TrainSet :=
  { two := (d.mast m).backLock, mast := m, rate := r, lanes := lanes, presets := (d.mast m).presets, phase := phase, countdown := 0,
    mark := false, sets := 1 }

/-- Training sets leave at the next packet boundary; the Countdown of each run is a free value (R263, R272, log entry 99). -/
def Dev.sendTrain (d : Dev) (m : MastId) (ts : List TrainSet) : Dev :=
  d.useFree.sendAtBoundary m (ts.zipIdx.map (fun (p : TrainSet × Nat) => .train { p.1 with countdown := (d.freeAt p.2).setWidth 8 }))

/-- EQUALISE on hop 0: presets 0 to 10 in turn on every lane (R265). -/
def Dev.sweepSets (d : Dev) (m : MastId) (r : Nat) (lanes : BitVec 4) : List TrainSet :=
  (List.range 11).map (fun i => { d.trainSet m 2 r lanes with presets := List.replicate 4 i })

/-- VERIFY on hop 0: with delay measurement, 64 TS2 with MARK (R267); without it, as in a retrain, none is marked (R272). -/
def Dev.sendVerify (d : Dev) (m : MastId) (mark : Bool) : Dev :=
  let x := d.mast m
  let t := d.trainSet m 3 x.trial (if mark then 15 else x.lanes)
  d.sendTrain m [if mark then { t with two := true, mark := true, sets := 64 } else t]

/-! ### Starting and stopping -/

/-- Bring-up starts from ENUMERATE at 8 Gbit/s with preset 4 on four lanes, where a chain is present (R262, R264). -/
def Dev.bringUp (d : Dev) (m : MastId) : Dev :=
  let d1 := d.stopMast m .down
  if (d1.mast m).det && d1.groupUp m && d1.mastExists m then
    let d2 := d1.setMast m { d1.mast m with state := .enumerate, since := d1.now, idle := false }
    d2.sendTrain m [d2.trainSet m 0 0 15]
  else d1

/-- DET goes high in any state: DOWN, every sail UNREACHABLE, cause 6 (R262); a group that leaves service may now be OFFLINE (R452). -/
def Dev.mastDetHigh (d : Dev) (m : MastId) : Dev :=
  if (d.mast m).det then
    let d1 := d.stopMast m .down
    ((d1.setMast m { d1.mast m with det := false }).degraded m 6 0xFF).settleMasts m
  else d

/-- MAST_DET_HIGH. -/
def execMastDetHigh (m : MastId) (s : State) : Host.Outcome State Fault Refusal := runMast m s (fun d => d.mastDetHigh m)

/-- DET low for 1 ms: bring-up; in HOVE, where no mast trains, it follows on leaving it (R261, R380, R394; log entry 101). -/
def Dev.mastDetQualified (d : Dev) (m : MastId) : Dev :=
  let d1 := d.setMast m { d.mast m with det := true }
  if ((d1.mast m).state = .down ∨ (d1.mast m).state = .failed) ∧ d1.up = true then d1.bringUp m else d1

/-- MAST_DET_QUALIFIED. -/
def execMastDetQualified (m : MastId) (s : State) : Host.Outcome State Fault Refusal := runMast m s (fun d => d.mastDetQualified m)

/-- A trial rate is swept on every hop: SWITCH, then EQUALISE (R265). -/
def Dev.trySweep (d : Dev) (m : MastId) (r : Nat) (st : MastState) : Dev :=
  let ts := d.trainSet m 1 r 15 :: d.sweepSets m r 15
  (d.setMast m { (d.mast m).sweep r with state := st }).sendTrain m ts

/-- A mast has no setting: FAILED (R261, R268); a group that leaves service may now be OFFLINE (R452). -/
def Dev.failMast (d : Dev) (m : MastId) (cause : Nat) : Dev := ((d.stopMast m .failed).degraded m cause 0).settleMasts m

/-- Cause of a chain cut at a hop: hop timing, MIN_RATE, or a hop that passes at no rate (R268, R277). -/
def Dev.cutCause (d : Dev) (m : MastId) (ts : List HopTiming) (h : Nat) : Nat :=
  if !timingOk ts h then 4 else if 8 < d.tval (mastKey m 0x204) then 7 else 3

/-- A running mast trains as far as its rates go: the next rung of bring-up's ladder (R268). -/
def Dev.firstTry (d : Dev) (m : MastId) : Dev :=
  let x := d.mast m
  let rs := d.ratesFrom m (d.targetRate m)
  match x.ladder x.enumerated rs rs with
  | .measure r => d.trySweep m r .equalise
  | .use r _ _ => d.trySweep m r .equalise
  | .fail => d.failMast m (d.cutCause m x.timing 0)

/-- Enumeration ends: CAPS1.RATES of the sails found, by position; a chain without any is FAILED. Sails that were found have locked the
device's backstay receiver, so that its ENUMERATE sets are TS2 from then on (R263, R264, R268, log entries 99, 102). -/
def Dev.enumerationComplete (d : Dev) (m : MastId) (caps : List (BitVec 4)) : Dev :=
  if (d.mast m).state ≠ .enumerate ∨ d.up = false then d
  else
    let d1 := d.setMast m { d.mast m with
      enumerated := min caps.length 32, caps := caps.take 32, backLock := (d.mast m).backLock || !caps.isEmpty }
    if caps.isEmpty then d1.failMast m 6 else (d1.sendTrain m [d1.trainSet m 0 0 15]).firstTry m

/-- ENUMERATION_COMPLETE. -/
def execEnumerationComplete (m : MastId) (caps : List (BitVec 4)) (s : State) : Host.Outcome State Fault Refusal :=
  runMast m s (fun d => d.enumerationComplete m caps)

/-- An EYE_REPORT is recorded while its hop trains: in a sweep of the mast, or in a rejoin attempt behind a lost hop (R265, R266, R273). -/
def Dev.eyeReportReceived (d : Dev) (m : MastId) (r : EyeReport) : Dev :=
  let x := d.mast m
  let trains := x.state == .equalise || x.state == .retrain || x.state == .rateChange ||
    (x.state == .service && x.rejoin.isSome && (match x.lostHop with | some p => decide (p ≤ posOf r.sail) | none => false))
  if trains && mastOf r.sail == m then d.setMast m (x.report r) else d

/-- EYE_REPORT_RECEIVED. -/
def execEyeReportReceived (m : MastId) (r : EyeReport) (s : State) : Host.Outcome State Fault Refusal :=
  runBack m s (fun d => d.eyeReportReceived m r)

/-- The sweep ends and VERIFY starts (R265, R267). -/
def Dev.equaliseEnd (d : Dev) (m : MastId) : Dev :=
  let x := d.mast m
  if x.state = .equalise ∧ d.up = true then (d.setMast m { x.closeSweep x.enumerated with state := .verify }).sendVerify m true else d

/-- EQUALISE_END. -/
def execEqualiseEnd (m : MastId) (s : State) : Host.Outcome State Fault Refusal := runMast m s (fun d => d.equaliseEnd m)

/-! ### Activation -/

/-- HOP_STATE of a hop: presets, lanes passing, FWD_TRIM of its upstream sail (R278). -/
def Dev.hopState (d : Dev) (m : MastId) (h r : Nat) : U32 :=
  let x := d.mast m
  let pre := (List.range 4).foldl (fun n l => n + (SMap.get (0, 0) x.best (h * 4 + l)).1 * 16 ^ l) 0
  let trim := if h = 0 then 0 else (d.sail (sailOf m (h - 1))).trim
  BitVec.ofNat 32 (pre * 65536 + ((SMap.get none x.pass (h * 4 + r)).getD 0).toNat * 4096 + trim)

/-- Trims of the last delay measurement, for the sails ahead of hops a to b − 1 (R267). -/
def Dev.setTrims (d : Dev) (m : MastId) (a b : Nat) : Dev :=
  ((List.range b).filter (fun h => decide (a ≤ h) && decide (1 ≤ h))).foldl (fun (d : Dev) (h : Nat) =>
    match (d.mast m).timing[h]? with
    | some t => d.setSail (sailOf m (h - 1)) { d.sail (sailOf m (h - 1)) with trim := (trimOf t).toNat }
    | none => d) d

/-- HOP_STATE of hops a to b − 1 at the mast's rate (R278). -/
def Dev.setHops (d : Dev) (m : MastId) (a b : Nat) : Dev :=
  let x := d.mast m
  let hs := ((List.range b).filter (fun h => decide (a ≤ h))).foldl
    (fun (t : SMap U32) (h : Nat) => SMap.set 0 t h (d.hopState m h x.rate)) x.hops
  d.setMast m { x with hops := hs }

/-- ACTIVATE: a rate and lanes on the first k sails; the mast runs on them, and ALIGN follows (R227, R268). -/
def Dev.activate (d : Dev) (m : MastId) (r k : Nat) (lanes : BitVec 4) : Dev :=
  let d1 := (d.cutAt m k).sendTrain m [d.trainSet m 4 r lanes]
  let x := d1.mast m
  let d2 := d1.setMast m { x with
      state := .service, rate := r, lanes := lanes, reach := k, idle := false, prior := none, restore := false, hops := []
      lastTrain := min (d1.now - x.since) 0xFFFFFFFF }
  (d2.setHops m 0 k).sendAtBoundary m [(d2.mast m).alignSet]

/-- EV_MAST_UP (R277). -/
def Dev.mastUp (d : Dev) (m : MastId) (kind us : Nat) : Dev :=
  let x := d.mast m
  d.event 0x0702 m.toNat (8 * (x.rate + 1) * 2 ^ 56 + x.lanes.toNat * 2 ^ 48 + x.reach * 2 ^ 40 + kind * 2 ^ 32 + us % 2 ^ 32)

/-- The first hop that keeps a chain from a rate on its lanes; 0xFF where none does. -/
def Mast.weakHop (x : Mast) (k r lanes : Nat) : Nat :=
  ((List.range k).find? (fun h => !x.may h r || decide (laneCount ((SMap.get none x.pass (h * 4 + r)).getD 0) < lanes))).getD 0xFF

/-- The event of a setting below the wanted one, the gravest cause first: chain cut, rate, lanes (R277). -/
def Dev.noteSetting (d : Dev) (m : MastId) (n top : Nat) : Dev :=
  let x := d.mast m
  if x.reach < n then d.degraded m (d.cutCause m x.timing x.reach) x.reach
  else if x.rate < top then d.degraded m 2 (x.weakHop x.reach top 2)
  else if laneCount x.lanes < d.targetLanes m then d.degraded m 1 (x.weakHop x.reach x.rate (d.targetLanes m))
  else d

/-- The lanes used of those that pass: the lowest, up to the target (R268). -/
def Dev.useLanes (d : Dev) (m : MastId) (mask : BitVec 4) : BitVec 4 := lowestLanes (min (d.targetLanes m) (laneCount mask)) mask

/-- VERIFY ends with the delays of the hops: the ladder tries a further rate, fails, or gives the setting with which the sails enter service. A
setting at a rate that is not the one just swept is tried again with SWITCH, EQUALISE and VERIFY (R267, R268). -/
def Dev.verifyComplete (d : Dev) (m : MastId) (ts : List HopTiming) : Dev :=
  if (d.mast m).state ≠ .verify ∨ d.up = false then d
  else
    let d0 := d.setMast m { d.mast m with timing := ts }
    let x := d0.mast m
    let rs := d0.ratesFrom m (d0.targetRate m)
    match x.ladder x.enumerated rs rs with
    | .measure r => d0.trySweep m r .equalise
    | .fail => d0.failMast m (d0.cutCause m ts 0)
    | .use r k mask =>
      if r ≠ x.trial then d0.trySweep m r .equalise
      else
        let d1 := (d0.setTrims m 1 k).activate m r k (d0.useLanes m mask)
        let d2 := (d1.noteSetting m x.enumerated (d0.targetRate m)).mastUp m 0 (d1.mast m).lastTrain
        ((sailsOf m).take k).foldl (fun (d : Dev) (s : SailId) => d.enter s false) d2

/-- VERIFY_COMPLETE. -/
def execVerifyComplete (m : MastId) (hops : List HopTiming) (s : State) : Host.Outcome State Fault Refusal :=
  runMast m s (fun d => d.verifyComplete m hops)

/-! ### Retrains (R271, R272) -/

/-- The plots of a mast that are outstanding when its link pauses are sent again after the pause (R272, R413). -/
def Dev.markResend (d : Dev) (m : MastId) : Dev :=
  { d with push := { d.push with plots := d.push.plots.map (fun (p : Plot) =>
      if p.mast = m ∧ p.pkt = .sent then { p with resend := true } else p) } }

/-- The link of a mast runs again: outstanding packets are retransmitted, uncounted as failures; those completed by repetition are
released (R242, R272). -/
def Dev.resume (d : Dev) (m : MastId) : Dev :=
  let d0 := (d.push.plots.filter (fun (p : Plot) => p.mast == m && p.resend && p.repeated)).foldl (fun (d : Dev) (p : Plot) => d.answered p) d
  let d1 := { d0 with push := { d0.push with
    plots := d0.push.plots.map (fun (p : Plot) =>
      if p.mast = m ∧ p.resend = true then { p with pkt := .waiting, retry := true, resend := false } else p) } }
  ((sailsOf m).foldl (fun (d : Dev) (s : SailId) =>
    match (d.sail s).out with
    | some o => d.setSail s { d.sail s with out := some { o with due := true } }
    | none => d) d1).kickMast m

/-- EQUALISE at the current rate, on every lane and reachable hop (R272). -/
def Dev.retrainSweep (d : Dev) (m : MastId) : Dev :=
  let x := d.mast m
  let ts := d.sweepSets m x.rate x.lanes
  (d.setMast m (x.sweep x.rate)).sendTrain m ts

/-- A retrain of a mast begins, and is counted; what earlier trainings measured holds no longer (R272, R278, R437; log entry 111). -/
def Dev.beginRetrain (d : Dev) (m : MastId) : Dev :=
  let x := d.mast m
  let d1 := ((d.setMast m { x with
    state := .retrain, since := d.now, naks := [], rejoin := none, pass := []
    retrains := x.retrains.filter (fun t => decide (d.now < t + 100000)) ++ [d.now] }).bump (mastKey m 0x209)).occur 7 1
  d1.retrainSweep m

/-- A retrain starts on a mast in SERVICE; one that already trains absorbs the trigger (R271, R272). -/
def Dev.startRetrain (d : Dev) (m : MastId) : Dev :=
  if (d.mast m).state ≠ .service ∨ d.up = false then d else ((d.mastExit m).markResend m).beginRetrain m

/-- RETRAIN_START: a trigger of R271. -/
def execRetrainStart (m : MastId) (s : State) : Host.Outcome State Fault Refusal := runMast m s (fun d => d.startRetrain m)

/-- Character lock on the backstay is lost for more than 1 µs (R271, R273). -/
def Dev.backstayLockLoss (d : Dev) (m : MastId) : Dev := (d.setMast m { d.mast m with backLock := false }).startRetrain m

/-- BACKSTAY_LOCK_LOSS. -/
def execBackstayLockLoss (m : MastId) (s : State) : Host.Outcome State Fault Refusal := runMast m s (fun d => d.backstayLockLoss m)

/-- After the exit from HOVE the backstay does not lock within 10 µs (R276). -/
def Dev.hoveExitLockTimeout (d : Dev) (m : MastId) : Dev := if d.up then d.backstayLockLoss m else d

/-- HOVE_EXIT_LOCK_TIMEOUT. -/
def execHoveExitLockTimeout (m : MastId) (s : State) : Host.Outcome State Fault Refusal := runMast m s (fun d => d.hoveExitLockTimeout m)

/-- A NAK; the eighth of reason 1 within 1 ms starts a retrain (R239, R271). -/
def Dev.nakReceived (d : Dev) (m : MastId) (s : SailId) (sq : U16) (reason : Byte) : Dev :=
  let d1 := d.nakAnswer m s sq reason
  if reason = 1 then
    let d2 := d1.countNak m
    if 8 ≤ (d2.mast m).naks.length then d2.startRetrain m else d2
  else d1

/-- NAK_RECEIVED. -/
def execNakReceived (m : MastId) (s : SailId) (sq : U16) (reason : Byte) (st : State) : Host.Outcome State Fault Refusal :=
  runBack m st (fun d => (d.nakReceived m s sq reason).settleMasts m)

/-- STATUS; HDR_ERR starts a retrain (R224, R271). -/
def Dev.statusReceived (d : Dev) (s : SailId) (flags : U32) (temp : U16) : Dev :=
  let d1 := d.statusFlags s flags temp
  if flags.getLsbD 3 then d1.startRetrain (mastOf s) else d1

/-- STATUS_RECEIVED. -/
def execStatusReceived (s : SailId) (flags : U32) (temp : U16) (st : State) : Host.Outcome State Fault Refusal :=
  runBack (mastOf s) st (fun d => d.statusReceived s flags temp)

/-- A change of setting starts on a mast in SERVICE where the target differs from its setting; while it retrains or changes it is
kept for later (R275). -/
def Dev.startChange (d : Dev) (m : MastId) : Dev :=
  let x := d.mast m
  if x.state = .retrain ∨ x.state = .rateChange then d.setMast m { x with changeDue := true }
  else if x.state ≠ .service ∨ (d.targetRate m = x.rate ∧ d.targetLanes m = laneCount x.lanes) then d.setMast m { x with changeDue := false }
  else
    let d1 := (d.mastExit m).markResend m
    (d1.setMast m { d1.mast m with changeDue := false, prior := some (x.rate, x.lanes), since := d.now, rejoin := none }).trySweep m
      (d.targetRate m) .rateChange

/-- A pause ends: packets flow again, and a change that waited starts (R272, R275). -/
def Dev.endPause (d : Dev) (m : MastId) : Dev :=
  let d1 := d.resume m
  if (d1.mast m).changeDue then d1.startChange m else d1

/-- The new trims go to the sails of a mast that changed its setting (R256, R267). -/
def Dev.writeTrims (d : Dev) (m : MastId) : Dev :=
  ((sailsOf m).filter (fun s => (d.sail s).reach == .service)).foldl (fun (d : Dev) (s : SailId) =>
    d.pushOwn s [.write 7 [BitVec.ofNat 32 (d.sail s).trim] none]) d

/-- A mast runs at a setting that a rate change chose: activation, trims, events, and the pause ends (R267, R275, R277). -/
def Dev.changed (d : Dev) (m : MastId) (r k top : Nat) (mask : BitVec 4) : Dev :=
  let x := d.mast m
  let d1 := (d.setTrims m 1 k).activate m r k (d.useLanes m mask)
  let d2 := d1.noteSetting m x.reach top
  let d3 := if x.state = .rateChange then d2.mastUp m 2 (d2.mast m).lastTrain else d2
  (d3.endPause m).writeTrims m

/-- The ladder below the current rate, as a rate change that the device itself requests; a rate that is not the one just swept is tried. Where
no lower rate is allowed, the chain is cut at the current one (R268, R272; log entry 111). -/
def Dev.runLadder (d : Dev) (m : MastId) : Dev :=
  let x := d.mast m
  let below := if x.rate = 0 then [] else d.ratesFrom m (x.rate - 1)
  match x.ladder x.reach below (if below.isEmpty then d.ratesFrom m x.rate else below) with
  | .measure r => d.trySweep m r .rateChange
  | .fail => d.failMast m (d.cutCause m x.timing 0)
  | .use r k mask => if r ≠ x.trial then d.trySweep m r .rateChange else d.changed m r k x.rate mask

/-- A retrain ends at the current rate with a new lane mask, or goes on down the ladder; a fifth within 100 ms takes one step down first
(R272). One that restores the setting of a failed change raises cause 5 (R275). -/
def Dev.retrainComplete (d : Dev) (m : MastId) : Dev :=
  let x := d.mast m
  if x.state ≠ .retrain ∨ d.up = false then d
  else
    let y := x.closeSweep x.reach
    let d1 := (d.setMast m { y with restore := false }).sendVerify m false
    let mask := (y.common x.reach x.rate).getD 0
    let fifth := decide (5 ≤ x.retrains.length)
    let goal := if x.restore then laneCount x.lanes else d.targetLanes m
    let top := if fifth then laneCount x.lanes - 1 else goal
    let lanes := lowestLanes (min (min top goal) (laneCount mask)) mask
    let five := fun (e : Dev) => if x.restore then e.degraded m 5 0xFF else e
    if laneCount lanes < 2 then (five d1).runLadder m
    else
      let d2 := five (d1.activate m x.rate x.reach lanes)
      (if x.lanes &&& ~~~lanes = 0 then d2 else d2.degraded m 1 (y.weakHop x.reach x.rate (laneCount x.lanes))).endPause m

/-- RETRAIN_COMPLETE. -/
def execRetrainComplete (m : MastId) (s : State) : Host.Outcome State Fault Refusal := runMast m s (fun d => d.retrainComplete m)

/-- A rate change ends with the delays of the hops: the new setting, or a retrain that restores the previous one; the device's own ladder goes
on (R272, R275). -/
def Dev.rateChangeComplete (d : Dev) (m : MastId) (ts : List HopTiming) : Dev :=
  let x := d.mast m
  if x.state ≠ .rateChange ∨ d.up = false then d
  else
    let d1 := (d.setMast m { x.closeSweep x.reach with timing := ts }).sendVerify m true
    match x.prior with
    | none => d1.runLadder m
    | some (r0, l0) =>
      match (d1.mast m).rung x.reach x.trial with
      | some (.use r k mask) => d1.changed m r k r mask
      | _ =>
        let d2 := d1.setMast m { d1.mast m with prior := none, restore := true, rate := r0, lanes := l0, timing := x.timing }
        (d2.sendTrain m [d2.trainSet m 1 r0 l0]).beginRetrain m

/-- RATE_CHANGE_COMPLETE. -/
def execRateChangeComplete (m : MastId) (hops : List HopTiming) (s : State) : Host.Outcome State Fault Refusal :=
  runMast m s (fun d => d.rateChangeComplete m hops)

/-! ### Rejoin (R273) -/

/-- Training of a lost hop starts at the current rate: SOURCE in the sail ahead of it, or the device's own sets on hop 0 (R270, R273). -/
def Dev.startRejoin (d : Dev) (m : MastId) (p : Nat) : Dev :=
  let x := d.mast m
  let keep := fun (k : Nat) => decide (k / 4 < p)
  let d1 := d.setMast m { x with
    rejoin := some d.now, trial := x.rate
    pass := x.pass.filter (fun q => keep q.1), best := x.best.filter (fun q => keep q.1) }
  let verify := { d1.trainSet m 3 x.rate 15 with two := true, mark := true, sets := 64 }
  if p = 0 then d1.sendTrain m (d1.trainSet m 0 0 15 :: d1.trainSet m 1 x.rate 15 :: d1.sweepSets m x.rate x.lanes ++ [verify])
  else d1.pushOwn (sailOf m (p - 1)) [.write 0x10 [BitVec.ofNat 32 (x.rate * 16 + 1)] none]

/-- Hop p and the hops behind it, with the sails found there, pass at the current setting (R273). -/
def Mast.rejoins (x : Mast) (p n : Nat) (caps : List (BitVec 4)) (hops : List HopTiming) : Bool :=
  n != 0 && (List.range n).all (fun i =>
    ((SMap.get none x.pass ((p + i) * 4 + x.rate)).getD 0) &&& x.lanes == x.lanes && (caps.getD i 0).getLsbD x.rate &&
      (p + i == 0 || (match hops[i]? with | some t => trimOk t | none => false)))

/-- A rejoin attempt ends: where the hops pass, the lost hop is spliced in and its sails enter service; else the next attempt is
awaited (R273, R277, R278). -/
def Dev.endRejoin (d : Dev) (m : MastId) (p : Nat) (t0 : Nat) (caps : List (BitVec 4)) (hops : List HopTiming) : Dev :=
  let x := d.mast m
  let n := min caps.length (32 - p)
  let d0 := d.setMast m { x with rejoin := none }
  if !x.rejoins p n caps hops then d0
  else
    let blank : HopTiming := ⟨0, 0, 0⟩
    let d1 := d0.setMast m { d0.mast m with
      lostHop := none, reach := p + n, enumerated := p + n
      caps := x.caps.take p ++ caps.take n
      timing := (List.range p).map (fun i => x.timing.getD i blank) ++ hops.take n }
    let d2 := if p = 0 then (d1.sendTrain m [d1.trainSet m 4 x.rate x.lanes]).sendAtBoundary m [x.alignSet]
      else d1.pushOwn (sailOf m (p - 1)) [.write 0x10 [BitVec.ofNat 32 (x.rate * 16 + 3)] none]
    let d3 := (d2.setTrims m p (p + n)).setHops m p (p + n)
    let d4 := if p = 0 then d3
      else d3.pushOwn (sailOf m (p - 1)) [.write 7 [BitVec.ofNat 32 (d3.sail (sailOf m (p - 1))).trim] none]
    (((sailsOf m).drop p).take n).foldl (fun (d : Dev) (s : SailId) => d.enter s false) (d4.mastUp m 1 (min (d.now - t0) 0xFFFFFFFF))

/-- A rejoin attempt: at REJOIN_INTERVAL the training of the lost hop starts, and at its end the sails found behind it, with what their
registers and VERIFY give, rejoin or do not (R273, log entry 103). -/
def Dev.rejoinAttempt (d : Dev) (m : MastId) (caps : List (BitVec 4)) (hops : List HopTiming) : Dev :=
  let x := d.mast m
  if x.state ≠ .service ∨ d.up = false then d
  else match x.lostHop, x.rejoin with
  | some p, none => (d.mastExit m).startRejoin m p
  | some p, some t0 => (d.mastExit m).endRejoin m p t0 caps hops
  | none, _ => d

/-- REJOIN_ATTEMPT. -/
def execRejoinAttempt (m : MastId) (found : RejoinFound) (s : State) : Host.Outcome State Fault Refusal :=
  runMast m s (fun d => d.rejoinAttempt m found.caps found.hops)

/-! ### Masts and HOVE (R276, R380, R381, R413) -/

/-- A mast enters HOVE: its lanes enter electrical idle with what is trained; a bring-up under way ends and starts afresh after HOVE
(R276, R380, log entry 101). -/
def Dev.hoveMast (d : Dev) (m : MastId) : Dev :=
  match (d.mast m).state with
  | .enumerate | .equalise | .verify => (d.eiEnter m).stopMast m .down
  | _ => d.eiEnter m

/-- A mast leaves HOVE: EXIT and ALIGN; a retrain or change that HOVE interrupted starts afresh, and a chain that is present and not up is
brought up (R262, R276, log entry 101). -/
def Dev.leaveMast (d : Dev) (m : MastId) : Dev :=
  match (d.mast m).state with
  | .down => if (d.mast m).det then d.bringUp m else d
  | .retrain => (d.mastExit m).retrainSweep m
  | .rateChange => (d.mastExit m).trySweep m (d.mast m).trial .rateChange
  | _ => d.wakeMast m

/-- µs in the power state since its entry, saturating (R403). -/
def Dev.stateTime (d : Dev) : Nat := min (d.now - d.pw.since) 0xFFFFFFFF

/-- A stay in HOVE ends: HOVE_TIME counts its ms, and what is left of the last one is kept for the next stay (entry 0x2400.06). -/
def Dev.countHove (d : Dev) : Dev :=
  let t := d.pw.hoveRest + (d.now - d.pw.since)
  { d.bumpN 0x240006 (t / 1000) with pw := { d.pw with hoveRest := t % 1000 } }

/-- Leave HOVE or forced HOVE for UNDERWAY: PLLs, DRAM, host link, masts, HOVE_TIME and the event (R38, R276, R381, R403). -/
def Dev.leaveHove (d : Dev) (src : Nat) : Dev :=
  let d1 := d.countHove
  let d2 := { d1 with
    pw := { d1.pw with state := .underway, since := d.now, lastWake := if src = 0 then d.pw.lastWake else src }
    dram := { d1.dram with selfRefresh := false }
    link := { d1.link with low := .l0 } }
  let d3 := d2.mastList.foldl (fun (d : Dev) (m : MastId) => d.leaveMast m) d2
  if d.val 0x240009 = 1 then d3.event 0x0C01 0 (1 * 2 ^ 48 + src * 2 ^ 40 + d.stateTime) else d3

/-- A wake source, as the bit number of entry 0x2400.02 plus 1: HOVE ends if the source is enabled; forced HOVE does not
(R381, R414). -/
def Dev.wake (d : Dev) (src : Nat) : Dev :=
  if d.pw.state = .hove ∧ bit (d.val 0x240002) (src - 1) = true then d.leaveHove src else d

end Sys2Proof.Machine
end

