-- ==== Sys2Proof/Machine/Backstay.lean ====
section
/-! DEFINITION. Backstay packets as the device's receiver takes them: sixteen characters with framing and check (R237), and the twelve
data bytes by type (R238). -/

namespace Sys2Proof.Machine

/-- The twelve data bytes of a backstay packet: K27.7, the data, their CRC-16 low byte first, K29.7; none where framing or CRC fails (R237). A
character is a control character or not, and its byte. -/
def backData (cs : List (Bool × Byte)) : Option (List Byte) :=
  let bytes := cs.map (fun (c : Bool × Byte) => c.2)
  let data := slice bytes 1 12
  if cs.map (fun (c : Bool × Byte) => c.1) = true :: List.replicate 14 false ++ [true] ∧ bytes[0]? = some 0xFB ∧ bytes[15]? = some 0xFD ∧
      field bytes 13 2 = crc16 data then some data
  else none

/-- A backstay packet acts by its type and the fields of its data bytes (R238). A source that is no sail of the mast has nothing outstanding;
its other packets, and reserved types, change nothing. -/
def Dev.backstay (d : Dev) (m : MastId) (b : List Byte) : Dev :=
  let src := field b 2 2
  let s : SailId := BitVec.ofNat 10 src
  let own := decide (src < 1024) && mastOf s == m
  let sq : U16 := BitVec.ofNat 16 (field b 4 2)
  let byte := fun (i : Nat) => b.getD i 0
  let half := fun (i : Nat) => (BitVec.ofNat 16 (field b i 2) : U16)
  match field b 0 1 with
  | 1 => if own then d.ackReceived m s sq else d.stray m
  | 2 => if own then d.nakReceived m s sq (byte 6) else d.stray m
  | 3 => if own then d.creditReceived s (byte 4) else d
  | 4 => if own then d.statusReceived s (BitVec.ofNat 32 (field b 4 4)) (half 8) else d
  | 5 => if own then d.cfgDataReceived m s sq (byte 6) (BitVec.ofNat 32 (field b 8 4)) else d.stray m
  | 6 => if own then d.eyeReportReceived m { sail := s, lane := byte 4, preset := byte 5, height := half 6, width := half 8, errors := half 10 } else d
  | _ => d

/-- BACKSTAY_PACKET_ERROR: characters that fail framing or CRC are discarded and counted; a good packet is taken (R237, R238). -/
def Dev.backstayPacketError (d : Dev) (m : MastId) (cs : List (Bool × Byte)) : Dev :=
  match backData cs with
  | some b => ((d.heard m).backstay m b).settleMasts m
  | none => d.bump (mastKey m 0x104)

/-- BACKSTAY_PACKET_ERROR. -/
def execBackstayPacketError (p : BackstayChars) (s : State) : Host.Outcome State Fault Refusal :=
  runMast p.mast s (fun d => d.backstayPacketError p.mast p.chars)

end Sys2Proof.Machine
end

