-- ==== Sys2Proof/Machine/Cluster.lean ====
section
/-! DEFINITION. Ray engine clusters (file 08) and the layer scalers (R182): placing jobs, computing and handing on plots, the
packets that carry them (R216), and what a cluster fault repeats. -/

namespace Sys2Proof.Machine

/-! ### Clusters and places (R161, R163 to R165) -/

/-- The jobs that a cluster holds (R161). -/
def Dev.jobsOn (d : Dev) (c : ClusterId) : List Plot :=
  d.push.plots.filter (fun (p : Plot) => p.stage.cluster == some c) ++ (d.cluster c).tail.toList

/-- Clocks per plot of a sail's mode (R159). -/
def Dev.cost (d : Dev) (s : SailId) : Nat := ((d.lensOf s).map Lens.clocks).getD 0

/-- The summed clocks of some jobs. -/
def Dev.load (d : Dev) (ps : List Plot) : Nat := ps.foldl (fun n (p : Plot) => n + d.cost p.sail) 0

/-- The home cluster of a plot's affinity cell (R163). -/
def Lens.home (l : Lens) (plot : Nat) : ClusterId :=
  let at_ := fun (o : Int) (scale n : Nat) => o + ((scale * ((64 * n + 32) * 2 ^ 24) + 2 ^ 31 : Nat) : Int) / 2 ^ 32
  BitVec.ofNat 3 ((at_ l.originX l.scaleX (plot % 64) / 2 ^ 25 + 3 * (at_ l.originY l.scaleY (plot / 64) / 2 ^ 23)) % 8).toNat

/-- A cluster has a free place: fewer than 8 jobs, and fewer than six queued behind a job in prefetch (R161). -/
def Dev.hasPlace (d : Dev) (c : ClusterId) : Bool :=
  decide ((d.jobsOn c).length < 8) &&
    (!(d.push.plots.any (fun (p : Plot) => p.stage == .prefetch c)) || decide (d.push.plots.countP (fun (p : Plot) => p.stage == .queued c) < 6))

/-- The in-service clusters with a free place (R164). -/
def Dev.openClusters (d : Dev) : List ClusterId := allClusters.filter (fun c => d.clusterUp c && d.hasPlace c)

/-- The first of some clusters with the least measure. -/
def leastBy (f : ClusterId → Nat) : List ClusterId → Option ClusterId
  | [] => none
  | c :: t =>
    match leastBy f t with
    | none => some c
    | some b => if f b < f c then some b else some c

/-! ### Push FIFOs (R16, R211, R212) -/

/-- Bytes of a PLOT_WRITE, reserved for each plot (R211). -/
def plotBytes : Nat := 15424

/-- Payload bytes that n pixels of 30 bits fill (R234). -/
def payloadBytes (n : Nat) : Nat := 30 * n / 8

/-- The reserved plots of a mast. -/
def Dev.plotsOn (d : Dev) (m : MastId) : List Plot := d.push.plots.filter (fun (p : Plot) => p.mast == m)

/-- FIFO occupancy in bytes: every reservation (R212). -/
def Dev.occupancy (d : Dev) (m : MastId) : Nat := plotBytes * (d.plotsOn m).length

/-- FIFO fill in bytes: what is composed and not yet serialised (R212); a packet whose serialisation has begun counts as
serialised (log entry 21). -/
def Dev.fill (d : Dev) (m : MastId) : Nat :=
  ((d.plotsOn m).filter (fun (p : Plot) => p.pkt == .waiting && !p.retry)).foldl (fun n (p : Plot) =>
    n + (match p.stage with | .composed => plotBytes | .compute _ => payloadBytes p.handed | _ => 0)) 0

/-- The plot is fully composed. -/
def Plot.whole (p : Plot) : Bool := p.stage == .composed || p.stage == .discarded

/-- A mast is URGENT: fill below the low watermark, and a reserved plot not fully composed (R16, R212). -/
def Dev.urgent (d : Dev) (m : MastId) : Bool :=
  decide (d.fill m < d.val 0x20000A) && (d.plotsOn m).any (fun (p : Plot) => !p.whole)

/-! ### Dispatch (R161 to R165) -/

/-- Where the dispatcher places a job: by home cell and load, or by URGENT load (R164, R165). -/
def Dev.placeJob (d : Dev) (p : Plot) (urgent : Bool) : Option ClusterId :=
  let cs := d.openClusters
  let home := (d.lensOf p.sail).map (fun l => l.home p.plot)
  if urgent then
    leastBy (fun c => 2 * d.load ((d.jobsOn c).filter (fun (x : Plot) => x.urgent)) + (if home = some c then 0 else 1)) cs
  else
    match home.filter (fun c => d.tval 0x214004 == 1 && cs.contains c && decide (d.load (d.jobsOn c) ≤ 1536)) with
    | some c => some c
    | none => leastBy (fun c => d.load (d.jobsOn c)) cs

/-- A stamp later than that of every admitted plot. -/
def Dev.nextOrder (d : Dev) : Nat := d.push.plots.foldl (fun n (x : Plot) => max n x.order) 0 + 1

/-- A job joins a cluster. -/
def Dev.joinCluster (d : Dev) (p : Plot) (urgent : Bool) (c : ClusterId) : Dev :=
  (d.setPlot p (fun x => { x with stage := .queued c, urgent := urgent, order := d.nextOrder })).advance c

/-! ### Layer scalers (R182, R451) -/

/-- The scalers in service. -/
def Dev.scalersUp (d : Dev) : List Nat := (List.range 16).filter (fun n => d.partUp (24 + n / 4))

/-- A plot holds a scaler: a reserved one, or one that its cluster's engines have still to finish. -/
def Dev.scalerHeld (d : Dev) (n : Nat) : Bool :=
  (d.push.plots ++ allClusters.filterMap (fun c => (d.cluster c).tail)).any (fun (p : Plot) => (p.scalers.getD []).contains n)

/-- The scalers that no plot holds. -/
def Dev.scalersFree (d : Dev) : List Nat := d.scalersUp.filter (fun n => !d.scalerHeld n)

/-- A layer scaler group that leaves service is OFFLINE once it holds no plot (R452). -/
def Dev.settleScalers (d : Dev) : Dev :=
  (List.range 4).foldl (fun (d : Dev) (g : Nat) =>
    if (d.partn (24 + g)).leaving && (List.range 4).all (fun i => !d.scalerHeld (4 * g + i)) then
      d.setPartn (24 + g) { d.partn (24 + g) with state := .offline, leaving := false }
    else d) d

/-- The scaler passes that a plot needs. -/
def Dev.scalersNeeded (d : Dev) (p : Plot) : Nat :=
  match d.lensOf p.sail with
  | some l => (d.layersAt p.sail l p.plot).length
  | none => 0

/-- The plot whose compute is next on a cluster, once the engines are free. -/
def Dev.readyOn (d : Dev) (c : ClusterId) : Option Plot :=
  if (d.cluster c).tail.isSome || d.push.plots.any (fun (p : Plot) => p.stage == .compute c) then none
  else d.push.plots.find? (fun (p : Plot) => p.stage == .prefetch c)

/-- A plot that needs scalers takes them all in one step once enough are free; where fewer are in service than it needs, it takes
every one of them (R182, R451). -/
def Dev.scalerGrant (d : Dev) (c : ClusterId) : Dev :=
  match d.readyOn c with
  | some p =>
    let n := min (d.scalersNeeded p) d.scalersUp.length
    if p.scalers.isNone && n != 0 && decide (n ≤ d.scalersFree.length) then
      d.setPlot p (fun x => { x with scalers := some (d.scalersFree.take n) })
    else d
  | none => d

/-- SCALER_GRANT. -/
def execScalerGrant (c : ClusterId) (s : State) : Host.Outcome State Fault Refusal := runOn s (fun d => d.scalerGrant c)

/-! ### Compute (R162, R166 to R171) -/

/-- Upset lines of the ECC region, as the environment reports them (R325, R326): whichever read comes next meets them. -/
def Dev.upset (d : Dev) (us : List Upset) : Dev :=
  us.foldl (fun (d : Dev) (u : Upset) =>
    let line := u.line / 64 * 64
    if !d.inEcc line then d
    else { d with dram := { d.dram with
      upsets := { line := line, double := u.double } :: d.dram.upsets.filter (fun (x : Upset) => x.line != line) } }) d

/-- Single-bit errors that a view cache corrected: counted, and reported as of the line that the cache holds, on its channel; which of its lines
is open (R168, R449, log entry 3). -/
def Dev.cacheCorrected (d : Dev) (c : ClusterId) (n : Nat) : Dev :=
  let ls := (d.cache c).lines
  (List.range n).foldl (fun (d : Dev) (_ : Nat) =>
    let line := match ls[(d.freeAt 0).toNat % max 1 ls.length]? with
      | some x => x.1
      | none => (d.freeAt 1).toNat % 2 ^ 36 / 64 * 64
    d.useFree.reportCorrected line) (d.bumpN 0x214008 n)

/-- Lines of a view cache whose data or tag failed: counted, invalidated, and remembered for the limit of 16 in 1 ms (R168). -/
def Dev.cacheRefetched (d : Dev) (c : ClusterId) (n : Nat) : Dev :=
  let d1 := (d.bumpN 0x214009 n).dropLines c n
  let x := d1.cache c
  d1.setCache c { x with refetches := x.refetches.filter (fun t => decide (d.now < t + 1000)) ++ List.replicate n d.now }

/-- A plot enters the engines (R162): its nodes are at hand, and its scalers' sources meet what they meet. -/
def Dev.startCompute (d : Dev) (c : ClusterId) (p : Plot) (l : Lens) : Dev :=
  let d1 := (d.fetchLines c p.hurried l.ref (d.plotNodes l p.plot)).2
  let d2 := d1.scalerReads p l
  (d2.setPlot p (fun x => { x with stage := .compute c, pixels := [], handed := 0, mark := d.dram.old.length })).advance c

/-- The engines of a cluster are free and its prefetched plot has its scalers and can have its nodes (R162, R182). -/
def Dev.canCompute (d : Dev) (c : ClusterId) (p : Plot) (l : Lens) : Bool :=
  d.clusterUp c && (p.scalers.isSome || d.scalersNeeded p == 0) && !(d.stopped && (d.plotNodes l p.plot).any (fun a => d.lostIn a 64))

/-! ### Packets (R171, R216, R217) -/

/-- A plot is re-marked in the SEALED map, unless its sail's plots were withdrawn (R173, R202, R217). -/
def Dev.remark (d : Dev) (s : SailId) (plot : Nat) : Dev :=
  let x := d.mast (mastOf s)
  if (d.sail s).sealedMap.getLsbD plot && !x.repairs.contains (s, plot) then
    d.setMast (mastOf s) { x with repairs := x.repairs ++ [(s, plot)] }
  else d

/-- The plot that a cluster computes has been handed over whole: scalers and engines are free, and a started packet ends (R162, R182). -/
def Dev.plotDone (d : Dev) (c : ClusterId) (p : Plot) : Dev :=
  let x := d.cluster c
  let q : Plot := { p with stage := .composed, scalers := none }
  let d1 := (d.setPlot p (fun _ => q)).setCluster c { x with computed := satAdd 0xFFFFFFFF x.computed 1 }
  (if q.pkt = .started then d1.emitPlot q false q.pixels else d1).advance c

/-- PLOT_HANDOFF: the records up to a pixel count reach the compositor in raster order, and their pixels the push FIFO (R171). A plot whose
packet has been answered already only leaves the engines. -/
def Dev.plotHandoff (d : Dev) (c : ClusterId) (upto : Nat) : Dev :=
  match (d.cluster c).tail, d.push.plots.find? (fun (p : Plot) => p.stage == .compute c) with
  | some _, _ =>
    let x := d.cluster c
    if 4096 ≤ upto then ((d.setCluster c { x with tail := none, computed := satAdd 0xFFFFFFFF x.computed 1 }).advance c).settleScalers else d
  | none, some p =>
    match d.lensOf p.sail with
    | some l =>
      let n := min upto 4096
      if n ≤ p.handed then d
      else
        let r := d.composeFrom c p l (n - p.handed) p.handed
        let q : Plot := { p with pixels := if p.repeated then p.pixels else p.pixels ++ r.1, handed := n }
        let d1 := (if r.2.stopped then r.2.useFree else r.2).setPlot p (fun _ => q)
        if n = 4096 then d1.plotDone c q else d1
    | none => d
  | none, none => d

/-- PLOT_HANDOFF. -/
def execPlotHandoff (c : ClusterId) (upto : Nat) (s : State) : Host.Outcome State Fault Refusal :=
  runOn s (fun d => d.plotHandoff c upto)

/-! ### Faults (R172 to R174) -/

/-- A job in prefetch or compute is discarded and its plot re-marked: its reservation is released, or its started packet completed by
repetition (R173). A plot whose packet an underrun has completed is re-marked already. -/
def Dev.discardJob (d : Dev) (p : Plot) : Dev :=
  if p.repeated then d.setPlot p (fun x => { x with stage := .discarded, scalers := none })
  else
    let q : Plot := { p with stage := .discarded, scalers := none }
    let d1 := if p.pkt = .started then (d.setPlot p (fun _ => q)).emitPlot q true p.padded else d.release p
    (d1.remark p.sail p.plot).bump 0x214006

/-- A job that found another cluster counts as handed on, and for the fence that it left while that is not complete (R174, R176). -/
def Dev.handedOn (d : Dev) (c : ClusterId) : Dev :=
  let x := d.cluster c
  (if x.cause ≠ 0 ∧ x.done = false then d.setCluster c { x with handedOn := x.handedOn + 1 } else d).bump 0x214007

/-- A queued job of a fenced cluster is handed to another, by the urgency of its mast now, or waits for a place ahead of every job
presented since, behind those that wait already (R164, R165, R173). -/
def Dev.handOn (d : Dev) (p : Plot) (c : ClusterId) : Dev :=
  let q : Plot := { p with stage := .handed c, order := d.nextOrder }
  let d1 := d.setPlot p (fun _ => q)
  match d1.placeJob q (d1.urgent p.mast) with
  | some e => (d1.joinCluster q (d1.urgent p.mast) e).handedOn c
  | none => d1

/-- A cluster is fenced by a cause (R172, R173): its jobs are handled by stage. -/
def Dev.fenceCluster (d : Dev) (c : ClusterId) (cause : Nat) : Dev :=
  if (d.cluster c).cause ≠ 0 ∨ (d.partn c.toNat).state = .bist ∨ ((d.partn c.toNat).state ≠ .inService ∧ cause ≠ 5) then d
  else
    let jobs := d.push.plots.filter (fun (p : Plot) => p.stage.cluster == some c)
    let queued := sortBy (fun (p q : Plot) => p.ahead q) (jobs.filter (fun (p : Plot) => p.stage == .queued c))
    let running := jobs.filter (fun (p : Plot) => p.stage != .queued c)
    let d1 := d.setCluster c { d.cluster c with
      cause := cause, done := false, handedOn := 0, repeats := running.countP (fun (p : Plot) => !p.repeated), tail := none }
    let d2 := d1.setPartn c.toNat { d1.partn c.toNat with state := .fenced, leaving := false }
    running.foldl (fun (d : Dev) (p : Plot) => d.discardJob p) (queued.foldl (fun (d : Dev) (p : Plot) => d.handOn p c) d2)

/-- PLOT_COMPUTE_START: the engines are free, the plot's scalers taken, its nodes present (R162, R182). What its cache and its lines met on
the way counts first; more than 16 refetches within 1 ms fence the cluster with cause 4 (R168). -/
def Dev.plotComputeStart (d : Dev) (c : ClusterId) (corrected refetched : Nat) (us : List Upset) : Dev :=
  match d.readyOn c with
  | some p =>
    match d.lensOf p.sail with
    | some l =>
      if d.canCompute c p l then
        let d1 := ((d.upset us).cacheCorrected c corrected).cacheRefetched c refetched
        if 16 < (d1.cache c).refetches.length then d1.fenceCluster c 4 else d1.startCompute c p l
      else d
    | none => d
  | none => d

/-- PLOT_COMPUTE_START. -/
def execPlotComputeStart (c : ClusterId) (corrected refetched : U16) (upsets : List Upset) (s : State) :
    Host.Outcome State Fault Refusal := runOn s (fun d => d.plotComputeStart c corrected.toNat refetched.toNat upsets)

/-- CLUSTER_FAULT: causes 1 to 5 of the cluster fault table (R172). -/
def Dev.clusterFault (d : Dev) (c : ClusterId) (cause : BitVec 3) : Dev :=
  if cause = 0 ∨ 5 < cause.toNat then d else d.fenceCluster c cause.toNat

/-- CLUSTER_FAULT. -/
def execClusterFault (c : ClusterId) (cause : BitVec 3) (s : State) : Host.Outcome State Fault Refusal :=
  runOn s (fun d => d.clusterFault c cause)

/-- A started job makes no progress for 20 µs, one whose packet has been answered already included: cause 3 (R162, R172). -/
def Dev.clusterProgressTimeout (d : Dev) (c : ClusterId) : Dev :=
  if (d.cluster c).tail.isSome || d.push.plots.any (fun (p : Plot) => p.stage == .compute c) then d.fenceCluster c 3 else d

/-- CLUSTER_PROGRESS_TIMEOUT. -/
def execClusterProgressTimeout (c : ClusterId) (s : State) : Host.Outcome State Fault Refusal :=
  runOn s (fun d => d.clusterProgressTimeout c)

/-- A partition is fenced: EV_PARTITION_FENCED with a cause and a fault class (R464). -/
def Dev.partFenced (d : Dev) (p cause cls : Nat) : Dev := d.event 0x0F02 p (cause * 2 ^ 56 + cls * 2 ^ 48)

/-- A cluster's fence completes: EV_CLUSTER_FENCED, LAST_FENCE, FENCE_COUNT; a fault of the cluster itself is logged and its
partition's fence raised (R174, R176, R449, R464). -/
def Dev.clusterFenceComplete (d : Dev) (c : ClusterId) : Dev :=
  let x := d.cluster c
  if x.cause = 0 ∨ x.done = true then d
  else
    let d1 := (d.setCluster c { x with done := true }).settleScalers.bump 0x214005
    let d2 := { d1 with push := { d1.push with lastFence := c.toNat * 2 ^ 24 + x.cause * 2 ^ 16 + min x.repeats 0xFFFF } }
    let d3 := d2.event 0x0401 c.toNat (x.cause * 2 ^ 56 + (allClusters.filter d2.clusterUp).length * 2 ^ 48 + x.handedOn * 2 ^ 40 + x.repeats)
    if x.cause ≤ 4 then (d3.partFenced c.toNat 1 4).logFault 4 c.toNat 0x0401 else d3

/-- CLUSTER_FENCE_COMPLETE. -/
def execClusterFenceComplete (c : ClusterId) (s : State) : Host.Outcome State Fault Refusal :=
  runOn s (fun d => d.clusterFenceComplete c)

/-! ### Partition faults (R451) -/

/-- A compositor slice fails: it and its two clusters are fenced (R451). -/
def Dev.sliceFault (d : Dev) (s : Nat) : Dev :=
  let d1 := d.setPartn (12 + s) { d.partn (12 + s) with state := .fenced, leaving := false }
  let d2 := (d1.fenceCluster (BitVec.ofNat 3 (2 * s)) 5).fenceCluster (BitVec.ofNat 3 (2 * s + 1)) 5
  (d2.partFenced (12 + s) 1 6).logFault 6 s 0x0F02

/-- A layer scaler group fails: plots that hold one of its scalers are repeated (R451). -/
def Dev.scalerFault (d : Dev) (g : Nat) : Dev :=
  let d1 := d.setPartn (24 + g) { d.partn (24 + g) with state := .fenced, leaving := false }
  let ps := d1.push.plots.filter (fun (p : Plot) => (p.scalers.getD []).any (fun n => n / 4 == g))
  let d2 := ps.foldl (fun (d : Dev) (p : Plot) => d.discardJob p) d1
  (d2.advanceAll.partFenced (24 + g) 1 7).logFault 7 g 0x0F02

/-- The masts of a mast group. -/
def groupMasts (k : Nat) : List MastId := (List.range 4).map (fun i => BitVec.ofNat 5 (4 * k + i))

/-- A mast group's logic fails: its sails are UNREACHABLE and their plots withdrawn (R449, R451). -/
def Dev.groupFault (d : Dev) (k : Nat) : Dev :=
  let d1 := d.setPartn (16 + k) { d.partn (16 + k) with state := .fenced, leaving := false }
  let d2 := (groupMasts k).foldl (fun (d : Dev) (m : MastId) => d.stopMast m .down) d1
  (d2.partFenced (16 + k) 1 12).logFault 12 k 0x0F02

/-- PARTITION_FAULT: a thresher group, a slice, a scaler group or a mast group in service (R450, R451). -/
def Dev.partitionFault (d : Dev) (p : BitVec 6) : Dev :=
  let n := p.toNat
  if (d.partn n).state ≠ .inService then d
  else if 8 ≤ n ∧ n ≤ 11 then d.thresherGroupFault (n - 8)
  else if 12 ≤ n ∧ n ≤ 15 then d.sliceFault (n - 12)
  else if 16 ≤ n ∧ n ≤ 23 then d.groupFault (n - 16)
  else if 24 ≤ n ∧ n ≤ 27 then d.scalerFault (n - 24)
  else d

/-- PARTITION_FAULT. -/
def execPartitionFault (p : BitVec 6) (s : State) : Host.Outcome State Fault Refusal := runOn s (fun d => d.partitionFault p)

end Sys2Proof.Machine
end

