-- ==== Sys2Proof/Machine/Push.lean ====
section
/-! DEFINITION. Push scheduling (file 10): admission per mast (R210, R211), the scheduler that shares the ray engines (R213, R214),
serialisation and underruns (R216, R217), and the broadcast of TACK (R208, R209). -/

namespace Sys2Proof.Machine

/-! ### Reservations (R211, R245) -/

/-- A mast has a job slot and FIFO space (R211). -/
def Dev.fifoOpen (d : Dev) (m : MastId) : Bool :=
  decide ((d.plotsOn m).length < 128) && decide (d.occupancy m ≤ d.val 0x20000B) && decide (d.occupancy m + plotBytes ≤ 524288)

/-- A sail has 4 credits left (R211, R245). -/
def Dev.hasCredit (d : Dev) (s : SailId) : Bool :=
  decide (4 * (d.push.plots.countP (fun (p : Plot) => p.sail == s)) + 4 ≤ (d.sail s).credits)

/-! ### Admission (R210) -/

/-- A chase gate holds a plot (R296). -/
def Dev.gated (d : Dev) (s : SailId) (plot : Nat) : Bool := d.comp.gates.any (fun (g : Gate) => g.plots.contains (s, plot))

/-- The SEALED plots of a sail that are reserved already, those completed by repetition apart. -/
def Dev.reserved (d : Dev) (s : SailId) (plot : Nat) : Bool :=
  d.push.plots.any (fun (p : Plot) => p.sail == s && p.plot == plot && !p.repeated)

/-- A plot of the SEALED map that is neither reserved nor held by a gate (R210). -/
def Dev.candidate (d : Dev) (s : SailId) (plot : Nat) : Bool :=
  (d.sail s).sealedMap.getLsbD plot && !d.reserved s plot && !d.gated s plot

/-- Age of a plot row of the SEALED map (R201). -/
def Dev.rowAge (d : Dev) (s : SailId) (row : Nat) : Nat :=
  match d.tack.act, SMap.get none (d.sail s).sealedSeq row with
  | some t, some q => (t.seq - q).toNat
  | _, _ => 0

/-- The row is promoted (R201). -/
def Dev.promotedRow (d : Dev) (s : SailId) (row : Nat) : Bool := decide (d.tval 0x20000C < d.rowAge s row)

/-- The plot rows of a sail in the order of PLOT_ORDER (R210). -/
def Dev.rowOrder (d : Dev) (s : SailId) : List Nat :=
  let t := fun r => SMap.get 0 (d.sail s).rowTime r
  if d.tval 0x200009 = 1 then sortBy (fun (a b : Nat) => decide (t b ≤ t a)) (List.range 32) else List.range 32

/-- The first candidate of some rows that is not waiting for a repeat. -/
def Dev.firstIn (d : Dev) (s : SailId) (rows : List Nat) : Option Nat :=
  let fix := (d.mast (mastOf s)).repairs
  rows.findSome? (fun r => ((List.range 64).map (fun c => plotNo c r)).find? (fun p => d.candidate s p && !fix.contains (s, p)))

/-- A sail's next promoted plot: its oldest promoted row first (R210). -/
def Dev.nextPromoted (d : Dev) (s : SailId) : Option Nat :=
  d.firstIn s (sortBy (fun (a b : Nat) => decide (d.rowAge s b ≤ d.rowAge s a)) ((d.rowOrder s).filter (fun r => d.promotedRow s r)))

/-- A sail's next plot that is not promoted. -/
def Dev.nextOther (d : Dev) (s : SailId) : Option Nat := d.firstIn s ((d.rowOrder s).filter (fun r => !d.promotedRow s r))

/-- Chain positions in the round that follows the one last served. -/
def roundAfter (last n : Nat) : List Nat := (List.range n).map (fun i => (last + 1 + i) % n)

/-- The sails of a mast that can be served now, in a round: deliverable and with credits (R210). -/
def Dev.servable (d : Dev) (m : MastId) (last : Nat) : List SailId :=
  ((roundAfter last 32).map (sailOf m)).filter (fun s => d.deliverable s && d.hasCredit s)

/-- The arbiter's choice: class, sail, plot (R210). -/
def Dev.choosePlot (d : Dev) (m : MastId) : Option (Nat × SailId × Nat) :=
  let x := d.mast m
  match x.repairs.find? (fun r => d.deliverable r.1 && d.hasCredit r.1 && d.candidate r.1 r.2) with
  | some r => some (1, r)
  | none =>
    match (d.servable m x.rr2).findSome? (fun s => (d.nextPromoted s).map (fun p => (s, p))) with
    | some r => some (2, r)
    | none => ((d.servable m x.rr3).findSome? (fun s => (d.nextOther s).map (fun p => (s, p)))).map (fun r => (3, r))

/-- The arbiter reserves for a plot (R211, R220). -/
def Dev.reserve (d : Dev) (m : MastId) (cls : Nat) (s : SailId) (plot : Nat) : Dev :=
  let x := d.mast m
  let old := d.promotedRow s (plot / 64)
  let d1 := (d.setMast m { x with
    repairs := x.repairs.filter (fun r => r != (s, plot))
    rr2 := if cls = 2 then posOf s else x.rr2
    rr3 := if cls = 3 then posOf s else x.rr3 }).bump (mastKey m 0x15)
  let d2 := if old then d1.bump (mastKey m 0x16) else d1
  { d2 with
    push := { d2.push with plots := d2.push.plots ++ [({ mast := m, sail := s, plot := plot, promoted := old } : Plot)] }
    tack := { d2.tack with act := d2.tack.act.map (fun (t : ActiveTack) => { t with pushing := true }) } }

/-- PLOT_ADMIT: the mast arbiter admits its next plot, if it can reserve all that it needs (R210, R211); none while the mast retrains or
changes its setting (R272, R275). -/
def Dev.plotAdmit (d : Dev) (m : MastId) : Dev :=
  if d.up && d.tack.act.isSome && !d.stopped && (d.mast m).state == .service && !(d.mast m).withhold && d.groupUp m && d.fifoOpen m && allClusters.any d.clusterUp then
    match d.choosePlot m with
    | some (cls, s, p) => d.reserve m cls s p
    | none => d
  else d

/-- PLOT_ADMIT. -/
def execPlotAdmit (m : MastId) (s : State) : Host.Outcome State Fault Refusal := runOn s (fun d => d.plotAdmit m)

/-! ### The scheduler (R213, R214) -/

/-- The first admitted and undispatched job of a mast that a test picks. -/
def Dev.jobOf (d : Dev) (m : MastId) (p : Plot → Bool) : Option Plot := (d.plotsOn m).find? (fun (x : Plot) => x.stage == .admitted && p x)

/-- The masts in the round that follows the one last served. -/
def mastRound (last : Nat) : List MastId := (roundAfter last 32).map (BitVec.ofNat 5)

/-- A class 3 job: not promoted, of a mast that is not URGENT. -/
def Dev.classThree (d : Dev) (m : MastId) : Option Plot := if d.urgent m then none else d.jobOf m (fun p => !p.promoted)

/-- Plots of a mast in the SEALED map that are not yet admitted. -/
def Dev.rem (d : Dev) (m : MastId) : Nat :=
  (sailsOf m).foldl (fun n s => n + (plotsOf (d.sail s).sealedMap).countP (fun p => !d.reserved s p)) 0

/-- The quantum of a mast (R214). -/
def Dev.quantum (d : Dev) (m : MastId) : Nat := 384 * max 1 (min 32 (ceilDiv (d.rem m) 2048))

/-- The deficit round robin: the mast last served goes on while its deficit lasts, then the next ones gain their quantum (R214); fuel
bounds the visits. -/
def Dev.drr (d : Dev) : Nat → MastId → Bool → Option Plot × Dev
  | 0, _, _ => (none, d)
  | n + 1, m, fresh =>
    let x := d.mast m
    match d.classThree m with
    | none => (d.setMast m { x with deficit := 0 }).drr n (m + 1) true
    | some p =>
      let have_ : Int := if fresh then x.deficit + d.quantum m else x.deficit
      if (d.cost p.sail : Int) ≤ have_ then
        let more := (d.plotsOn m).countP (fun (q : Plot) => q.stage == .admitted && !q.promoted)
        let d1 := d.setMast m { x with deficit := if more ≤ 1 then 0 else have_ - d.cost p.sail }
        (some p, { d1 with push := { d1.push with rrC := m.toNat } })
      else (d.setMast m { x with deficit := have_ }).drr n (m + 1) true

/-- The job that the scheduler presents, from the first class that is not empty (R213). -/
def Dev.present (d : Dev) : Option Plot × Dev :=
  match (mastRound d.push.rrA).findSome? (fun m => d.jobOf m (fun p => p.promoted)) with
  | some p => (some p, { d with push := { d.push with rrA := p.mast.toNat } })
  | none =>
    match ((mastRound d.push.rrB).filter (fun m => d.urgent m)).findSome? (fun m => d.jobOf m (fun _ => true)) with
    | some p => (some p, { d with push := { d.push with rrB := p.mast.toNat } })
    | none => if (mastRound 31).any (fun m => (d.classThree m).isSome) then d.drr 128 (BitVec.ofNat 5 d.push.rrC) false else (none, d)

/-- The cluster that a job was handed on by and that waits for a place. -/
def Stage.handedBy : Stage → Option ClusterId
  | .handed c => some c
  | _ => none

/-- The first job that a fenced cluster handed on and that waits for a place, in the order in which they were handed on (R164, R173). -/
def Dev.handedJob (d : Dev) : Option (Plot × ClusterId) :=
  let hs := d.push.plots.filterMap (fun (p : Plot) => p.stage.handedBy.map (fun c => (p, c)))
  hs.find? (fun (x : Plot × ClusterId) => hs.all (fun (y : Plot × ClusterId) => decide (x.1.order ≤ y.1.order)))

/-- JOB_DISPATCH: while some cluster has a free place, the dispatcher places a job that was handed on, which the scheduler has presented
before, else the job that the scheduler presents (R164, R165, R173, R213). -/
def Dev.jobDispatch (d : Dev) : Dev :=
  if d.openClusters.isEmpty || !d.up then d
  else match d.handedJob with
  | some (p, c) =>
    (match d.placeJob p (d.urgent p.mast) with
    | some e => (d.joinCluster p (d.urgent p.mast) e).handedOn c
    | none => d)
  | none =>
    match d.present with
    | (some p, d1) =>
      match d1.placeJob p (d.urgent p.mast) with
      | some c => d1.joinCluster p (d.urgent p.mast) c
      | none => d
    | (none, d1) => d1

/-- JOB_DISPATCH. -/
def execJobDispatch (s : State) : Host.Outcome State Fault Refusal := runOn s (fun d => d.jobDispatch)

/-! ### Serialisation and underruns (R216, R217) -/

/-- A packet that the mast can start: a retransmission, or one whose first 4,096 payload bytes are composed; none to a sail whose change
of present mode is not acknowledged (R216, R241, R252), and while the DRAM is about to pause only one that is composed whole (R331, R332). -/
def Dev.startable (d : Dev) (p : Plot) : Bool :=
  p.pkt == .waiting && !(d.sail p.sail).modeWaits &&
    (p.retry || (match p.stage with | .composed => true | .compute _ => decide (4096 ≤ payloadBytes p.handed) && !d.wholeOnly | _ => false))

/-- The packet that a mast starts next: retransmissions first, then the earliest reservation (R216, R241). -/
def Dev.nextPacket (d : Dev) (m : MastId) : Option Plot :=
  let ps := (d.plotsOn m).filter (fun (p : Plot) => d.startable p)
  match ps.find? (fun (p : Plot) => p.retry) with
  | some p => some p
  | none => ps.head?

/-- A packet starts: a new one takes the next sequence, a retransmission is counted; one that is composed runs to its end (R216, R240,
R260). -/
def Dev.startPacket (d : Dev) (m : MastId) (p : Plot) : Dev :=
  let q : Plot := if p.retry then { p with pkt := .started } else { p with seq := (d.mast m).txSeq, pkt := .started }
  let d1 := d.setPlot p (fun _ => q)
  let d2 := if p.retry then d1.bump (mastKey m 0x102) else d1.takeSeq m
  if p.whole then d2.emitPlot q false q.pixels else d2

/-- PACKET_SERIALISE_START: the mast's link runs, no packet is being serialised, every TACK due has left (R209, R216); the gap before the packet
takes a step of the mast's trim (R424). -/
def Dev.packetStart (d : Dev) (m : MastId) : Dev :=
  if d.up && !d.stopped && (d.mast m).state == .service && d.tack.flips.isEmpty && d.pauseOver m &&
      !d.serialising m then
    match d.nextPacket m with
    | some p => ((d.trimStep m.toNat).wakeMast m).startPacket m p
    | none => d
  else d

/-- PACKET_SERIALISE_START. -/
def execPacketSerialiseStart (m : MastId) (s : State) : Host.Outcome State Fault Refusal := runOn s (fun d => d.packetStart m)

/-- UNDERRUN: a started packet needs a byte that is not composed; it ends with its last pixel repeated, and its plot is re-marked
(R217, R219). -/
def Dev.underrun (d : Dev) (m : MastId) : Dev :=
  match (d.plotsOn m).find? (fun (p : Plot) => p.pkt == .started) with
  | some p =>
    let d1 := (((d.emitPlot p true p.padded).remark p.sail p.plot).bump (mastKey m 0x11)).occur 3 1
    d1.event 0x0603 m.toNat (p.sail.toNat * 2 ^ 48 + p.plot % 64 * 2 ^ 40 + p.plot / 64 * 2 ^ 32 + payloadBytes p.handed)
  | none => d

/-- UNDERRUN. -/
def execUnderrun (m : MastId) (s : State) : Host.Outcome State Fault Refusal := runOn s (fun d => d.underrun m)

/-! ### The TACK broadcast (R208, R209) -/

/-- Launch of a copy of TACK after copy 0, in units of 0.25 ns, rounded to the nearest: 48 bytes a copy at the mast's net rate (R235). -/
def Mast.adjust (x : Mast) (copy : Nat) : Nat :=
  let r := laneCount x.lanes * x.gbps
  (2 * 1560 * copy + r) / (2 * r)

/-- The three copies of TACK, back to back, leave on every mast whose link is up, enabled or not (R208, R232, R235). -/
def Dev.tackCopies (d : Dev) (seq : U32) : Dev :=
  (d.mastList.filter (fun m => (d.mast m).state == .service)).foldl (fun (d : Dev) (m : MastId) =>
    (d.wakeMast m).sendAtBoundary m ((List.range 3).map (fun i => .tack seq i ((d.mast m).adjust i)))) d

/-- A flip may be broadcast: at once, or in LOCKED mode at a qualifying edge; never under a hold (R209). -/
def Dev.flipDue (d : Dev) (f : Flip) : Bool := !d.held && (d.tval 0x200001 != 2 || f.armed)

/-- TACK_BROADCAST of the oldest retired tack whose flip is due; present-mode changes then reach their sails (R208, R252). A
device that has lost a DRAM channel broadcasts none: no panel flips (R334). -/
def Dev.tackBroadcast (d : Dev) : Dev :=
  match d.tack.flips with
  | f :: t =>
    if d.up && !d.stopped && d.flipDue f then
      let d1 := d.tackCopies f.seq
      let d2 := { d1 with tack := { d1.tack with flips := t, pulses := d1.tack.pulses + 1 } }
      if t.isEmpty then (d2.sailList.filter (fun s => !(d2.sail s).ops.isEmpty)).foldl (fun (d : Dev) (s : SailId) => d.kick s) d2 else d2
    else d
  | [] => d

/-- TACK_BROADCAST. -/
def execTackBroadcast (s : State) : Host.Outcome State Fault Refusal := runOn s (fun d => d.tackBroadcast)

/-! ### Time -/

/-- One microsecond passes with no command waiting: the time that each mast is URGENT is counted (R220, log entry 1). -/
def Dev.idle (d : Dev) : Dev :=
  d.mastList.foldl (fun (d : Dev) (m : MastId) => if d.urgent m then d.bump (mastKey m 0x14) else d) d.tick

end Sys2Proof.Machine
end

