-- ==== Sys2Proof/Machine/Boundary.lean ====
section
/-! DEFINITION. The triggers of PERIODIC and LOCKED mode, and the tack boundary (R196, R197) with everything it puts in force: selections, lens maps, layers, windows, partitions,
present modes and link settings; and the chase gates it forms (R296). -/

namespace Sys2Proof.Machine

/-! ### Triggers (R203, R204) -/

/-- TACK_PERIOD elapses in PERIODIC mode; under a hold it is skipped (R64, R203). In HOVE the device wakes itself for it, whatever
WAKE_ENABLE holds (R379; log entry 112). -/
def Dev.tackPeriodExpiry (d : Dev) : Dev :=
  if d.tval 0x200001 = 1 ∧ d.held = false then
    let d1 := if d.pw.state = .hove then d.leaveHove 2 else d
    { d1 with tack := { d1.tack with periodDue := true } }
  else d

/-- TACK_PERIOD_EXPIRY. -/
def execTackPeriodExpiry (s : State) : Host.Outcome State Fault Refusal := runOn s (fun d => d.tackPeriodExpiry)

/-- A transition of TACK_SYNC_IN: its time is kept by its polarity; in the selected one it is counted in LOCKED mode, and every n-th one
qualifies (R192, R204, R219; log entry 110). -/
def Dev.tackSyncEdge (d : Dev) (rising : Bool) : Dev :=
  if (d.tval 0x200004 == 0) != rising then { d with tack := { d.tack with otherEdge := d.now } }
  else
    let d1 := { d with tack := { d.tack with lastEdge := d.now } }
    if d1.tval 0x200001 ≠ 2 then d1
    else if d1.tack.edges + 1 < d1.tval 0x200003 then
      { d1.delayedEdge with tack := { d1.delayedEdge.tack with edges := d1.tack.edges + 1 } }
    else (d1.wake 3).delayedEdge.qualifyingEdge

/-- TACK_SYNC_EDGE. -/
def execTackSyncEdge (rising : Bool) (s : State) : Host.Outcome State Fault Refusal := runOn s (fun d => d.tackSyncEdge rising)

/-! ### Chase gates (R295, R296) -/

/-- First and last buffer row that surface row y of a drawing command's rectangle covers; the buffer's own pitch divides its rows. -/
def Dev.rowSpan (d : Dev) (b : BlitBody) (y : Nat) : Nat × Nat :=
  let x := d.buf b.dst.handle
  let pitch := if b.dstPitch = 0 then x.pitch else b.dstPitch.toNat
  let a := b.dstOff.toNat + y * pitch + b.x0.toNat * sampleSize x.fmt
  (a / max 1 x.pitch, (a + max 1 (b.x1.toNat * sampleSize x.fmt) - 1) / max 1 x.pitch)

/-- Surface row of index k of the processing order (R294). -/
def procRow (b : BlitBody) (k : Nat) : Nat := if b.ydir then b.y0.toNat + b.y1.toNat - 1 - k else b.y0.toNat + k

/-- The layer source rows that a plot needs, clamped to the source rectangle, as buffer rows (R296). -/
def neededRows (b : LayerBody) (s : SailId) (l : Lens) (plot : Nat) : Nat × Nat :=
  let y0 : Int := (sailOrigin s).2 + (64 * (plot / 64) : Nat)
  let ey : Int := layerEy b l
  let f : Int := b.decim.toNat
  let src := fun (y : Int) => (y - layerY b) * b.srcH.toNat / b.dstH.toNat
  (b.srcY.toNat + clampTo b.srcH.toNat (src (y0 - ey) - f), b.srcY.toNat + clampTo b.srcH.toNat (src (y0 + 63 + ey) + f))

/-- The enabled layers that read a buffer and cover a plot. -/
def Dev.layersFrom (d : Dev) (r : BufRef) (s : SailId) (l : Lens) (plot : Nat) : List LayerBody :=
  (d.layersAt s l plot).filter (fun b => b.ref == r)

/-- Every row that a plot needs lies at or below index w of a gate's processing order, or outside its rectangle (R296). -/
def Dev.rowsReady (d : Dev) (g : BlitBody) (w : Nat) (s : SailId) (plot : Nat) : Bool :=
  match d.lensOf s with
  | none => true
  | some l => (d.layersFrom g.dst s l plot).all (fun b =>
      let n := neededRows b s l plot
      (List.range g.y1.toNat).all (fun k =>
        decide (k ≤ w) || (let r := d.rowSpan g (procRow g k); decide (r.2 < n.1) || decide (n.2 < r.1))))

/-- The plots of the push set that a gate holds (R296); a gate whose command has ended holds none. -/
def Dev.gatedPlots (d : Dev) (x : Option Blit) (r : BufRef) (set : List (SailId × Nat)) : List (SailId × Nat) :=
  match x with
  | none => []
  | some x => set.filter (fun p =>
      (match d.lensOf p.1 with | some l => !(d.layersFrom r p.1 l p.2).isEmpty | none => false) &&
      !(x.wmDone && d.rowsReady x.b x.b.wmRow.toNat p.1 p.2))

/-- The gates of the commits that a boundary applied, over its push set. -/
def Dev.formGates (d : Dev) (gs : List (Nat × BufRef)) (seq : U32) (set : List (SailId × Nat)) : Dev :=
  let of := fun (g : Nat × BufRef) => (d.draws.accepted ++ d.draws.waiting).find? (fun x => x.id == g.1)
  let gates := gs.map (fun (g : Nat × BufRef) => ({ blit := g.1, ref := g.2, tack := seq, plots := d.gatedPlots (of g) g.2 set } : Gate))
  let n := set.countP (fun p => gates.any (fun g => g.plots.contains p))
  { d with comp := { d.comp with gates := gates } }.bumpN 0x216004 n

/-! ### What changed settings mark (R136, R148, R181) -/

/-- Sail and block offset of a per-sail entry's key. -/
def sailOfKey (k : Nat) : Option (SailId × Nat) :=
  if 0x400000 ≤ k ∧ k < 0x800000 then some (BitVec.ofNat 10 ((k / 256 - 0x4000) / 16), k / 256 % 16 * 256 + k % 256) else none

/-- Mast and block offset of a per-mast entry's key. -/
def mastOfKey (k : Nat) : Option (MastId × Nat) :=
  if 0x300000 ≤ k ∧ k < 0x380000 then some (BitVec.ofNat 5 ((k / 256 - 0x3000) / 64), k / 256 % 64 * 256 + k % 256) else none

/-- A lens map has been applied or removed: MISMATCH is judged anew, and dirty plots that no longer exist are discarded (R148, R150). -/
def Dev.lensApplied (d : Dev) (s : SailId) (v : Option Lens) : Dev :=
  let x := d.sail s
  match v with
  | none => d.setSail s { x with dirty := 0, mismatch := false, rowSeq := [] }
  | some l => d.setSail s { x with
      dirty := x.dirty &&& l.plots
      mismatch := match x.dims with | some n => decide (l.width ≠ n.1) || decide (l.height ≠ n.2) | none => false }

/-- The plots of a layer's old and new footprints, on every sail with an applied map (R181). -/
def Dev.markLayer (d : Dev) (a b : Option LayerBody) : Dev :=
  d.lensSails.foldl (fun (d : Dev) (s : SailId) =>
    match d.lensOf s with
    | some l =>
      let f := fun (x : Option LayerBody) => match x with | some b => footprint b s l | none => (0 : BitVec 2048)
      d.markPlots s (f a ||| f b)
    | none => d) d

/-- What one applied setting marks (R148, R181). -/
def Dev.markItem (d : Dev) (old : Applied) : Item → Dev
  | .lens s _ => d.markSail s
  | .layer n v => d.markLayer (SMap.get none old.layers n) v
  | .lut n _ => d.markSails (fun s _ => d.tval (sailKey s 0x404) == n)
  | .win _ _ => d
  | .val k _ _ => match sailOfKey k with | some (s, o) => if 0x401 ≤ o ∧ o ≤ 0x404 then d.markSail s else d | none => d

/-- EV_VIEWSET_SWAPPED: new and previous slot, views, plots newly marked (R136). -/
def Dev.swapData (d : Dev) (prev marked : Nat) : Nat × Nat × Nat :=
  let new := d.activeSlot
  (0x0301, new.getD 0xFFFF, new.getD 0xFF * 2 ^ 56 + (if prev < 2 then prev else 0xFF) * 2 ^ 48 +
    ((d.activeSet.map (·.count)).getD 0) * 2 ^ 32 + marked)

/-! ### Partitions at a boundary (R452, R453) -/

/-- A partition leaves service at a boundary (R452). -/
def Dev.partLeaves (d : Dev) (p : Nat) : Dev :=
  let x := d.partn p
  if x.state ≠ .inService then d
  else if 8 ≤ p ∧ p ≤ 11 then d.setPartn p { x with leaving := true }
  else if 16 ≤ p ∧ p ≤ 23 then (d.setPartn p { x with leaving := true }).settleMasts (BitVec.ofNat 5 (4 * (p - 16)))
  else if 24 ≤ p ∧ p ≤ 27 then (d.setPartn p { x with leaving := true }).settleScalers
  else d.setPartn p { x with state := .offline }

/-- A partition returns to service at a boundary, and a mast group runs bring-up; a cluster or thresher that was fenced and has not passed
BIST since stays fenced (R110, R175, R453). -/
def Dev.partReturns (d : Dev) (p : Nat) : Dev :=
  let x := d.partn p
  if x.state ≠ .offline then d
  else
    let d1 := d.setPartn p { x with state := .inService, leaving := false }
    if 16 ≤ p ∧ p ≤ 23 then (groupMasts (p - 16)).foldl (fun (d : Dev) (m : MastId) => d.bringUp m) d1
    else d1

/-- A cluster whose bit in entry 0x2140.01 a commit has cleared is OFFLINE from the boundary on, and one whose bit it has set returns, where its
partition is OFFLINE, by whichever request it left (R175; DESIGN CHOICE, log entry 118). -/
def Dev.clusterBits (d : Dev) (old : Applied) : Dev :=
  allClusters.foldl (fun (d : Dev) (c : ClusterId) =>
    let was := bit (old.val d.fuses 0x214001) c.toNat
    let is := bit (d.tval 0x214001) c.toNat
    if was && !is then d.partLeaves c.toNat else if is && !was then d.partReturns c.toNat else d) d

/-- The requests of R452 and R453 act. -/
def Dev.partRequests (d : Dev) : Dev :=
  d.flt.reqs.foldl (fun (d : Dev) (r : Nat × Bool) => if r.2 then d.partLeaves r.1 else d.partReturns r.1)
    { d with flt := { d.flt with reqs := [] } }

/-! ### Sealing (R197, R199) -/

/-- A sail's dirty plots move to the SEALED map (R199). -/
def Sail.seal (x : Sail) : Sail := { x with sealedMap := x.dirty, dirty := 0, sealedSeq := x.rowSeq, rowSeq := [] }

/-- The deliverable sails with dirty plots. -/
def Dev.sealable (d : Dev) : List SailId :=
  (d.push.sails.map (fun p => BitVec.ofNat 10 p.1)).filter (fun s => d.deliverable s && (d.sail s).dirty != 0)

/-- Seal the OPEN tack: push set, deficits, READBACKs, then the next tack is OPEN (R195, R197, R214, R308). -/
def Dev.seal (d : Dev) : Dev :=
  let ss := d.sealable
  let d1 := ss.foldl (fun (d : Dev) (s : SailId) => d.setSail s (d.sail s).seal) d
  let d2 := d1.mastList.foldl (fun (d : Dev) (m : MastId) => d.setMast m { d.mast m with deficit := 0, repairs := [] }) d1
  let set := ss.flatMap (fun s => (plotsOf (d2.sail s).sealedMap).map (fun p => (s, p)))
  { d2 with
    draws := { d2.draws with pushSet := set, withdrawn := [], contrib := [] }
    dram := d2.dram.flushCaches
    tack := { d2.tack with
      act := some { seq := d.openTack, pushing := false, sealedAt := d.now, good := 0, vset := d.activeSet }
      openSeq := d.openTack + 1 } }.rbSealed

/-- The timers of the timing modes restart; a new polarity selects the other transitions of TACK_SYNC_IN (R203, R204, R205, R219). -/
def Dev.restartTimers (d : Dev) (old : Applied) : Dev :=
  let o := fun k => old.val d.fuses (0x200000 + k)
  let n := fun k => d.tval (0x200000 + k)
  let locked := n 1 == 2 && o 1 != 2
  let again := locked || o 3 != n 3 || o 4 != n 4
  { d with
    comp := { d.comp with waiting := false }
    tack := { d.tack with
      periodDue := false
      edgeDue := false
      lastBoundary := d.now
      edges := if again then 0 else d.tack.edges
      lastEdge := if o 4 != n 4 then d.tack.otherEdge else d.tack.lastEdge
      otherEdge := if o 4 != n 4 then d.tack.lastEdge else d.tack.otherEdge
      syncLost := d.tack.syncLost && n 1 == 2 && !locked } }

/-- Present modes and link settings that a boundary applied reach their sails and masts (R207, R252, R275). -/
def Dev.sendSettings (d : Dev) (items : List Item) : Dev :=
  let ks := items.filterMap (fun i => match i with | .val k _ _ => some k | _ => none)
  let d1 := (ks.filterMap sailOfKey).foldl (fun (d : Dev) (p : SailId × Nat) =>
    if p.2 = 0x101 ∧ (d.sail p.1).reach = .service then d.pushOwn p.1 [.write 6 [BitVec.ofNat 32 (d.wantMode p.1)] none] else d) d
  (((ks.filterMap mastOfKey).filter (fun p => p.2 == 0x202 || p.2 == 0x203)).map (·.1)).eraseDups.foldl
    (fun (d : Dev) (m : MastId) => d.startChange m) d1

/-! ### The boundary -/

/-- What steps 1 and 2 of a boundary leave: applied state, marks, and the events to raise (R197). -/
def Dev.applyAndMark (d : Dev) : Dev × Took :=
  let prev := d.tval 0x212001
  let d0 := { d with comp := { d.comp with ap := d.baseAp }, intake := { d.intake with dropSelect := false } }
  let (d1, took) := d0.applyCommits
  let d2 := took.items.foldl (fun (d : Dev) (i : Item) => match i with | .lens s v => d.lensApplied s v | _ => d) d1
  let swap := d.intake.dropSelect || setsKey took.items 0x212001
  let d3 := if swap then d2.markSails (fun _ _ => true) else d2
  let evs := took.events ++ (if swap then [d3.swapData prev (d3.dirtyOpen - d2.dirtyOpen)] else [])
  let d4 := took.items.foldl (fun (d : Dev) (i : Item) => d.markItem d0.comp.ap i) d3
  (d4.rbMarks.winMarks took.items, { took with events := evs })

/-- The boundary (R197): settings in force, marks, partitions, the seal, the next tack, its events; a tack with no plots retires at
once (R194). -/
def Dev.boundary (d : Dev) : Dev :=
  let (d1, took) := d.applyAndMark
  let d2 := ((d1.clusterBits d.comp.ap).partRequests.threshersAtBoundary.sendSettings took.items).seal
  let d3 := (d2.formGates took.gates d.openTack d2.draws.pushSet).restartTimers d.comp.ap
  let d4 := took.events.foldl (fun (d : Dev) (e : Nat × Nat × Nat) => d.event e.1 e.2.1 e.2.2) d3
  let d5 := if bit (d4.val 0x20000E) 1 then d4.event 0x0602 0 (d.openTack.toNat * 2 ^ 32 + d4.draws.pushSet.length) else d4
  d5.checkRetire

/-- The trigger of the timing mode in force has occurred (R203). -/
def Dev.trigger (d : Dev) : Bool :=
  let mode := d.tval 0x200001
  if mode = 2 then d.tack.edgeDue else d.triggered || (mode == 1 && d.tack.periodDue)

/-- A boundary may occur but for WAIT (R196). -/
def Dev.boundaryDue (d : Dev) : Bool := d.up && d.tack.act.isNone && !d.held && d.trigger

/-- TACK_BOUNDARY: at the first instant that R196 allows. -/
def Dev.tackBoundary (d : Dev) : Dev := if d.boundaryDue && !d.waitBlocks then d.boundary else d

/-- TACK_BOUNDARY. -/
def execTackBoundary (s : State) : Host.Outcome State Fault Refusal := runOn s (fun d => d.tackBoundary)

/-- The first pending commit with policy WAIT whose items are not ready is timed out. -/
def timeOutWait : List Commit → Commit → List Commit
  | [], _ => []
  | c :: t, w => if c.ordinal = w.ordinal then { c with timedOut := true } :: t else c :: timeOutWait t w

/-- COMMIT_WAIT_TIMEOUT: the boundary occurs with the commit deferred; in LOCKED mode it is left to the next qualifying edge (R191,
R192, R203). -/
def Dev.commitWaitTimeout (d : Dev) : Dev :=
  let due := if d.tval 0x200001 = 2 then d.comp.waiting else d.boundaryDue
  match d.comp.pend.find? (fun c => c.policy != 2 && !(d.notReady c).isEmpty), due && d.waitBlocks with
  | some w, true =>
    let d1 := { d with comp := { d.comp with pend := timeOutWait d.comp.pend w } }
    if d.tval 0x200001 = 2 then d1 else d1.boundary
  | _, _ => d

/-- COMMIT_WAIT_TIMEOUT. -/
def execCommitWaitTimeout (s : State) : Host.Outcome State Fault Refusal := runOn s (fun d => d.commitWaitTimeout)

end Sys2Proof.Machine
end

