-- ==== Sys2Proof/Machine/Blit.lean ====
section
/-! DEFINITION. The block engine (file 13): the five drawing commands and CLIP_SET, row by row in processing order, their marks,
watermarks and chase gates. -/

namespace Sys2Proof.Machine

/-! ### Surfaces and checks (R279 to R284, R288) -/

/-- Effective pitch of a surface (R279). -/
def Dev.surfPitch (d : Dev) (r : BufRef) (pitch : U32) : Nat := if pitch = 0 then (d.buf r.handle).pitch else pitch.toNat

/-- The five surface formats. -/
def surfaceFmt (f : Nat) : Bool := decide (1 ≤ f) && decide (f ≤ 5)

/-- The formats that BLEND accepts (R282). -/
def blendFmt (f : Nat) : Bool := decide (1 ≤ f) && decide (f ≤ 3)

/-- Opcode of a drawing command. -/
def Draw.op : Draw → Nat
  | .fill => 0x50
  | .copy => 0x51
  | .blend => 0x52
  | .pattern => 0x53
  | .line => 0x54

/-- The command has a source surface. -/
def Draw.hasSrc : Draw → Bool
  | .copy => true
  | .blend => true
  | .pattern => true
  | _ => false

/-- Format rules of R282: destination, then source. -/
def fmtChecks (w : Draw) (df sf : Nat) : List (Bool × Nat × Nat) :=
  [(if w = .blend then blendFmt df else surfaceFmt df, 0x0803, 8),
   (if w = .blend then blendFmt sf else !w.hasSrc || sf == df, 0x0803, 32)]

/-- The largest pitch (R280). -/
def maxPitch : Nat := 131072

/-- Pitch and offset rules of a surface, by its own format (R280). -/
def alignChecks (fmt pitch off pAt oAt : Nat) : List (Bool × Nat × Nat) :=
  [(pitch % max 1 (pitchMul fmt) == 0 && decide (pitch ≤ maxPitch), 0x0801, pAt), (off % max 1 (pitchMul fmt) == 0, 0x0801, oAt)]

/-- A width or a height: 1 to 16,384 (R281). -/
def extentOk (n : Nat) : Bool := decide (1 ≤ n) && decide (n ≤ 16384)

/-- A position and an extent: within 16,384 (R281). -/
def spanOk (at_ n : Nat) : Bool := decide (at_ + n ≤ 16384)

/-- Width and height of the source rectangle (R283). -/
def srcSize (w : Draw) (b : BlitBody) : Nat × Nat :=
  if w = .pattern then (b.patW.toNat, b.patH.toNat) else (b.x1.toNat, b.y1.toNat)

/-- Rows of a command's processing order (R287, R294). -/
def Draw.height (w : Draw) (b : BlitBody) : Nat :=
  if w = .line then max b.y0.toNat b.y1.toNat - min b.y0.toNat b.y1.toNat + 1 else b.y1.toNat

/-- Step 3 of R284, the fields' own ranges in offset order: pitches, sizes or endpoints, the flags of LINE, the pattern's size (R51,
R280 to R283). -/
def rangeChecks (w : Draw) (b : BlitBody) : List (Bool × Nat × Nat) :=
  [(decide (b.dstPitch.toNat ≤ maxPitch), 0x0801, 12)] ++
  (if w = .line then
    [(decide (b.x0.toNat ≤ 16383), 0x0802, 24), (decide (b.y0.toNat ≤ 16383), 0x0802, 26),
     (decide (b.x1.toNat ≤ 16383), 0x0802, 28), (decide (b.y1.toNat ≤ 16383), 0x0802, 30),
     (!b.xdir && !b.ydir && !b.wm, 0x0102, 52)]
  else [(extentOk b.x1.toNat, 0x0802, 28), (extentOk b.y1.toNat, 0x0802, 30)]) ++
  (if w.hasSrc then [(decide (b.srcPitch.toNat ≤ maxPitch), 0x0801, 36)] else []) ++
  (if w = .pattern then [(decide (8 ≤ b.patW.toNat) && decide (b.patW.toNat ≤ 256), 0x0102, 56),
    (decide (8 ≤ b.patH.toNat) && decide (b.patH.toNat ≤ 256), 0x0102, 58)] else [])

/-- Step 3 of R284, what relates a field to a format or to another field, in offset order (R51, R280 to R283); `df` and `sf` are the
formats, `dp` and `sp` the effective pitches. -/
def relationChecks (w : Draw) (b : BlitBody) (df dp sf sp : Nat) : List (Bool × Nat × Nat) :=
  let wm := [(if b.wm then decide (b.wmRow.toNat < w.height b) else b.wmRow == 0, 0x0102, 54)]
  alignChecks df dp b.dstOff.toNat 12 16 ++
  (if w = .line then [] else [(spanOk b.x0.toNat b.x1.toNat, 0x0802, 28), (spanOk b.y0.toNat b.y1.toNat, 0x0802, 30)]) ++
  (if w.hasSrc then alignChecks sf sp b.srcOff.toNat 36 40 else [(decide (b.value.toNat < 2 ^ (8 * sampleSize df)), 0x0102, 32)]) ++
  (if w = .pattern then wm ++ [(spanOk b.srcX.toNat b.patW.toNat, 0x0802, 56), (spanOk b.srcY.toNat b.patH.toNat, 0x0802, 58),
      (decide (b.phX.toNat < b.patW.toNat), 0x0102, 60), (decide (b.phY.toNat < b.patH.toNat), 0x0102, 62)]
   else (if w.hasSrc then [(spanOk b.srcX.toNat b.x1.toNat, 0x0802, 48), (spanOk b.srcY.toNat b.y1.toNat, 0x0802, 50)] else []) ++ wm)

/-- A rectangle against its surface (R52, R281). -/
def surfBounds (x y w h fmt pitch off size : Nat) : List (Bool × Nat × Nat) :=
  [(decide (x + w ≤ pitch / sampleSize fmt), 0x0A01, (off + y * pitch + pitch) % 2 ^ 24),
   (decide (off + (y + h) * pitch ≤ size), 0x0A01, boundsDetail size (off + y * pitch + x * sampleSize fmt))]

/-- The destination rectangle; of a line, its bounding box. -/
def Draw.box (w : Draw) (b : BlitBody) : Nat × Nat × Nat × Nat :=
  if w = .line then (min b.x0.toNat b.x1.toNat, min b.y0.toNat b.y1.toNat,
    max b.x0.toNat b.x1.toNat - min b.x0.toNat b.x1.toNat + 1, max b.y0.toNat b.y1.toNat - min b.y0.toNat b.y1.toNat + 1)
  else (b.x0.toNat, b.y0.toNat, b.x1.toNat, b.y1.toNat)

/-- Bounds of both surfaces (R284 step 4). -/
def Dev.blitBounds (d : Dev) (w : Draw) (b : BlitBody) : List (Bool × Nat × Nat) :=
  let x := d.buf b.dst.handle
  let y := d.buf b.src.handle
  let r := w.box b
  let n := srcSize w b
  surfBounds r.1 r.2.1 r.2.2.1 r.2.2.2 x.fmt (d.surfPitch b.dst b.dstPitch) b.dstOff.toNat x.size ++
  (if w.hasSrc then surfBounds b.srcX.toNat b.srcY.toNat n.1 n.2 y.fmt (d.surfPitch b.src b.srcPitch) b.srcOff.toNat y.size else [])

/-- The checks of a drawing command (R284). -/
def Dev.drawChecks (d : Dev) (w : Draw) (b : BlitBody) : List (Bool × Nat × Nat) :=
  let x := d.buf b.dst.handle
  let y := d.buf b.src.handle
  [(d.live b.dst, 0x0111, 8), (!w.hasSrc || d.live b.src, 0x0111, 32)] ++ fmtChecks w x.fmt y.fmt ++
  rangeChecks w b ++ relationChecks w b x.fmt (d.surfPitch b.dst b.dstPitch) y.fmt (d.surfPitch b.src b.srcPitch) ++ d.blitBounds w b

/-- The fields of a clip rectangle on their own: a size where it is enabled, all 0 where not (R288). -/
def clipRect (r : Rect) (on : Bool) (at_ : Nat) : List (Bool × Nat × Nat) :=
  if on then [(extentOk r.w.toNat, 0x0802, at_ + 4), (extentOk r.h.toNat, 0x0802, at_ + 6)]
  else [(r.x == 0, 0x0102, at_), (r.y == 0, 0x0102, at_ + 2), (r.w == 0, 0x0102, at_ + 4), (r.h == 0, 0x0102, at_ + 6)]

/-- The relations of an enabled clip rectangle, which come after every field's own check (R51, R281). -/
def clipSpan (r : Rect) (on : Bool) (at_ : Nat) : List (Bool × Nat × Nat) :=
  if on then [(spanOk r.x.toNat r.w.toNat, 0x0802, at_ + 4), (spanOk r.y.toNat r.h.toNat, 0x0802, at_ + 6)] else []

/-- The rectangles of CLIP_SET with their enables and offsets. -/
def clipRects (b : ClipBody) : List (Rect × Bool × Nat) :=
  [(b.r0, b.enable.getLsbD 0, 8), (b.r1, b.enable.getLsbD 1, 16), (b.r2, b.enable.getLsbD 2, 24), (b.r3, b.enable.getLsbD 3, 32)]

/-- CLIP_SET sets its queue's enabled rectangles (R288). -/
def Dev.clipSet (d : Dev) (q : QueueId) (h : Hdr) (b : ClipBody) : Dev :=
  let rs := clipRects b
  d.issue q (fun d => d.checked q h 0x55
    (rs.flatMap (fun (r : Rect × Bool × Nat) => clipRect r.1 r.2.1 r.2.2) ++ rs.flatMap (fun (r : Rect × Bool × Nat) => clipSpan r.1 r.2.1 r.2.2))
    (fun d => d.instant q h 0x55 (fun f =>
      f.setQueue q { f.queue q with clip := (rs.filter (fun (r : Rect × Bool × Nat) => r.2.1)).map (·.1) })))

/-- CLIP_SET. -/
def execClipSet (q : QueueId) (h : Hdr) (b : ClipBody) (s : State) : Host.Outcome State Fault Refusal := runOn s (fun d => d.clipSet q h b)

/-! ### Acceptance (R290) -/

/-- Change the command that runs: the first accepted one. -/
def Dev.setHead (d : Dev) (f : Blit → Blit) : Dev :=
  match d.draws.accepted with
  | x :: t => { d with draws := { d.draws with accepted := f x :: t } }
  | [] => d

/-- A read of the block engine: outside the buffer, on the lost channel, or of an uncorrectable line, it fails (R292, R326, R327, R334). -/
def Dev.blitRead (d : Dev) (ref : BufRef) (a n : Nat) : Option (Nat × Option Nat) × Dev :=
  match d.barred ref a n with
  | some e => (some e, d.barLog blitSrc ref e)
  | none =>
    match d.fetchBuf 2 blitSrc ref a n with
    | (some _, d1) => (some (0x0A03, none), d1)
    | (none, d1) => (none, d1)

/-- Read rows of a source rectangle: the first error of R292 ends it. -/
def Dev.readRows (d : Dev) (r : BufRef) (off pitch x y ss w : Nat) : Nat → Except (Nat × Option Nat) (List (List Byte)) × Dev
  | 0 => (.ok [], d)
  | n + 1 =>
    let a := off + y * pitch + x * ss
    match d.blitRead r a (w * ss) with
    | (some e, d1) => (.error e, d1)
    | (none, d1) =>
      match d1.readRows r off pitch x (y + 1) ss w n with
      | (.ok t, d2) => (.ok (d1.readBuf r a (w * ss) :: t), d2)
      | (.error e, d2) => (.error e, d2)

/-- The command at the head starts: PATTERN reads its pattern before it writes anything (R285, R290). -/
def Dev.startHead (d : Dev) : Dev :=
  match d.draws.accepted with
  | x :: _ =>
    if x.started then d
    else if x.draw = .pattern then
      let b := x.b
      match d.readRows b.src b.srcOff.toNat (d.surfPitch b.src b.srcPitch) b.srcX.toNat b.srcY.toNat
          (sampleSize (d.buf b.src.handle).fmt) b.patW.toNat b.patH.toNat with
      | (.ok rows, d1) => d1.setHead (fun y => { y with started := true, pat := rows })
      | (.error e, d1) => d1.setHead (fun y => { y with started := true, failed := some e })
    else d.setHead (fun y => { y with started := true })
  | [] => d

/-- The block engine accepts a command (R290). -/
def Dev.acceptBlit (d : Dev) (x : Blit) : Dev :=
  { d with draws := { d.draws with accepted := d.draws.accepted ++ [x] } }.startHead

/-- A drawing command: checked, dispatched with its queue's clip state, accepted or holding its queue (R284, R288, R290). -/
def Dev.draw (d : Dev) (w : Draw) (q : QueueId) (h : Hdr) (b : BlitBody) : Dev :=
  d.issue q (fun d => d.checked q h w.op (d.drawChecks w b) (fun d =>
    let x : Blit := { id := d.qs.nextId, q := q, tag := h.tag, draw := w, b := b, clip := if b.clip then some (d.queue q).clip else none }
    let d1 := d.dispatch q h w.op (b.dst :: (if w.hasSrc then [b.src] else []))
    if d.draws.accepted.length < 8 then d1.acceptBlit x
    else { d1 with draws := { d1.draws with waiting := d1.draws.waiting ++ [x] } }.hold q (.accept x.id)))

/-- FILL. -/
def execFill (q : QueueId) (h : Hdr) (b : BlitBody) (s : State) : Host.Outcome State Fault Refusal := runOn s (fun d => d.draw .fill q h b)

/-- COPY. -/
def execCopy (q : QueueId) (h : Hdr) (b : BlitBody) (s : State) : Host.Outcome State Fault Refusal := runOn s (fun d => d.draw .copy q h b)

/-- BLEND. -/
def execBlend (q : QueueId) (h : Hdr) (b : BlitBody) (s : State) : Host.Outcome State Fault Refusal := runOn s (fun d => d.draw .blend q h b)

/-- PATTERN. -/
def execPattern (q : QueueId) (h : Hdr) (b : BlitBody) (s : State) : Host.Outcome State Fault Refusal :=
  runOn s (fun d => d.draw .pattern q h b)

/-- LINE. -/
def execLine (q : QueueId) (h : Hdr) (b : BlitBody) (s : State) : Host.Outcome State Fault Refusal := runOn s (fun d => d.draw .line q h b)

/-- BLIT_ACCEPT: a queue's waiting command is accepted once fewer than 8 are (R290). -/
def Dev.blitAccept (d : Dev) (q : QueueId) : Dev :=
  match (d.queue q).hold with
  | .accept id =>
    match d.draws.waiting.find? (fun x => x.id == id) with
    | some x =>
      if d.draws.accepted.length < 8 then
        ({ d with draws := { d.draws with waiting := d.draws.waiting.filter (fun y => y.id != id) } }.hold q .none).acceptBlit x
      else d
    | none => d
  | _ => d

/-- BLIT_ACCEPT. -/
def execBlitAccept (q : QueueId) (s : State) : Host.Outcome State Fault Refusal := runOn s (fun d => d.blitAccept q)

/-! ### Samples (R285 to R287, R289) -/

/-- A sample's channels and alpha widened to u16 (R286). -/
def widen (fmt v : Nat) : List Nat :=
  let w10 := fun (c : Nat) => c * 64 + c / 16
  if fmt = 1 then [v / 2 ^ 16 % 256 * 257, v / 2 ^ 8 % 256 * 257, v % 256 * 257, v / 2 ^ 24 % 256 * 257]
  else if fmt = 2 then [w10 (v / 2 ^ 20 % 1024), w10 (v / 2 ^ 10 % 1024), w10 (v % 1024), v / 2 ^ 30 % 4 * 21845]
  else [v % 65536, v / 2 ^ 16 % 65536, v / 2 ^ 32 % 65536, v / 2 ^ 48 % 65536]

/-- The sample that widened channels narrow to (R286). -/
def narrow (fmt : Nat) (cs : List Nat) : Nat :=
  let c := fun i => cs.getD i 0
  let n8 := fun (v : Nat) => (v - v / 256 + 128) / 256
  let n10 := fun (v : Nat) => (v - v / 1024 + 32) / 64
  if fmt = 1 then n8 (c 3) * 2 ^ 24 + n8 (c 0) * 2 ^ 16 + n8 (c 1) * 2 ^ 8 + n8 (c 2)
  else if fmt = 2 then (c 3 + 10922) / 21845 * 2 ^ 30 + n10 (c 0) * 2 ^ 20 + n10 (c 1) * 2 ^ 10 + n10 (c 2)
  else c 3 * 2 ^ 48 + c 2 * 2 ^ 32 + c 1 * 2 ^ 16 + c 0

/-- Premultiplied OVER on code values (R286). -/
def blendOver (sf df s t : Nat) : Nat :=
  let sc := widen sf s
  let dc := widen df t
  narrow df ((List.range 4).map (fun i => min 65535 (sc.getD i 0 + (dc.getD i 0 * (65536 - a16 (sc.getD 3 0)) + 2 ^ 15) / 2 ^ 16)))

/-- The stored bytes of destination sample i of row j of a rectangle (R285, R286). -/
def Dev.drawSample (d : Dev) (x : Blit) (i j : Nat) : List Byte :=
  let b := x.b
  let df := (d.buf b.dst.handle).fmt
  let ss := sampleSize df
  let sf := (d.buf b.src.handle).fmt
  let src := fun () => d.readBuf b.src (b.srcOff.toNat + (b.srcY.toNat + j) * d.surfPitch b.src b.srcPitch + (b.srcX.toNat + i) * sampleSize sf) (sampleSize sf)
  let old := fun () => d.readBuf b.dst (b.dstOff.toNat + (b.y0.toNat + j) * d.surfPitch b.dst b.dstPitch + (b.x0.toNat + i) * ss) ss
  match x.draw with
  | .copy => src ()
  | .blend => leBytes ss (blendOver sf df (leNat (src ())) (leNat (old ())))
  | .pattern => slice (x.pat.getD ((j + b.phY.toNat) % b.patH.toNat) []) ((i + b.phX.toNat) % b.patW.toNat * ss) ss
  | _ => leBytes ss b.value.toNat

/-- A sample of the destination surface is written: inside an enabled rectangle where CLIP is set (R289). -/
def Blit.clips (x : Blit) (px py : Nat) : Bool :=
  match x.clip with
  | none => true
  | some rs => rs.any (fun r => decide (r.x.toNat ≤ px) && decide (px < r.x.toNat + r.w.toNat) &&
      decide (r.y.toNat ≤ py) && decide (py < r.y.toNat + r.h.toNat))

/-- Write one sample of the destination surface. -/
def Dev.putSample (d : Dev) (x : Blit) (px py : Nat) (bs : List Byte) : Dev :=
  if x.clips px py then
    d.writeBuf x.b.dst (x.b.dstOff.toNat + py * d.surfPitch x.b.dst x.b.dstPitch + px * bs.length) bs
  else d

/-- The samples of one row of a rectangle, in the order of XDIR (R291). -/
def Dev.drawRow (d : Dev) (x : Blit) (py : Nat) : Dev :=
  let w := x.b.x1.toNat
  (if x.b.xdir then (List.range w).reverse else List.range w).foldl (fun (d : Dev) (i : Nat) =>
    d.putSample x (x.b.x0.toNat + i) py (d.drawSample x i (py - x.b.y0.toNat))) d

/-- The pixels of a line in order (R287). -/
def linePixels (b : BlitBody) : List (Nat × Nat) :=
  let dx : Int := (b.x1.toNat : Int) - b.x0.toNat
  let dy : Int := (b.y1.toNat : Int) - b.y0.toNat
  let byX := decide (dy.natAbs ≤ dx.natAbs)
  let n := max dx.natAbs dy.natAbs
  let at_ := fun (a0 da b0 db : Int) (k : Nat) => (a0 + k * da.sign, if n = 0 then b0 else b0 + (2 * k * db + n) / (2 * n))
  (List.range (n + 1)).map (fun k =>
    let p := if byX then at_ b.x0.toNat dx b.y0.toNat dy k else at_ b.y0.toNat dy b.x0.toNat dx k
    if byX then (p.1.toNat, p.2.toNat) else (p.2.toNat, p.1.toNat))

/-- Surface row of processing-order index k: a line's rows run from its first endpoint to its second (R287, R294). -/
def Blit.row (x : Blit) (k : Nat) : Nat :=
  if x.draw = .line then (if x.b.y0.toNat ≤ x.b.y1.toNat then x.b.y0.toNat + k else x.b.y0.toNat - k) else procRow x.b k

/-- The pixels of a line on one row. -/
def Dev.drawLineRow (d : Dev) (x : Blit) (py : Nat) : Dev :=
  let bs := leBytes (sampleSize (d.buf x.b.dst.handle).fmt) x.b.value.toNat
  ((linePixels x.b).filter (fun p => p.2 == py)).foldl (fun (d : Dev) (p : Nat × Nat) => d.putSample x p.1 py bs) d

/-! ### Rows (R291 to R293) -/

/-- Byte range of the destination that one row covers. -/
def Dev.dstRange (d : Dev) (x : Blit) (py : Nat) : Nat × Nat :=
  let ss := sampleSize (d.buf x.b.dst.handle).fmt
  let r := x.draw.box x.b
  (x.b.dstOff.toNat + py * d.surfPitch x.b.dst x.b.dstPitch + r.1 * ss, r.2.2.1 * ss)

/-- Columns of the samples that one row writes: those of the rectangle or the line that clipping lets through (R287, R289). -/
def Blit.writes (x : Blit) (py : Nat) : List Nat :=
  let cols := if x.draw = .line then ((linePixels x.b).filter (fun (p : Nat × Nat) => p.2 == py)).map (·.1)
    else (List.range x.b.x1.toNat).map (fun i => x.b.x0.toNat + i)
  cols.filter (fun px => x.clips px py)

/-- Byte offset of a sample of the destination surface in its buffer (R279). -/
def Dev.sampleOff (d : Dev) (x : Blit) (px py : Nat) : Nat :=
  x.b.dstOff.toNat + py * d.surfPitch x.b.dst x.b.dstPitch + px * sampleSize (d.buf x.b.dst.handle).fmt

/-- Runs of neighbouring numbers in a rising list: first number and length. -/
def runs : List Nat → List (Nat × Nat)
  | [] => []
  | c :: t =>
    match runs t with
    | (s, n) :: r => if c + 1 = s then (c, n + 1) :: r else (c, 1) :: (s, n) :: r
    | [] => [(c, 1)]

/-- The stretches of the destination buffer that one row writes: offset and length. -/
def Dev.spans (d : Dev) (x : Blit) (py : Nat) : List (Nat × Nat) :=
  let ss := sampleSize (d.buf x.b.dst.handle).fmt
  let cols := x.writes py
  (runs (if cols.getLastD 0 < cols.headD 0 then cols.reverse else cols)).map (fun (r : Nat × Nat) => (d.sampleOff x r.1 py, r.2 * ss))

/-- The writes of one row: a stretch outside the buffer or on the lost channel fails it; the lines that a stretch covers a part of are read
and merged by the controller (R292, R324, R327, R334, log entry 98). -/
def Dev.spansError (d : Dev) (x : Blit) : List (Nat × Nat) → Option (Nat × Option Nat) × Dev
  | [] => (none, d)
  | (o, n) :: t =>
    match d.barred x.b.dst o n with
    | some e => (some e, d.barLog blitSrc x.b.dst e)
    | none => (d.meetUpsets blitSrc (d.partUpsets ((d.buf x.b.dst.handle).base + o) n)).2.spansError x t

/-- Read some stretches of a buffer in turn: the first error ends it. -/
def Dev.readSpans (d : Dev) (ref : BufRef) : List (Nat × Nat) → Option (Nat × Option Nat) × Dev
  | [] => (none, d)
  | (o, n) :: t =>
    match d.blitRead ref o n with
    | (some e, d1) => (some e, d1)
    | (none, d1) => d1.readSpans ref t

/-- The stretches of the source that one row of COPY or BLEND reads: the samples whose destination clipping lets through (R289, log entry 60). -/
def Dev.srcSpans (d : Dev) (x : Blit) (py : Nat) : List (Nat × Nat) :=
  let sf := sampleSize (d.buf x.b.src.handle).fmt
  let src := x.b.srcOff.toNat + (x.b.srcY.toNat + (py - x.b.y0.toNat)) * d.surfPitch x.b.src x.b.srcPitch + x.b.srcX.toNat * sf
  (runs (x.writes py)).map (fun (r : Nat × Nat) => (src + (r.1 - x.b.x0.toNat) * sf, r.2 * sf))

/-- The requests of one row: its reads, then its writes (R292). -/
def Dev.rowError (d : Dev) (x : Blit) (py : Nat) : Option (Nat × Option Nat) × Dev :=
  let read := match x.draw with
    | .copy => d.readSpans x.b.src (d.srcSpans x py)
    | .blend =>
      match d.readSpans x.b.src (d.srcSpans x py) with
      | (some e, d1) => (some e, d1)
      | (none, d1) => d1.readSpans x.b.dst (d1.spans x py)
    | _ => (none, d)
  match read with
  | (some e, d1) => (some e, d1)
  | (none, d1) => d1.spansError x (d1.spans x py)

/-- A row has been written: what it wrote joins the write queues at class NORMAL, and whole lines written over lose their upsets (R293,
R318, R325). -/
def Dev.rowWritten (d : Dev) (x : Blit) (py : Nat) : Dev :=
  (d.spans x py).foldl (fun (d : Dev) (r : Nat × Nat) =>
    let a := (d.buf x.b.dst.handle).base + r.1
    { d with dram := { d.dram with
        upsets := d.dram.upsets.filter (fun u => !(decide (a ≤ u.line) && decide (u.line + 64 ≤ a + r.2))) } }.queueWrite 2 blitSrc a r.2) d

/-- The plots that the gate of a command holds. -/
def Dev.heldBy (d : Dev) (id : Nat) (s : SailId) : BitVec 2048 :=
  ((d.comp.gates.filter (fun (g : Gate) => g.blit == id)).flatMap (·.plots)).foldl (fun (m : BitVec 2048) (p : SailId × Nat) =>
    if p.1 = s then m ||| BitVec.ofNat 2048 (2 ^ p.2) else m) 0

/-- The footprint of written buffer rows of a layer source (R181, R293); rows outside the source rectangle touch nothing. -/
def layerRowPlots (b : LayerBody) (s : SailId) (l : Lens) (r0 r1 : Nat) : BitVec 2048 :=
  let top := b.srcY.toNat
  let bot := b.srcY.toNat + b.srcH.toNat - 1
  if r1 < top ∨ bot < r0 then 0 else rowFootprint b s l (max r0 top - top) (min r1 bot - top)

/-- A visible row marks the footprints of every enabled layer that reads the buffer, but for plots that its own gate holds (R293, R296). -/
def Dev.markRow (d : Dev) (x : Blit) (py : Nat) : Dev :=
  let pitch := max 1 (d.buf x.b.dst.handle).pitch
  let r := d.dstRange x py
  (d.layersOn.filter (fun b => b.ref == x.b.dst)).foldl (fun (d : Dev) (b : LayerBody) =>
    d.lensSails.foldl (fun (d : Dev) (s : SailId) =>
      match d.lensOf s with
      | some l => d.markPlots s (layerRowPlots b s l (r.1 / pitch) ((r.1 + r.2 - 1) / pitch) &&& ~~~(d.heldBy x.id s))
      | none => d) d) d

/-- BLIT_ROW_VISIBLE: the next row of the running command is processed and becomes visible, or fails it, which leaves the samples it would have
written unspecified (R289, R291 to R293). -/
def Dev.blitRowVisible (d : Dev) : Dev :=
  match d.draws.accepted with
  | x :: _ =>
    if x.failed.isSome ∨ x.draw.height x.b ≤ x.rows then d
    else
      let py := x.row x.rows
      match d.rowError x py with
      | (some e, d1) =>
        ((d1.spans x py).foldl (fun (d : Dev) (r : Nat × Nat) => d.scramble ((d.buf x.b.dst.handle).base + r.1) r.2) d1).setHead
          (fun y => { y with failed := some e })
      | (none, d1) =>
        (((if x.draw = .line then d1.drawLineRow x py else d1.drawRow x py).rowWritten x py).markRow x py).setHead
          (fun y => { y with rows := x.rows + 1 })
  | [] => d

/-- BLIT_ROW_VISIBLE. -/
def execBlitRowVisible (s : State) : Host.Outcome State Fault Refusal := runOn s (fun d => d.blitRowVisible)

/-! ### Watermark and completion (R292, R294, R296) -/

/-- A gate releases the plots that a test picks. -/
def Dev.releaseGate (d : Dev) (id : Nat) (p : SailId → Nat → Bool) : Dev :=
  { d with comp := { d.comp with gates := d.comp.gates.map (fun (g : Gate) =>
      if g.blit = id then { g with plots := g.plots.filter (fun q => !p q.1 q.2) } else g) } }

/-- The watermark of a command is due: its rows are visible and its event not raised. -/
def Blit.wmDue (x : Blit) : Bool := x.b.wm && !x.wmDone && decide (x.b.wmRow.toNat < x.rows)

/-- BLIT_WATERMARK: the event, and the gated plots whose rows are all there (R294, R296). -/
def Dev.blitWatermark (d : Dev) : Dev :=
  match d.draws.accepted with
  | x :: _ =>
    if x.wmDue then
      let w := x.b.wmRow.toNat
      ((d.setHead (fun y => { y with wmDone := true })).releaseGate x.id (fun s p => d.rowsReady x.b w s p)).event 0x0801 x.q.toNat
        (x.tag.toNat * 2 ^ 48 + w * 2 ^ 32 + x.row w * 2 ^ 16)
    else d
  | [] => d

/-- BLIT_WATERMARK. -/
def execBlitWatermark (s : State) : Host.Outcome State Fault Refusal := runOn s (fun d => d.blitWatermark)

/-- Host stores into the running command's surfaces have left their bytes unspecified (R292). -/
def Dev.settleRaces (d : Dev) : Dev :=
  let d1 := d.draws.races.foldl (fun (d : Dev) (r : Nat × Nat) => d.scramble r.1 r.2) d
  { d1 with draws := { d1.draws with races := [] } }

/-- BLIT_COMPLETE: the running command ends, its gate opens, and the next command starts (R290, R292, R296). -/
def Dev.blitComplete (d : Dev) : Dev :=
  match d.draws.accepted with
  | x :: t =>
    if x.wmDue ∨ (x.failed = none ∧ x.rows < x.draw.height x.b) then d
    else
      let d1 := ({ d with draws := { d.draws with accepted := t } }).releaseGate x.id (fun _ _ => true)
      (match x.failed with
        | some (e, some o) => (d1.settleRaces.bump 0x216002).failCmd x.id e (o % 2 ^ 24)
        | some (e, none) => (d1.settleRaces.bump 0x216002).failOpen x.id e
        | none => (d1.settleRaces.bump 0x216001).finish x.id).startHead
  | [] => d

/-- BLIT_COMPLETE. -/
def execBlitComplete (s : State) : Host.Outcome State Fault Refusal := runOn s (fun d => d.blitComplete)

end Sys2Proof.Machine
end

