-- ==== Sys2Proof/Machine/DramCtl.lean ====
section
/-! DEFINITION. The memory controller's own events (file 15): write drains and class promotion, refresh and thermal steps, tracking,
retrains, rate switches and the loss of a channel. -/

namespace Sys2Proof.Machine

/-! ### Queues (R317, R319) -/

/-- A drain may start: WQ_HIGH writes wait, or no read, or the oldest write has waited 8 µs (R317). -/
def Dev.drainDue (d : Dev) (c : Channel) : Bool :=
  c.draining || decide (d.val 0x220005 ≤ c.writes.length) || c.reads.isEmpty || c.writes.any (fun (r : MemReq) => decide (r.at_ + 8 ≤ d.now))

/-- WRITE_QUEUE_DRAIN: writes are issued until WQ_LOW are left, or one where no more wait; their bytes are visible already (R317, R318, log
entry 15). -/
def Dev.writeQueueDrain (d : Dev) (ch : Nat) : Dev :=
  let c := d.chan ch
  if (d.stopped && d.dram.lost.map (·.toNat) == some ch) || !d.drainDue c then d
  else d.issueWrites ch (max 1 (c.writes.length - d.val 0x220006))

/-- WRITE_QUEUE_DRAIN. -/
def execWriteQueueDrain (ch : BitVec 5) (s : State) : Host.Outcome State Fault Refusal := runOn s (fun d => d.writeQueueDrain ch.toNat)

/-- A request rises one class for every 4 µs that it has waited, up to URGENT (R319). -/
def MemReq.rise (now : Nat) (r : MemReq) : MemReq :=
  if r.at_ + 4 * (r.rises + 1) ≤ now ∧ 0 < r.cls then { r with cls := r.cls - 1, rises := r.rises + 1 } else r

/-- REQUEST_CLASS_PROMOTION of the n-th request of a channel, its reads before its writes. -/
def Dev.requestClassPromotion (d : Dev) (ch n : Nat) : Dev :=
  let c := d.chan ch
  let m := c.reads.length
  if n < m then d.setChan ch { c with reads := c.reads.modify n (MemReq.rise d.now) }
  else d.setChan ch { c with writes := c.writes.modify (n - m) (MemReq.rise d.now) }

/-- REQUEST_CLASS_PROMOTION. -/
def execRequestClassPromotion (ch : BitVec 5) (n : Nat) (s : State) : Host.Outcome State Fault Refusal :=
  runOn s (fun d => d.requestClassPromotion ch.toNat n)

/-! ### Rates (R312, R323, R332, R333) -/

/-- RATE_SWITCHES counts forced switches in its high half, requested ones in its low half (R332). -/
def Dev.countSwitch (d : Dev) (forced : Bool) : Dev :=
  let v := d.val 0x220013
  let hi := v / 65536
  let lo := v % 65536
  d.setVal 0x220013 (if forced then min 65535 (hi + 1) * 65536 + lo else hi * 65536 + min 65535 (lo + 1))

/-- All channels go to a rate, or boot training does; running retrains start again at their first step, 20 ms after a requested switch and
at once after a forced one (R332, R333, log entry 96). -/
def Dev.setRate (d : Dev) (rate : Nat) (forced : Bool) : Dev :=
  ({ d with dram := { d.dram with
      rate := rate
      stepped := decide (rate < d.val 0x220002) && (forced || d.dram.stepped)
      chans := d.dram.chans.map (fun (p : Nat × Channel) => if p.2.step = 0 then p
        else (p.1, { p.2 with step := 1, rest := if forced then d.now else d.now + 20000 })) } }).countSwitch forced

/-- The controller serves traffic, or boot training runs (R333); not while the DRAM refreshes itself in HOVE (R322, R381). -/
def Dev.rated (d : Dev) : Bool := (d.dram.up && !d.dram.selfRefresh) || d.training

/-- DRAM_RATE_SWITCH: a requested switch is made between two steps, of a retrain or of boot training (R333). -/
def Dev.dramRateSwitch (d : Dev) : Dev :=
  match d.dram.switchTo with
  | some r => if d.rated then { d with dram := { d.dram with switchTo := none } }.setRate r false else d
  | none => d

/-- DRAM_RATE_SWITCH. -/
def execDramRateSwitch (s : State) : Host.Outcome State Fault Refusal := runOn s (fun d => d.dramRateSwitch)

/-- DRAM_THERMAL_STEP: a DRAM above 105 °C for 10 ms forces the next lower trained rate, where there is one (R323). -/
def Dev.dramThermalStep (d : Dev) : Dev :=
  match d.dram.hotSince, d.rateBelow with
  | some _, some r => if d.rated then { d with dram := { d.dram with hotSince := none } }.setRate r true else d
  | _, _ => d

/-- DRAM_THERMAL_STEP. -/
def execDramThermalStep (s : State) : Host.Outcome State Fault Refusal := runOn s (fun d => d.dramThermalStep)

/-- DRAM_RATE_STEP_UP: every DRAM below 95 °C for 1 s; one trained rate up after a forced step (R323). -/
def Dev.dramRateStepUp (d : Dev) : Dev :=
  match d.dram.coolSince, d.rateAbove with
  | some _, some r => if d.rated && d.dram.stepped then { d with dram := { d.dram with coolSince := some d.now } }.setRate r true else d
  | _, _ => d

/-- DRAM_RATE_STEP_UP. -/
def execDramRateStepUp (s : State) : Host.Outcome State Fault Refusal := runOn s (fun d => d.dramRateStepUp)

/-! ### Temperatures (R322, R323) -/

/-- The highest of some TEMP values. -/
def hottest (ts : List U16) : U16 := ts.foldl (fun m t => if m.toInt < t.toInt then t else m) 0x8000

/-- The refresh band of a temperature, each band left 3 °C below its threshold (R322). -/
def bandOf (band : Nat) (t : Int) : Nat :=
  if 1520 < t ∨ (band = 4 ∧ 1472 < t) then 4 else if 1360 < t ∨ (2 ≤ band ∧ 1312 < t) then 2 else 1

/-- The band follows the highest of the DRAMs' temperature and the DRAM PHY sensors 20 and 21 (R322). -/
def Dev.reBand (d : Dev) : Dev :=
  if !d.dram.up then d
  else { d with dram := { d.dram with
    band := bandOf d.dram.band (hottest [d.dram.tempMax, (d.sensor 20).work, (d.sensor 21).work]).toInt } }

/-- DRAM_TEMP_POLL: highest temperature, band (with the DRAM PHY sensors 20 and 21), and the times of R323. -/
def Dev.dramTempPoll (d : Dev) (temps : List U16) : Dev :=
  if !d.rated then d
  else
    let t := hottest temps
    { d with dram := { d.dram with
        tempMax := t
        hotSince := if 1680 < t.toInt then some (d.dram.hotSince.getD d.now) else none
        coolSince := if t.toInt < 1520 then some (d.dram.coolSince.getD d.now) else none } }.reBand

/-- DRAM_TEMP_POLL. -/
def execDramTempPoll (temps : List U16) (s : State) : Host.Outcome State Fault Refusal := runOn s (fun d => d.dramTempPoll temps)

/-! ### Losing a channel (R334) -/

/-- A channel is lost by a cause: pushing stops, EV_DRAM_CHANNEL_LOST on vector 3 (R334, R336, R449). -/
def Dev.loseChannel (d : Dev) (ch : BitVec 5) (cause : Nat) : Dev :=
  if d.stopped then d
  else
    let left := if d.dram.gone.isSome then 30 else 31
    let d1 := { d with dram := { d.dram with lost := some ch } }
    let d2 := (d1.setChan ch.toNat { d1.chan ch.toNat with step := 0 }).occur 9 1
    (d2.event3 0x0A01 ch.toNat (cause * 2 ^ 56 + left * 2 ^ 48 + d.dram.rate / 16 * 2 ^ 32)).logFault 11 ch.toNat 0x0A01

/-- The channel serves traffic. -/
def Dev.chanUp (d : Dev) (ch : BitVec 5) : Bool := d.dram.up && d.dram.lost != some ch && d.dram.gone != some ch

/-- DRAM_MODE_REGISTER_TIMEOUT: cause 2. -/
def Dev.dramModeRegisterTimeout (d : Dev) (ch : BitVec 5) : Dev := if d.chanUp ch then d.loseChannel ch 2 else d

/-- DRAM_MODE_REGISTER_TIMEOUT. -/
def execDramModeRegisterTimeout (ch : BitVec 5) (s : State) : Host.Outcome State Fault Refusal :=
  runOn s (fun d => d.dramModeRegisterTimeout ch)

/-- A retrain of a channel starts; the third within 1 s loses the channel by cause 3 (R330, R331, R334). -/
def Dev.retrainChannel (d : Dev) (ch : BitVec 5) : Dev :=
  let c := d.chan ch.toNat
  if c.step ≠ 0 then d
  else
    let ts := c.starts.filter (fun t => decide (d.now < t + 1000000)) ++ [d.now]
    let d1 := ((d.setChan ch.toNat { c with step := 1, rest := d.now, starts := ts, retrains := satAdd 0xFFFF c.retrains 1 }).bump 0x220012).occur 8 1
    if 3 ≤ ts.length then d1.loseChannel ch 3 else d1

/-- DQ_TRACKING: one correction, not in HOVE (R381); beyond ±0.25 UI it schedules a retrain (R330). The slot takes a step of the channel's trim
(R424). -/
def Dev.dqTracking (d : Dev) (ch : BitVec 5) (retrain : Bool) : Dev :=
  if !d.chanUp ch || !d.up then d
  else
    let c := d.chan ch.toNat
    let d1 := (d.setChan ch.toNat { c with tracks := satAdd 0xFFFFFF c.tracks 1 }).trimStep (64 + ch.toNat)
    if retrain then d1.retrainChannel ch else d1

/-- DQ_TRACKING. -/
def execDqTracking (ch : BitVec 5) (retrain : Bool) (s : State) : Host.Outcome State Fault Refusal := runOn s (fun d => d.dqTracking ch retrain)

/-- DRAM_RETRAIN_STEP: one of the four steps; no working setting loses the channel by cause 1 (R331, R334). -/
def Dev.dramRetrainStep (d : Dev) (ch : BitVec 5) (works : Bool) : Dev :=
  let c := d.chan ch.toNat
  if c.step = 0 ∨ d.chanUp ch = false ∨ d.dram.selfRefresh = true then d
  else if !works then d.loseChannel ch 1
  else d.setChan ch.toNat { c with step := if c.step = 4 then 0 else c.step + 1, rest := d.now + 20000 }

/-- DRAM_RETRAIN_STEP. -/
def execDramRetrainStep (ch : BitVec 5) (works : Bool) (s : State) : Host.Outcome State Fault Refusal :=
  runOn s (fun d => d.dramRetrainStep ch works)

end Sys2Proof.Machine
end

