-- ==== Sys2Proof/Machine/Flags.lean ====
section
/-! DEFINITION. The status and flag words of BAR0 (files 02, 03, 16): every word that a read of a register returns, bit by bit from
the field maps. A command bit reads 0 where the map says WO. -/

namespace Sys2Proof.Machine

/-- READY: boot has completed and a session may be opened (HOST_STATUS, R28). -/
def Dev.booted (d : Dev) : Bool :=
  match d.pw.state with
  | .underway | .hove | .forcedHove => true
  | _ => false

/-- The PCIe function exists: not in recovery mode, where only USB 2.0 is there (R36). -/
def Dev.pcieOn (d : Dev) : Bool := d.pw.state != .recovery

/-- A USB function serves sessions, the mailbox and transfers: neither in recovery mode nor in a STANDALONE boot, which keeps USB 2.0 for the
update requests alone (R36, R394). -/
def Dev.usbServes (d : Dev) : Bool := d.pcieOn && d.fuses.straps != 2

/-- Put a flag at a bit. -/
def flagAt (b : Bool) (n : Nat) : Nat := if b then 2 ^ n else 0

/-- HOST_ID. -/
def Dev.hostId (d : Dev) : Nat := (if d.fuses.md0512 then 0x0512 else 0x1024) * 2 ^ 16 + 0xB0 * 2 ^ 8 + 1

/-- HOST_STATUS as a path reads it. -/
def Dev.hostStatus (d : Dev) (p : Path) : Nat :=
  d.host.sessionCtr.toNat * 2 ^ 16 + d.link.usb4 % 16 * 2 ^ 8 + flagAt (d.host.owner == some p) 2 + flagAt d.host.viol 1 + flagAt d.booted 0

/-- HOST_CTRL: SESSION_OPEN reads 1 while the path owns the session. -/
def Dev.hostCtrl (d : Dev) (p : Path) : Nat := flagAt (d.host.owner == some p) 0

/-- APn_CTRL (R30). -/
def Ap.ctrl (a : Ap) : Nat := a.status.toNat * 2 ^ 4 + flagAt a.writeEn 1 + flagAt a.isOpen 0

/-- State code of SQn_STATUS. -/
def QState.code : QState → Nat
  | .disabled => 0
  | .running => 1
  | .halted => 2

/-- ENABLE of SQn_CFG: it stays 1 on a halted queue, which is resumed by writing 0 and then 1 (R46). -/
def Queue.enabled (x : Queue) : Bool := x.state != .disabled

/-- SQn_CFG. -/
def Queue.cfg (x : Queue) : Nat := x.log2.toNat * 2 ^ 12 + x.cls.toNat * 2 ^ 8 + flagAt x.loc 1 + flagAt x.enabled 0

/-- SQn_STATUS. -/
def Queue.status (x : Queue) : Nat := x.error.toNat * 2 ^ 16 + x.state.code

/-- EVR_CFG. -/
def EventRing.cfg (r : EventRing) : Nat := r.log2.toNat * 2 ^ 8 + flagAt r.enabled 0

/-- EVR_STATUS. -/
def EventRing.status (r : EventRing) : Nat := flagAt r.overflow 1 + flagAt r.enabled 0

/-- MBX_STATUS (R359). -/
def HostXfer.mbxStatus (x : HostXfer) : Nat := x.mboxResp.length * 2 ^ 16 + flagAt x.mboxReady 1 + flagAt x.mboxBusy 0

/-- The words of an event ring register block, at an offset of 0x0_2000. -/
def EventRing.word (r : EventRing) (o : Nat) : Nat :=
  if o = 0 then r.base.toNat % 2 ^ 32
  else if o = 4 then r.base.toNat / 2 ^ 32
  else if o = 8 then r.cfg
  else if o = 0xC then r.tail.toNat
  else if o = 0x10 then r.head.toNat
  else if o = 0x14 then r.status
  else if o = 0x18 then r.dropped
  else 0

/-- The words of a submission queue's registers, at an offset of its block. -/
def Queue.word (x : Queue) (o : Nat) : Nat :=
  if o = 0 then x.base.toNat % 2 ^ 32
  else if o = 4 then x.base.toNat / 2 ^ 32
  else if o = 8 then x.cfg
  else if o = 0xC then x.head % 4096
  else if o = 0x10 then x.status
  else 0

/-- The words of an aperture descriptor. -/
def Ap.word (a : Ap) (o : Nat) : Nat :=
  if o = 0 then a.target.toNat
  else if o = 4 then a.ctrl
  else if o = 8 then a.offset.toNat % 2 ^ 32
  else a.offset.toNat / 2 ^ 32

/-- The words of an MSI-X table entry. -/
def MsixEntry.word (e : MsixEntry) (o : Nat) : Nat :=
  if o = 0 then e.addr.toNat % 2 ^ 32
  else if o = 4 then e.addr.toNat / 2 ^ 32
  else if o = 8 then e.data.toNat
  else e.ctrl.toNat

/-- A 32-bit read of BAR0 by a path; write-only and reserved offsets read 0 (R7, R27). -/
def Dev.bar0Word (d : Dev) (p : Path) (o : Nat) : Nat :=
  if o = 0 then d.hostId
  else if o = 0x10 then d.hostStatus p
  else if o = 0x14 then d.hostCtrl p
  else if o = 0x18 then d.host.intMod.toNat
  else if 0x1000 ≤ o ∧ o < 0x1400 then (d.ap ((o - 0x1000) / 16)).word (o % 16)
  else if 0x2000 ≤ o ∧ o < 0x3000 then d.ring.word (o - 0x2000)
  else if 0x4000 ≤ o ∧ o < 0x5000 then (d.queue (BitVec.ofNat 6 ((o - 0x4000) / 64))).word (o % 64)
  else if 0x10000 ≤ o ∧ o < 0x10800 then leNat ((List.range 4).map (fun i => SMap.get 0 d.xfer.mboxReq (o - 0x10000 + i)))
  else if 0x10800 ≤ o ∧ o < 0x11000 then field d.xfer.mboxResp (o - 0x10800) 4
  else if o = 0x11004 then d.xfer.mbxStatus
  else if 0x20000 ≤ o ∧ o < 0x20040 then (SMap.get ({} : MsixEntry) d.host.msix ((o - 0x20000) / 16)).word (o % 16)
  else if o = 0x21000 then d.host.pba.toNat
  else 0

end Sys2Proof.Machine
end

