-- ==== Sys2Proof/WellFormed.lean ====
section
/-! DEFINITION. Well-formed commands: operands that the outside can present at all (the shape of a transfer, the number of
readings in a sample). The meanings are total on ill-formed commands too. -/

namespace Sys2Proof

/-- A BAR0 access of the right shape: 4 or 8 bytes, naturally aligned (R27). -/
def bar0Shape (off bytes : Nat) : Bool := (bytes == 4 || bytes == 8) && off % bytes == 0

/-- The operands of a command are ones that its source can present. -/
def Instr.wellFormed : Instr → Bool
  | .malformedBar0Access _ off bytes => !bar0Shape off.toNat bytes
  | .registerWrite off wide _ => bar0Shape off.toNat (if wide then 8 else 4)
  | .bar2Resize log2 => decide (32 ≤ log2) && decide (log2 ≤ 38)
  | .interruptTransferComplete _ n => decide (1 ≤ n.toNat) && decide (n.toNat ≤ 64)
  | .commandFetch (some bytes) => bytes.length == 64
  | .thermalSample raw => raw.length == 24
  | .dramTempPoll temps => temps.length == 32
  | .sensorExclude n => decide (n.toNat < 24)
  | .sensorReinclude n => decide (n.toNat < 24)
  | .partitionFault p => decide (p.toNat < 40)
  | .bistComplete p _ => decide (p.toNat < 40)
  | .enumerationComplete _ caps => decide (caps.length ≤ 32)
  | .rejoinAttempt _ f => decide (f.caps.length ≤ 32) && decide (f.hops.length ≤ 32)
  | .counterStep n => decide (n.toNat < 10)
  | .returnAuth key sig => key.length == 97 && sig.length == 96
  | .sailCfgWrite _ _ b => decide (b.data.length ≤ 12)
  | _ => true

end Sys2Proof
end

