-- ==== Sys2Proof/Machine/Ports.lean ====
section
/-! DEFINITION. The registers of the event ring and the submission queues as every path writes them (R44 to R46, R65 to R67), and
USB transfers (R34 to R36, R49), which forced HOVE holds until its exit (R414). -/

namespace Sys2Proof.Machine

/-- No other path owns the queues and the event ring (R24). -/
def Dev.mayPort (d : Dev) (p : Path) : Bool := d.host.owner.isNone || d.host.owner == some p

/-! ### The event ring -/

/-- Space has returned, or the ring restarted: the number dropped is written at once (R67). -/
def Dev.drainRing (d : Dev) : Dev :=
  if d.ring.enabled && !d.ring.full && d.ring.lost != 0 then
    ({ d with ring := { d.ring with lost := 0 } }).event 0x0106 0 (min d.ring.lost 0xFFFFFFFF)
  else d

/-- Writing 1 to ENABLE: the session, the size and the base decide; TAIL and HEAD restart at 0 (R65). -/
def Dev.ringEnable (d : Dev) (p : Path) (cfg : U32) : Dev :=
  let n := cfg.toNat / 2 ^ 8 % 32
  if d.host.owner = some p ∧ 8 ≤ n ∧ n ≤ 16 ∧ (p ≠ .pcie ∨ d.ring.base.toNat % 4096 = 0) then
    ({ d with ring := { d.ring with log2 := BitVec.ofNat 5 n, enabled := true, tail := 0, head := 0, recs := [] } }).drainRing
  else d

/-- A queue is enabled. -/
def Dev.anyQueue (d : Dev) : Bool := d.qs.queues.any (fun x => x.2.enabled)

/-- Writing 0 to ENABLE: ignored while any queue is enabled (R65). -/
def Dev.ringDisable (d : Dev) (p : Path) (cfg : U32) : Dev :=
  if d.mayPort p && !d.anyQueue then
    { d with ring := { d.ring with enabled := false, log2 := BitVec.ofNat 5 (cfg.toNat / 2 ^ 8 % 32) } }
  else d

/-- A write of EVR_CFG. -/
def Dev.ringCfg (d : Dev) (p : Path) (v : U32) : Dev := if bit v.toNat 0 then d.ringEnable p v else d.ringDisable p v

/-- A write of HEAD: ignored on the USB paths, and at or above the ring size (R66, R67). -/
def Dev.ringHead (d : Dev) (p : Path) (v : U32) : Dev :=
  if p = .pcie ∧ d.mayPort p = true ∧ v.toNat % 65536 < d.ring.size then
    ({ d with ring := { d.ring with head := BitVec.ofNat 16 v.toNat } }).drainRing
  else d

/-- A word written to the event ring registers. -/
def Dev.ringWord (d : Dev) (p : Path) (o : Nat) (v : U32) : Dev :=
  if o = 8 then d.ringCfg p v
  else if o = 0x10 then d.ringHead p v
  else if !d.mayPort p then d
  else if o = 0 then { d with ring := { d.ring with base := BitVec.ofNat 64 (d.ring.base.toNat / 2 ^ 32 * 2 ^ 32 + v.toNat) } }
  else if o = 4 then { d with ring := { d.ring with base := BitVec.ofNat 64 (v.toNat * 2 ^ 32 + d.ring.base.toNat % 2 ^ 32) } }
  else if o = 0x14 ∧ bit v.toNat 1 = true then { d with ring := { d.ring with overflow := false } }
  else d

/-! ### Submission queues -/

/-- The reference that BASE holds where LOC is 1. -/
def Queue.ringRef (x : Queue) : BufRef := { handle := x.base.setWidth 16, gen := (x.base >>> 16).setWidth 16 }

/-- The conditions of R44, in the order listed; the code of the first that fails. -/
def Dev.enableCode (d : Dev) (p : Path) (x : Queue) : Nat :=
  if d.host.owner ≠ some p then 0x0113
  else if !d.ring.enabled then 0x0117
  else if x.log2.toNat < 4 ∨ 12 < x.log2.toNat ∨ (x.loc = true ∧ x.base.toNat / 2 ^ 32 ≠ 0) ∨ (x.loc = false ∧ x.base.toNat % 4096 ≠ 0) then 0x0102
  else if x.loc = false ∧ p ≠ .pcie then 0x0115
  else if x.loc = true ∧ d.live x.ringRef = false then 0x0111
  else if x.loc = true ∧ d.sizeOf x.ringRef < 64 * 2 ^ x.log2.toNat then 0x0A01
  else 0

/-- CLASS changes at any time; LOG2_SIZE and LOC only while ENABLE is 0 (R44). -/
def Queue.withCfg (x : Queue) (cfg : U32) : Queue :=
  let c := BitVec.ofNat 2 (cfg.toNat / 2 ^ 8)
  if x.enabled then { x with cls := c }
  else { x with cls := c, log2 := BitVec.ofNat 4 (cfg.toNat / 2 ^ 12), loc := bit cfg.toNat 1 }

/-- Writing 1 to ENABLE (R44); a queue's clip state is cleared when it is enabled (R288). -/
def Dev.queueEnable (d : Dev) (p : Path) (q : QueueId) (cfg : U32) : Dev :=
  let x := if d.mayPort p then (d.queue q).withCfg cfg else d.queue q
  if x.enabled then d.setQueue q x
  else match d.enableCode p x with
  | 0 => d.setQueue q { x with state := .running, head := 0, tail := 0, error := 0, clip := [], watched := 0 }
  | code => d.setQueue q { x with error := BitVec.ofNat 16 code }

/-- Writing 0 to ENABLE: fetching stops and unfetched commands are discarded (R46). -/
def Dev.queueDisable (d : Dev) (p : Path) (q : QueueId) (cfg : U32) : Dev :=
  if d.mayPort p then
    let x := (d.queue q).withCfg cfg
    if x.enabled then d.setQueue q { x with state := .disabled, tail := x.head } else d.setQueue q x
  else d

/-- A write of SQn_CFG. -/
def Dev.queueCfg (d : Dev) (p : Path) (q : QueueId) (v : U32) : Dev :=
  if bit v.toNat 0 then d.queueEnable p q v else d.queueDisable p q v

/-- A word written to a queue's registers: BASE only while ENABLE is 0 (R44). -/
def Dev.queueWord (d : Dev) (p : Path) (q : QueueId) (o : Nat) (v : U32) : Dev :=
  let x := d.queue q
  if o = 8 then d.queueCfg p q v
  else if !d.mayPort p || x.enabled then d
  else if o = 0 then d.setQueue q { x with base := BitVec.ofNat 64 (x.base.toNat / 2 ^ 32 * 2 ^ 32 + v.toNat) }
  else if o = 4 then d.setQueue q { x with base := BitVec.ofNat 64 (v.toNat * 2 ^ 32 + x.base.toNat % 2 ^ 32) }
  else d

/-- A doorbell write arrives (R45): it wakes the device from HOVE, and is held in forced HOVE (R38, R381, R414). -/
def Dev.doorbell (d : Dev) (p : Path) (q : QueueId) (v : U32) : Dev :=
  if d.pw.state = .forcedHove then { d with xfer := { d.xfer with held := d.xfer.held ++ [.doorbell p q v] } }
  else if d.mayPort p then (d.wake 1).ringDoorbell q (v.toNat % 4096)
  else d

/-- A word written to the regions that every path reaches: 0x0_2000 to 0x0_8FFF (R49). -/
def Dev.portWord (d : Dev) (p : Path) (o : Nat) (v : U32) : Dev :=
  if 0x2000 ≤ o ∧ o < 0x3000 then d.ringWord p (o - 0x2000) v
  else if 0x4000 ≤ o ∧ o < 0x5000 then d.queueWord p (BitVec.ofNat 6 ((o - 0x4000) / 64)) (o % 64) v
  else if 0x8000 ≤ o ∧ o < 0x8200 ∧ o % 8 = 0 then d.doorbell p (BitVec.ofNat 6 ((o - 0x8000) / 8)) v
  else d

/-! ### Host stores -/

/-- Byte ranges of DRAM that a drawing command's surfaces use: from the first byte of the top row to the last of the bottom row. -/
def Dev.surfaces (d : Dev) (x : Blit) : List (Nat × Nat) :=
  let dst := fun (py : Nat) => d.dstRange x py
  let r := x.draw.box x.b
  let bot := dst (r.2.1 + r.2.2.2 - 1)
  let ds := (d.buf x.b.dst.handle).base + (dst r.2.1).1
  let w := (if x.draw = .pattern then x.b.patW.toNat else r.2.2.1) * sampleSize (d.buf x.b.src.handle).fmt
  let h := if x.draw = .pattern then x.b.patH.toNat else r.2.2.2
  let p := d.surfPitch x.b.src x.b.srcPitch
  let ss := (d.buf x.b.src.handle).base + x.b.srcOff.toNat + x.b.srcY.toNat * p + x.b.srcX.toNat * sampleSize (d.buf x.b.src.handle).fmt
  [(ds, bot.1 + bot.2 - (dst r.2.1).1)] ++ (if x.draw.hasSrc then [(ss, (h - 1) * p + w)] else [])

/-- A host store: a BAR2 store or a USB WRITE (class LOW, R318). One into a surface that the running drawing command uses leaves the
bytes unspecified (R292). -/
def Dev.hostStore (d : Dev) (src : Nat) (r : BufRef) (off : Nat) (bs : List Byte) : Dev :=
  let a := (d.buf r.handle).base + off
  let hit := match d.draws.accepted.head? with
    | some x => (d.surfaces x).any (fun s => decide (s.1 < a + bs.length) && decide (a < s.1 + s.2))
    | none => false
  let d1 := d.put 3 src r off bs
  if hit && !bs.isEmpty then
    { d1.scramble a bs.length with draws := { d1.draws with races := d1.draws.races ++ [(a, bs.length)] } }
  else d1

/-! ### USB transfers (R34 to R36) -/

/-- A transfer header from the device with its payload. -/
def inTransfer (kind : Nat) (tag : U16) (status : Nat) (payload : List Byte) : List Byte :=
  leBytes 1 kind ++ leBytes 1 0 ++ leBytes 2 tag.toNat ++ leBytes 4 payload.length ++ leBytes 16 0 ++ leBytes 2 status ++ leBytes 6 0 ++ payload

/-- A READ_DATA or STATUS transfer goes out: on the bulk endpoint, or waits for XFER_IN (R36). -/
def Dev.transferIn (d : Dev) (p : UsbPath) (ctrl : Bool) (x : List Byte) : Dev :=
  if ctrl then { d with xfer := { d.xfer with xferIn := d.xfer.xferIn ++ [x] } } else d.send (.bulkIn p x)

/-- A failed transfer: one STATUS transfer with the tag and the code (R35). -/
def Dev.transferFail (d : Dev) (p : UsbPath) (ctrl : Bool) (x : XferHdr) (code : Nat) : Dev :=
  d.transferIn p ctrl (inTransfer 0x8F x.tag code [])

/-- The header keeps the limits of its table, the Queue field's among them (DESIGN CHOICE, log entry 106), and the payload has the declared
length (R34, R35). -/
def framed (x : XferHdr) (payload : List Byte) : Bool :=
  let n := x.plen.toNat
  x.resv == 0 && n == payload.length &&
  (if x.kind = 1 then decide (x.queue.toNat ≤ 63) && n % 64 == 0 && decide (64 ≤ n) && decide (n ≤ 4096) && x.rlen == 0
   else if x.kind = 2 then x.queue == 0 && decide (1 ≤ n) && decide (n ≤ 67108864) && x.rlen == 0
   else if x.kind = 3 then x.queue == 0 && n == 0 && decide (1 ≤ x.rlen.toNat) && decide (x.rlen.toNat ≤ 67108864)
   else false)

/-- Discarding bulk OUT data of a path. -/
def Dev.discards (d : Dev) : UsbPath → Bool
  | .usb3 => d.xfer.discard3
  | .usb2 => d.xfer.discard2

/-- Set it. -/
def Dev.setDiscard (d : Dev) (p : UsbPath) (b : Bool) : Dev :=
  { d with xfer := match p with
      | .usb3 => { d.xfer with discard3 := b }
      | .usb2 => { d.xfer with discard2 := b } }

/-- The bytes of a bulk transfer end with a full packet. -/
def fullEnd (p : UsbPath) (payload : List Byte) : Bool :=
  (32 + payload.length) % (match p with | .usb3 => 1024 | .usb2 => 512) == 0

/-- What follows a transfer that is discarded is discarded too: it ended neither with a short packet nor with a zero-length packet (R35). -/
def Dev.discardOn (d : Dev) (p : UsbPath) (x : XferHdr) (payload : List Byte) : Dev := d.setDiscard p (fullEnd p payload && !x.zlp)

/-- Free slots of a queue's ring. -/
def Queue.room (x : Queue) : Nat := 2 ^ x.log2.toNat - 1 - (x.tail + 2 ^ x.log2.toNat - x.head) % 2 ^ x.log2.toNat

/-- The commands of a payload at the tail of a ring, slot by slot (R34). -/
def Dev.fillRing (d : Dev) (src : Nat) (x : Queue) : Nat → List Byte → Dev
  | 0, _ => d
  | n + 1, bs => (d.put 3 src x.ringRef (64 * ((x.tail + (bs.length / 64 - (n + 1))) % 2 ^ x.log2.toNat))
      (slice bs (64 * (bs.length / 64 - (n + 1))) 64)).fillRing src x n bs

/-- SUBMIT: the commands are placed and the doorbell rung; too many fail with E_QUEUE_FULL (R34, R45). A queue that is not RUNNING
ignores it, as it ignores its doorbell. -/
def Dev.submit (d : Dev) (p : UsbPath) (ctrl : Bool) (x : XferHdr) (payload : List Byte) : Dev :=
  let q : QueueId := BitVec.ofNat 6 x.queue.toNat
  let y := d.queue q
  let n := payload.length / 64
  if y.state ≠ .running then d
  else if y.room < n then d.transferFail p ctrl x 0x010A
  else
    match (List.range n).findSome? (fun i => d.barred y.ringRef (64 * ((y.tail + i) % 2 ^ y.log2.toNat)) 64) with
    | some e => (d.barLog (hostSrc p.toPath) y.ringRef e).transferFail p ctrl x e.1
    | none => (d.fillRing (hostSrc p.toPath) y n payload).ringDoorbell q ((y.tail + n) % 2 ^ y.log2.toNat)

/-- Handle 0 with generation 0 addresses the registers (R49): an offset outside them is a bounds failure, an access of the wrong shape
is malformed (R27). -/
def regWindow (off : Nat) : Bool := decide (0x2000 ≤ off) && decide (off < 0x9000)

/-- A write of 4 or 8 bytes to the register window, the low word first. -/
def Dev.portWrite (d : Dev) (p : Path) (off : Nat) (bs : List Byte) : Dev :=
  let d1 := d.portWord p off (BitVec.ofNat 32 (field bs 0 4))
  if bs.length = 8 then d1.portWord p (off + 4) (BitVec.ofNat 32 (field bs 4 4)) else d1

/-- WRITE: registers, or bytes of a buffer (R34, R35, R49). -/
def Dev.usbStore (d : Dev) (p : UsbPath) (ctrl : Bool) (x : XferHdr) (payload : List Byte) : Dev :=
  let r : BufRef := { handle := x.handle, gen := x.gen }
  let off := x.offset.toNat
  let h := x.gen.toNat * 65536 + x.handle.toNat
  if x.handle = 0 ∧ x.gen = 0 then
    if !regWindow off then (d.transferFail p ctrl x 0x0A01).violate 4 off 0 true
    else if !bar0Shape off payload.length then d.violate 3 off 0 true
    else d.portWrite p.toPath off payload
  else if !d.live r then (d.transferFail p ctrl x 0x0111).violate 5 off h true
  else if d.sizeOf r < off + payload.length then (d.transferFail p ctrl x 0x0A01).violate 4 (max off (d.sizeOf r)) h true
  else if d.lostBuf r off payload.length then d.transferFail p ctrl x 0x0A04
  else d.hostStore (hostSrc p.toPath) r off payload

/-- READ: registers, or bytes of a buffer; an uncorrectable line fails it (R34, R35, R49, R326). The code of a malformed register
read is a free value: the spec gives a USB path no Unsupported Request (log entry 3). -/
def Dev.usbFetch (d : Dev) (p : UsbPath) (ctrl : Bool) (x : XferHdr) : Dev :=
  let r : BufRef := { handle := x.handle, gen := x.gen }
  let off := x.offset.toNat
  let n := x.rlen.toNat
  let h := x.gen.toNat * 65536 + x.handle.toNat
  if x.handle = 0 ∧ x.gen = 0 then
    if !regWindow off then (d.transferFail p ctrl x 0x0A01).violate 4 off 0 true
    else if !bar0Shape off n then (((d.transferFail p ctrl x ((d.freeAt 0).toNat % 65536))).useFree).violate 3 off 0 true
    else d.transferIn p ctrl (inTransfer 0x83 x.tag 0
      ((List.range (n / 4)).flatMap (fun i => leBytes 4 (d.bar0Word p.toPath (off + 4 * i)))))
  else if !d.live r then (d.transferFail p ctrl x 0x0111).violate 5 off h true
  else if d.sizeOf r < off + n then (d.transferFail p ctrl x 0x0A01).violate 4 (max off (d.sizeOf r)) h true
  else if d.lostBuf r off n then d.transferFail p ctrl x 0x0A04
  else match d.checkBuf (hostSrc p.toPath) r off n with
  | (some _, d1) => d1.transferFail p ctrl x 0x0A03
  | (none, d1) => d1.transferIn p ctrl (inTransfer 0x83 x.tag 0 (d1.readBuf r off n))

/-- A transfer whose header is sound runs by its kind; all but READ need the path's session (R35). SUBMIT wakes the device (R381). -/
def Dev.runTransfer (d : Dev) (p : UsbPath) (ctrl : Bool) (x : XferHdr) (payload : List Byte) : Dev :=
  if !framed x payload then
    (if ctrl then d else d.discardOn p x payload).transferFail p ctrl x 0x0110
  else if x.kind = 3 then d.usbFetch p ctrl x
  else if d.host.owner ≠ some p.toPath then d.transferFail p ctrl x 0x0113
  else if x.kind = 1 then (d.wake 1).submit p ctrl x payload
  else d.usbStore p ctrl x payload

/-- A USB OUT transfer arrives. XFER_OUT exists on USB 2.0 only and carries at most 4,096 bytes (R36). -/
def Dev.transfer (d : Dev) (p : UsbPath) (ctrl : Bool) (x : XferHdr) (payload : List Byte) : Dev :=
  if !d.booted || !d.usbServes then (if ctrl then d.send .stall else d)
  else if ctrl && (p == .usb3 || decide (4096 < 32 + payload.length)) then (d.send .stall).violate 6 0x30 0 false
  else if !ctrl && d.discards p then d.discardOn p x payload
  else if d.pw.state = .forcedHove then { d with xfer := { d.xfer with held := d.xfer.held ++ [.transfer p ctrl x payload] } }
  else d.runTransfer p ctrl x payload

/-- Serve what forced HOVE held (R414). -/
def Dev.serveHeld (d : Dev) : Held → Dev
  | .doorbell p q v => d.doorbell p q v
  | .transfer p ctrl x payload => d.runTransfer p ctrl x payload

end Sys2Proof.Machine
end

