-- ==== Sys2Proof/Machine/Sha.lean ====
section
/-! DEFINITION. SHA-384, the digest of image keys, passwords and authorisations (R397, R441, R456). The spec names it; its rounds are those of
FIPS 180-4 (log entry 9). -/

namespace Sys2Proof.Machine

/-- The constants of rounds 0 to 15. -/
def shaK0 : List U64 := [
  0x428A2F98D728AE22, 0x7137449123EF65CD, 0xB5C0FBCFEC4D3B2F, 0xE9B5DBA58189DBBC,
  0x3956C25BF348B538, 0x59F111F1B605D019, 0x923F82A4AF194F9B, 0xAB1C5ED5DA6D8118,
  0xD807AA98A3030242, 0x12835B0145706FBE, 0x243185BE4EE4B28C, 0x550C7DC3D5FFB4E2,
  0x72BE5D74F27B896F, 0x80DEB1FE3B1696B1, 0x9BDC06A725C71235, 0xC19BF174CF692694]
/-- The constants of rounds 16 to 31. -/
def shaK1 : List U64 := [
  0xE49B69C19EF14AD2, 0xEFBE4786384F25E3, 0x0FC19DC68B8CD5B5, 0x240CA1CC77AC9C65,
  0x2DE92C6F592B0275, 0x4A7484AA6EA6E483, 0x5CB0A9DCBD41FBD4, 0x76F988DA831153B5,
  0x983E5152EE66DFAB, 0xA831C66D2DB43210, 0xB00327C898FB213F, 0xBF597FC7BEEF0EE4,
  0xC6E00BF33DA88FC2, 0xD5A79147930AA725, 0x06CA6351E003826F, 0x142929670A0E6E70]
/-- The constants of rounds 32 to 47. -/
def shaK2 : List U64 := [
  0x27B70A8546D22FFC, 0x2E1B21385C26C926, 0x4D2C6DFC5AC42AED, 0x53380D139D95B3DF,
  0x650A73548BAF63DE, 0x766A0ABB3C77B2A8, 0x81C2C92E47EDAEE6, 0x92722C851482353B,
  0xA2BFE8A14CF10364, 0xA81A664BBC423001, 0xC24B8B70D0F89791, 0xC76C51A30654BE30,
  0xD192E819D6EF5218, 0xD69906245565A910, 0xF40E35855771202A, 0x106AA07032BBD1B8]
/-- The constants of rounds 48 to 63. -/
def shaK3 : List U64 := [
  0x19A4C116B8D2D0C8, 0x1E376C085141AB53, 0x2748774CDF8EEB99, 0x34B0BCB5E19B48A8,
  0x391C0CB3C5C95A63, 0x4ED8AA4AE3418ACB, 0x5B9CCA4F7763E373, 0x682E6FF3D6B2B8A3,
  0x748F82EE5DEFB2FC, 0x78A5636F43172F60, 0x84C87814A1F0AB72, 0x8CC702081A6439EC,
  0x90BEFFFA23631E28, 0xA4506CEBDE82BDE9, 0xBEF9A3F7B2C67915, 0xC67178F2E372532B]
/-- The constants of rounds 64 to 79. -/
def shaK4 : List U64 := [
  0xCA273ECEEA26619C, 0xD186B8C721C0C207, 0xEADA7DD6CDE0EB1E, 0xF57D4F7FEE6ED178,
  0x06F067AA72176FBA, 0x0A637DC5A2C898A6, 0x113F9804BEF90DAE, 0x1B710B35131C471B,
  0x28DB77F523047D84, 0x32CAAB7B40C72493, 0x3C9EBE0A15C9BEBC, 0x431D67C49C100D4C,
  0x4CC5D4BECB3E42B6, 0x597F299CFC657E2A, 0x5FCB6FAB3AD6FAEC, 0x6C44198C4A475817]
/-- The constants of the 80 rounds. -/
def shaK : List U64 := shaK0 ++ shaK1 ++ shaK2 ++ shaK3 ++ shaK4

/-- The eight working words. -/
structure ShaWords where
  a : U64
  b : U64
  c : U64
  d : U64
  e : U64
  f : U64
  g : U64
  h : U64

/-- The words before the first block. -/
def shaInit : ShaWords := ⟨
  0xCBBB9D5DC1059ED8, 0x629A292A367CD507, 0x9159015A3070DD17, 0x152FECD8F70E5939,
  0x67332667FFC00B31, 0x8EB44A8768581511, 0xDB0C2E0D64F98FA7, 0x47B5481DBEFA4FA4⟩

/-- A word rotated right. -/
def shaRot (x : U64) (n : Nat) : U64 := (x >>> n) ||| (x <<< (64 - n))

/-- One round, with its constant and its word of the message schedule. -/
def shaRound (s : ShaWords) (k w : U64) : ShaWords :=
  let t1 := s.h + (shaRot s.e 14 ^^^ shaRot s.e 18 ^^^ shaRot s.e 41) + ((s.e &&& s.f) ^^^ (~~~s.e &&& s.g)) + k + w
  let t2 := (shaRot s.a 28 ^^^ shaRot s.a 34 ^^^ shaRot s.a 39) + ((s.a &&& s.b) ^^^ (s.a &&& s.c) ^^^ (s.b &&& s.c))
  ⟨t1 + t2, s.a, s.b, s.c, s.d + t1, s.e, s.f, s.g⟩

/-- The word of the schedule that follows sixteen. -/
def shaNext (w : List U64) : U64 :=
  let x := w.getD 1 0
  let y := w.getD 14 0
  w.getD 0 0 + (shaRot x 1 ^^^ shaRot x 8 ^^^ (x >>> 7)) + w.getD 9 0 + (shaRot y 19 ^^^ shaRot y 61 ^^^ (y >>> 6))

/-- The rounds of one block: the next sixteen words of its schedule stand in the second argument. -/
def shaRounds : List U64 → List U64 → ShaWords → ShaWords
  | [], _, s => s
  | k :: ks, w, s => shaRounds ks (w.tail ++ [shaNext w]) (shaRound s k (w.getD 0 0))

/-- Bytes as a number, the first the most significant. -/
def beNat (x : List Byte) : Nat := x.foldl (fun (n : Nat) (b : Byte) => 256 * n + b.toNat) 0

/-- n low bytes of a number, the most significant first. -/
def beBytes (n v : Nat) : List Byte := ((List.range n).map (fun (i : Nat) => BitVec.ofNat 8 (v / 256 ^ i))).reverse

/-- One block of 128 bytes. -/
def shaBlock (s : ShaWords) (x : List Byte) : ShaWords :=
  let r := shaRounds shaK ((List.range 16).map (fun (i : Nat) => BitVec.ofNat 64 (beNat ((x.drop (8 * i)).take 8)))) s
  ⟨s.a + r.a, s.b + r.b, s.c + r.c, s.d + r.d, s.e + r.e, s.f + r.f, s.g + r.g, s.h + r.h⟩

/-- Up to n blocks of a padded message. -/
def shaBlocks : Nat → List Byte → ShaWords → ShaWords
  | 0, _, s => s
  | n + 1, x, s => if x.isEmpty then s else shaBlocks n (x.drop 128) (shaBlock s (x.take 128))

/-- A message and its padding: a bit of 1, zeros, the length in bits. -/
def shaPad (x : List Byte) : List Byte := x ++ [0x80] ++ List.replicate ((239 - x.length % 128) % 128) 0 ++ beBytes 16 (8 * x.length)

end Sys2Proof.Machine

/-- SHA-384 of some bytes: 48 bytes (R397, R441, R456). -/
def Sys2Proof.Config.sha384 (x : List Sys2Proof.Byte) : List Sys2Proof.Byte :=
  let p := Sys2Proof.Machine.shaPad x
  let r := Sys2Proof.Machine.shaBlocks p.length p Sys2Proof.Machine.shaInit
  ([r.a, r.b, r.c, r.d, r.e, r.f] : List Sys2Proof.U64).flatMap (fun (w : Sys2Proof.U64) => Sys2Proof.Machine.beBytes 8 w.toNat)
end

