-- ==== Sys2Proof/Machine/Ledger.lean ====
section
/-! DEFINITION. The ledger (file 20): records in two banks of sectors, the write queue, copies and their choice, compaction,
interrupted writes, the wear-spread counter rings, refresh, and loading persisted values. -/

namespace Sys2Proof.Machine

/-! ### Layout (R426 to R429) -/

/-- Bytes of a value of a type code; 0 for STR and BLOB (R340). -/
def typeSize (ty : Nat) : Nat := [0, 1, 1, 2, 4, 1, 2, 4, 6, 6, 8, 4, 0, 0, 2].getD ty 0

/-- Partition of a record ID (R429). -/
def recPart (id : Nat) : Option Nat :=
  if 0x1000 ≤ id ∧ id ≤ 0xDFFF then some 0
  else if 0xF100 ≤ id ∧ id ≤ 0xF107 then some 1
  else if 0xF200 ≤ id ∧ id ≤ 0xF205 then some 2
  else if 0xF300 ≤ id ∧ id ≤ 0xF309 then some 3
  else if id = 0xF404 then some 4
  else if id = 0xF405 then some 5
  else if 0xF400 ≤ id ∧ id ≤ 0xF406 then some 6
  else if 0xF600 ≤ id ∧ id ≤ 0xF603 then some 6
  else none

/-- Pages of a record with n data bytes (R428). -/
def recPages (n : Nat) : Nat := ceilDiv (16 + n) 256

/-- A multiple of 8 bytes: the pad up to the end of the last pulse group reads 0xFF (R426, R428). -/
def padGroup (x : List Byte) : List Byte := x ++ List.replicate ((8 - x.length % 8) % 8) 0xFF

/-- The bytes of a record: header with the CRC-32C over its bytes 0 to 11 and the data, the data, the pad (R428). -/
def recordBytes (id seq : Nat) (data : List Byte) : List Byte :=
  let h := leBytes 2 id ++ leBytes 2 data.length ++ leBytes 2 (0xFFFF - data.length) ++ leBytes 1 ((recPart id).getD 0xFF) ++ [0] ++ leBytes 4 seq
  padGroup (h ++ leBytes 4 (crc32c (h ++ data)) ++ data)

/-- Record ID of a copy (R428). -/
def Copy.id (c : Copy) : Nat := field c.raw 0 2
/-- Sequence of a copy (R428). -/
def Copy.seq (c : Copy) : Nat := field c.raw 8 4
/-- Data of a copy (R428). -/
def Copy.data (c : Copy) : List Byte := slice c.raw 16 (field c.raw 2 2)
/-- Pages of a copy. -/
def Copy.pages (c : Copy) : Nat := ceilDiv c.raw.length 256

/-- A copy is valid: record ID, length and its check, partition, reserved byte, record CRC (R431). -/
def Copy.valid (c : Copy) : Bool :=
  let n := field c.raw 2 2
  !c.dropped && c.id != 0xFFFF && decide (n ≤ 3824) && field c.raw 4 2 == 0xFFFF - n && recPart c.id == some (field c.raw 6 1) &&
    field c.raw 7 1 == 0 && field c.raw 12 4 == crc32c (slice c.raw 0 12 ++ c.data)

/-- The header of a sector: order number, its complement, erase count; the rest stays erased (R428). -/
def sectorHeader (order erases : Nat) : List Byte :=
  padGroup (leBytes 4 order ++ leBytes 4 (0xFFFFFFFF - order) ++ leBytes 4 erases)

/-- Order number of a sector whose header passes its check (R428, R436). -/
def Sector.order (x : Sector) : Option Nat :=
  let o := field x.header 0 4
  if x.header ≠ [] ∧ field x.header 4 4 = 0xFFFFFFFF - o then some o else none

/-- Sectors of bank A (0) or B (1) (R427). -/
def bankSectors (b : Nat) : List Nat := (List.range 56).map (fun i => 16 + 56 * b + i)

/-- Bank of a sector. -/
def bankOf (n : Nat) : Nat := if n < 72 then 0 else 1

/-- A sector. -/
def Dev.sector (d : Dev) (n : Nat) : Sector := SMap.get {} d.ledger.sectors n
/-- Write a sector. -/
def Dev.setSector (d : Dev) (n : Nat) (x : Sector) : Dev :=
  { d with ledger := { d.ledger with sectors := SMap.set {} d.ledger.sectors n x } }
/-- A counter ring. -/
def Dev.ringOf (d : Dev) (n : Nat) : Ring := SMap.get {} d.ledger.rings n
/-- Write a counter ring. -/
def Dev.setRing (d : Dev) (n : Nat) (x : Ring) : Dev :=
  { d with ledger := { d.ledger with rings := SMap.set {} d.ledger.rings n x } }

/-! ### Copies and the choice between them (R430 to R432) -/

/-- A copy with its place: sector, page. -/
abbrev Placed := Nat × Nat × Copy

/-- Valid copies of a record in a bank, by sector and page. -/
def Dev.copiesIn (d : Dev) (b id : Nat) : List Placed :=
  (bankSectors b).flatMap (fun n =>
    ((d.sector n).copies.filter (fun c => c.2.id == id && c.2.valid)).map (fun c => (n, c.1, c.2)))

/-- The copy with the highest sequence, the first among equals (R431). -/
def bestCopy (best : Option Placed) (c : Placed) : Option Placed :=
  match best with
  | none => some c
  | some x => if x.2.2.seq < c.2.2.seq then some c else best

/-- A bank's copy of a record (R431). -/
def Dev.bankCopy (d : Dev) (b id : Nat) : Option Placed := (d.copiesIn b id).foldl bestCopy none

/-- The bank and copy used for a record (R432). -/
def Dev.winner (d : Dev) (id : Nat) : Option (Nat × Copy) :=
  match d.bankCopy 0 id, d.bankCopy 1 id with
  | some a, some b => if a.2.2.seq < b.2.2.seq then some (1, b.2.2) else some (0, a.2.2)
  | some a, none => some (0, a.2.2)
  | none, some b => some (1, b.2.2)
  | none, none => none

/-- The data of a record in the ledger. -/
def Dev.recordData (d : Dev) (id : Nat) : Option (List Byte) := (d.winner id).map (·.2.data)

/-- The two banks hold equal sequences with different content: the tie is counted and raised (R432, R448). -/
def Dev.reportTie (d : Dev) (id : Nat) : Dev :=
  match d.bankCopy 0 id, d.bankCopy 1 id with
  | some a, some b =>
    if a.2.2.seq = b.2.2.seq ∧ a.2.2.data ≠ b.2.2.data then
      (d.bump 0xA00003).event 0x0E01 id (a.1 * 2 ^ 56 + b.1 * 2 ^ 48 + a.2.2.seq)
    else d
  | _, _ => d

/-- IDs of the records that the banks hold a copy of, ascending. -/
def Dev.recordIds (d : Dev) : List Nat :=
  (sortBy (fun (a b : Nat) => decide (a ≤ b)) ((bankSectors 0 ++ bankSectors 1).flatMap (fun n => (d.sector n).copies.map (·.2.id)))).eraseDups

/-! ### Space and compaction (R434) -/

/-- The head of a bank's log: its sector with the highest order number. -/
def Dev.headOf (d : Dev) (b : Nat) : Option Nat :=
  ((bankSectors b).foldl (fun (best : Option (Nat × Nat)) n =>
    match (d.sector n).order, best with
    | some o, some x => if x.2 < o then some (n, o) else best
    | some o, none => some (n, o)
    | none, _ => best) none).map (·.1)

/-- The sector of a bank with the lowest order number. -/
def Dev.oldestOf (d : Dev) (b : Nat) : Option Nat :=
  ((bankSectors b).foldl (fun (best : Option (Nat × Nat)) n =>
    match (d.sector n).order, best with
    | some o, some x => if o < x.2 then some (n, o) else best
    | some o, none => some (n, o)
    | none, _ => best) none).map (·.1)

/-- Erased sectors of a bank that have passed erase verify (R436). -/
def Dev.erasedIn (d : Dev) (b : Nat) : List Nat :=
  (bankSectors b).filter (fun n => (d.sector n).order.isNone && (d.sector n).used == 0)

/-- A place for a record of some pages at the head of a bank, with the header to program first where a new sector becomes the head: it takes
the next order number, and which erased sector it is is open (log entry 3). -/
def Dev.openPage (d : Dev) (b pages : Nat) : Option (Dev × Nat × Nat × List Prog) :=
  let next := match d.headOf b with | some h => ((d.sector h).order.getD 0) + 1 | none => 0
  let fresh :=
    let es := d.erasedIn b
    match es[(d.freeAt 0).toNat % es.length]? with
    | some n => some (d.useFree, n, 1, [({ sector := n, page := 0, bytes := sectorHeader next (d.sector n).erases } : Prog)])
    | none => none
  match d.headOf b with
  | some h => if (d.sector h).used + pages ≤ 16 then some (d, h, (d.sector h).used, []) else fresh
  | none => fresh

/-- Pages from here on are taken. -/
def Dev.takePages (d : Dev) (n upTo : Nat) : Dev := d.setSector n { d.sector n with used := upTo }

/-- Room for the bytes of a record at the head of a bank, and what is to be programmed. -/
def Dev.planCopy (d : Dev) (b : Nat) (raw : List Byte) : Option (Dev × List Prog) :=
  let pages := ceilDiv raw.length 256
  match d.openPage b pages with
  | some (d1, n, p, ps) => some (d1.takePages n (p + pages), ps ++ [{ sector := n, page := p, bytes := raw }])
  | none => none

/-- A page reads what has been programmed: a sector header, or a copy of a record. -/
def Dev.program (d : Dev) (x : Prog) : Dev :=
  let s := d.sector x.sector
  d.setSector x.sector (if x.page = 0 then { s with header := x.bytes }
    else { s with copies := s.copies ++ [(x.page, ({ raw := x.bytes } : Copy))] })

/-- Append the bytes of a record at the head of a bank. -/
def Dev.appendCopy (d : Dev) (b : Nat) (raw : List Byte) : Option Dev :=
  (d.planCopy b raw).map (fun (x : Dev × List Prog) => x.2.foldl (fun (d : Dev) (p : Prog) => d.program p) x.1)

/-- A copy is still its bank's copy. -/
def Dev.isLive (d : Dev) (n p : Nat) (c : Copy) : Bool := d.bankCopy (bankOf n) c.id == some (n, p, c)

/-- Copies of a bank that are still its copies, but for those of one record. -/
def Dev.liveCopies (d : Dev) (b except : Nat) : List Copy :=
  (bankSectors b).flatMap (fun n => ((d.sector n).copies.filter (fun c => d.isLive n c.1 c.2 && c.2.id != except)).map (·.2))

/-- Sectors that records of given pages take, appended in order. -/
def sectorsFor (ps : List Nat) : Nat :=
  (ps.foldl (fun (a : Nat × Nat) p => if a.2 + p ≤ 16 then (a.1, a.2 + p) else (a.1 + 1, 1 + p)) (0, 16)).1

/-- A write of n bytes to a record would leave a bank fewer than 2 erased sectors (R434). -/
def Dev.bankFull (d : Dev) (b id n : Nat) : Bool :=
  decide (54 < sectorsFor ((d.liveCopies b id).map (fun c => recPages c.data.length) ++ [recPages n]))

/-- Banks that a write of a record goes to: both at its creation, else the one without the winning copy (R430). -/
def Dev.banksFor (d : Dev) (id : Nat) : List Nat :=
  match d.winner id with
  | none => [0, 1]
  | some (b, _) => [1 - b]

/-- A write of n bytes to a record fails with E_NVM_FULL (R434). -/
def Dev.nvmFull (d : Dev) (id n : Nat) : Bool := (d.banksFor id).any (fun b => d.bankFull b id n)

/-- Erase a sector; whether it passes erase verify is open (R427, R436, log entry 3). -/
def Dev.eraseSector (d : Dev) (n : Nat) : Dev :=
  (d.setSector n { erases := (d.sector n).erases + 1, used := if bit (d.freeAt 0).toNat 0 then 16 else 0 }).useFree

/-- Append copies unchanged; none where the bank has no room. -/
def Dev.appendAll (d : Dev) (b : Nat) : List Copy → Option Dev
  | [] => some d
  | c :: t =>
    match d.appendCopy b c.raw with
    | some d1 => d1.appendAll b t
    | none => none

/-- The head of a bank that is to be compacted takes no more records: an erased sector becomes the head for its copies (R434, R439). -/
def Dev.retireHead (d : Dev) (n : Nat) : Dev := if d.headOf (bankOf n) = some n then d.takePages n 16 else d

/-- Compact a sector: copy what is live to the head, erase it (R434). -/
def Dev.compactSector (d : Dev) (n : Nat) : Dev :=
  match (d.retireHead n).appendAll (bankOf n) (((d.sector n).copies.filter (fun c => d.isLive n c.1 c.2)).map (·.2)) with
  | some d1 => d1.eraseSector n
  | none => d

/-- Compact the oldest sector of a bank left with fewer than 2 erased sectors (R434). -/
def Dev.compactBank (d : Dev) (b : Nat) : Dev :=
  if (d.erasedIn b).length < 2 then (match d.oldestOf b with | some n => d.compactSector n | none => d) else d

/-! ### The write queue (R433) -/

/-- What a request is for: one request per record ID, or per sector to compact, waits at a time (R433). -/
def LReq.key : LReq → Nat × Nat
  | .record id _ => (0, id)
  | .wrap n => (0, 0xF300 + n)
  | .again _ id => (0, id)
  | .compact n => (1, n)

/-- A later request for what one waits for already: its data replaces that of the one waiting; a rewrite of a copy adds its bank to a rewrite, and
nothing to a request that writes the record anew (R433, R439). -/
def LReq.merge (old new : LReq) : LReq :=
  match old, new with
  | .again bs id, .again cs _ => .again (bs ++ cs.filter (fun c => !bs.contains c)) id
  | _, .again _ _ => old
  | _, _ => new

/-- Queue a request; one already queued keeps its place and takes the new data (R433). -/
def Dev.enqueue (d : Dev) (r : LReq) : Dev :=
  let q := d.ledger.queue
  { d with ledger := { d.ledger with
      queue := if q.any (fun x => x.key == r.key) then q.map (fun x => if x.key == r.key then x.merge r else x) else q ++ [r] } }

/-- Queue a record. -/
def Dev.queueRecord (d : Dev) (id : Nat) (data : List Byte) : Dev := d.enqueue (.record id data)

/-- Tj lies in the write range, −40 to +100 °C (R20). -/
def Dev.tjWrites (d : Dev) : Bool := decide (-640 ≤ d.th.tj.toInt) && decide (d.th.tj.toInt ≤ 1600)

/-- The ledger may be programmed (R20, R433, R470). -/
def Dev.programs (d : Dev) : Bool := d.tjWrites && d.pw.pwrOk && !d.pw.resetLow && (d.pw.state == .underway || d.pw.state == .boot || d.pw.state == .recovery)

/-- A write may start (R433). -/
def Dev.mayWrite (d : Dev) : Bool := d.ledger.writing.isNone && d.programs

/-- Bytes that a bank has for new records: whole pages, past the live copies and the 2 sectors kept erased (R434, log entry 97). -/
def Dev.bankFree (d : Dev) (b : Nat) : Nat :=
  256 * (54 * 15 - ((d.liveCopies b 0).map (fun (c : Copy) => recPages c.data.length)).sum)

/-- LEDGER_FREE: a new record takes its bytes from both banks (R372, R430, R434). -/
def Dev.ledgerFree (d : Dev) : Nat := min (d.bankFree 0) (d.bankFree 1)

/-- The counter value that ring and checkpoint give (R437, R438): absent checkpoints count as generation 0, value 0. -/
def Dev.checkpoint (d : Dev) (n : Nat) : Nat × Nat :=
  match d.recordData (0xF300 + n) with
  | some x => (field x 0 4, field x 4 8)
  | none => (0, 0)

/-- Step of a wear-spread counter (R437); hours are counted as they end. -/
def ringStep (n : Nat) : Nat := [1, 1, 65536, 256, 1, 1, 1, 64, 16, 1].getD n 1

/-- Value of a wear-spread counter as last persisted (R375, R437, R438). -/
def Dev.ringValue (d : Dev) (n : Nat) : Nat :=
  let c := d.checkpoint n
  let r := d.ringOf n
  if !r.blank && r.gen == c.1 then c.2 + r.bits * ringStep n else c.2

/-- Room for the bytes of records in banks, in order. -/
def Dev.planAll (d : Dev) : List (Nat × List Byte) → Option (Dev × List Prog)
  | [] => some (d, [])
  | x :: t =>
    match d.planCopy x.1 x.2 with
    | some (d1, ps) => (d1.planAll t).map (fun (y : Dev × List Prog) => (y.1, ps ++ y.2))
    | none => none

/-- Start writing the bytes of a record for a request, in each bank those given. -/
def Dev.startCopies (d : Dev) (r : LReq) (cs : List (Nat × List Byte)) : Dev :=
  match d.planAll cs with
  | some (d1, ps) => { d1 with ledger := { d1.ledger with writing := some (r, ps) } }
  | none => d

/-- Start writing a record: sequence 1 at its creation, else the winning one + 1; a full ledger drops it (R430, R434). -/
def Dev.startRecord (d : Dev) (r : LReq) (id : Nat) (data : List Byte) : Dev :=
  if d.nvmFull id data.length then d
  else
    let raw := recordBytes id (match d.winner id with | some w => w.2.seq + 1 | none => 1) data
    d.startCopies r ((d.banksFor id).map (fun b => (b, raw)))

/-- LEDGER_WRITE: the first queued request starts (R433). -/
def Dev.ledgerWrite (d : Dev) : Dev :=
  match d.ledger.queue with
  | [] => d
  | r :: rest =>
    if !d.mayWrite then d
    else
      let d1 := { d with ledger := { d.ledger with queue := rest } }
      match r with
      | .record id data => d1.startRecord r id data
      | .wrap n => d1.startRecord r (0xF300 + n) (leBytes 4 ((d1.checkpoint n).1 + 1) ++ leBytes 8 (d1.ringValue n))
      | .again bs id => d1.startCopies r (bs.filterMap (fun b => (d1.bankCopy b id).map (fun c => (b, c.2.2.raw))))
      | .compact _ => { d1 with ledger := { d1.ledger with writing := some (r, []) } }

/-! ### Rings (R437, R438) -/

/-- Erase a ring and give it the checkpoint's generation; a sector that fails erase verify is replaced by the lowest spare, and
without one the counter stops advancing (R427, R438). -/
def Dev.restartRing (d : Dev) (n : Nat) : Dev :=
  let r := d.ringOf n
  let r1 : Ring := { r with gen := (d.checkpoint n).1, bits := 0, blank := false, erases := r.erases + 1 }
  if !bit (d.freeAt 0).toNat 0 then (d.setRing n r1).useFree
  else if d.ledger.spares < 6 then
    let d1 := { d with ledger := { d.ledger with spares := d.ledger.spares + 1 } }
    (d1.setRing n { r1 with spare := some (10 + d.ledger.spares), erases := 0, worn := max r.worn r1.erases }).useFree
  else (d.setRing n { r1 with dead := true }).useFree

/-- The next count bit of a ring is cleared; its pulse group is being programmed from now on; a full ring wraps (R437, R438). -/
def Dev.clearBit (d : Dev) (n : Nat) : Dev :=
  let r := d.ringOf n
  let r1 : Ring := if r.blank then { r with gen := (d.checkpoint n).1, bits := 1, blank := false } else { r with bits := r.bits + 1 }
  let d0 := d.setRing n { r1 with ram := r.ram - ringStep n }
  let d1 := { d0 with ledger := { d0.ledger with counting := some (n, d.now) } }
  if r1.bits = 32704 then d1.enqueue (.wrap n) else d1

/-- The ring's wrap is being written. -/
def Dev.wrapping (d : Dev) (n : Nat) : Bool := match d.ledger.writing with | some (.wrap k, _) => k == n | _ => false

/-- A ring whose last bit has been cleared, and which does not wrap yet, waits for its wrap (R438). -/
def Dev.wrapFull (d : Dev) (n : Nat) : Dev :=
  if (d.ringOf n).bits = 32704 ∧ (d.ringOf n).dead = false ∧ d.wrapping n = false then d.enqueue (.wrap n) else d

/-- A bit of a ring may be programmed: as a write of the ledger may start, and not beyond the ring's last bit or while it wraps (R20, R433,
R437, R438). -/
def Dev.mayCount (d : Dev) (n : Nat) : Bool :=
  let r := d.ringOf n
  !r.dead && decide (r.bits < 32704) && !d.wrapping n && d.programs

/-- Up to k steps of a counter are persisted. -/
def Dev.clearBits (d : Dev) (n : Nat) : Nat → Dev
  | 0 => d
  | k + 1 => if d.mayCount n then (d.clearBit n).clearBits n k else d

/-- The steps that a counter has reached are persisted; those that may not be now wait in RAM (R20, R437). -/
def Dev.countDue (d : Dev) (n : Nat) : Dev := d.clearBits n ((d.ringOf n).ram / ringStep n)

/-- COUNTER_STEP: a wear-spread counter reaches its step; for an hour counter, an hour with VDD_AON present, or in UNDERWAY, ends
(R375, R437). -/
def Dev.counterStep (d : Dev) (n : Nat) : Dev :=
  if 10 ≤ n ∨ d.pw.state = .off ∨ (n = 1 ∧ d.pw.state ≠ .underway) then d
  else (if n < 2 then d.occur n 1 else d).countDue n

/-- COUNTER_STEP. -/
def execCounterStep (n : BitVec 4) (s : State) : Host.Outcome State Fault Refusal := runAlways s (fun d => d.counterStep n.toNat)

/-- LEDGER_WRITE: counter steps that waited are persisted, and the first queued request starts (R20, R433, R437). -/
def execLedgerWrite (s : State) : Host.Outcome State Fault Refusal :=
  runOn s (fun d => ((List.range 10).foldl (fun (d : Dev) (n : Nat) => d.countDue n) d).ledgerWrite)

/-- At load, a ring whose generation is not its checkpoint's is restarted at the checkpoint: erased, unless it is, and given its header
(R438). The group of the last counted bit is programmed again, which leaves the count as it is (R437). A full ring wraps: its request was lost
with the queue, or its checkpoint interrupted. -/
def Dev.loadRing (d : Dev) (n : Nat) : Dev :=
  let r := d.ringOf n
  if r.dead then d
  else if r.gen == (d.checkpoint n).1 then d.wrapFull n
  else if r.blank then d.setRing n { r with gen := (d.checkpoint n).1, blank := false }
  else d.restartRing n

/-- A byte of a ring's sector as it reads: generation, complement, count bits cleared from bit 0 up (R437). -/
def Ring.byte (r : Ring) (k : Nat) : Byte :=
  if r.blank then 0xFF
  else if k < 4 then BitVec.ofNat 8 (r.gen / 2 ^ (8 * k))
  else if k < 8 then BitVec.ofNat 8 ((0xFFFFFFFF - r.gen) / 2 ^ (8 * (k - 4)))
  else BitVec.ofNat 8 (0xFF * 2 ^ min 8 (r.bits - 8 * (k - 8)))

/-! ### Completion and interruption (R435, R442) -/

/-- A password record in force: write digest, read digest (R429). -/
def splitDigests (x : List Byte) : List Byte × List Byte := (slice x 48 48, slice x 0 48)

/-- What a finished request brings into force. -/
def Dev.written (d : Dev) : LReq → Dev
  | .record id data =>
    if 0xF400 ≤ id ∧ id ≤ 0xF406 then { d with ledger := { d.ledger with pw := SMap.ins d.ledger.pw (id - 0xF400) (splitDigests data) } } else d
  | .again _ _ => d
  | .compact n => d.compactSector n
  | .wrap n => d.restartRing n

/-- LEDGER_WRITE_COMPLETE: everything is programmed, the bank is compacted if need be, and the record takes effect. -/
def Dev.ledgerWriteComplete (d : Dev) : Dev :=
  match d.ledger.writing with
  | none => d
  | some (r, ps) =>
    let d1 := ps.foldl (fun (d : Dev) (x : Prog) => d.program x) { d with ledger := { d.ledger with writing := none } }
    (d1.written r |>.compactBank 0).compactBank 1

/-- LEDGER_WRITE_COMPLETE. -/
def execLedgerWriteComplete (s : State) : Host.Outcome State Fault Refusal := runOn s (fun d => d.ledgerWriteComplete)

/-- A pulse group that was interrupted: every bit that is 1 in the new value is 1, every other is open (R435, log entry 3). -/
def tornGroup (x : List Byte) (w : BitVec 64) : List Byte := (List.range x.length).map (fun (i : Nat) => x.getD i 0 ||| w.extractLsb' (8 * i) 8)

/-- The bytes programmed when the write was interrupted: the first groups read the new value, one that was being programmed reads as it
may, the others read 0xFF; `whole` where the group in progress completes first (R435, R470). -/
def tornBytes (x : List Byte) (groups : Nat) (w : BitVec 64) (whole : Bool) : List Byte :=
  let n := 8 * (if whole then groups + 1 else groups)
  x.take n ++ (if whole then [] else tornGroup (slice x n 8) w) ++ List.replicate (x.length - n - (if whole then 0 else 8)) 0xFF

/-- Programming is interrupted: what was programmed first is complete, page k is interrupted at one of its groups, and pages not reached
stay erased; the group is open (R435, log entry 3). `whole` where PWR_OK fell: the group in progress completes (R470). -/
def Dev.tear (d : Dev) (ps : List Prog) (k : Nat) (whole : Bool) : Dev :=
  let d1 := (ps.take k).foldl (fun (d : Dev) (x : Prog) => d.program x) d
  let d2 := match ps[k]? with
    | some x => d1.program { x with bytes := tornBytes x.bytes ((d.freeAt 0).toNat % (x.bytes.length / 8)) (d.freeAt 1) whole }
    | none => d1
  ((ps.drop (k + 1)).reverse.foldl (fun (d : Dev) (x : Prog) => d.takePages x.sector x.page) d2).useFree

/-- The record that some bytes of a sector read as, from the start of a page on (R428). -/
def copyFrom (x : List Byte) (page : Nat) : Nat × Copy :=
  (page, { raw := slice x (256 * page) (8 * ceilDiv (16 + field x (256 * page + 2) 2) 8) })

/-- An interrupted erase leaves every byte of the sector unspecified; it has passed no erase verify (R436, log entry 3). -/
def Dev.tearErase (d : Dev) (n : Nat) : Dev :=
  let x := d.freeBytes 4096
  (d.setSector n { d.sector n with
    header := x.take 16, used := 16, copies := (List.range 15).map (fun (i : Nat) => copyFrom x (i + 1)) }).useFree

/-- A compaction is interrupted: at one of its copies, or with all of them made at the erase of the sector (R434, R436). -/
def Dev.tearCompaction (d : Dev) (n : Nat) (whole : Bool) : Dev :=
  let cs := ((d.sector n).copies.filter (fun (c : Nat × Copy) => d.isLive n c.1 c.2)).map (fun (c : Nat × Copy) => c.2)
  let j := (d.freeAt 0).toNat % (cs.length + 1)
  match (d.useFree.retireHead n).appendAll (bankOf n) (cs.take j) with
  | none => d
  | some d1 =>
    match cs[j]? with
    | none => d1.tearErase n
    | some c =>
      match d1.planCopy (bankOf n) c.raw with
      | some (d2, ps) => d2.useFree.tear ps ((d2.freeAt 0).toNat % (ps.length + 1)) whole
      | none => d1

/-- The compaction of a bank that is due is interrupted (R434, R436). -/
def Dev.tearBank (d : Dev) (b : Nat) (whole : Bool) : Dev :=
  if (d.erasedIn b).length < 2 then (match d.oldestOf b with | some n => d.tearCompaction n whole | none => d) else d

/-- The erase of a ring, or the programming of its header, is interrupted: it is erased, or every byte is unspecified (R436, R438). -/
def Dev.tearRing (d : Dev) (n : Nat) : Dev :=
  let r := d.ringOf n
  (d.setRing n (if bit (d.freeAt 0).toNat 0 then { r with bits := 0, blank := true }
    else { r with gen := (d.freeAt 1).toNat % 2 ^ 32, bits := (d.freeAt 2).toNat % 32705, blank := false })).useFree

/-- What follows the pages of a request is interrupted: its own erase, or a compaction that it makes due; which is open
(R434 to R438, log entry 3). -/
def Dev.tearAfter (d : Dev) (r : LReq) (whole : Bool) : Dev :=
  let d1 := d.useFree
  match (d.freeAt 0).toNat % 4, r with
  | 0, _ => d1
  | 1, .compact n => d1.tearCompaction n whole
  | 1, .wrap n => d1.tearRing n
  | 2, _ => (d1.written r).tearBank 0 whole
  | 3, _ => ((d1.written r).compactBank 0).tearBank 1 whole
  | _, _ => d1

/-- A count bit whose pulse group, of at most 25 µs, is interrupted reads 0 or 1; one that reads 1 is not counted, and its step is reached again
(R426, R435, R437, log entry 3). `whole` where PWR_OK fell: the group completes (R470). -/
def Dev.interruptCount (d : Dev) (whole : Bool) : Dev :=
  let d1 := { d with ledger := { d.ledger with counting := none } }
  match d.ledger.counting with
  | none => d
  | some (n, t) =>
    let r := d.ringOf n
    if whole || decide (t + 25 ≤ d.now) || r.bits == 0 || bit (d.freeAt 0).toNat 0 then d1.useFree
    else (d1.setRing n { r with bits := r.bits - 1, ram := r.ram + ringStep n }).useFree

/-- A reset, a power loss or a latch interrupts the request that is being written; where is open (R435, R436, log entry 3). `whole` where
PWR_OK fell: the group in progress completes (R470). -/
def Dev.interruptPages (d : Dev) (whole : Bool) : Dev :=
  match d.ledger.writing with
  | none => d
  | some (r, ps) =>
    let k := (d.freeAt 0).toNat % (ps.length + 1)
    let d1 := { d with ledger := { d.ledger with writing := none } }.useFree.tear ps k whole
    if k < ps.length then d1 else d1.tearAfter r whole

/-- What the ledger programs is interrupted: a count bit, a request being written (R435). -/
def Dev.interruptAt (d : Dev) (whole : Bool) : Dev := (d.interruptCount whole).interruptPages whole

/-- The write in progress is interrupted by a reset, a power loss or a latch (R435). -/
def Dev.interruptWrite (d : Dev) : Dev := d.interruptAt false

/-! ### Passwords (R441 to R444) -/

/-- Digest of a password (R441). -/
def Dev.digest (d : Dev) (pw : List Byte) : List Byte := Config.sha384 (d.fuses.salt ++ pw)

/-- Write and read digests of a partition: those stored, else as shipped; all zero means not set (R429, R441). -/
def Dev.digests (d : Dev) (part : Nat) : List Byte × List Byte :=
  match d.ledger.pw.find? (fun x => x.1 == part) with
  | some x => x.2
  | none =>
    (if part = 4 then d.digest d.fuses.serial else if part = 5 then d.digest d.fuses.factoryPw else List.replicate 48 0, List.replicate 48 0)

/-- Partition n is locked after eight consecutive failures (R444). -/
def Dev.pwLocked (d : Dev) (part : Nat) : Bool := decide (8 ≤ SMap.get 0 d.pw.pwFails part)

/-- A presented password: 0 or an error code; failures count, a match clears the count (R443, R444). -/
def Dev.tryPassword (d : Dev) (part : Nat) (digest pw : List Byte) : Nat × Dev :=
  if d.pwLocked part then (0x0E02, d)
  else if digest = d.digest pw then (0, { d with pw := { d.pw with pwFails := SMap.set 0 d.pw.pwFails part 0 } })
  else (0x0E01, { d with pw := { d.pw with pwFails := SMap.set 0 d.pw.pwFails part (SMap.get 0 d.pw.pwFails part + 1) } })

/-! ### Refresh (R439) -/

/-- The copy that a page of a sector holds a part of. -/
def Sector.copyAt (x : Sector) (p : Nat) : Option (Nat × Copy) :=
  x.copies.find? (fun c => decide (c.1 ≤ p) && decide (p < c.1 + c.2.pages))

/-- The ring that a sector holds. -/
def Dev.ringAt (d : Dev) (n : Nat) : Option Nat :=
  (List.range 10).find? (fun r => (match (d.ringOf r).spare with | some x => x | none => r) == n)

/-- A weak page is counted and raised (R439, R448). -/
def Dev.weakPage (d : Dev) (page part weak erases : Nat) : Dev :=
  (d.bump 0xA00004).event 0x0E02 page (part * 2 ^ 56 + min weak 255 * 2 ^ 48 + erases)

/-- One page is margin-read: a tie of its record is reported, a weak page rewritten by the rule for its kind (R432, R439). -/
def Dev.scanPage (d : Dev) (page weak : Nat) : Dev :=
  let n := page / 16
  if n < 16 then
    match d.ringAt n with
    | some r =>
      if weak = 0 ∨ (d.ringOf r).blank = true then d else (d.weakPage page 3 weak (d.ringOf r).erases).enqueue (.wrap r)
    | none => d
  else
    let x := d.sector n
    if x.order.isNone then d
    else if page % 16 = 0 then (if weak = 0 then d else (d.weakPage page 0xFF weak x.erases).enqueue (.compact n))
    else
      match x.copyAt (page % 16) with
      | none => d
      | some c =>
        let d1 := d.reportTie c.2.id
        if weak = 0 then d1
        else
          let d2 := d1.weakPage page ((recPart c.2.id).getD 0xFF) weak x.erases
          if d.isLive n c.1 c.2 then d2.enqueue (.again [bankOf n] c.2.id) else d2

/-- LEDGER_REFRESH_SCAN: the next page; the position is saved every 16 pages (R439). A full ring whose wrap found the ledger full waits for it
again (R434, R438; log entry 114). -/
def Dev.ledgerRefreshScan (d : Dev) (weak : Nat) : Dev :=
  if !d.up then d
  else
    let next := (d.ledger.scan + 1) % 2048
    let d0 := (List.range 10).foldl (fun (d : Dev) (n : Nat) => d.wrapFull n) d
    let d1 := d0.scanPage d.ledger.scan weak
    let d2 := { d1 with ledger := { d1.ledger with scan := next } }
    if next % 16 = 0 then d2.queueRecord 0xF601 (leBytes 2 next) else d2

/-- LEDGER_REFRESH_SCAN. -/
def execLedgerRefreshScan (weakBits : Nat) (s : State) : Host.Outcome State Fault Refusal :=
  runOn s (fun d => d.ledgerRefreshScan weakBits)

/-! ### Persisted values (R342, R364, R429) -/

/-- Value of an entry with attribute P, as its record holds it. -/
def Dev.persistVal (d : Dev) (e : Entry) (key : Nat) : Nat := if e.t then d.shadowVal key else d.val key

/-- The data of the record of an index: its P entries in sub-index order. -/
def Dev.recordOf (d : Dev) (idx : Nat) : List Byte :=
  (List.range 256).flatMap (fun sub =>
    match entryOf d.fuses.md0512 idx sub with
    | some e =>
      if e.p then
        leBytes 1 sub ++ leBytes 1 e.ty ++ leBytes 1 (typeSize e.ty) ++ leBytes (typeSize e.ty) (d.persistVal e (idx * 256 + sub))
      else []
    | none => [])

/-- Queue the record of an index. -/
def Dev.persist (d : Dev) (idx : Nat) : Dev := d.queueRecord idx (d.recordOf idx)

/-- Apply the items of a persisted record. -/
def Dev.loadItems (d : Dev) (idx : Nat) : Nat → List Byte → Dev
  | 0, _ => d
  | n + 1, x =>
    match x with
    | sub :: ty :: len :: rest =>
      let key := idx * 256 + sub.toNat
      let v := leNat (rest.take len.toNat)
      let d1 := match entryOf d.fuses.md0512 idx sub.toNat with
        | some e =>
          if !e.p || e.ty != ty.toNat || typeSize e.ty != len.toNat then d
          else if e.t then { d with comp := { d.comp with ap := d.comp.ap.setVal d.fuses key v } }
          else d.setVal key v
        | none => d
      d1.loadItems idx n (rest.drop len.toNat)
    | _ => d

/-- Data queued for a record. -/
def Dev.queuedData (d : Dev) (id : Nat) : Option (List Byte) :=
  d.ledger.queue.findSome? (fun r => match r with | .record i x => if i = id then some x else none | _ => none)

/-- A record's data after a reset: the queued one, kept by a WARM reset, else the ledger's (R389). -/
def Dev.loadData (d : Dev) (id : Nat) : Option (List Byte) :=
  match d.queuedData id with
  | some x => some x
  | none => d.recordData id

/-- IDs that the ledger or its queue hold. -/
def Dev.allIds (d : Dev) : List Nat :=
  (sortBy (fun (a b : Nat) => decide (a ≤ b))
    (d.recordIds ++ d.ledger.queue.filterMap (fun r => match r with | .record i _ => some i | _ => none))).eraseDups

/-- Load the persisted values of the dictionary. -/
def Dev.loadValues (d : Dev) : Dev :=
  (d.allIds.filter (fun i => recPart i == some 0)).foldl (fun (d : Dev) i =>
    match d.loadData i with
    | some x => d.loadItems i x.length x
    | none => d) d

/-- The trim sets stored (R429). -/
def Dev.loadTrims (d : Dev) : Dev :=
  { d with trim := { d.trim with
      sets := (List.range 8).filterMap (fun i => (d.loadData (0xF100 + i)).map (fun x =>
        { point := BitVec.ofNat 16 (field x 0 2), codes := (slice x 2 37).map (fun c => if c = 0xFF then none else some c), num := i })) } }

/-- The sensor whose working reading a trim item uses (R417). -/
def trimSensor (i : Nat) : Nat := if i < 32 then 12 + i / 4 else if i < 34 then 20 else if i < 36 then 21 else 22

/-- The code of an item at a temperature, from its valid values in the stored sets, num and den being s16 (R424): none where no set holds
one. -/
def interpolate (sets : List TrimSet) (i : Nat) (t : Int) : Option Byte :=
  let vs : List (Int × Int) := sets.filterMap (fun s => (s.codes.getD i none).map (fun c => (s.point.toInt, (c.toNat : Int))))
  let best := fun (p : Int → Bool) (better : Int → Int → Bool) => (vs.filter (fun v => p v.1)).foldl
    (fun (b : Option (Int × Int)) v => match b with | none => some v | some x => if better v.1 x.1 then some v else b) none
  let lo := best (fun p => decide (p ≤ t)) (fun a b => decide (b < a))
  let hi := best (fun p => decide (t < p)) (fun a b => decide (a < b))
  match lo, hi with
  | some l, some h =>
    let num := sext 16 (wrapInt 16 ((h.2 - l.2) * (t - l.1)))
    let den := sext 16 (wrapInt 16 (h.1 - l.1))
    some (BitVec.ofInt 8 (l.2 + Int.fdiv (2 * num + den) (2 * den)))
  | some l, none => some (BitVec.ofInt 8 l.2)
  | none, some h => some (BitVec.ofInt 8 h.2)
  | none, none => none

/-- Each item's code for the temperature of its sensor; fuse values after a measurement of RCAL outside its limits (R418, R424). -/
def Dev.trimCodes (d : Dev) : SMap (Option Byte) :=
  if d.trim.rcal == 2 then []
  else (List.range 37).foldl (fun (m : SMap (Option Byte)) (i : Nat) =>
    SMap.set none m i (interpolate d.trim.sets i (d.sensor (trimSensor i)).work.toInt)) []

/-- Circuits with a trim in force: masts 0 to 31, the regulators, the 32 DRAM channels (R424). -/
def trimCircuits : List Nat := List.range 32 ++ [36] ++ (List.range 32).map (fun c => 64 + c)

/-- At a reset every circuit takes the code that the stored sets give it, or its fuse value; the sensors read as they did before the reset
(R421; log entry 113). -/
def Dev.bootTrims (d : Dev) (th : Thermal) : Dev :=
  let codes := ({ d with th := th } : Dev).trimCodes
  { d with trim := { d.trim with
      codes := codes
      inForce := trimCircuits.foldl (fun (m : SMap (Option Byte)) (k : Nat) => SMap.set none m k (SMap.get none codes (trimItemOf k))) [] } }

/-- The locks stored (R429). -/
def Dev.loadLocks (d : Dev) : Dev :=
  match d.loadData 0xF600 with
  | some x => { d with dict := { d.dict with locks := (List.range (x.length / 4)).map (fun i => field x (4 * i) 4) } }
  | none => d

/-- The passwords stored; without a record, as shipped (R441). -/
def Dev.loadPasswords (d : Dev) : Dev :=
  { d with ledger := { d.ledger with
      pw := (List.range 7).filterMap (fun i => (d.recordData (0xF400 + i)).map (fun x => (i, splitDigests x))) } }

/-- A sector that an interrupted erase left is erased again before it is used (R436). -/
def Dev.reErase (d : Dev) : Dev :=
  ((bankSectors 0 ++ bankSectors 1).filter (fun n => (d.sector n).order.isNone && (d.sector n).used != 0)).foldl
    (fun (d : Dev) n => d.eraseSector n) d

/-- Partition 0 copies and the marker become invalid (R447). -/
def Dev.invalidate (d : Dev) (p : Nat → Bool) : Dev :=
  { d with ledger := { d.ledger with sectors := d.ledger.sectors.map (fun (x : Nat × Sector) =>
      (x.1, { x.2 with copies := x.2.copies.map (fun (c : Nat × Copy) => if p c.2.id then (c.1, { c.2 with dropped := true }) else c) })) } }

/-- A restore of defaults at a COLD reset with a valid marker; this boot still tries the slot that the old record names first, and
FW_SLOT_BOOT becomes the slot that it starts from (R398, R447). -/
def Dev.restore (d : Dev) : Dev :=
  if (d.recordData 0xF603).isSome then
    let slot := match d.recordData 0xC020 with
      | some x => (d.loadItems 0xC020 x.length x).val 0xC02002
      | none => d.val 0xC02002
    let d1 := (d.invalidate (fun i => recPart i == some 0)).invalidate (fun i => i == 0xF603)
    { d1 with fw := { d1.fw with restored := true } }.setVal 0xC02002 slot
  else d

/-- The rest of a restore, once the slot that runs is known (R447). -/
def Dev.restoreSlot (d : Dev) : Dev :=
  if d.fw.restored then ({ d with fw := { d.fw with restored := false } }.setVal 0xC02002 d.fw.active).persist 0xC020 else d

/-- The ledger is loaded at boot (R432, R436, R438). -/
def Dev.loadLedger (d : Dev) : Dev :=
  let d1 := d.reErase
  let d2 := d1.recordIds.foldl (fun (d : Dev) i => d.reportTie i) d1
  let d3 := (List.range 10).foldl (fun (d : Dev) n => d.loadRing n) d2
  d3.loadPasswords.loadLocks.loadTrims.loadValues

/-- The load of a reset that is held: the ledger is read, and what is to be programmed or erased waits, as nothing starts before the release
(R470; log entry 114). -/
def Dev.loadHeld (d : Dev) : Dev :=
  let e := d.restore.loadLedger
  { e with ledger := { e.ledger with
      sectors := d.ledger.sectors, rings := d.ledger.rings, spares := d.ledger.spares, queue := d.ledger.queue, repair := true } }

/-- What the load of a held reset left to program and erase is done (R436, R438, R447). -/
def Dev.loadRepairs (d : Dev) : Dev :=
  if d.ledger.repair then
    let e := d.restore.loadLedger
    { d with
      free := e.free
      ledger := { d.ledger with
        sectors := e.ledger.sectors, rings := e.ledger.rings, spares := e.ledger.spares, queue := e.ledger.queue, repair := false } }
  else d

end Sys2Proof.Machine
end

