-- ==== Sys2Proof/Machine/Power.lean ====
section
/-! DEFINITION. Power states, resets and boot (file 18): what each reset keeps (R388), HOVE and MOORED, boot, and the firmware
images. -/

namespace Sys2Proof.Machine

/-! ### What each reset keeps (R388, R389) -/

/-- Buffers after a WARM reset: FREEING entries complete without an event, every ready fence becomes none (R388, R389). -/
def QueueSys.warm (q : QueueSys) : QueueSys :=
  { bufs := (q.bufs.map (fun (x : Nat × Buf) =>
      (x.1, if x.2.state = .freeing then ({ gen := nextGen x.2.gen } : Buf) else { x.2 with ready := none, freeQ := 0, freeTag := 0, freeId := 0 }))).filter
        (fun (x : Nat × Buf) => decide (x.2 ≠ ({} : Buf)))
    fresh := q.fresh
    freed := q.freed ++ (q.bufs.filter (fun (x : Nat × Buf) => x.2.state == .freeing)).map (fun (x : Nat × Buf) => BitVec.ofNat 16 x.1) }

/-- The masts after a reset: only the state of their DET pins is left. -/
def Dev.maskMasts (d : Dev) : SMap Mast :=
  (d.push.masts.filter (fun (x : Nat × Mast) => x.2.det)).map (fun (x : Nat × Mast) => (x.1, ({ det := true } : Mast)))

/-- The listed bytes of DRAM become free values: its contents are unspecified (R388). -/
def Dev.forgetDram (d : Dev) : Dev :=
  { d with dram := { d.dram with
      data := (d.dram.data.zipIdx.map (fun (x : Host.Cell × Nat) => (x.1.1, (d.freeAt x.2).setWidth 8))).filter (fun (x : Nat × Byte) => x.2 != 0)
      upsets := [], old := [] } }.useFree

/-- What every COLD or WARM reset leaves, but for what a WARM reset keeps: pins, fuses, flash and the always-on domain. -/
def Dev.cleared (d : Dev) : Dev :=
  { fuses := d.fuses
    link := { vbus := d.link.vbus }
    host := {}, xfer := {}, ring := {}, qs := {}, intake := {}, comp := {}, tack := {}
    push := { masts := d.maskMasts }
    draws := {}
    dram := { data := d.dram.data, capGiB := d.dram.capGiB, ranks := d.dram.ranks, lp5x := d.dram.lp5x, ident := d.dram.ident }
    memlog := {}, dict := {}
    pw := {
      state := .boot, refclk := d.pw.refclk, resetLow := d.pw.resetLow, pwrOk := d.pw.pwrOk, since := d.now
      coldAt := d.pw.coldAt, latched := d.pw.latched, latchTj := d.pw.latchTj, pwFails := d.pw.pwFails }
    fw := {
      slotA := d.fw.slotA, slotB := d.fw.slotB, flash := d.fw.flash, active := d.fw.active, version := d.fw.version, restored := d.fw.restored }
    th := {}, trim := {}
    ledger := { d.ledger with pw := [] }
    flt := { scan := d.flt.scan, authOk := d.flt.authOk, extest := d.flt.extest, ir := d.flt.ir }
    now := d.now, free := d.free, out := d.out }

/-- A life-cycle fuse blown takes effect; entering RETIRED erases both record banks (R455). -/
def Dev.advanceLife (d : Dev) : Dev :=
  match d.fuses.lifeNext with
  | none => d
  | some n =>
    let d1 := { d with fuses := { d.fuses with lifeCycle := n, lifeNext := none } }
    if n = 4 then (bankSectors 0 ++ bankSectors 1).foldl (fun (d : Dev) i => d.eraseSector i) d1 else d1

/-- A shutdown record found at a COLD reset: cause 7, THERMAL_SHUTDOWNS, and the record is written again, empty (R416, R446). -/
def Dev.shutdownFound (d : Dev) (cause : Nat) : Dev :=
  match d.recordData 0xF602 with
  | some (_ :: _) => ({ d with pw := { d.pw with cause := 7 } }.occur 6 1).queueRecord 0xF602 []
  | _ => { d with pw := { d.pw with cause := cause } }

/-- Host-port settings that take effect at a COLD reset (R26, R43). -/
def Dev.hostSettings (d : Dev) : Dev :=
  { d with link := { d.link with
      bar2Log2 := d.val 0x230004, pathEnable := d.val 0x230003, subsysVendor := d.val 0x230008, subsysId := d.val 0x230009 } }

/-- The 0x1100 settings in effect are those written (R362). -/
def Dev.commSettings (d : Dev) : Dev :=
  { d with dict := { d.dict with comm := d.dict.vals.filter (fun x => x.1 / 256 == 0x1100), commDue := [] } }

/-- A COLD reset (R388). -/
def Dev.coldReset (d : Dev) (cause : Nat) (held : Bool) : Dev :=
  let d0 := d.interruptWrite
  let d1 := { d0.cleared with ledger := { d0.cleared.ledger with queue := [] } }
  let d2 := { d1 with pw := { d1.pw with state := if held then .resetHeld else .boot, coldAt := d.now } }
  let d3 := ((d2.forgetDram.advanceLife.shutdownFound cause).occur 4 1)
  let d4 := ((if held then d3.loadHeld else d3.restore.loadLedger).bootTrims d.th).hostSettings.commSettings
  { d4 with dram := { d4.dram with map := d4.val 0x220001, eccGiB := d4.val 0x220004 } }

/-- A STANDALONE boot that finds both field ports disabled runs with both enabled (entry 0x1100.0C). -/
def Dev.standalonePorts (d : Dev) : Dev :=
  if d.fuses.straps = 2 ∧ d.val 0x110004 = 0 ∧ d.val 0x11000C = 0 then ((d.setVal 0x110004 1).setVal 0x11000C 1).commSettings else d

/-- A WARM reset, or leaving MOORED, which restarts the host links as well (R383, R388). -/
def Dev.warmReset (d : Dev) (cause : Nat) (moored : Bool) : Dev :=
  let d0 := d.interruptWrite
  let c := d0.cleared
  let d1 := { c with
    link := if moored then { c.link with
        pathEnable := d.link.pathEnable, subsysVendor := d.link.subsysVendor, subsysId := d.link.subsysId }
      else { d.link with wake := 0, low := .l0 }
    host := if moored then {} else { msix := d.host.msix, pba := d.host.pba }
    qs := d0.qs.warm
    dram := { c.dram with
      upsets := d.dram.upsets, map := d.dram.map, eccGiB := d.dram.eccGiB, lost := d.dram.lost, gone := d.dram.gone }
    pw := { c.pw with cause := cause, wdAt := d.pw.wdAt }
    flt := { c.flt with next := d.flt.next, recs := d.flt.recs }
    th := { peak := d.th.peak } }
  let d2 := ((d1.setVal 0x230005 (d.val 0x230005)).setVal 0xB03001 (d.val 0xB03001)).occur 5 1
  let d3 := (d2.loadLedger.bootTrims d.th).commSettings.standalonePorts
  if moored then { d3 with link := { d3.link with bar2Log2 := d3.val 0x230004 } } else d3

/-! ### Power and reset pins -/

/-- POWER_ON: VDD_AON reaches its range; the clock source is chosen, and RESET_N or PWR_OK holds the device (R377, R386, R393). -/
def Dev.powerOn (d : Dev) (refclk : Bool) : Dev :=
  if d.pw.state ≠ .off then d
  else
    { d with pw := { d.pw with refclk := refclk, latched := false, latchTj := 0, pwFails := [], resetLow := true } }.coldReset 1 true

/-- POWER_ON. -/
def execPowerOn (refclk : Bool) (s : State) : Host.Outcome State Fault Refusal := runAlways s (fun d => d.powerOn refclk)

/-- POWER_LOSS: VDD_AON is removed: latch, lockouts, queued writes and RAM counts are lost, and the write in progress is interrupted
(R20, R415, R435, R437, R444). The refresh position is the one saved (R439). -/
def Dev.powerLoss (d : Dev) : Dev :=
  let d0 := d.interruptWrite
  let c := d0.cleared
  let d1 := { c with
    link := {}
    pw := { state := .off }
    fw := { slotA := c.fw.slotA, slotB := c.fw.slotB, flash := c.fw.flash }
    dram := { c.dram with ident := (0, 0, 0) }
    flt := {}
    ledger := { c.ledger with
      queue := []
      rings := (c.ledger.rings.map (fun (x : Nat × Ring) => (x.1, { x.2 with ram := 0 }))).filter (fun (x : Nat × Ring) => decide (x.2 ≠ ({} : Ring)))
      scan := match d0.recordData 0xF601 with | some x => field x 0 2 | none => 0 } }
  d1.forgetDram

/-- POWER_LOSS. -/
def execPowerLoss (s : State) : Host.Outcome State Fault Refusal := runAlways s (fun d => d.powerLoss)

/-- RESET_N qualified low: a COLD reset, held until the release; a latched shutdown stays latched (R387, R415). -/
def Dev.resetLow (d : Dev) : Dev :=
  if d.pw.state = .off then d
  else if d.pw.latched then { d with pw := { d.pw with resetLow := true } }
  else { d with pw := { d.pw with resetLow := true } }.coldReset 2 true

/-- RESET_N_QUALIFIED. -/
def execResetNQualified (s : State) : Host.Outcome State Fault Refusal := runAlways s (fun d => d.resetLow)

/-- PWR_OK_FALL: as RESET_N low (R393); the pulse group that the ledger is programming completes (R470). -/
def Dev.pwrOkFall (d : Dev) : Dev :=
  if d.pw.state = .off ∨ d.pw.latched = true then { d with pw := { d.pw with pwrOk := false } }
  else ({ d with pw := { d.pw with pwrOk := false } }.interruptAt true).coldReset 2 true

/-- PWR_OK_FALL. -/
def execPwrOkFall (s : State) : Host.Outcome State Fault Refusal := runAlways s (fun d => d.pwrOkFall)

/-- RESET_RELEASE: RESET_N rises with PWR_OK high: the straps are latched and boot begins (R393, R394). -/
def Dev.resetRelease (d : Dev) (straps : BitVec 2) : Dev :=
  if d.pw.state ≠ .resetHeld then d
  else
    { d with
      pw := { d.pw with state := .boot, resetLow := false, pwrOk := true, since := d.now }
      fuses := { d.fuses with straps := straps } }.standalonePorts

/-- RESET_RELEASE. -/
def execResetRelease (straps : BitVec 2) (s : State) : Host.Outcome State Fault Refusal := runAlways s (fun d => d.resetRelease straps)

/-- The boot ROM of a full run tests every partition of the part in ascending order (R463). -/
def Dev.queueFullRun (d : Dev) (tests : Nat) : Dev :=
  let ps := (List.range 40).filter (fun p => (d.partn p).state == .inService)
  ps.foldl (fun (d : Dev) p => d.setPartn p { d.partn p with state := .bist, prev := .inService, tests := tests })
    { d with flt := { d.flt with queue := ps } }

/-- REQUESTED_RESET_DUE: 10 ms after the response, or when a handoff has ended (R386). A COLD one resamples the straps, which resistors hold
at the levels of the last release (R388, R393; log entry 112). -/
def Dev.requestedResetDue (d : Dev) : Dev :=
  if d.fw.handoff then d
  else match d.pw.request with
    | none => d
    | some .warm => d.warmReset 3 false
    | some .cold => (d.coldReset 4 false).standalonePorts
    | some (.coldBist tests) =>
      let d1 := (d.coldReset 4 false).standalonePorts
      { d1 with pw := { d1.pw with fullRun := some tests } }.queueFullRun tests

/-- REQUESTED_RESET_DUE. -/
def execRequestedResetDue (s : State) : Host.Outcome State Fault Refusal := runOn s (fun d => d.requestedResetDue)

/-- WATCHDOG_EXPIRY: logged; a second one within 10 s forces a WARM reset with cause 5 (R392, R449). -/
def Dev.watchdogExpiry (d : Dev) : Dev :=
  if d.pw.state ≠ .underway ∧ d.pw.state ≠ .hove ∧ d.pw.state ≠ .forcedHove then d
  else
    let d1 := d.logFault 13 0 0
    match d.pw.wdAt with
    | some t => if d.now ≤ t + 10000000 then d1.warmReset 5 false else { d1 with pw := { d1.pw with wdAt := some d.now } }
    | none => { d1 with pw := { d1.pw with wdAt := some d.now } }

/-- WATCHDOG_EXPIRY. -/
def execWatchdogExpiry (s : State) : Host.Outcome State Fault Refusal := runOn s (fun d => d.watchdogExpiry)

/-! ### HOVE and MOORED (R378 to R383) -/

/-- A mast is training, retraining or changing rate, or its lost hop trains (R261, R273, R378, log entry 103). -/
def Mast.trains (x : Mast) : Bool :=
  match x.state with
  | .service => x.rejoin.isSome
  | .enumerate | .equalise | .verify | .retrain | .rateChange => true
  | _ => false

/-- The device is idle (R378). -/
def Dev.quiet (d : Dev) : Bool :=
  d.qs.cmds.isEmpty && d.xfer.held.isEmpty &&
  d.qs.queues.all (fun (x : Nat × Queue) => x.2.state != .running || x.2.head == x.2.tail) &&
  d.intake.threshers.all (fun (x : Nat × Thresher) => x.2.jobs.isEmpty) && d.intake.waiting.isEmpty &&
  d.draws.accepted.isEmpty && d.draws.waiting.isEmpty && d.tack.act.isNone && d.comp.pend.isEmpty &&
  d.push.masts.all (fun (x : Nat × Mast) => !x.2.trains && !x.2.withhold) && d.trim.run.isNone &&
  d.dram.chans.all (fun (x : Nat × Channel) => x.2.step == 0 || decide (d.now < x.2.rest)) && d.dram.switchTo.isNone && !d.dram.forced && !d.xfer.mboxBusy &&
  d.dict.waiting.all (fun (x : Wait) => !fromHost x.c) &&
  d.dict.arbs.all (fun (w : ArbWindow) => w.held.all (fun (x : HeldWrite) => !fromHost x.c))

/-- Running BISTs abort at HOVE entry: the partition returns to the state it had, with result 3 (R462, R464). -/
def Dev.abortBist (d : Dev) : Dev :=
  ((List.range 40).filter (fun p => (d.partn p).running)).foldl (fun (d : Dev) p =>
    let x := d.partn p
    ({ d with flt := { d.flt with engines := SMap.erase d.flt.engines p } }.setPartn p
      { x with state := x.prev, running := false, tests := 0 }).event 0x0F01 p
      (x.tests * 2 ^ 56 + 3 * 2 ^ 48 + (if d.fuses.lifeCycle = 2 then 0 else 1) * 2 ^ 40)) d

/-- The low-power state the host link goes to: CL1 of USB4, or U2 of USB 3.2 (R38). -/
def HostLink.lowState (l : HostLink) : LinkLow := if l.usb4 ≠ 0 then .cl1 else if l.ss ≠ 0 then .u2 else .l0

/-- Enter HOVE by the steps of R380: the event, the masts, the link, DRAM, the PLLs. -/
def Dev.enterHove (d : Dev) (forced : Bool) : Dev :=
  let d1 := if d.val 0x240009 = 1 then d.event 0x0C01 0 (2 ^ 56 + d.stateTime) else d
  let d2 := d1.mastList.foldl (fun (d : Dev) (m : MastId) => d.hoveMast m) d1.abortBist
  let d3 := d2.bump 0x240005
  { d3 with
    pw := { d3.pw with state := if forced then .forcedHove else .hove, since := d.now }
    link := { d3.link with low := d3.link.lowState }
    dram := { d3.dram with selfRefresh := true } }

/-- HOVE_IDLE_TIMEOUT: idle for HOVE_IDLE_TIME; in LOCKED mode only with TACK_SYNC_IN as a wake source (R378, R379). -/
def Dev.hoveIdleTimeout (d : Dev) : Dev :=
  if d.up && d.quiet && d.val 0x240001 != 0 && (d.tval 0x200001 != 2 || bit (d.val 0x240002) 2) then d.enterHove false else d

/-- HOVE_IDLE_TIMEOUT. -/
def execHoveIdleTimeout (s : State) : Host.Outcome State Fault Refusal := runOn s (fun d => d.hoveIdleTimeout)

/-- WAKE_TIMER_EXPIRY: WAKE_TIMER runs out, or a PERIODIC boundary falls due, which wakes whatever is enabled (R379, R381). -/
def Dev.wakeTimerExpiry (d : Dev) : Dev :=
  if d.pw.state ≠ .hove then d
  else if d.tval 0x200001 = 1 then d.leaveHove 2
  else if d.val 0x240003 ≠ 0 then d.wake 2
  else d

/-- WAKE_TIMER_EXPIRY. -/
def execWakeTimerExpiry (s : State) : Host.Outcome State Fault Refusal := runOn s (fun d => d.wakeTimerExpiry)

/-- MOORED_ENTRY: 60 s of HOVE, no session, no mast in service (R382). -/
def Dev.mooredEntry (d : Dev) : Dev :=
  if d.pw.state = .hove ∧ d.host.owner = none ∧ d.push.masts.all (fun (x : Nat × Mast) => !x.2.inService) = true then
    let d1 := d.countHove
    { d1 with pw := { d1.pw with state := .moored, since := d.now }, dram := { d1.dram with selfRefresh := true } }
  else d

/-- MOORED_ENTRY. -/
def execMooredEntry (s : State) : Host.Outcome State Fault Refusal := runOn s (fun d => d.mooredEntry)

/-- Wake sources that MOORED honours: bits 2 to 4 of WAKE_ENABLE, VBUS and DET always (R382). -/
def Dev.moorWakes (d : Dev) : MooredWake → Bool
  | .sync => bit (d.val 0x240002) 2
  | .t1s => bit (d.val 0x240002) 3
  | .can => bit (d.val 0x240002) 4
  | .vbus => true
  | .host => true
  | .det => true

/-- MOORED_EXIT: a reset with cause 6; what woke the device is discarded (R382, R383). -/
def Dev.mooredExit (d : Dev) (w : MooredWake) : Dev :=
  if d.pw.state = .moored ∧ d.moorWakes w = true then d.warmReset 6 true else d

/-- MOORED_EXIT. -/
def execMooredExit (w : MooredWake) (s : State) : Host.Outcome State Fault Refusal := runAlways s (fun d => d.mooredExit w)

/-! ### PLLs (R384) -/

/-- The core PLL runs, and with it those DRAM PLLs that serve a channel. -/
def Dev.corePll (d : Dev) : Bool :=
  match d.pw.state with
  | .boot | .underway | .recovery => true
  | _ => false

/-- DRAM PLL n, of channels 8n to 8n + 7: one lost channel does not stop it. -/
def Dev.dramPll (d : Dev) (_n : BitVec 2) : Bool := d.corePll

/-- SerDes PLL k runs while one of masts 8k to 8k + 7 trains or is in service. -/
def Dev.serdesPll (d : Dev) (k : BitVec 2) : Bool :=
  d.corePll && (List.range 8).any (fun i =>
    let x := d.mast (BitVec.ofNat 5 (8 * k.toNat + i))
    x.trains || x.state == .service)

/-- The USB PLL runs while VBUS is present, but not in automatic HOVE with the link in CL1 or U2, nor in MOORED. -/
def Dev.usbPll (d : Dev) : Bool :=
  d.link.vbus && (d.powered && !(d.pw.state == .hove && d.link.low != .l0) || d.pw.state == .resetHeld)

/-! ### Firmware images (R395 to R400) -/

/-- The checks of R397 in order: 0, or the error code of the first failure. -/
def imageCheck (f : Fuses) (x : List Byte) : Nat :=
  let len := field x 16 4
  let zeros := fun (o n : Nat) => (slice x o n).all (· == 0)
  if slice x 0 4 ≠ [0x4D, 0x44, 0x46, 0x57] ∨ field x 4 2 ≠ 1 ∨ field x 6 2 ≠ 0x1024 ∨ zeros 14 2 = false ∨ zeros 28 36 = false ∨
      zeros 161 95 = false ∨ len < 4096 ∨ 4193952 < len ∨ x.length ≠ 352 + len then 0x0C02
  else if f.bootRom.toNat < field x 24 4 then 0x0C02
  else if !f.keyDigests.contains (Config.sha384 (slice x 64 97)) then 0x0C01
  else if field x 12 2 < f.secVersion then 0x0C01
  else if crc32c (slice x 256 len) ≠ field x 20 4 then 0x0C02
  else if !Config.ecdsaP384 (slice x 64 97) (slice x (256 + len) 96) (x.take (256 + len)) then 0x0C01
  else 0

/-- Version and security version of an image (R396). -/
def imageOf (x : List Byte) : Image := { version := BitVec.ofNat 32 (field x 8 4), sec := field x 12 2 }

/-- The image of a slot. -/
def Fw.slot (f : Fw) (n : Nat) : Option Image := if n = 0 then f.slotA else f.slotB
/-- Write a slot. -/
def Fw.setSlot (f : Fw) (n : Nat) (i : Option Image) : Fw := if n = 0 then { f with slotA := i } else { f with slotB := i }

/-- The image of a slot that passes verification at boot (R397, R398). -/
def Dev.bootable (d : Dev) (n : Nat) : Option Image :=
  if !d.fw.flash then none
  else match d.fw.slot n with
    | some i => if d.fuses.secVersion ≤ i.sec then some i else none
    | none => none

/-- Version that entries 0xC020.03 and .04 report (R374, R396). -/
def Dev.slotVersion (d : Dev) (n : Nat) : Nat := match d.bootable n with | some i => i.version.toNat | none => 0

/-- An image runs for the first time: a higher security version advances the fuse counter (R399). -/
def Dev.runImage (d : Dev) (slot : Nat) (i : Image) : Dev :=
  { d with
    fw := { d.fw with active := slot, version := i.version, accepted := none }
    fuses := { d.fuses with secVersion := max d.fuses.secVersion i.sec } }

/-- The length of an image that its header implies, once the header has arrived (R396, R400). -/
def impliedLen (x : List Byte) : Option Nat := if x.length < 20 then none else some (352 + field x 16 4)

/-- Bytes of an image arrive: beyond the implied length or the slot they reject it; at that length verification starts. The codes are
those of entry 0xC020.05, and of RECOVERY_STATUS in recovery mode (R36, R400). -/
def Dev.imageBytes (d : Dev) (x : List Byte) : Dev :=
  let all := d.fw.rcvd ++ x
  let d1 := { d with fw := { d.fw with rcvd := all } }
  let st := fun (n r e : Nat) => if d.pw.state = .recovery then { d1 with fw := { d1.fw with recState := r, err := e } }
    else { d1 with fw := { d1.fw with state := n, err := e } }
  match impliedLen all with
  | none => st 1 0 0
  | some n => if n < all.length ∨ 4194304 < all.length then st 4 3 0x0C02 else if n = all.length then st 2 1 0 else st 1 0 0

/-- RECOVERY_WRITE in recovery mode or as an in-service update (R36, R400); an update cannot start in states 1 and 2. -/
def Dev.recoveryWrite (d : Dev) (wValue : U16) (x : List Byte) : Dev :=
  let receiving := if d.pw.state = .recovery then d.fw.recState == 0 && !d.fw.rcvd.isEmpty else d.fw.state == 1
  let busy := if d.pw.state = .recovery then d.fw.recState == 1 else d.fw.state == 1 || d.fw.state == 2
  if wValue = 0 then
    if busy then { d with fw := { d.fw with err := 0x0C03 } }
    else
      let d1 := { d with fw := { d.fw with rcvd := [] } }
      (if d.pw.state = .recovery then d1 else { d1 with fw := d1.fw.setSlot (1 - d.fw.active) none }).imageBytes x
  else if wValue = 1 then
    if receiving then d.imageBytes x
    else if d.pw.state = .recovery then { d with fw := { d.fw with recState := 3, err := 0x0C02 } }
    else { d with fw := { d.fw with state := 4, err := 0x0C02 } }
  else d

/-- The USB functions that accept the two recovery requests: USB 2.0, and USB 3.2 outside recovery mode (R36, R400). -/
def Dev.recoveryOn (d : Dev) (p : UsbPath) : Bool :=
  match d.pw.state with
  | .recovery => p == .usb2
  | .underway | .hove | .forcedHove => d.fw.flash
  | _ => false

/-- RECOVERY_WRITE. -/
def execRecoveryWrite (p : UsbPath) (wValue : U16) (data : List Byte) (s : State) : Host.Outcome State Fault Refusal :=
  runOn s (fun d => if d.coreFenced then d else if 4096 < data.length then d.unknownRequest 0x40
    else if d.recoveryOn p then d.recoveryWrite wValue data else d.send .stall)

/-- RECOVERY_STATUS: bytes received, image state, error code; the state of an idle update is open (R36, R400, log entry 3). -/
def Dev.recoveryStatus (d : Dev) : Dev :=
  let st := if d.pw.state = .recovery then d.fw.recState
    else if d.fw.state = 0 then (d.freeAt 0).toNat % 65536 else d.fw.state - 1
  (d.send (.recoveryStatus (leBytes 4 d.fw.rcvd.length ++ leBytes 2 st ++ leBytes 2 d.fw.err))).useFree

/-- RECOVERY_STATUS. -/
def execRecoveryStatus (p : UsbPath) (s : State) : Host.Outcome State Fault Refusal :=
  runOn s (fun d => if d.coreFenced then d else if d.recoveryOn p then d.recoveryStatus else d.send .stall)

/-- The slot that an image accepted in recovery mode is written to: the one whose image fails verification, A if both fail or neither does
(R398; log entry 112). -/
def Dev.recoverySlot (d : Dev) : Nat :=
  let failed := fun (n : Nat) => d.fw.bad.contains n || (d.bootable n).isNone
  if failed 1 && !failed 0 then 1 else 0

/-- IMAGE_VERIFY_COMPLETE: the image has been read back and verified (R397, R398, R400). An accepted recovery image is booted. -/
def Dev.imageVerifyComplete (d : Dev) : Dev :=
  let code := imageCheck d.fuses d.fw.rcvd
  let img := imageOf d.fw.rcvd
  if d.pw.state = .recovery then
    if d.fw.recState ≠ 1 then d
    else if code ≠ 0 then { d with fw := { d.fw with recState := 3, err := code } }
    else
      let n := d.recoverySlot
      let f := if d.fw.flash then d.fw.setSlot n (some img) else d.fw
      { d.endOn .usb2 true with
        fw := { f with recState := 2, accepted := some (n, img) }
        pw := { d.pw with state := .boot, since := d.now }
        link := { d.link with hs := false, fs := false } }
  else if d.fw.state ≠ 2 then d
  else if code ≠ 0 then { d with fw := { d.fw with state := 4, err := code } }
  else { d with fw := { d.fw.setSlot (1 - d.fw.active) (some img) with state := 3, err := 0 } }

/-- IMAGE_VERIFY_COMPLETE. -/
def execImageVerifyComplete (s : State) : Host.Outcome State Fault Refusal := runOn s (fun d => d.imageVerifyComplete)

/-! ### Boot (R394) -/

/-- The image that boot runs, and the slots tried whose image failed (R398). -/
def Dev.bootImage (d : Dev) : Option (Nat × Image) × List Nat :=
  match d.fw.accepted with
  | some x => (some x, [])
  | none =>
    let a := d.val 0xC02002
    match d.bootable a with
    | some i => (some (a, i), [])
    | none =>
      match d.bootable (1 - a) with
      | some i => (some (1 - a, i), [a])
      | none => (none, [a, 1 - a])

/-- Recovery mode instead of a boot: by strap, or after a full run that failed a partition from 28 (R394, R463). -/
def Dev.mustRecover (d : Dev) : Bool :=
  (d.fuses.straps == 3 && d.fw.accepted.isNone) || d.coreFenced

/-- The report of a channel. -/
def chanReport (b : BootReport) (c : BitVec 5) : ChanReport := ((b.odd.find? (fun (x : BitVec 5 × ChanReport) => x.1 == c)).map (·.2)).getD b.chan

/-- Density and ranks stand in the capacity table (R312). -/
def listedReport (c : ChanReport) : Bool := [(8, 1), (16, 1), (8, 2), (32, 1), (16, 2)].contains (c.density, c.ranks)

/-- A channel carries what channel 0 carries (R312, R313). -/
def alikeReports (c x : ChanReport) : Bool :=
  c.mfr == x.mfr && c.rev == x.rev && c.density == x.density && c.ranks == x.ranks && c.lp5x == x.lp5x

/-- Points at which a channel works; LPDDR5 has none above 6,400 MT/s (R312). -/
def workPoints (c : ChanReport) : Nat := Nat.land c.works.toNat (if c.lp5x then 63 else 48)

/-- The bytes that name a DRAM identity in its ledger records (R313, R429). -/
def identBytes (i : Nat × Nat × Nat) : List Byte := leBytes 1 i.1 ++ leBytes 1 i.2.1 ++ leBytes 1 i.2.2

/-- Training brings up the channels in turn: the points that all of them work at, and the channels it cannot bring up (R313, R328, R334). -/
def trainChannels (b : BootReport) (gone : Option (BitVec 5)) (points : Nat) : Nat × List (BitVec 5) :=
  ((List.range 32).map (BitVec.ofNat 5)).foldl (fun (a : Nat × List (BitVec 5)) (c : BitVec 5) =>
    let r := chanReport b c
    let p := Nat.land a.1 (workPoints r)
    if gone = some c then a else if alikeReports r b.chan && listedReport r && p != 0 then (p, a.2) else (a.1, a.2 ++ [c])) (points, [])

/-- The rate of the boot: the one in force, else the next lower trained one, else the lowest (R332, log entry 13). -/
def bootRate (rates : List Nat) (want : Nat) : Nat := (rates.find? (fun r => decide (r ≤ want))).getD (rates.getLastD want)

/-- The ledger's training record of an identity and a rate, if any (R328, R429). -/
def Dev.trainRecord (d : Dev) (i : Nat × Nat × Nat) (rate : Nat) : Option Nat :=
  (List.range 6).find? (fun n => match d.recordData (0xF200 + n) with
    | some x => x.take 3 == identBytes i && field x 3 2 == rate
    | none => false)

/-- The identity whose records one half of the training records holds. -/
def Dev.trainIdent (d : Dev) (half : Nat) : Option (List Byte) :=
  (List.range 3).findSome? (fun n => (d.recordData (0xF200 + 3 * half + n)).map (fun x => x.take 3))

/-- The half of the training records that an identity takes: its own, an empty one, else that of the identity not in use before
(R429); which that is stays open after a power loss (log entry 3). -/
def Dev.trainHalf (d : Dev) (i : Nat × Nat × Nat) : Nat :=
  if d.trainIdent 0 = some (identBytes i) then 0
  else if d.trainIdent 1 = some (identBytes i) then 1
  else if d.trainIdent 0 = none then 0
  else if d.trainIdent 1 = none then 1
  else if d.trainIdent 0 = some (identBytes d.dram.ident) then 1
  else if d.trainIdent 1 = some (identBytes d.dram.ident) then 0
  else (d.freeAt 1).toNat % 2

/-- Full training of some points is stored: a point's record is rewritten, or it takes one of its identity's that no trained point uses
(R328, R429). The training values are open (log entry 3). -/
def Dev.storeTraining (d : Dev) (i : Nat × Nat × Nat) (rates full : List Nat) : Dev :=
  let h := d.trainHalf i
  let spare := ([3 * h, 3 * h + 1, 3 * h + 2]).filter (fun n => !(rates.filterMap (fun r => d.trainRecord i r)).contains n)
  let put := fun (d : Dev) (n r : Nat) => (d.queueRecord (0xF200 + n) (identBytes i ++ leBytes 2 r ++ d.freeBytes 64)).useFree
  (full.foldl (fun (a : Dev × List Nat) (r : Nat) =>
    match d.trainRecord i r with
    | some n => (put a.1 n r, a.2)
    | none => (put a.1 (a.2.headD (3 * h)) r, a.2.tail)) (d, spare)).1

/-- The controller stays down: a channel was lost and RUN_DEGRADED does not allow operation without it, or two were (R335). -/
def Dev.staysDown (d : Dev) : Bool :=
  d.dram.lost.isSome && (d.val 0x220008 != 1 || (d.dram.gone.isSome && d.dram.gone != d.dram.lost))

/-- The device goes on without the lost channel; the first time, the DRAM's contents and the buffer table are lost (R335). -/
def Dev.bootWithout (d : Dev) : Dev :=
  if d.dram.gone = d.dram.lost then d
  else
    let x := d.forgetDram
    { x with dram := { x.dram with gone := d.dram.lost }, qs := { x.qs with bufs := [], fresh := 1, freed := [] } }

/-- DRAM training (R312, R313, R324, R328, R333, R334): a point with a record that verifies is restored, any other fully trained and its
record written; a channel that cannot be brought up is lost. -/
def Dev.trainDram (d : Dev) (b : BootReport) : Dev :=
  let i := (b.chan.mfr.toNat, b.chan.rev.toNat, b.chan.density)
  let cap := 4 * b.chan.density * b.chan.ranks
  let t := trainChannels b d.dram.gone (d.val 0x220007)
  let rates := ratesOf t.1
  let full := rates.filter (fun r => (d.trainRecord i r).isNone || !(ratesOf b.verified.toNat).contains r)
  let d1 := d.storeTraining i rates full
  t.2.foldl (fun (d : Dev) (c : BitVec 5) => d.loseChannel c 1)
    { d1 with dram := { d1.dram with
      capGiB := cap, ranks := b.chan.ranks, lp5x := b.chan.lp5x, ident := i
      points := t.1, rate := bootRate rates d.rateNow, up := true
      eccGiB := min d.dram.eccGiB cap
      trainLast := (if full.isEmpty then 2 else 1) * 2 ^ 24 + b.ms % 2 ^ 24 } }

/-- DRAM at boot (R328, R335). -/
def Dev.bootDram (d : Dev) (b : BootReport) : Dev :=
  if d.staysDown then { d with dram := { d.dram with up := false, rate := 0, gone := if d.val 0x220008 = 1 then d.dram.gone else none } }
  else d.bootWithout.trainDram b

/-- Masts whose DET is low begin bring-up (R262, R394). -/
def Dev.bootMasts (d : Dev) (det : U32) : Dev :=
  d.mastList.foldl (fun (d : Dev) (m : MastId) =>
    (d.setMast m { d.mast m with det := det.getLsbD m.toNat }).bringUp m) d

/-- BOOT_COMPLETE: an image runs, DRAM and masts come up, and READY is set; without an image, recovery mode (R394, R398, R399). DRAM training
does not begin before a power-up trim run is complete (R421). -/
def Dev.bootComplete (d : Dev) (b : BootReport) : Dev :=
  let left := d.pw.fullRun.isSome && !(d.flt.queue.isEmpty && (List.range 40).all (fun p => !(d.partn p).running))
  if d.pw.state ≠ .boot ∨ left = true then d
  else
    let d0 := { d with pw := { d.pw with fullRun := none } }
    let (img, bad) := d0.bootImage
    match img with
    | some (n, i) =>
      if d0.mustRecover then d0.enterRecovery
      else if d.trim.run.any (fun (r : TrimRun) => r.powerUp) then d
      else
        let run := d0.loadRepairs.runImage n i
        let d1 := { run with fw := { run.fw with bad := bad } }
        let d2 := d1.restoreSlot.bootDram b
        { d2 with pw := { d2.pw with state := .underway, since := d.now } }.bootMasts b.detLow
    | none => { d0 with fw := { d0.fw with bad := bad } }.enterRecovery

/-- BOOT_COMPLETE. -/
def execBootComplete (b : BootReport) (s : State) : Host.Outcome State Fault Refusal := runOn s (fun d => d.bootComplete b)

end Sys2Proof.Machine
end

