-- ==== Sys2Proof/Machine/Thermal.lean ====
section
/-! DEFINITION. Thermal management (R404 to R416): the sensor cross-check, Tj and its thresholds, throttles, forced HOVE, shutdown;
and trim (R417 to R424): runs, sets and interpolation. -/

namespace Sys2Proof.Machine

/-! ### Sensors (R405 to R408) -/

/-- Neighbours of a sensor that are not excluded. -/
def Dev.neighbours (d : Dev) (n : Nat) : List Nat :=
  (List.range 24).filter (fun i => bit (d.val (0x800200 + n)) i && !(d.sensor i).excluded)

/-- The median of temperatures; for an even count the mean of the middle two, rounded down (R407). -/
def medianOf (xs : List Int) : Int :=
  let s := sortBy (fun (a b : Int) => decide (a ≤ b)) xs
  let k := s.length / 2
  if s.length % 2 = 1 then s.getD k 0 else (s.getD (k - 1) 0 + s.getD k 0) / 2

/-- One sensor in one sample: suspect beyond 12 °C of the median, which then replaces its reading; an excluded sensor reads the median
(R407, R408). With fewer than two neighbours it is not checked. -/
def Dev.readSensor (d : Dev) (raws : List U16) (n : Nat) : Sensor :=
  let x := d.sensor n
  let raw := raws.getD n 0x8000
  let ns := d.neighbours n
  if ns.length < 2 then { x with raw := raw, work := raw, median := raw, suspect := 0, good := 0 }
  else
    let m := medianOf (ns.map (fun i => (raws.getD i 0x8000).toInt))
    let med := BitVec.ofInt 16 m
    let far := decide (192 < (raw.toInt - m).natAbs)
    { x with
      raw := raw, median := med
      work := if far || x.excluded then med else raw
      suspect := if far && !x.excluded then x.suspect + 1 else 0
      good := if x.excluded && !far then x.good + 1 else 0 }

/-- The sensor with the highest working reading, the lowest-numbered among equals, and that reading (R406). -/
def Dev.hotSensor (d : Dev) : Nat × U16 :=
  (List.range 24).foldl (fun (b : Nat × U16) n => if b.2.toInt < (d.sensor n).work.toInt then (n, (d.sensor n).work) else b)
    (0, (d.sensor 0).work)

/-- Class of the throttle that k and b stand for (R409). -/
def Thermal.clsNow (t : Thermal) : Nat := if t.b ≠ 0 then 2 else if t.k ≠ 0 then 1 else 0

/-- EV_THROTTLE on a change of class (R409, R425). -/
def Dev.reportClass (d : Dev) : Dev :=
  let c := d.th.clsNow
  if c = d.th.cls then d
  else { d with th := { d.th with cls := c } }.event 0x0D02 d.th.tjSensor (c * 2 ^ 56 + d.th.k * 2 ^ 48 + d.th.b * 2 ^ 40 + d.th.tj.toNat * 2 ^ 16)

/-- The warning of one crossing; it ends 3 °C below its threshold (R409). -/
def Dev.warnCheck (d : Dev) : Dev :=
  let t := d.th.tj.toInt
  let w := sext 16 (d.val 0x800002)
  if w ≤ t ∧ d.th.warned = false then
    { d with th := { d.th with warned := true } }.event 0x0D01 d.th.tjSensor (d.th.tj.toNat * 2 ^ 48)
  else if t < w - 48 then { d with th := { d.th with warned := false } }
  else d

/-- A count of consecutive samples. -/
def countIf (c : Bool) (n : Nat) : Nat := if c then n + 1 else 0

/-- The per-sample part of the throttles: k rises at 105 °C, b becomes 1 at 110 °C, the consecutive samples are counted (R410, R411,
R414). -/
def Dev.throttleCheck (d : Dev) : Dev :=
  let t := d.th.tj.toInt
  let x := d.th
  let d1 := { d with th := { x with
    k := if 1680 ≤ t ∧ x.k < 15 then x.k + 1 else x.k
    b := if 1760 ≤ t ∧ x.b = 0 then 1 else x.b
    below102 := countIf (decide (t < 1632)) x.below102
    above110 := countIf (decide (1760 ≤ t)) x.above110
    below107 := countIf (decide (t < 1712)) x.below107
    below110 := countIf (decide (t < 1760)) x.below110 } }
  let d2 := if d1.th.clsNow ≠ 0 then d1.bump 0x80000C else d1
  d2.reportClass

/-- Forced HOVE at 118 °C: the event on vector 3; the packets being serialised complete, as the engines compose what is left of them; then
HOVE. Packets not acknowledged are sent again after the exit (R413). It begins from UNDERWAY or HOVE (log entry 78). -/
def Dev.enterForced (d : Dev) : Dev :=
  let d1 := (d.event3 0x0D03 d.th.tjSensor (d.th.tj.toNat * 2 ^ 48)).logFault 14 d.th.tjSensor 0x0D03
  if d.pw.state = .hove then { d1 with pw := { d1.pw with state := .forcedHove } }
  else
    let d2 := d1.push.plots.foldl (fun (d : Dev) (p : Plot) =>
      match p.pkt, p.stage with
      | .started, .compute c => d.plotHandoff c 4096
      | _, _ => d) d1
    (d2.mastList.foldl (fun (d : Dev) (m : MastId) => d.markResend m) d2).enterHove true

/-- Tj differs by more than TRIM_DELTA from the last accepted run's, and the trigger is enabled (R420). -/
def Dev.trimMoved (d : Dev) : Bool :=
  bit (d.val 0x900001) 1 && decide (sext 16 (d.val 0x900002) < ((d.th.tj.toInt - d.trim.lastTemp.toInt).natAbs : Int))

/-- A run that falls due by temperature in HOVE waits for the exit (R381, R420); a run in progress satisfies the trigger. -/
def Dev.trimFallsDue (d : Dev) : Dev :=
  if (d.pw.state = .hove ∨ d.pw.state = .forcedHove) ∧ d.trim.run = none ∧ d.trimMoved = true then { d with trim := { d.trim with due := true } } else d

/-- Shutdown at 125 °C: the event may still be written; then the latch holds every other block in reset, the test access port included (R415,
R473). -/
def Dev.shutdown (d : Dev) : Dev :=
  let told := d.powered && bit (d.freeAt 0).toNat 0
  let d1 := (if told then d.event3 0x0D04 d.th.tjSensor (d.th.tj.toNat * 2 ^ 48) else d).useFree.interruptWrite
  let c := d1.cleared
  { c with
    th := d.th
    flt := { c.flt with extest := false, ir := 0x01 }
    ledger := { c.ledger with queue := [] }
    pw := { c.pw with state := .shutdown, latched := true, latchTj := d.th.tj, cause := d.pw.cause } }

/-- THERMAL_SAMPLE: all 24 sensors, Tj, then the thresholds (R405 to R415). -/
def Dev.thermalSample (d : Dev) (raw : List U16) : Dev :=
  if d.pw.state = .off then d
  else
    let d1 := (List.range 24).foldl (fun (e : Dev) n => e.setSensor n (d.readSensor raw n)) d
    let (n, t) := d1.hotSensor
    let d2 := { d1 with th := { d1.th with tj := t, tjSensor := n, peak := if d1.th.peak.toInt < t.toInt then t else d1.th.peak } }
    if d2.pw.latched then d2
    else
      let d3 := (if d2.up then d2.reBand else d2).trimFallsDue.warnCheck.throttleCheck
      if 2000 ≤ t.toInt then d3.shutdown
      else if 1888 ≤ t.toInt ∧ (d3.pw.state = .underway ∨ d3.pw.state = .hove) then d3.enterForced
      else d3

/-- THERMAL_SAMPLE. -/
def execThermalSample (raw : List U16) (s : State) : Host.Outcome State Fault Refusal := runAlways s (fun d => d.thermalSample raw)

/-- SENSOR_EXCLUDE: after 3 consecutive suspect samples (R407, R425, R449). -/
def Dev.sensorExclude (d : Dev) (n : Nat) : Dev :=
  let x := d.sensor n
  if x.excluded = true ∨ x.suspect < 3 then d
  else
    let d1 := (d.setSensor n { x with excluded := true, suspect := 0, good := 0 }).bump 0x80000D
    let cnt := (List.range 24).countP (fun i => (d1.sensor i).excluded)
    (d1.event 0x0D05 n (x.raw.toNat * 2 ^ 48 + x.median.toNat * 2 ^ 32 + cnt * 2 ^ 24)).logFault 8 n 0x0D05

/-- SENSOR_EXCLUDE. -/
def execSensorExclude (n : BitVec 5) (s : State) : Host.Outcome State Fault Refusal := runAlways s (fun d => d.sensorExclude n.toNat)

/-- SENSOR_REINCLUDE: after 10,000 good samples, without an event (R408). -/
def Dev.sensorReinclude (d : Dev) (n : Nat) : Dev :=
  let x := d.sensor n
  if x.excluded = true ∧ 10000 ≤ x.good then d.setSensor n { x with excluded := false, suspect := 0, good := 0 } else d

/-- SENSOR_REINCLUDE. -/
def execSensorReinclude (n : BitVec 5) (s : State) : Host.Outcome State Fault Refusal := runAlways s (fun d => d.sensorReinclude n.toNat)

/-! ### Throttle steps (R410, R411) -/

/-- CLASS_A_RELEASE_STEP: at every eighth consecutive sample below 102 °C (R410). k may fall to 0 while b is above 0, where R17 and R409
keep class A in force beside class B (DESIGN CHOICE, log entry 95). -/
def Dev.classARelease (d : Dev) : Dev :=
  if d.th.k ≠ 0 ∧ 8 ≤ d.th.below102 then { d with th := { d.th with k := d.th.k - 1, below102 := d.th.below102 - 8 } }.reportClass else d

/-- CLASS_A_RELEASE_STEP. -/
def execClassAReleaseStep (s : State) : Host.Outcome State Fault Refusal := runAlways s (fun d => d.classARelease)

/-- CLASS_B_STEP_UP: at every tenth consecutive sample at or above 110 °C, up to 4 (R411). -/
def Dev.classBUp (d : Dev) : Dev :=
  if d.th.b ≠ 0 ∧ d.th.b < 4 ∧ 10 ≤ d.th.above110 then { d with th := { d.th with b := d.th.b + 1, above110 := d.th.above110 - 10 } } else d

/-- CLASS_B_STEP_UP. -/
def execClassBStepUp (s : State) : Host.Outcome State Fault Refusal := runAlways s (fun d => d.classBUp)

/-- CLASS_B_STEP_DOWN: at every fiftieth consecutive sample below 107 °C (R411). -/
def Dev.classBDown (d : Dev) : Dev :=
  if d.th.b ≠ 0 ∧ 50 ≤ d.th.below107 then { d with th := { d.th with b := d.th.b - 1, below107 := d.th.below107 - 50 } }.reportClass else d

/-- CLASS_B_STEP_DOWN. -/
def execClassBStepDown (s : State) : Host.Outcome State Fault Refusal := runAlways s (fun d => d.classBDown)

/-- FORCED_HOVE_EXIT: after 1,000 samples below 110 °C the device wakes as from HOVE, outstanding packets are sent again, the exit is
raised, and the doorbells held are served (R413, R414). -/
def Dev.forcedHoveExit (d : Dev) : Dev :=
  if d.pw.state ≠ .forcedHove ∨ d.th.below110 < 1000 then d
  else
    let d1 := d.leaveHove 0
    let d2 := d1.mastList.foldl (fun (d : Dev) (m : MastId) => if (d.mast m).state == .service then d.resume m else d) d1
    let d3 := d2.event3 0x0D03 d.th.tjSensor (d.th.tj.toNat * 2 ^ 48 + 2 ^ 40)
    d.xfer.held.foldl (fun (d : Dev) (x : Held) => d.serveHeld x) { d3 with xfer := { d3.xfer with held := [] } }

/-- FORCED_HOVE_EXIT. -/
def execForcedHoveExit (s : State) : Host.Outcome State Fault Refusal := runOn s (fun d => d.forcedHoveExit)

/-- SHUTDOWN_RECORD_WRITE: while the shutdown is latched and Tj is at or below 100 °C, and not below −40 °C, the record of it is written,
once (R20, R416). -/
def Dev.shutdownRecord (d : Dev) : Dev :=
  if d.pw.latched = true ∧ d.tjWrites = true ∧ (d.recordData 0xF602).getD [] = [] then
    let x := leBytes 2 d.pw.latchTj.toNat
    (d.startRecord (.record 0xF602 x) 0xF602 x).ledgerWriteComplete
  else d

/-- SHUTDOWN_RECORD_WRITE. -/
def execShutdownRecordWrite (s : State) : Host.Outcome State Fault Refusal := runAlways s (fun d => d.shutdownRecord)

/-! ### Trim (R417 to R424) -/

/-- Code of the first accepted attempt of an item, the mean rounded up: none before it, `some none` after four that disagree (R419). -/
def trimCode : Nat → List TrimAttempt → Option (Option Byte)
  | 0, _ => some none
  | _, [] => none
  | n + 1, x :: t =>
    if (Int.natAbs ((x.a.toNat : Int) - x.b.toNat)) ≤ 2 then some (some (BitVec.ofNat 8 ((x.a.toNat + x.b.toNat + 1) / 2)))
    else trimCode n t

/-- An item of the run is measured: its code joins the run's set, and acts from the next TRIM_INTERPOLATE on (log entry 113). One that
disagrees four times takes its fuse value and is raised (R419). -/
def Dev.trimItem (d : Dev) (i : Nat) (a : List TrimAttempt) : Dev :=
  match d.trim.run, trimCode 4 a with
  | some r, some c =>
    if r.done.any (fun x => x.1 == i) then d
    else
      let d1 := { d with trim := { d.trim with run := some { r with done := r.done ++ [(i, c)] } } }
      if c.isSome then d1
      else
        ({ d1 with trim := { d1.trim with codes := SMap.set none d1.trim.codes i none } }.bump 0x900006).event 0x0D06
          (if i < 32 then i else 0xFFFF) (2 ^ 56 + i * 2 ^ 48 + 0x0D01 * 2 ^ 32 + d.th.tj.toNat * 2 ^ 16)
  | _, _ => d

/-- A run's trigger stands (R420): at a COLD reset or on leaving MOORED, by temperature, or requested; a run waits in HOVE (R381). -/
def Dev.trimDue (d : Dev) : TrimTrigger → Bool
  | .powerUp => d.pw.state == .boot && d.pw.cause != 3 && d.pw.cause != 5 && bit (d.val 0x900001) 0
  | .temperature => d.up && d.trimMoved
  | .request => d.up && d.trim.due

/-- TRIM_RUN_START: RCAL is measured; outside 1,980 to 2,020 Ω the run is abandoned and every item uses its fuse value (R418, R420). -/
def Dev.trimRunStart (d : Dev) (t : TrimTrigger) (rcal : Nat) : Dev :=
  if d.trim.run.isSome || !d.trimDue t then d
  else if 1980000 ≤ rcal ∧ rcal ≤ 2020000 then
    { d with trim := { d.trim with
        rcal := 1, due := false, run := some { point := d.th.tj, startAt := d.now, powerUp := decide (t = .powerUp), next := d.now, done := [] } } }
  else
    ({ d with trim := { d.trim with rcal := 2, due := false, codes := [] } }.bump 0x900006).event 0x0D06 0xFFFF
      (2 * 2 ^ 56 + 0xFF * 2 ^ 48 + d.th.tj.toNat * 2 ^ 16)

/-- TRIM_RUN_START. -/
def execTrimRunStart (t : TrimTrigger) (rcalMilliohm : Nat) (s : State) : Host.Outcome State Fault Refusal :=
  runOn s (fun d => d.trimRunStart t rcalMilliohm)

/-- The DRAM PHY groups below g have been measured. -/
def TrimRun.groupsDone (r : TrimRun) (g : Nat) : Bool := (List.range g).all (fun i => r.has (32 + i))

/-- The next slot of the run begins no earlier than a time from now (R422). -/
def Dev.spaceSlots (d : Dev) (us : Nat) : Dev :=
  { d with trim := { d.trim with run := d.trim.run.map (fun (r : TrimRun) => { r with next := d.now + us }) } }

/-- A step of a channel's retrain holds it now: the time between two steps is over (R331, log entry 96). -/
def Dev.retrainHolds (d : Dev) : Bool := d.dram.chans.any (fun (x : Nat × Channel) => x.2.step != 0 && decide (x.2.rest ≤ d.now))

/-- DRAM_PHY_TRIM_SLOT: the next group in order, after the regulators and 20 ms after the last group, not during a retrain step or rate
switch (R422). -/
def Dev.dramTrimSlot (d : Dev) (g : Nat) (a : List TrimAttempt) : Dev :=
  match d.trim.run with
  | some r =>
    if d.up && !r.powerUp && r.has 36 && r.groupsDone g && decide (r.next ≤ d.now) && !d.retrainHolds then
      (d.trimItem (32 + g) a).spaceSlots (if g = 3 then 0 else 20000)
    else d
  | none => d

/-- DRAM_PHY_TRIM_SLOT. -/
def execDramPhyTrimSlot (g : BitVec 2) (a : List TrimAttempt) (s : State) : Host.Outcome State Fault Refusal :=
  runOn s (fun d => d.dramTrimSlot g.toNat a)

/-- The mast's turn in a run in service: the DRAM groups are done, and every lower mast in service, 1 ms ago (R422). -/
def Dev.mastTurn (d : Dev) (r : TrimRun) (m : MastId) : Bool :=
  d.up && !r.powerUp && r.groupsDone 4 && decide (r.next ≤ d.now) && (d.mast m).state == .service && !r.has m.toNat &&
    (List.range m.toNat).all (fun i => r.has i || (d.mast (BitVec.ofNat 5 i)).state != .service)

/-- MAST_TRIM_SLOT: admissions are withheld; once no packet of the mast is outstanding it trims, and resumes (R18, R422). -/
def Dev.mastTrimSlot (d : Dev) (m : MastId) (a : List TrimAttempt) : Dev :=
  match d.trim.run with
  | some r =>
    if !d.mastTurn r m then d
    else if d.push.plots.any (fun (p : Plot) => p.mast == m && (p.pkt != .waiting || p.retry)) || (sailsOf m).any (fun s => (d.sail s).out.isSome) then
      d.setMast m { d.mast m with withhold := true }
    else ((d.setMast m { d.mast m with withhold := false }).trimItem m.toNat a).spaceSlots 1000
  | none => d

/-- MAST_TRIM_SLOT. -/
def execMastTrimSlot (m : MastId) (a : List TrimAttempt) (s : State) : Host.Outcome State Fault Refusal :=
  runOn s (fun d => d.mastTrimSlot m a)

/-- Where a new set goes: over a set within TRIM_DELTA ÷ 2, else added, else over the nearest (R423). -/
def placeSet (sets : List TrimSet) (point : Int) (delta : Int) : Nat :=
  let dist := fun (i : Nat) => match sets[i]? with | some s => (s.point.toInt - point).natAbs | none => 0
  let near := (List.range sets.length).foldl (fun b i => if dist i < dist b then i else b) 0
  if !sets.isEmpty && decide (2 * (dist near : Int) ≤ delta) then near else if sets.length < 8 then sets.length else near

/-- A finished run forms a set, stores it under its number, the lowest free one where it is added, and raises EV_TRIM_DONE; a trigger that
arrived meanwhile is satisfied (R420, R423, R425, R429). -/
def Dev.trimDone (d : Dev) (r : TrimRun) : Dev :=
  let codes := (List.range 37).map (fun i => (r.done.find? (fun x => x.1 == i)).bind (·.2))
  let k := placeSet d.trim.sets r.point.toInt (sext 16 (d.val 0x900002))
  let n := match d.trim.sets[k]? with
    | some x => x.num
    | none => ((List.range 8).find? (fun i => d.trim.sets.all (fun x => x.num != i))).getD 0
  let d1 := { d with trim := { d.trim with
    sets := d.trim.sets.take k ++ [({ point := r.point, codes := codes, num := n } : TrimSet)] ++ d.trim.sets.drop (k + 1)
    lastTemp := r.point, run := none, due := false } }.bump 0x900005
  let d2 := d1.queueRecord (0xF100 + n) (leBytes 2 r.point.toNat ++ codes.map (fun c => c.getD 0xFF))
  d2.event 0x0D07 0xFFFF (r.point.toNat * 2 ^ 48 + n * 2 ^ 40 + r.done.countP (fun x => x.2.isNone) * 2 ^ 32 + min (d.now - r.startAt) 0xFFFFFFFF)

/-- Items that need no slot now: all of them in a power-up run; in service the regulators, and after the DRAM groups the masts not in service
(R421, R422). -/
def Dev.noSlot (d : Dev) (r : TrimRun) (i : Nat) : Bool :=
  i == 36 || (decide (i < 37) && (r.powerUp ||
    (r.groupsDone 4 && decide (i < 32) && (let x := d.mast (BitVec.ofNat 5 i); x.state != .service && x.state != .retrain && x.state != .rateChange))))

/-- TRIM_RUN_COMPLETE: the items that need no slot are measured, and with every item measured the run is complete (R419 to R423). -/
def Dev.trimRunComplete (d : Dev) (rest : List TrimItem) : Dev :=
  match d.trim.run with
  | some r =>
    let d1 := rest.foldl (fun (e : Dev) x => if d.noSlot r x.item.toNat then e.trimItem x.item.toNat x.attempts else e) d
    match d1.trim.run with
    | some r1 =>
      if (List.range 37).all (fun i => r1.has i || (decide (mastsOf d.fuses.md0512 ≤ i) && decide (i < 32))) then d1.trimDone r1 else d1
    | none => d1
  | none => d

/-- TRIM_RUN_COMPLETE. -/
def execTrimRunComplete (rest : List TrimItem) (s : State) : Host.Outcome State Fault Refusal :=
  runOn s (fun d => d.trimRunComplete rest)

/-- TRIM_INTERPOLATE: the codes follow the temperature; the regulators take theirs at once, a mast that serialises no packet a step, and
in boot, where nothing is in flight, all of them the whole change (R421, R424, log entry 80). -/
def Dev.trimInterpolate (d : Dev) : Dev :=
  if !d.up && d.pw.state != .boot then d
  else
    let d1 := { d with trim := { d.trim with codes := d.trimCodes } }
    let d2 := d1.setTrimNow 36 (d1.trimGoal 36)
    if d.up then d2.mastList.foldl (fun (e : Dev) (m : MastId) => if e.serialising m then e else e.trimStep m.toNat) d2
    else (d2.mastList.map (fun (m : MastId) => m.toNat) ++ (List.range 32).map (fun (c : Nat) => 64 + c)).foldl
      (fun (e : Dev) (k : Nat) => e.setTrimNow k (e.trimGoal k)) d2

/-- TRIM_INTERPOLATE. -/
def execTrimInterpolate (s : State) : Host.Outcome State Fault Refusal := runOn s (fun d => d.trimInterpolate)

end Sys2Proof.Machine
end

