-- ==== Sys2Proof/Machine/Faults.lean ====
section
/-! DEFINITION. Self-test (R458 to R464) and the test access port (R456, R457). -/

namespace Sys2Proof.Machine

/-! ### BIST (R458 to R463) -/

/-- BIST power of a partition in tenths of a watt (R451). -/
def bistPower (p : Nat) : Nat :=
  if p ≤ 7 then 84 else if p ≤ 11 then 48 else if p ≤ 15 then 36 else if p ≤ 23 then 38 else if p ≤ 27 then 12
  else [24, 16, 8, 14, 22, 10, 30, 36, 36, 18, 6, 6].getD (p - 28) 0

/-- The checks of a BIST request, in order: 0 or an error code (R458, R463). -/
def Dev.bistCheck (d : Dev) (p tests : Nat) : Nat :=
  if !(decide (p < 40) || p == 0xFF) || tests == 0 || decide (3 < tests) then 0x0B04
  else if d.fuses.lifeCycle = 4 ∨ (d.fuses.lifeCycle = 2 ∧ 27 < p) then 0x0F01
  else if p = 0xFF then 0
  else if (d.partn p).state ≠ .offline ∧ (d.partn p).state ≠ .fenced then 0x0F02
  else if 10 * d.val 0xC01001 < bistPower p then 0x0F03
  else 0

/-- Partitions under test. -/
def Dev.bistRunning (d : Dev) : List Nat := (List.range 40).filter (fun p => (d.partn p).running)

/-- One step of the 64-bit Galois register with polynomial x^64 + x^4 + x^3 + x + 1, of pattern generator and compactor (R459). -/
def galoisStep (x : U64) : U64 := (x <<< 1) ^^^ (if x.msb then 0x1B else 0)

/-- One step of the compactor: the chain outputs enter through the X-mask (R459). -/
def misrStep (x mask chains : U64) : U64 := galoisStep x ^^^ (chains &&& ~~~mask)

/-- The variant that runs: 0 field in DEPLOYED, else 1 full (R458). -/
def Dev.bistVariant (d : Dev) : Nat := if d.fuses.lifeCycle = 2 then 0 else 1

/-- The engine of a test that starts: the generator takes the partition's seed, for the patterns of the variant (R459). -/
def Dev.bistEngine (d : Dev) (p : Nat) : BistEngine :=
  { lfsr := SMap.get 1 d.fuses.bistSeed p, patterns := if d.bistVariant = 0 then 65536 else 1048576 }

/-- The first request starts when number, power and throttles allow, in recovery mode too (R461, R463). -/
def Dev.bistStart (d : Dev) : Dev :=
  match d.flt.queue with
  | p :: rest =>
    let run := d.bistRunning
    if (d.up || d.pw.fullRun.isSome || d.pw.state == .recovery) && decide (run.length < 4) && d.th.k == 0 && d.th.b == 0 &&
        decide ((run.map bistPower).foldl (· + ·) (bistPower p) ≤ 10 * d.val 0xC01001) then
      { d with flt := { d.flt with queue := rest, engines := SMap.ins d.flt.engines p (d.bistEngine p) } }.setPartn p
        { d.partn p with running := true }
    else d
  | [] => d

/-- BIST_START. -/
def execBistStart (s : State) : Host.Outcome State Fault Refusal := runOn s (fun d => d.bistStart)

/-- A partition's test is accepted: it reads BIST_RUNNING and waits its turn (R458). -/
def Dev.bistQueue (d : Dev) (p tests : Nat) : Dev :=
  let x := d.partn p
  let d1 := d.setPartn p { x with state := .bist, prev := x.state, tests := tests }
  { d1 with flt := { d1.flt with queue := d1.flt.queue ++ [p] } }

/-- An accepted BIST request; the full run is a COLD reset 10 ms after the response (R458, R463). -/
def Dev.bistAccept (d : Dev) (p tests : Nat) : Dev :=
  if p = 0xFF then { d with pw := { d.pw with request := some (.coldBist tests) } }
  else (d.bistQueue p tests).bistStart

/-- Logic BIST passes only where the signature that the compactor holds after the last pattern is the partition's fuse value for the variant; else
the data word is the low half of their difference (R459, R464). What the chains answer to the patterns is the environment's (log entry 115). -/
def Dev.logicVerdict (d : Dev) (p : Nat) (sig : U64) : Option U32 :=
  let x := sig ^^^ SMap.get 0 d.fuses.bistSig (2 * p + d.bistVariant)
  if x = 0 then none else some (x.setWidth 32)

/-- The failing test, 1 logic or 2 memory, of those run, with its data word (R464). -/
def Dev.bistVerdict (d : Dev) (p tests : Nat) (r : BistResult) : Option (Nat × U32) :=
  match (if bit tests 0 then d.logicVerdict p r.signature else none), (if bit tests 1 then r.memFail else none) with
  | some x, _ => some (1, x)
  | none, some x => some (2, x)
  | none, none => none

/-- A cluster or the threshers of a group that pass BIST are fenced no longer; those that fail it are fenced with cause 5 (R110, R172,
R175). -/
def Dev.bistFences (d : Dev) (p : Nat) (failed : Bool) : Dev :=
  if p ≤ 7 then
    let c : ClusterId := BitVec.ofNat 3 p
    let x := d.cluster c
    if !failed then d.setCluster c { x with cause := 0, done := false }
    else if x.cause = 0 then d.setCluster c { x with cause := 5, done := false, handedOn := 0, repeats := 0 }
    else d
  else if p ≤ 11 then
    ((List.range 4).map (fun i => BitVec.ofNat 4 (4 * (p - 8) + i))).foldl (fun (d : Dev) (t : ThresherId) =>
      if failed then d.fenceThresher t 5 else d.setThresher t { d.thresher t with fenced := false }) d
  else d

/-- The engine of a finished test stops, and a memory test leaves the partition's SRAMs zero-initialised: a cluster's view cache holds no line
(R460, log entry 115). -/
def Dev.bistEnd (d : Dev) (p tests : Nat) : Dev :=
  let d1 := { d with flt := { d.flt with engines := SMap.erase d.flt.engines p } }
  if bit tests 1 = true ∧ p ≤ 7 then d1.setCache (BitVec.ofNat 3 p) {} else d1

/-- BIST_COMPLETE: OFFLINE if every test passed, else FENCED with a class 15 fault; a full run returns what passed (R463, R464). -/
def Dev.bistComplete (d : Dev) (p : Nat) (r : BistResult) : Dev :=
  let x := d.partn p
  if !x.running then d
  else
    let variant := d.bistVariant
    let v := d.bistVerdict p x.tests r
    let st : PartState := if v.isSome then .fenced else if d.pw.fullRun.isSome then .inService else .offline
    let d1 := (((d.bistEnd p x.tests).setPartn p { x with state := st, last := if v.isSome then 2 else 1, running := false, tests := 0 }).bistFences p v.isSome).bump 0xC00007
    let (ft, w) : Nat × Nat := match v with | some (t, w) => (t, w.toNat) | none => (0, 0)
    let d2 := d1.event 0x0F01 p (x.tests * 2 ^ 56 + (if v.isSome then 2 else 1) * 2 ^ 48 + variant * 2 ^ 40 + ft * 2 ^ 32 + w)
    if v.isSome then (((d2.bump 0xC00008).partFenced p 2 15).logFault 15 p 0x0F02) else d2

/-- BIST_COMPLETE. -/
def execBistComplete (p : BitVec 6) (r : BistResult) (s : State) : Host.Outcome State Fault Refusal :=
  runOn s (fun d => d.bistComplete p.toNat r)

/-- Entry 0xC001: state in [31:24], last result in [23:16] (R374). -/
def Dev.partEntry (d : Dev) (p : Nat) : Nat :=
  (match (d.partn p).state with | .inService => 0 | .offline => 1 | .fenced => 2 | .bist => 3) * 2 ^ 24 + (d.partn p).last * 2 ^ 16

/-! ### The test access port (R456, R457) -/

/-- Low n bits of a number, least significant first. -/
def shiftBits : Nat → Nat → List Bool
  | 0, _ => []
  | n + 1, v => (v % 2 == 1) :: shiftBits n (v / 2)

/-- The instructions of the port. -/
inductive JtagInstr where
  | extest | idcode | sample | ledgerRaw | bistCtrl | returnAuth | bypass
  deriving DecidableEq, Repr

/-- Their codes in the 8-bit instruction register (R457). -/
def JtagInstr.code : JtagInstr → Byte
  | .extest => 0x00
  | .idcode => 0x01
  | .sample => 0x02
  | .ledgerRaw => 0x40
  | .bistCtrl => 0x41
  | .returnAuth => 0x42
  | .bypass => 0xFF

/-- The port shifts bits out; any instruction but EXTEST releases the pins. -/
def Dev.shiftOut (d : Dev) (bs : List Bool) : Dev := { d with flt := { d.flt with extest := false } }.send (.jtag bs)

/-- BYPASS selects the one-bit register, which captures 0. -/
def Dev.jtagBypass (d : Dev) : Dev := d.shiftOut [false]

/-- An instruction is loaded into the instruction register and acts; the port is held in reset without power and while a shutdown is latched
(R415, R457, R473). -/
def Dev.jtag (d : Dev) (i : JtagInstr) (f : Dev → Dev) : Dev :=
  if d.pw.state = .off ∨ d.pw.latched = true then d else f { d with flt := { d.flt with ir := i.code } }

/-- BYPASS. -/
def execBypass (s : State) : Host.Outcome State Fault Refusal := runAlways s (fun d => d.jtag .bypass Dev.jtagBypass)

/-- The identity code (R457). -/
def Dev.idcode (d : Dev) : Nat := 2 ^ 28 + (if d.fuses.md0512 then 0x0512 else 0x1024) * 2 ^ 12 + d.fuses.jtagMfr.toNat * 2 + 1

/-- IDCODE. -/
def execIdcode (s : State) : Host.Outcome State Fault Refusal :=
  runAlways s (fun d => d.jtag .idcode (fun d => d.shiftOut (shiftBits 32 d.idcode)))

/-- Boundary scan is refused while UNDERWAY with a mast in service (R261, R457). -/
def Dev.noScan (d : Dev) : Bool := d.up && d.push.masts.any (fun (x : Nat × Mast) => x.2.inService)

/-- The states of the pins that boundary scan captures: free values (log entry 3). -/
def Dev.scanPins (d : Dev) (n : Nat) : List Bool := (List.range n).map (fun i => bit (d.freeAt i).toNat 0)

/-- EXTEST: the boundary-scan register drives the pins. -/
def Dev.extestScan (d : Dev) (bits : List Bool) : Dev :=
  if d.noScan then d.jtagBypass
  else ({ d with flt := { d.flt with scan := bits, extest := true } }.send (.jtag (d.scanPins bits.length))).useFree

/-- EXTEST. -/
def execExtest (bits : List Bool) (s : State) : Host.Outcome State Fault Refusal :=
  runAlways s (fun d => d.jtag .extest (fun d => d.extestScan bits))

/-- SAMPLE/PRELOAD: the pins are sampled, the register is preloaded, and no pin is driven. -/
def Dev.sampleScan (d : Dev) (bits : List Bool) : Dev :=
  if d.noScan then d.jtagBypass else ({ d with flt := { d.flt with scan := bits } }.shiftOut (d.scanPins bits.length)).useFree

/-- SAMPLE_PRELOAD. -/
def execSamplePreload (bits : List Bool) (s : State) : Host.Outcome State Fault Refusal :=
  runAlways s (fun d => d.jtag .sample (fun d => d.sampleScan bits))

/-- The private instructions run in TEST, MANUFACTURE and RETURNED (R454). -/
def Dev.privateJtag (d : Dev) : Bool := d.fuses.lifeCycle == 0 || d.fuses.lifeCycle == 1 || d.fuses.lifeCycle == 3

/-- RETURN_AUTH, in DEPLOYED only: an authorisation by an unrevoked key blows the RETURNED fuse (R456). -/
def Dev.returnAuth (d : Dev) (key sig : List Byte) : Dev :=
  if d.fuses.lifeCycle ≠ 2 then d.jtagBypass
  else
    let ok := d.fuses.keyDigests.contains (Config.sha384 key) && Config.ecdsaP384 key sig (d.fuses.serial ++ [0x03])
    let d1 := { d with flt := { d.flt with authOk := ok }
                       fuses := { d.fuses with lifeNext := if ok then some 3 else d.fuses.lifeNext } }
    d1.shiftOut (shiftBits 32 (if ok then 1 else 0))

/-- RETURN_AUTH. -/
def execReturnAuth (key sig : List Byte) (s : State) : Host.Outcome State Fault Refusal :=
  runOn s (fun d => d.jtag .returnAuth (fun d => d.returnAuth key sig))

/-- Raw access with the password: a password not set grants it (R443). -/
def Dev.rawGrant (d : Dev) (part : Nat) (a : RawAccess) : Nat × Dev :=
  let g := if a.write then (d.digests part).1 else (d.digests part).2
  if g = List.replicate 48 0 ∧ d.pwLocked part = false then (0, d) else d.tryPassword part g a.password

/-- LEDGER_RAW: a record is read, or its write queued, with its partition's password (R443, R444, R457). -/
def Dev.ledgerRaw (d : Dev) (a : RawAccess) : Dev :=
  if !d.privateJtag then d.jtagBypass
  else
    match recPart a.record.toNat with
    | none => d.shiftOut []
    | some p =>
      let (code, d1) := d.rawGrant p a
      if code ≠ 0 ∨ (a.write = true ∧ 3824 < a.data.length) then d1.shiftOut []
      else if a.write then (d1.queueRecord a.record.toNat a.data).shiftOut []
      else d1.shiftOut (((d1.recordData a.record.toNat).getD []).flatMap (fun x => shiftBits 8 x.toNat))

/-- LEDGER_RAW. -/
def execLedgerRaw (a : RawAccess) (s : State) : Host.Outcome State Fault Refusal := runOn s (fun d => d.jtag .ledgerRaw (fun d => d.ledgerRaw a))

/-- BIST_CTRL: a request as entry 0xC000.06, or a read of entry 0xC001 (R457). -/
def Dev.bistCtrl (d : Dev) : BistCtrl → Dev
  | .request p tests =>
    if !d.privateJtag then d.jtagBypass
    else if d.bistCheck p.toNat tests.toNat = 0 then (d.bistAccept p.toNat tests.toNat).shiftOut []
    else d.shiftOut []
  | .read p => if !d.privateJtag then d.jtagBypass else d.shiftOut (shiftBits 32 (d.partEntry p.toNat))

/-- BIST_CTRL. -/
def execBistCtrl (r : BistCtrl) (s : State) : Host.Outcome State Fault Refusal := runOn s (fun d => d.jtag .bistCtrl (fun d => d.bistCtrl r))

end Sys2Proof.Machine
end

