-- ==== Sys2Proof/Machine/Operands.lean ====
section
/-! DEFINITION. Every operand form of a 64-byte command (R50): which bytes and bits each opcode defines, the first reserved
bit that is set (R7, R52), and the body of each opcode by the field offsets of its chapter. -/

namespace Sys2Proof.Machine

/-! ### Fields -/

/-- The byte at an offset of a command. -/
def byteOf (c : List Byte) (i : Nat) : Byte := c.getD i 0
/-- The u16 at an offset. -/
def u16Of (c : List Byte) (i : Nat) : U16 := BitVec.ofNat 16 (field c i 2)
/-- The u32 at an offset. -/
def u32Of (c : List Byte) (i : Nat) : U32 := BitVec.ofNat 32 (field c i 4)
/-- The u64 at an offset. -/
def u64Of (c : List Byte) (i : Nat) : U64 := BitVec.ofNat 64 (field c i 8)
/-- The handle and generation at two neighbouring u16 fields. -/
def refOf (c : List Byte) (i : Nat) : BufRef := { handle := u16Of c i, gen := u16Of c (i + 2) }
/-- A bit of the byte at an offset. -/
def flagOf (c : List Byte) (i n : Nat) : Bool := bit (byteOf c i).toNat n

/-- NOTIFY and the tag of the header (R50). -/
def cmdHdr (c : List Byte) : Hdr := { notify := flagOf c 1 0, tag := u16Of c 2 }

/-! ### Which bytes an opcode defines -/

/-- Bytes of the body that an opcode defines: ranges (first, count), and flag bytes with the mask of their defined bits; none for
an opcode that the table of R50 does not list. `n` is the count byte of SAIL_CFG_WRITE, whose words beyond it are reserved (R257). -/
def layout (op n : Nat) : Option (List (Nat × Nat) × List (Nat × Nat)) :=
  match op with
  | 0x01 => some ([], [])
  | 0x02 => some ([(8, 9), (20, 4)], [(17, 1)])
  | 0x03 => some ([(8, 4)], [])
  | 0x04 => some ([(8, 6), (16, 16)], [])
  | 0x08 => some ([(8, 2), (12, 4), (16, 8)], [(10, 15)])
  | 0x09 => some ([(8, 2), (12, 12)], [])
  | 0x0A => some ([(8, 2), (16, 8)], [])
  | 0x10 => some ([(8, 4), (16, 20)], [])
  | 0x11 => some ([(8, 4), (16, 20)], [])
  | 0x20 => some ([(8, 1), (10, 4), (16, 13), (30, 18)], [(9, 1)])
  | 0x21 => some ([(8, 6)], [])
  | 0x28 => some ([(8, 16)], [])
  | 0x30 => some ([(8, 24)], [(32, 1)])
  | 0x40 => some ([(8, 48)], [])
  | 0x41 => some ([(8, 1), (10, 1), (12, 2)], [(9, 1)])
  | 0x42 => some ([(8, 1), (10, 4), (16, 8)], [])
  | 0x50 => some ([(8, 32), (54, 2)], [(52, 15)])
  | 0x51 => some ([(8, 44), (54, 2)], [(52, 15)])
  | 0x52 => some ([(8, 44), (54, 2)], [(52, 15)])
  | 0x53 => some ([(8, 44), (54, 10)], [(52, 15)])
  | 0x54 => some ([(8, 32)], [(52, 15)])
  | 0x55 => some ([(8, 32)], [(40, 15)])
  | 0x60 => some ([(8, 12), (21, 1), (24, 4)], [(20, 7), (22, 1)])
  | 0x61 => some ([(8, 11), (20, 16)], [(19, 1)])
  | 0x70 => some ([(8, 4), (16, 4 * min n 12)], [])
  | 0x71 => some ([(8, 8), (16, 8)], [])
  | _ => none

/-- The defined bits of a byte of a command: the header (R50), then the body. -/
def definedBits (l : List (Nat × Nat) × List (Nat × Nat)) (i : Nat) : Nat :=
  if i = 0 ∨ i = 2 ∨ i = 3 then 255
  else if i = 1 then 1
  else if l.1.any (fun r => decide (r.1 ≤ i) && decide (i < r.1 + r.2)) then 255
  else ((l.2.find? (fun f => f.1 == i)).map (·.2)).getD 0

/-- The lowest byte that holds a nonzero reserved bit (R52). -/
def firstReserved (l : List (Nat × Nat) × List (Nat × Nat)) (c : List Byte) : Option Nat :=
  (List.range 64).find? (fun i => Nat.land (byteOf c i).toNat (255 - definedBits l i) != 0)

/-! ### Bodies -/

/-- ALLOC (R53). -/
def allocOf (c : List Byte) : AllocBody :=
  { size := u64Of c 8, fmt := byteOf c 16, ecc := flagOf c 17 0, pitch := u32Of c 20 }

/-- QUERY (R56). -/
def queryOf (c : List Byte) : QueryBody :=
  { kind := byteOf c 8, loc := byteOf c 9, ref := refOf c 10, dest := u64Of c 16, first := u32Of c 24, count := u32Of c 28 }

/-- FENCE (R59). -/
def fenceOf (c : List Byte) : FenceBody :=
  { slot := u16Of c 8, noBarrier := flagOf c 10 0, drainPush := flagOf c 10 1, event := flagOf c 10 2, ignoreErrors := flagOf c 10 3,
    ref := refOf c 12, value := u64Of c 16 }

/-- WAIT and TACK_HOLD (R62, R63). -/
def waitOf (c : List Byte) : WaitBody := { slot := u16Of c 8, timeout := u32Of c 12, value := u64Of c 16 }

/-- DMA_IN and DMA_OUT (R57). -/
def dmaOf (c : List Byte) : DmaBody := { ref := refOf c 8, offset := u64Of c 16, host := u64Of c 24, len := u32Of c 32 }

/-- DECODE (R94). -/
def decodeOf (c : List Byte) : DecodeBody :=
  { feed := byteOf c 8, viewTarget := flagOf c 9 0, src := refOf c 10, srcOff := u64Of c 16, dst := refOf c 24, viewSet := byteOf c 28,
    firstView := u16Of c 30, dstOff := u64Of c 32, cap := u64Of c 40 }

/-- FEED_RESET (R90). -/
def feedResetOf (c : List Byte) : FeedResetBody := { feed := byteOf c 8, action := byteOf c 9, save := refOf c 10 }

/-- VIEWSET_DEFINE (R118). -/
def viewSetBodyOf (c : List Byte) : ViewSetBody :=
  { slot := byteOf c 8, action := byteOf c 9, ref := refOf c 10, fmt := byteOf c 14, curve := byteOf c 15, count := u16Of c 16,
    width := u16Of c 18, height := u16Of c 20, peak := u16Of c 22 }

/-- LENS_SET (R143). -/
def lensSetOf (c : List Byte) : LensSetBody :=
  { first := u16Of c 8, count := u16Of c 10, ref := refOf c 12, offset := u64Of c 16, stride := u64Of c 24, none := flagOf c 32 0 }

/-- LAYER_SET (R177). -/
def layerOf (c : List Byte) : LayerBody :=
  { layer := byteOf c 8, action := byteOf c 9, ref := refOf c 10, fmt := byteOf c 14, curve := byteOf c 15,
    srcX := u16Of c 16, srcY := u16Of c 18, srcW := u16Of c 20, srcH := u16Of c 22,
    dstX := u32Of c 24, dstY := u32Of c 28, dstW := u32Of c 32, dstH := u32Of c 36, dispX := u32Of c 40, dispY := u32Of c 44,
    cenU := u16Of c 48, cenV := u16Of c 50, blend := byteOf c 52, decim := byteOf c 53, peak := u16Of c 54 }

/-- COMMIT (R187). -/
def commitOf (c : List Byte) : CommitBody :=
  { policy := byteOf c 8, chase := flagOf c 9 0, chaseQueue := byteOf c 10, chaseTag := u16Of c 12 }

/-- LUT_LOAD (R185). -/
def lutOf (c : List Byte) : LutBody := { lut := byteOf c 8, ref := refOf c 10, offset := u64Of c 16 }

/-- A drawing command (R282): FILL and LINE hold the value where the others hold the source. -/
def blitOf (hasSrc : Bool) (c : List Byte) : BlitBody :=
  { dst := refOf c 8, dstPitch := u32Of c 12, dstOff := u64Of c 16, x0 := u16Of c 24, y0 := u16Of c 26, x1 := u16Of c 28, y1 := u16Of c 30,
    value := if hasSrc then 0 else u64Of c 32, src := if hasSrc then refOf c 32 else ⟨0, 0⟩,
    srcPitch := if hasSrc then u32Of c 36 else 0, srcOff := u64Of c 40, srcX := u16Of c 48, srcY := u16Of c 50,
    xdir := flagOf c 52 0, ydir := flagOf c 52 1, clip := flagOf c 52 2, wm := flagOf c 52 3, wmRow := u16Of c 54,
    patW := u16Of c 56, patH := u16Of c 58, phX := u16Of c 60, phY := u16Of c 62 }

/-- A rectangle of CLIP_SET. -/
def rectOf (c : List Byte) (i : Nat) : Rect := { x := u16Of c i, y := u16Of c (i + 2), w := u16Of c (i + 4), h := u16Of c (i + 6) }

/-- CLIP_SET (R287). -/
def clipOf (c : List Byte) : ClipBody :=
  { r0 := rectOf c 8, r1 := rectOf c 16, r2 := rectOf c 24, r3 := rectOf c 32, enable := (byteOf c 40).setWidth 4 }

/-- PROOF_SET (R297). -/
def proofOf (c : List Byte) : ProofBody :=
  { window := byteOf c 8, action := byteOf c 9, sail := u16Of c 10, x := u16Of c 12, y := u16Of c 14, w := u16Of c 16, h := u16Of c 18,
    mask := (byteOf c 20).setWidth 3, mode := byteOf c 21, autoRepush := flagOf c 22 0, expected := u32Of c 24 }

/-- READBACK (R306). -/
def readbackOf (c : List Byte) : ReadbackBody :=
  { sail := u16Of c 8, x := u16Of c 10, y := u16Of c 12, w := u16Of c 14, h := u16Of c 16, fmt := byteOf c 18, encode := flagOf c 19 0,
    ref := refOf c 20, offset := u64Of c 24, pitch := u32Of c 32 }

/-- SAIL_CFG_WRITE (R257). -/
def cfgWriteOf (c : List Byte) : CfgWriteBody :=
  { sail := u16Of c 8, addr := byteOf c 10, count := byteOf c 11,
    data := (List.range (min (byteOf c 11).toNat 12)).map (fun i => u32Of c (16 + 4 * i)) }

/-- SAIL_CFG_READ (R257). -/
def cfgReadOf (c : List Byte) : CfgReadBody :=
  { sail := u16Of c 8, addr := byteOf c 10, count := byteOf c 11, ref := refOf c 12, offset := u64Of c 16 }

end Sys2Proof.Machine
end

