-- ==== Sys2Proof/Machine/Dict.lean ====
section
/-! DEFINITION. The values of the object dictionary's entries as a READ returns them (R339 to R342, R363 to R375), and the range
that each entry's row sets on a written value. -/

namespace Sys2Proof.Machine

/-- Bits below n that a test picks, as a mask. -/
def maskOf (n : Nat) (p : Nat → Bool) : Nat := (List.range n).foldl (fun (m : Nat) i => if p i then m + 2 ^ i else m) 0

/-! ### Read-only values (R363 to R375) -/

/-- Identity, communication, claims, privilege: indices below 0x2000 (R362, R368). -/
def Dev.roIdentity (d : Dev) (lvl key : Nat) : Nat :=
  if key = 0x100004 then d.fw.version.toNat
  else if key = 0x100005 then d.fuses.bootRom.toNat
  else if key = 0x10000A then (d.now - d.pw.coldAt) / 1000000
  else if key = 0x11000B then d.fuses.mac.toNat
  else if key = 0x140002 then d.dict.claims.length
  else if key / 256 = 0x1401 then
    match d.dict.claims[key % 256]? with
    | some c => c.group / 256 * 2 ^ 48 + c.master * 2 ^ 40 + (c.until_ - d.now) / 1000
    | none => 0
  else if key = 0x180002 then lvl
  else if key = 0x180007 then d.dict.locks.length
  else d.val key

/-- Feed state, resident thresher and expected sequence (R114). -/
def Dev.feedEntry (d : Dev) (f : FeedId) : Nat :=
  let x := d.feed f
  (match x.state with | .absent => 0 | .empty => 1 | .ready => 2 | .faulted => 3) * 2 ^ 56 +
    (match d.residentOn f with | some t => t.toNat | none => 0xFF) * 2 ^ 48 + x.ctx.seq.toNat

/-- State of a view-set slot (R139). -/
def Dev.slotEntry (d : Dev) (n : Nat) : Nat :=
  match (d.vslot n).dfn with
  | none => 0
  | some v => (if d.activeSlot = some n then 2 else 1) * 2 ^ 56 + v.fmt * 2 ^ 48 + v.curve * 2 ^ 40 + v.count * 2 ^ 24 +
      (v.width / 64 - 1) * 2 ^ 8 + (v.height / 64 - 1)

/-- A layer's state, with the largest W over its sails (R183, R193). -/
def Dev.layerEntry (d : Dev) (n : Nat) : Nat :=
  match SMap.get none d.comp.ap.layers n with
  | none => 0
  | some b => 2 ^ 56 + b.blend.toNat * 2 ^ 48 + b.ref.gen.toNat * 2 ^ 32 + b.ref.handle.toNat * 2 ^ 16 +
      (widest (layerWidths d.comp.ap b)).1 % 2 ^ 16

/-- Panel, link-wide settings, commits, threshers, view sets, lens maps, clusters, layers, blits: 0x2000 to 0x21FF. -/
def Dev.roPanel (d : Dev) (key : Nat) : Nat :=
  let sub := key % 256
  if key = 0x200006 then d.tack.openSeq.toNat
  else if key = 0x200007 then d.tack.retired.toNat
  else if key = 0x200008 then d.tack.act.isSome.toNat
  else if key = 0x20000D then d.dirtyOpen
  else if key = 0x200011 then d.tack.timeLast
  else if key = 0x201002 then d.push.sails.countP (fun (x : Nat × Sail) => x.2.reach == .unresponsive)
  else if key = 0x210001 then d.comp.pend.length
  else if key = 0x210007 then d.comp.rejCode
  else if key = 0x210008 then d.comp.rejData
  else if key = 0x211002 then maskOf 16 (fun t => d.thresherUp (BitVec.ofNat 4 t))
  else if key = 0x211003 then maskOf 16 (fun t => (d.thresher (BitVec.ofNat 4 t)).fenced)
  else if key = 0x211008 then d.intake.lastFault
  else if key / 256 = 0x2111 then d.feedEntry (BitVec.ofNat 8 sub)
  else if key = 0x212002 then
    if d.intake.dropSelect && d.tack.act.isSome then d.tval 0x212001 else d.activeSlot.getD 0xFF
  else if key / 256 = 0x2121 then d.slotEntry sub
  else if key = 0x213001 then (d.lensSails.filter (fun s => d.mapped s)).length
  else if key = 0x214002 then maskOf 8 (fun c => d.clusterUp (BitVec.ofNat 3 c))
  else if key = 0x214003 then maskOf 8 (fun c => (d.cluster (BitVec.ofNat 3 c)).cause != 0)
  else if key = 0x21400B then d.push.lastFence
  else if key / 256 = 0x2141 then
    min (d.cluster (BitVec.ofNat 3 sub)).computed 0xFFFFFFFF * 2 ^ 32 +
      min ((SMap.get ({} : VCache) d.dram.caches (sub % 8)).fetched / 1024) 0xFFFFFFFF
  else if key / 256 = 0x2150 then d.layerEntry sub
  else if key = 0x216005 then d.draws.accepted.length
  else d.val key

/-- Code of the queue owner (entry 0x2300.01). -/
def Dev.ownerCode (d : Dev) : Nat :=
  match d.host.owner with
  | none => 0
  | some .pcie => 1
  | some .usb3 => 2
  | some .usb2 => 3

/-- Link mode (entry 0x2300.02): the USB4 link, read as its USB3 tunnel where the tunnelled function owns the queues (log entry 10),
else native USB 3.2, else USB 2.0. -/
def Dev.linkMode (d : Dev) : Nat :=
  if d.link.usb4 ≠ 0 then (if d.link.ss = 12 ∧ d.host.owner = some Path.usb3 then 12 else d.link.usb4)
  else if d.link.ss ≠ 0 then d.link.ss
  else if d.link.hs then 13 else 0

/-- Memory, host port, power: 0x2200 to 0x24FF. -/
def Dev.roMemory (d : Dev) (key : Nat) : Nat :=
  let sub := key % 256
  if key = 0x220003 then d.dram.rate
  else if key = 0x220009 then maskOf 32 (fun c => d.chanUp (BitVec.ofNat 5 c))
  else if key = 0x22000A then (if d.dram.up then d.capacity else 0)
  else if key = 0x22000B then (match d.dram.lost with | some c => c.toNat | none => 0xFF)
  else if key = 0x22000C then d.dram.map
  else if key = 0x22000D then d.dram.band
  else if key = 0x22000E then d.dram.tempMax.toNat
  else if key = 0x22000F then d.dram.trainLast
  else if key / 256 = 0x2201 then
    let c := d.chan sub
    c.corrected * 2 ^ 48 + c.uncorrectable * 2 ^ 32 + min c.retrains 0xFFFF * 2 ^ 16 + min (c.tracks / 256) 0xFFFF
  else if key = 0x230001 then d.ownerCode
  else if key = 0x230002 then d.linkMode
  else if key = 0x240004 then d.pw.lastWake
  else if key = 0x240007 then d.pw.cause
  else d.val key

/-- State code of a mast (R261). -/
def MastState.code : MastState → Nat
  | .down => 0
  | .enumerate => 1
  | .equalise => 2
  | .verify => 3
  | .service => 4
  | .retrain => 5
  | .rateChange => 6
  | .failed => 7

/-- The per-mast block (R220, R260, R278); k is (index − base) × 256 + sub-index. -/
def Dev.roMast (d : Dev) (m : MastId) (k : Nat) : Nat :=
  let x := d.mast m
  if k = 0x10 then (sailsOf m).foldl (fun (n : Nat) (s : SailId) => n + popcount (d.sail s).sealedMap) 0
  else if k = 0x12 then d.fill m
  else if k = 0x13 then d.occupancy m
  else if k = 0x201 then x.state.code
  else if k = 0x205 then (if x.inService then 8 * (x.rate + 1) else 0)
  else if k = 0x206 then x.lanes.toNat
  else if k = 0x207 then (sailsOf m).countP (fun s => (d.sail s).reach == .service || (d.sail s).reach == .unresponsive)
  else if k = 0x208 then x.enumerated
  else if k = 0x20B then x.lastTrain
  else if 0x220 ≤ k ∧ k ≤ 0x23F then (SMap.get 0 x.hops (k - 0x220)).toNat
  else d.val (mastKey m k)

/-- PUSH_STATE: NO_MAP, its default, then UNRESPONSIVE, UNREACHABLE and MAST_DISABLED where several hold (R200, R220, R364; DESIGN CHOICE, log
entry 23). -/
def Dev.pushState (d : Dev) (s : SailId) : Nat :=
  if !d.mapped s then 0
  else if (d.sail s).reach = .unresponsive then 2
  else if (d.sail s).reach ≠ .service ∨ (d.mast (mastOf s)).inService = false then 3
  else if !d.mastEnabled (mastOf s) then 4 else 1

/-- Tacks since the oldest dirty plot of a sail was marked (R220). -/
def Dev.oldestAge (d : Dev) (s : SailId) : Nat :=
  (d.sail s).rowSeq.foldl (fun (n : Nat) (x : Nat × Option U32) =>
    match x.2 with
    | some q => if rowBitsOf (d.sail s).dirty x.1 = 0 then n else max n (d.openTack - q).toNat
    | none => n) 0

/-- State of a sail's lens map (R160): NONE, APPLIED, MISMATCH. -/
def Dev.lensState (d : Dev) (s : SailId) : Nat := if (d.lensOf s).isNone then 0 else if (d.sail s).mismatch then 2 else 1

/-- A shadow written by LENS_SET awaits application (R160). -/
def Dev.lensPending (d : Dev) (s : SailId) : Bool :=
  (d.comp.shadow ++ d.comp.held ++ d.comp.pend.flatMap (·.items)).any (fun i => i.key == (0, s.toNat))

/-- The per-sail block (R160, R220, R260). -/
def Dev.roSail (d : Dev) (s : SailId) (k : Nat) : Nat :=
  let x := d.sail s
  let l := d.lensOf s
  if 1 ≤ k ∧ k ≤ 4 then (x.words.getD (k - 1) 0).toNat
  else if k = 5 then x.credits
  else if k = 6 then x.status.toNat
  else if k = 7 then x.temp.toNat
  else if k = 8 then x.ackNs
  else if k = 0x102 then x.tacked.toNat
  else if k = 0x103 then d.pushState s
  else if k = 0x104 then popcount x.dirty
  else if k = 0x105 then d.oldestAge s
  else if k = 0x301 then d.lensState s
  else if k = 0x302 then (d.lensPending s).toNat
  else if k = 0x303 then (l.map (fun l => l.ref.gen.toNat * 65536 + l.ref.handle.toNat)).getD 0
  else if k = 0x304 then (l.map (·.offset)).getD 0
  else if k = 0x305 then (l.map (fun l => l.wrap.toNat * 4 + l.xtalk.toNat * 2 + l.integral.toNat)).getD 0
  else d.val (sailKey s k)

/-- Highest erase count of any sector of the ledger (R434, R438). -/
def Dev.eraseMax (d : Dev) : Nat :=
  d.ledger.rings.foldl (fun (n : Nat) (x : Nat × Ring) => max n (max x.2.erases x.2.worn))
    (d.ledger.sectors.foldl (fun (n : Nat) (x : Nat × Sector) => max n x.2.erases) 0)

/-- Thermal, trim, ledger: 0x8000 to 0xAFFF (R370 to R372). -/
def Dev.roThermal (d : Dev) (key : Nat) : Nat :=
  let sub := key % 256
  if key = 0x800001 then d.th.tj.toNat
  else if key = 0x800007 then d.th.clsNow
  else if key = 0x800008 then d.th.k
  else if key = 0x800009 then maskOf 24 (fun n => (d.sensor n).excluded)
  else if key = 0x80000B then d.th.peak.toNat
  else if key / 256 = 0x8001 then (d.sensor sub).raw.toNat
  else if key = 0x900003 then d.trim.sets.length
  else if key = 0x900004 then d.trim.lastTemp.toNat
  else if key = 0x900008 then d.trim.rcal
  else if key / 256 = 0x9001 then (match d.trim.sets.find? (fun x => x.num == sub) with | some t => t.point.toNat | none => 0x8000)
  else if key = 0xA00001 then d.ledgerFree
  else if key = 0xA00002 then min d.ledger.queue.length 0xFFFF
  else if key = 0xA00005 then d.ledger.scan
  else if key = 0xA00006 then d.eraseMax
  else if key = 0xA00007 then maskOf 7 (fun n => d.pwLocked n)
  else d.val key

/-- The logs: 0xB000 to 0xBFFF (R41, R338, R361, R373). -/
def Dev.roLogs (d : Dev) (key : Nat) : Nat :=
  let sub := key % 256
  if key = 0xB01002 then d.host.violSource
  else if key = 0xB01003 then d.host.violAddr
  else if key = 0xB01004 then d.host.violHandle
  else if key = 0xB01005 then d.host.violTack.toNat
  else if key = 0xB01202 then d.memlog.bSource
  else if key = 0xB01203 then d.memlog.bHandle
  else if key = 0xB01204 then d.memlog.bOffset
  else if key = 0xB01205 then d.memlog.bTack.toNat
  else if key = 0xB01301 then d.memlog.uAddr
  else if key = 0xB01302 then d.memlog.uChan
  else if key = 0xB01303 then d.memlog.uSource
  else if key = 0xB01304 then d.memlog.uTack.toNat
  else if key = 0xB02002 then d.dict.confNext
  else if key / 256 = 0xB020 ∧ 0x10 ≤ sub then SMap.get 0 d.dict.conf sub
  else if key = 0xB02102 then d.dict.lastStatus
  else if key = 0xB02103 then d.dict.lastEntry
  else if key = 0xB02104 then d.dict.lastMaster
  else if key = 0xB02105 then d.dict.lastTack.toNat
  else if key = 0xB03002 then d.flt.next
  else if key / 256 = 0xB030 ∧ 0x10 ≤ sub then SMap.get 0 d.flt.recs sub
  else d.val key

/-- Configuration of a proof window in force (R311). -/
def Dev.winEntry (d : Dev) (n : Nat) : Nat :=
  match SMap.get none d.comp.ap.wins n with
  | none => 0
  | some b => (b.mode.toNat + 1) * 2 ^ 56 + b.mask.toNat * 2 ^ 53 + b.autoRepush.toNat * 2 ^ 52 + b.sail.toNat % 1024 * 2 ^ 32 + b.expected.toNat

/-- Life cycle, partitions, firmware, proof windows, counters: from 0xC000 (R311, R374, R375). -/
def Dev.roService (d : Dev) (key : Nat) : Nat :=
  let sub := key % 256
  if key = 0xC00001 then d.fuses.lifeCycle
  else if key / 256 = 0xC001 then d.partEntry sub
  else if key = 0xC02001 then d.fw.active
  else if key = 0xC02003 then d.slotVersion 0
  else if key = 0xC02004 then d.slotVersion 1
  else if key = 0xC02005 then d.fw.state
  else if key = 0xD00001 then maskOf 64 (fun w => (SMap.get none d.comp.ap.wins w).isSome)
  else if key / 256 = 0xD001 then d.winEntry sub
  else if key / 256 = 0xD002 then (d.win sub).crc.toNat * 2 ^ 32 + (d.win sub).tack.toNat
  else if key / 256 = 0xD003 then (d.win sub).status * 2 ^ 24 + (d.win sub).mism * 2 ^ 16
  else if key / 256 = 0xE000 then d.ringValue (sub - 1)
  else d.val key

/-- Value of an entry without attribute T, for a client of a privilege. -/
def Dev.entryVal (d : Dev) (lvl key : Nat) : Nat :=
  let idx := key / 256
  if idx < 0x2000 then d.roIdentity lvl key
  else if idx < 0x2200 then d.roPanel key
  else if idx < 0x3000 then d.roMemory key
  else if idx < 0x4000 then d.roMast (BitVec.ofNat 5 ((idx - 0x3000) / 0x40)) (idx % 0x40 * 256 + key % 256)
  else if idx < 0x8000 then d.roSail (BitVec.ofNat 10 ((idx - 0x4000) / 0x10)) (idx % 0x10 * 256 + key % 256)
  else if idx < 0xB000 then d.roThermal key
  else if idx < 0xC000 then d.roLogs key
  else d.roService key

/-! ### Reading (R340, R341) -/

/-- A selection that a commit or a shadow holds after a MAST reset (R391). -/
def Dev.selectSet (d : Dev) : Bool :=
  (d.comp.shadow ++ d.comp.held ++ d.comp.pend.flatMap (·.items)).any (fun i => i.key == (4, 0x212001))

/-- Shadowed value of a T entry; after a MAST reset the selection reads none once the tack that was pushing has retired (R341, R364). -/
def Dev.readShadow (d : Dev) (key : Nat) : Nat :=
  if key = 0x212001 ∧ d.intake.dropSelect = true ∧ d.selectSet = false then
    (if d.tack.act.isSome then d.tval key else 0xFF)
  else d.shadowVal key

/-- Applied value of a T entry, likewise. -/
def Dev.readApplied (d : Dev) (key : Nat) : Nat :=
  if key = 0x212001 ∧ d.intake.dropSelect = true ∧ d.tack.act.isNone = true then 0xFF else d.tval key

/-- ASCII bytes of a string. -/
def ascii (s : String) : List Byte := s.toList.map (fun c => BitVec.ofNat 8 c.toNat)

/-- The number that a READ of an entry carries. -/
def Dev.readNat (d : Dev) (e : Entry) (lvl key : Nat) (applied : Bool) : Nat :=
  if e.t then (if applied then d.readApplied key else d.readShadow key) else d.entryVal lvl key

/-- The bytes that a READ returns (R340, R368). -/
def Dev.readBytes (d : Dev) (e : Entry) (lvl key : Nat) (applied : Bool) : List Byte :=
  if key = 0x100002 then ascii (if d.fuses.md0512 then "Burlan MD0512" else "Burlan MD1024")
  else if key = 0x100009 then d.fuses.serial
  else leBytes (typeSize e.ty) (d.readNat e lvl key applied)

/-- The shadow differs from the applied value: the PENDING flag (R341). -/
def Dev.readPending (d : Dev) (e : Entry) (key : Nat) : Bool := e.t && d.readShadow key != d.readApplied key

/-! ### Ranges of written values (R348 step 8) -/

/-- Lowest and highest value of an entry whose row states a plain range; k is the offset in a per-mast or per-sail block. -/
def rangeOf (key : Nat) : Option (Nat × Nat) :=
  let idx := key / 256
  let k := if 0x3000 ≤ idx ∧ idx < 0x3800 then idx % 0x40 * 256 + key % 256
    else if 0x4000 ≤ idx ∧ idx < 0x8000 then idx % 0x10 * 256 + key % 256 else 0
  if 0x3000 ≤ idx ∧ idx < 0x3800 then (if k = 0x20D then some (10, 60000) else if k = 0x20C then some (1, 2) else none)
  else if 0x4000 ≤ idx ∧ idx < 0x8000 then
    (if k = 0x101 then some (0, 1) else if k = 0x107 then some (1, 1) else if k = 0x404 then some (0, 7) else none)
  else (([(0x110001, 1, 254), (0x110008, 1, 65535), (0x11000A, 1, 255), (0x180003, 1, 1), (0x180004, 10, 3600), (0x200005, 1, 60000),
      (0x200009, 0, 1), (0x20000E, 0, 3), (0x200010, 0, 2), (0x201001, 1, 1000), (0x210004, 1, 10000), (0x211001, 1, 65535),
      (0x214001, 1, 255), (0x214004, 0, 1), (0x220001, 0, 2), (0x230003, 1, 7), (0x230004, 32, 38)] ++
    [(0x900001, 0, 3), (0x900007, 1, 1), (0xA00008, 1, 1), (0xC00003, 1, 2), (0xC01001, 20, 78), (0xC02006, 1, 1), (0xD00005, 0, 15)]).find?
      (fun (x : Nat × Nat × Nat) => x.1 == key)).map (fun (x : Nat × Nat × Nat) => x.2)

/-- The four bytes of PRECEDENCE are a permutation of 1 to 4 (R362). -/
def isPrecedence (v : Nat) : Bool := [1, 2, 3, 4].all (fun m => (leBytes 4 v).contains (BitVec.ofNat 8 m))

/-- The value lies in a signed range. -/
def inTemp (v : Nat) (lo hi : Int) : Bool := decide (lo ≤ sext 16 v) && decide (sext 16 v ≤ hi)

/-- A written value that its entry's own rule turns down with E_RANGE, plain ranges and counters apart. -/
def Dev.valueOk (d : Dev) (key v : Nat) : Bool :=
  if key = 0x110002 then [125000, 250000, 500000, 1000000].contains v
  else if key = 0x110003 then [1000000, 2000000, 4000000, 5000000, 8000000].contains v && decide (d.val 0x110002 ≤ v)
  else if key = 0x110004 then !(d.fuses.straps == 2 && v == 0 && d.val 0x11000C == 0)
  else if key = 0x11000C then !(d.fuses.straps == 2 && v == 0 && d.val 0x110004 == 0)
  else if key = 0x140001 then isPrecedence v
  else if key = 0x20000F then !d.fuses.md0512 || decide (v < 2 ^ 16)
  else if key = 0x20000A then decide (15424 ≤ v) && decide (v + 15424 ≤ d.val 0x20000B)
  else if key = 0x20000B then decide (d.val 0x20000A + 15424 ≤ v) && decide (v ≤ 508864)
  else if key = 0x212001 then decide (v ≤ 1) || v == 0xFF
  else if key = 0x220002 then d.trainedRates.contains v
  else if key = 0x220004 then decide (v ≤ d.dram.capGiB)
  else if key = 0x220005 then decide (d.val 0x220006 + 8 ≤ v) && decide (v ≤ 64)
  else if key = 0x220006 then decide (v + 8 ≤ d.val 0x220005)
  else if key = 0x220007 then
    let n := (List.range 6).countP (fun i => bit v i)
    decide (v < 64) && decide (1 ≤ n) && decide (n ≤ 3) && (List.range 6).any (fun i => bit v i && rateOfBit i == d.val 0x220002)
  else if key = 0x240001 then v == 0 || (decide (100 ≤ v) && decide (v ≤ 60000000))
  else if key = 0x240002 then bit v 0 && decide (v < 32)
  else if key = 0x800002 then inTemp v 960 1600
  else if 0x800200 ≤ key ∧ key ≤ 0x800217 then
    decide (v < 2 ^ 24) && !bit v (key - 0x800200) && decide (2 ≤ (List.range 24).countP (fun i => bit v i))
  else if key = 0x900002 then inTemp v 32 640
  else if key = 0xC02002 then decide (v ≤ 1) && d.slotVersion v != 0
  else true

/-- The value is in its entry's range (R340, R365, R348 step 8). -/
def Dev.inRange (d : Dev) (e : Entry) (key v : Nat) : Bool :=
  (e.ty != 1 || decide (v ≤ 1)) && (!e.ctr || v == 0) &&
  (match rangeOf key with | some (lo, hi) => decide (lo ≤ v) && decide (v ≤ hi) | none => true) && d.valueOk key v

end Sys2Proof.Machine
end

