-- ==== Sys2Proof/Machine/Uhlod.lean ====
section
/-! DEFINITION. The Uhlod protocol (file 16): requests of the four masters and their clients, their checks, claims, arbitration,
subscriptions and transports, and the entries whose writes act (files 12, 15 to 21). -/

namespace Sys2Proof.Machine

/-! ### Clients and entries -/

/-- Master code of a client's transport (R346). -/
def masterOf : Client → Nat
  | .host _ => 1
  | .net _ _ => 2
  | .can _ => 3
  | .supervisor => 4

/-- What the device knows of a client. -/
def Dev.client (d : Dev) (c : Client) : ClientRec :=
  match d.dict.clients.find? (fun (x : ClientRec) => x.c == c) with
  | some x => x
  | none => { c := c }

/-- Write a client's record. -/
def Dev.setClient (d : Dev) (x : ClientRec) : Dev :=
  { d with dict := { d.dict with
      clients := if d.dict.clients.any (fun (y : ClientRec) => y.c == x.c)
        then d.dict.clients.map (fun (y : ClientRec) => if y.c = x.c then x else y) else d.dict.clients ++ [x] } }

/-- A client's privilege: 1 OPERATOR, 2 SERVICE, 3 FACTORY; the SUPERVISOR always holds FACTORY (R343). -/
def Dev.level (d : Dev) (c : Client) : Nat := if c = .supervisor then 3 else (d.client c).level

/-- The entry of an index and sub-index on this part (R363). -/
def Dev.entry (d : Dev) (idx sub : Nat) : Option Entry := entryOf d.fuses.md0512 idx sub

/-- Key of a write. -/
def DWrite.key (r : DWrite) : Nat := r.idx * 256 + r.sub

/-! ### Exclusive groups (R354) -/

/-- First index of the named group that an index lies in. -/
def groupFirst (idx : Nat) : Option Nat :=
  if [0x11, 0x14, 0x20, 0x21, 0x22, 0x23, 0x24].contains (idx / 256) then some (idx / 256 * 256)
  else if 0x3000 ≤ idx ∧ idx < 0x3800 then some (idx / 0x40 * 0x40)
  else if 0x4000 ≤ idx ∧ idx < 0x8000 then some (idx / 0x10 * 0x10)
  else if [8, 9, 0xD].contains (idx / 0x1000) then some (idx / 0x1000 * 0x1000)
  else none

/-- The group of an entry, as index × 256 + sub-index of its name; COMMIT belongs to none. -/
def groupOf (idx sub : Nat) : Option Nat :=
  if idx * 256 + sub = 0x200010 then none
  else match groupFirst idx with
    | some g => some (g * 256)
    | none => some (idx * 256 + sub)

/-- The block that an index begins exists on the part (R363). -/
def Dev.blockExists (d : Dev) (idx : Nat) : Bool :=
  if 0x3000 ≤ idx ∧ idx < 0x3800 then decide ((idx - 0x3000) / 0x40 < mastsOf d.fuses.md0512)
  else if 0x4000 ≤ idx ∧ idx < 0x8000 then decide ((idx - 0x4000) / 0x10 < 32 * mastsOf d.fuses.md0512)
  else true

/-- The group that a CLAIM or RELEASE names. -/
def Dev.groupNamed (d : Dev) (idx sub : Nat) : Option Nat :=
  match groupFirst idx with
  | some g => if idx = g ∧ sub = 0 ∧ d.blockExists idx = true then some (g * 256) else none
  | none => if (d.entry idx sub).isSome then some (idx * 256 + sub) else none

/-- The master that holds a group. -/
def Dev.holder (d : Dev) (g : Nat) : Option Nat := (d.dict.claims.find? (fun (c : Claim) => c.group == g)).map (·.master)

/-- The group of an entry is claimed by another master. -/
def Dev.claimedBut (d : Dev) (idx sub m : Nat) : Bool :=
  match (groupOf idx sub).bind (fun g => d.holder g) with
  | some h => h != m
  | none => false

/-- The groups of a list of writes. -/
def groupsOf (rs : List DWrite) : List Nat := (rs.filterMap (fun (r : DWrite) => groupOf r.idx r.sub)).eraseDups

/-! ### Checks of a write (R343, R348) -/

/-- Privilege that a write of an entry needs (R343, R344, R362, R374). -/
def needLevel (r : DWrite) : Nat :=
  if r.key = 0xC00002 then 3
  else if r.key = 0x180004 ∨ r.key = 0x180006 then 2
  else if r.key = 0x180005 then (match r.val with | x :: _ => if x = 2 ∨ x = 3 then x.toNat else 1 | [] => 1)
  else if [0x11, 0x14, 0x22].contains (r.idx / 256) || [8, 9, 0xA, 0xC].contains (r.idx / 0x1000) then 2
  else 1

/-- The data length that an entry takes (R340, R362). -/
def lenOk (e : Entry) (n : Nat) : Bool := if e.ty = 0xD then decide (2 ≤ n) && decide (n ≤ 17) else n == typeSize e.ty

/-- The entry is locked (R345). -/
def Dev.lockedEntry (d : Dev) (key : Nat) : Bool := d.dict.locks.any (fun (l : Nat) => l / 256 == key)

/-- A partition in service once every waiting request has acted (R452, R453). -/
def Dev.partAfter (d : Dev) (p : Nat) : Bool :=
  d.flt.reqs.foldl (fun (u : Bool) (r : Nat × Bool) => if r.1 = p then !r.2 else u) (d.partUp p)

/-- Taking a partition offline leaves a cluster, a thresher and a layer scaler in service (R452). -/
def Dev.leavesUnits (d : Dev) (p : Nat) : Bool :=
  let up := fun (x : Nat) => x != p && d.partAfter x
  (List.range 8).any (fun c => bit (d.tval 0x214001) c && (d.cluster (BitVec.ofNat 3 c)).cause == 0 && up c && up (12 + c / 2)) &&
  (List.range 16).any (fun t => bit (d.tval 0x211001) t && !(d.thresher (BitVec.ofNat 4 t)).fenced && up (8 + t / 4)) &&
  (List.range 4).any (fun g => up (24 + g))

/-- The checks of an OFFLINE_REQUEST (R452, R453): 0 or an error code. -/
def Dev.offlineCheck (d : Dev) (v : Nat) : Nat :=
  let p := v / 256
  if v % 256 / 2 ≠ 0 ∨ 40 ≤ p ∨ (d.fuses.md0512 = true ∧ 20 ≤ p ∧ p ≤ 23) then 0x0B04
  else if v % 2 = 0 then (if (d.partn p).state = .offline then 0 else 0x0F02)
  else if 28 ≤ p then 0x0B04
  else if (d.partn p).state = .offline then 0
  else if d.leavesUnits p then 0 else 0x0B04

/-- The life-cycle state that LIFE_CYCLE_ADVANCE may write next (R454, R455). -/
def nextLife (n : Nat) : Option Nat := if n = 0 then some 1 else if n = 1 then some 2 else if n = 3 then some 4 else none

/-- The checks of a LOGIN or SET_PASSWORD value (R344, R442). -/
def Dev.loginCheck (d : Dev) (c : Client) (v : List Byte) (login : Bool) : Nat :=
  let lv := (v.headD 0).toNat
  if lv ≠ 2 ∧ lv ≠ 3 then 0x0B04
  else if !login then 0
  else if lv = 3 ∧ (d.fuses.lifeCycle = 2 ∨ d.fuses.lifeCycle = 4) then 0x0F01
  else if (d.client c).level = 1 ∧ 8 ≤ d.dict.clients.countP (fun (x : ClientRec) => x.level != 1) then 0x0B04
  else 0

/-- The checks of a LOCK value (R345). -/
def Dev.lockCheck (d : Dev) (v : Nat) : Nat :=
  match d.entry (v / 65536) (v / 256 % 256) with
  | none => 0x0B01
  | some e =>
    if !e.l then 0x0B02
    else if v % 256 / 2 ≠ 0 then 0x0B04
    else if v % 2 = 1 ∧ d.lockedEntry (v / 256) = false ∧ 256 ≤ d.dict.locks.length then 0x0B04
    else 0

/-- The checks that an entry whose write acts makes of its own (files 16 to 21): 0 or an error code. -/
def Dev.actCheck (d : Dev) (c : Client) (r : DWrite) : Nat :=
  let v := leNat r.val
  if r.key = 0x180001 then d.loginCheck c r.val true
  else if r.key = 0x180005 then d.loginCheck c r.val false
  else if r.key = 0x180006 then d.lockCheck v
  else if r.key = 0xC00002 then
    (if nextLife d.fuses.lifeCycle ≠ some v then 0x0B04 else if d.fuses.lifeNext.isSome then 0x0F01 else 0)
  else if r.key = 0xC00004 then
    (if mastsOf d.fuses.md0512 ≤ v ∨ (d.partn (16 + v / 4)).state ≠ .inService then 0x0B04 else 0)
  else if r.key = 0xC00005 then d.offlineCheck v
  else if r.key = 0xC00006 then d.bistCheck (v / 256) (v % 256)
  else if r.key = 0xC02006 then (if d.fw.state = 3 then 0 else 0x0C03)
  else if 0x4000 ≤ r.idx ∧ r.idx < 0x8000 ∧ r.idx % 16 * 256 + r.sub = 0x107 then
    (if (d.sail (BitVec.ofNat 10 ((r.idx - 0x4000) / 16))).reach = .service then 0 else 0x0602)
  else 0

/-- Steps 2 to 8 of R348 for one write: 0 or an error code. -/
def Dev.writeCheck (d : Dev) (c : Client) (r : DWrite) : Nat :=
  match d.entry r.idx r.sub with
  | none => 0x0B01
  | some e =>
    if e.acc = .ro then 0x0B02
    else if d.level c < needLevel r then 0x0B03
    else if e.ty ≠ r.ty ∨ lenOk e r.val.length = false then 0x0B07
    else if d.lockedEntry r.key then 0x0B08
    else if d.claimedBut r.idx r.sub (masterOf c) then 0x0B06
    else if !d.inRange e r.key (leNat r.val) then 0x0B04
    else d.actCheck c r

/-- A plain value as written, for the checks of the records behind it (R352, log entry 22). -/
def Dev.plain (d : Dev) (r : DWrite) : Dev :=
  match d.entry r.idx r.sub with
  | some e => if e.acc = .rw ∧ e.t = false then d.setVal r.key (leNat r.val) else d
  | none => d

/-- The first record that fails, with its code (R352). -/
def Dev.checkRecs (d : Dev) (c : Client) : Nat → List DWrite → Option (Nat × Nat)
  | _, [] => none
  | n, r :: t => if d.writeCheck c r = 0 then (d.plain r).checkRecs c (n + 1) t else some (n, d.writeCheck c r)

/-! ### Effects of a write -/

/-- Queue a record: E_NVM_FULL drops it, E_NVM_TEMP holds it in RAM (R20, R342, R434). -/
def Dev.store (d : Dev) (id : Nat) (data : List Byte) : Nat × Dev :=
  if d.nvmFull id data.length then (0x0E04, d) else (if d.tjWrites then 0 else 0x0E03, d.queueRecord id data)

/-- LOGIN: the password of the level's partition raises the client (R344, R442). -/
def Dev.login (d : Dev) (c : Client) (v : List Byte) : Nat × Dev :=
  let lv := (v.headD 0).toNat
  let part := if lv = 2 then 4 else 5
  let (code, d1) := d.tryPassword part (d.digests part).1 (v.drop 1)
  if code = 0 then (0, d1.setClient { d1.client c with level := max (d1.client c).level lv }) else (code, d1)

/-- A client returns to OPERATOR (R344). -/
def Dev.logout (d : Dev) (c : Client) : Dev := if (d.client c).level = 1 then d else d.setClient { d.client c with level := 1 }

/-- SET_PASSWORD: a record with the new write digest and the read digest as it stands (R429, R442). -/
def Dev.setPassword (d : Dev) (v : List Byte) : Nat × Dev :=
  let part := if v.headD 0 = 2 then 4 else 5
  d.store (0xF400 + part) ((d.digests part).2 ++ d.digest (v.drop 1))

/-- The record of the locks (R429). -/
def lockRecord (ls : List Nat) : List Byte := ls.flatMap (fun (l : Nat) => leBytes 4 l)

/-- LOCK: lock or unlock an entry, and persist (R345). -/
def Dev.writeLock (d : Dev) (v : Nat) : Nat × Dev :=
  let ls := if v % 2 = 1 then (if d.lockedEntry (v / 256) then d.dict.locks else d.dict.locks ++ [v])
    else d.dict.locks.filter (fun (l : Nat) => l / 256 != v / 256)
  { d with dict := { d.dict with locks := ls } }.store 0xF600 (lockRecord ls)

/-- A dictionary COMMIT of a master (R187 to R189, R346): rejected as validation says. -/
def Dev.dictCommit (d : Dev) (c : Client) (policy : Nat) : Nat × Dev :=
  match d.validate with
  | some e => (e.1, d.noteReject e)
  | none => (0, d.acceptCommit (.master (masterOf c)) 0 policy none)

/-- A MAST reset makes a view-set slot UNDEFINED; definitions that wait end with it (R391). -/
def Dev.dropSlot (d : Dev) (n : Nat) : Dev :=
  ((d.vslot n).actions.map (·.1)).foldl (fun (d : Dev) i => d.finish i) (d.setVslot n {})

/-- Every feed becomes ABSENT once the DECODEs already dispatched on it have completed (R391). -/
def Dev.dropAllFeeds (d : Dev) : Dev :=
  { d with intake := { d.intake with feeds := d.intake.feeds.map (fun (x : Nat × Feed) =>
      (x.1, if x.2.state = FeedState.absent ∨ x.2.dropAt.isSome = true then x.2 else { x.2 with dropAt := some d.qs.nextId })) } }.dropFeeds

/-- MAST reset: the mast's plots are withdrawn and its bring-up starts; feeds, slots and selection go (R391). -/
def Dev.mastReset (d : Dev) (m : MastId) : Dev :=
  let d1 := (((d.bringUp m).dropAllFeeds.dropSlot 0).dropSlot 1)
  { d1 with
    intake := { d1.intake with dropSelect := true }
    comp := { d1.comp with shadow := d1.comp.shadow.filter (fun i => i.key != (4, 0x212001)) } }

/-- An OFFLINE_REQUEST waits for the next boundary; for a partition already OFFLINE it changes nothing (R452, R453). -/
def Dev.offlineRequest (d : Dev) (v : Nat) : Dev :=
  if v % 2 = 1 ∧ (d.partn (v / 256)).state = .offline then d
  else { d with flt := { d.flt with reqs := d.flt.reqs ++ [(v / 256, v % 2 == 1)] } }

/-- Effect of a write of an entry in the mast blocks that acts: TRAIN_REQUEST (R271, R273); either value takes a mast out of FAILED (R261). -/
def Dev.trainRequest (d : Dev) (m : MastId) (v : Nat) : Dev :=
  if v = 1 ∧ (d.mast m).state ≠ .failed then d.startRetrain m else d.bringUp m

/-- Effect of a write of a WO entry: status and device. -/
def Dev.act (d : Dev) (c : Client) (r : DWrite) : Nat × Dev :=
  let v := leNat r.val
  if r.key = 0x180001 then d.login c r.val
  else if r.key = 0x180003 then (0, d.logout c)
  else if r.key = 0x180005 then d.setPassword r.val
  else if r.key = 0x180006 then d.writeLock v
  else if r.key = 0x200010 then d.dictCommit c v
  else if r.key = 0x900007 then (0, if d.trim.run.isSome then d else { d with trim := { d.trim with due := true } })
  else if r.key = 0xA00008 then d.store 0xF603 []
  else if r.key = 0xC00002 then (0, { d with fuses := { d.fuses with lifeNext := some v } })
  else if r.key = 0xC00003 then (0, { d with pw := { d.pw with request := some (if v = 1 then .warm else .cold) } })
  else if r.key = 0xC00004 then (0, d.mastReset (BitVec.ofNat 5 v))
  else if r.key = 0xC00005 then (0, d.offlineRequest v)
  else if r.key = 0xC00006 then (0, d.bistAccept (v / 256) (v % 256))
  else if r.key = 0xC02006 then (0, { d with fw := { d.fw with handoff := true } })
  else if 0x3000 ≤ r.idx ∧ r.idx < 0x3800 then (0, d.trainRequest (BitVec.ofNat 5 ((r.idx - 0x3000) / 0x40)) v)
  else (0, d.markSail (BitVec.ofNat 10 ((r.idx - 0x4000) / 16)))

/-- What follows the new value of an entry: a rate switch is requested, a communication change is due (R332, R362). -/
def Dev.afterValue (d : Dev) (r : DWrite) : Dev :=
  let v := leNat r.val
  if r.key = 0x220002 then { d with dram := { d.dram with switchTo := if v = d.dram.rate then none else some v } }
  else if r.idx = 0x1100 then { d with dict := { d.dict with commDue := d.dict.commDue ++ [(d.now, r.key, v)] } }
  else if r.idx = 0x8002 then d.setSensor r.sub { d.sensor r.sub with suspect := 0 }
  else d

/-- Effect of a write that has won its arbitration (R341, R342): status and device. -/
def Dev.applyWrite (d : Dev) (c : Client) (r : DWrite) : Nat × Dev :=
  match d.entry r.idx r.sub with
  | none => (0, d)
  | some e =>
    if e.acc = .wo then d.act c r
    else
      let v := leNat r.val
      let d2 := if e.t then d.stage (.val r.key v (masterOf c))
        else
          let d1 := (d.setVal r.key v).noteChange (fun (k : Nat) => k == r.key && d.val r.key != v)
          { d1 with dict := { d1.dict with writers := SMap.set (4, 0) d1.dict.writers r.key (masterOf c, v) } }.afterValue r
      if e.p then d2.store r.idx (d2.recordOf r.idx) else (0, d2)

/-- A status that tells of a write in force all the same: E_NVM_TEMP, E_NVM_FULL (R342, R434). -/
def softStatus (code : Nat) : Bool := code == 0x0E03 || code == 0x0E04

/-- Apply records in order: the statuses other than 0, by record number (R352). -/
def Dev.applyRecs (d : Dev) (c : Client) : Nat → List DWrite → List (Nat × Nat) × Dev
  | _, [] => ([], d)
  | n, r :: t =>
    let (code, d1) := d.applyWrite c r
    let (cs, d2) := d1.applyRecs c (n + 1) t
    (if code = 0 then cs else (n, code) :: cs, d2)

/-- What a request leaves of a record that failed as it applied, met on a device that the records before it had changed: the count of a wrong
password (R444) and the note of a rejected commit (R193); nothing else (R348). -/
def Dev.failedRec (d : Dev) (c : Client) (met : Dev) (r : DWrite) : Dev :=
  if r.key = 0x180001 then { d with pw := { d.pw with pwFails := (met.login c r.val).2.pw.pwFails } }
  else if r.key = 0x200010 then (match met.validate with | some e => d.noteReject e | none => d)
  else d

/-- A record that fails as it applies undoes the others (R348, R352); number and status of the record to report. -/
def Dev.runRecs (d : Dev) (c : Client) (rs : List DWrite) : (Nat × Nat) × Dev :=
  let (cs, d1) := d.applyRecs c 0 rs
  match cs.find? (fun (x : Nat × Nat) => !softStatus x.2) with
  | some x => (x, match rs[x.1]? with | some r => d.failedRec c (d.applyRecs c 0 (rs.take x.1)).2 r | none => d)
  | none => (cs.headD (0, 0), d1)

/-! ### Frames (R346, R356 to R359) -/

/-- A frame: 16-byte header, then data (R346). -/
def frameBytes (master seq op ty sub flags idx status : Nat) (data : List Byte) : List Byte :=
  leBytes 1 1 ++ leBytes 1 master ++ leBytes 2 seq ++ leBytes 1 op ++ leBytes 1 ty ++ leBytes 1 sub ++ leBytes 1 flags ++
    leBytes 2 idx ++ leBytes 2 status ++ leBytes 2 data.length ++ leBytes 2 0 ++ data

/-- The next data length that CAN FD can carry (R357). -/
def canLen (n : Nat) : Nat := ([8, 12, 16, 20, 24, 32, 48, 64].find? (fun k => decide (n ≤ k))).getD 64

/-- Value in effect of an entry of 0x1100 (R362). -/
def Dev.commVal (d : Dev) (key : Nat) : Nat :=
  match SMap.get none d.dict.comm key with
  | some v => v
  | none => entryDefault d.fuses key

/-- One CAN frame from the device: identifier, compact header, value bytes, padding (R357). -/
def canBytes (node client : Nat) (f : List Byte) (seg : Nat) (part : List Byte) : List Byte :=
  let x := slice f 8 2 ++ slice f 6 1 ++ slice f 5 1 ++ slice f 10 2 ++ leBytes 1 part.length ++ leBytes 1 seg ++ part
  leBytes 4 (field f 4 1 % 128 * 2 ^ 25 + 2 ^ 24 + node * 2 ^ 16 + client * 2 ^ 8 + field f 2 1) ++
    x ++ List.replicate (canLen x.length - x.length) 0

/-- The value bytes of segments 1, 2 and so on (R358). -/
def chunks : Nat → List Byte → List (List Byte)
  | 0, _ => []
  | n + 1, x => if x.isEmpty then [] else x.take 56 :: chunks n (x.drop 56)

/-- The CAN frames of a response or report: one, or segments (R357, R358). -/
def canFrames (node client : Nat) (f : List Byte) : List (List Byte) :=
  let v := f.drop 16
  if v.length ≤ 56 then [canBytes node client f 0 v]
  else
    let ps := (leBytes 2 v.length ++ v.take 54) :: chunks v.length (v.drop 54)
    ps.zipIdx.map (fun (x : List Byte × Nat) =>
      canBytes node client f (0x80 + (if x.2 + 1 = ps.length then 0x40 else 0) + x.2 % 64) x.1)

/-- Give a frame to a client's transport (R356, R357, R359). -/
def Dev.deliver (d : Dev) (c : Client) (f : List Byte) : Dev :=
  match c with
  | .host .pcie => { d with xfer := { d.xfer with mboxResp := f, mboxBusy := false, mboxReady := true } }.msix 1
  | .host .usb3 => { d with xfer := { d.xfer with resp3 := d.xfer.resp3 ++ [f] } }
  | .host .usb2 => { d with xfer := { d.xfer with resp2 := d.xfer.resp2 ++ [f] } }
  | .can node => (canFrames (d.commVal 0x110001) node.toNat f).foldl (fun (d : Dev) x => d.send (.uhlod c x)) d
  | _ => d.send (.uhlod c f)

/-- The response to a request. -/
def response (c : Client) (u : UHdr) (op status flags : Nat) (data : List Byte) : List Byte :=
  frameBytes (masterOf c) u.seq.toNat (128 + op) u.ty.toNat u.sub.toNat flags u.idx.toNat status data

/-- A failed request is logged (R361). -/
def Dev.logDict (d : Dev) (c : Client) (u : UHdr) (op status : Nat) : Dev :=
  { d with dict := { d.dict with
      lastStatus := status, lastEntry := u.idx.toNat * 65536 + u.sub.toNat * 256 + op, lastMaster := (masterOf c), lastTack := d.openTack } }.bump 0xB02101

/-- A client's last 8 sequences and responses are kept (R349). -/
def Dev.keep (d : Dev) (c : Client) (seq : U16) (f : List Byte) : Dev :=
  let x := d.client c
  d.setClient { x with dup := (x.dup ++ [(seq, d.now, f)]).drop ((x.dup.length + 1) - 8) }

/-- The response to a sequence that a client repeats within 2 s (R349). -/
def Dev.kept (d : Dev) (c : Client) (seq : U16) : Option (List Byte) :=
  ((d.client c).dup.find? (fun (x : U16 × Nat × List Byte) => x.1 == seq && decide (d.now < x.2.1 + 2000000))).map (·.2.2)

/-- Answer a request with a frame, which is kept for a repeat of its sequence (R349, R361). -/
def Dev.answer (d : Dev) (c : Client) (u : UHdr) (op status : Nat) (f : List Byte) : Dev :=
  let d1 := d.keep c u.seq f
  (if status = 0 ∨ softStatus status = true then d1 else d1.logDict c u op status).deliver c f

/-- Answer a request. -/
def Dev.reply (d : Dev) (c : Client) (u : UHdr) (op status flags : Nat) (data : List Byte) : Dev :=
  d.answer c u op status (response c u op status flags data)

/-- A request fails with E_FRAME: its header, flags included, is echoed without data (R347). -/
def Dev.refuseFrame (d : Dev) (c : Client) (u : UHdr) (op : Nat) : Dev := d.reply c u op 0x0B09 u.flags.toNat []

/-- A request fails. -/
def Dev.refuse (d : Dev) (c : Client) (u : UHdr) (op status : Nat) (data : List Byte := []) : Dev := d.reply c u op status 0 data

/-! ### Writes and arbitration (R350, R352, R355) -/

/-- The APPLIED flag: a P entry's value is in force though its record is not written (R342, R434). -/
def Dev.appliedFlag (d : Dev) (rs : List DWrite) (x : Nat × Nat) : Nat :=
  match rs[x.1]? with
  | some r => if softStatus x.2 && ((d.entry r.idx r.sub).map (·.p)).getD false then 1 else 0
  | none => 0

/-- A write that a full ledger drops with nothing of it in force: a password, the restore marker. The request has failed (R361, R434). -/
def droppedRec (rs : List DWrite) (x : Nat × Nat) : Bool :=
  x.2 == 0x0E04 && (match rs[x.1]? with | some r => r.key == 0x180005 || r.key == 0xA00008 | none => false)

/-- Records that need no arbitration any more apply, and the request is answered. -/
def Dev.finishWrite (d : Dev) (c : Client) (u : UHdr) (op : Nat) (rs : List DWrite) : Dev :=
  let (x, d0) := d.runRecs c rs
  let d1 := if droppedRec rs x then d0.logDict c u op x.2 else d0
  d1.reply c u op x.2 (d1.appliedFlag rs x)
    (if op = 3 ∧ x.2 ≠ 0 then leBytes 1 x.1 else if op = 4 ∧ x.2 = 0 then leBytes 4 d1.comp.ordinal.toNat else [])

/-- Writes to unclaimed groups are held in a window on those groups, opened or already open (R355). -/
def Dev.holdWrite (d : Dev) (c : Client) (u : UHdr) (op : Nat) (rs : List DWrite) (gs : List Nat) : Dev :=
  let meets := fun (w : ArbWindow) => w.groups.any (fun g => gs.contains g)
  let old := d.dict.arbs.filter meets
  { d with dict := { d.dict with
      arbs := d.dict.arbs.filter (fun w => !meets w) ++
        [{ groups := (old.flatMap (·.groups) ++ gs).eraseDups, held := old.flatMap (·.held) ++ [{ c := c, hdr := u, op := op, recs := rs }] }] } }

/-- A request that repeats the sequence of one of the client's writes that is held is answered with that one's response (R349): it waits in the
same window, to be found answered when the window closes. -/
def Dev.heldAgain (d : Dev) (c : Client) (seq : U16) : Option Dev :=
  let same := fun (h : HeldWrite) => h.c == c && h.hdr.seq == seq
  if d.dict.arbs.any (fun (w : ArbWindow) => w.held.any same) then
    some { d with dict := { d.dict with arbs := d.dict.arbs.map (fun (w : ArbWindow) =>
      { w with held := w.held ++ ((w.held.find? same).toList) }) } }
  else none

/-- Checked writes: those to groups that the master holds, and COMMIT, apply at once, the others enter arbitration (R354, R355). -/
def Dev.arbitrate (d : Dev) (c : Client) (u : UHdr) (op : Nat) (rs : List DWrite) : Dev :=
  let gs := (groupsOf rs).filter (fun g => (d.holder g).isNone)
  if gs.isEmpty then d.finishWrite c u op rs else d.holdWrite c u op rs gs

/-- The device as the writes of the same master that are held on the same groups will leave it: the checks of a later write follow
them (R350, R355). -/
def Dev.ahead (d : Dev) (c : Client) (rs : List DWrite) : Dev :=
  let gs := groupsOf rs
  let ws := d.dict.arbs.filter (fun (w : ArbWindow) => w.groups.any (fun g => gs.contains g))
  ((ws.flatMap (·.held)).filter (fun (h : HeldWrite) => masterOf h.c == (masterOf c))).foldl
    (fun (d : Dev) (h : HeldWrite) => (d.runRecs h.c h.recs).2) d

/-- A WRITE, WRITE_MULTI or COMMIT with its records. -/
def Dev.writeRecs (d : Dev) (c : Client) (u : UHdr) (op : Nat) (rs : List DWrite) : Dev :=
  match (d.ahead c rs).checkRecs c 0 rs with
  | some (n, code) => d.refuse c u op code (if op = 3 then leBytes 1 n else [])
  | none => d.arbitrate c u op rs

/-- The records of WRITE_MULTI, 1 to 32; none where they do not fill the data exactly (R352). -/
def parseRecs : Nat → List Byte → Option (List DWrite)
  | _, [] => some []
  | 0, _ => none
  | n + 1, x =>
    let len := field x 4 2
    if x.length < 6 + len then none
    else (parseRecs n (x.drop (6 + len))).map (fun rs =>
      ({ idx := field x 0 2, sub := field x 2 1, ty := field x 3 1, val := slice x 6 len } : DWrite) :: rs)

/-- WRITE_MULTI (R352). -/
def Dev.writeMulti (d : Dev) (c : Client) (u : UHdr) (data : List Byte) : Dev :=
  match parseRecs 32 data with
  | some (r :: rs) => d.writeRecs c u 3 (r :: rs)
  | _ => d.refuseFrame c u 3

/-! ### Other operations (R346, R353, R354) -/

/-- READ (R341, R348): the value, with PENDING where shadow and applied value differ. -/
def Dev.readReq (d : Dev) (c : Client) (u : UHdr) (data : List Byte) : Dev :=
  let key := u.idx.toNat * 256 + u.sub.toNat
  match d.entry u.idx.toNat u.sub.toNat with
  | none => d.refuse c u 1 0x0B01
  | some e =>
    if e.acc = .wo then d.refuse c u 1 0x0B02
    else if e.ty ≠ u.ty.toNat ∨ data ≠ [] then d.refuse c u 1 0x0B07
    else
      let d1 := d.reply c u 1 0 (if d.readPending e key then 2 else 0) (d.readBytes e (d.level c) key (bit u.flags.toNat 0))
      if key = 0xA00001 then d1.useFree else d1

/-- COMMIT acts as a WRITE of entry 0x2000.10 (R346). -/
def Dev.commitReq (d : Dev) (c : Client) (u : UHdr) (data : List Byte) : Dev :=
  if u.ty ≠ 0 then d.refuse c u 4 0x0B07 else d.writeRecs c u 4 [{ idx := 0x2000, sub := 0x10, ty := 5, val := data }]

/-- CLAIM: a lease of 1 to 60 s on a group, at most 16 (R354). -/
def Dev.claimReq (d : Dev) (c : Client) (u : UHdr) (data : List Byte) : Dev :=
  let lease := leNat data
  match d.groupNamed u.idx.toNat u.sub.toNat with
  | none => d.refuse c u 5 0x0B01
  | some g =>
    let mine := d.holder g == some (masterOf c)
    if u.ty ≠ 0 ∨ data.length ≠ 2 then d.refuse c u 5 0x0B07
    else if (d.holder g).isSome && !mine then d.refuse c u 5 0x0B06
    else if lease = 0 ∨ 60 < lease ∨ (mine = false ∧ 16 ≤ d.dict.claims.length) then d.refuse c u 5 0x0B04
    else
      let x : Claim := { group := g, master := (masterOf c), until_ := d.now + lease * 1000000 }
      { d with dict := { d.dict with
          claims := if mine then d.dict.claims.map (fun (y : Claim) => if y.group = g then x else y) else d.dict.claims ++ [x] } }.reply
        c u 5 0 0 (leBytes 2 lease)

/-- RELEASE: ends the claim of the client's master (R354). -/
def Dev.releaseReq (d : Dev) (c : Client) (u : UHdr) (data : List Byte) : Dev :=
  match d.groupNamed u.idx.toNat u.sub.toNat with
  | none => d.refuse c u 6 0x0B01
  | some g =>
    if u.ty ≠ 0 ∨ data ≠ [] then d.refuse c u 6 0x0B07
    else if (d.holder g).isSome && d.holder g != some (masterOf c) then d.refuse c u 6 0x0B06
    else { d with dict := { d.dict with claims := d.dict.claims.filter (fun (x : Claim) => x.group != g) } }.reply c u 6 0 0 []

/-- SUBSCRIBE's fields out of range (R353). -/
def subscribeBad (data : List Byte) : Bool :=
  let period := field data 0 2
  let mode := field data 2 1
  let life := field data 4 2
  field data 3 1 != 0 || decide (3 < mode) || (mode == 0) != (period == 0) ||
    (mode != 0 && !(decide (10 ≤ period) && decide (period ≤ 60000) && decide (1 ≤ life) && decide (life ≤ 3600)))

/-- SUBSCRIBE creates, renews or cancels a subscription; at most 64, at most 16 per client. A renewal keeps what is not reported yet (R353). -/
def Dev.subscribeReq (d : Dev) (c : Client) (u : UHdr) (data : List Byte) : Dev :=
  let idx := u.idx.toNat
  let sub := u.sub.toNat
  match d.entry idx sub with
  | none => d.refuse c u 7 0x0B01
  | some e =>
    let others := d.dict.subs.filter (fun (x : Sub) => !(x.c == c && x.idx == idx && x.sub == sub))
    let old := d.dict.subs.find? (fun (x : Sub) => x.c == c && x.idx == idx && x.sub == sub)
    if e.acc = .wo then d.refuse c u 7 0x0B02
    else if u.ty ≠ 0 ∨ data.length ≠ 6 then d.refuse c u 7 0x0B07
    else if subscribeBad data then d.refuse c u 7 0x0B04
    else if field data 2 1 = 0 then { d with dict := { d.dict with subs := others } }.reply c u 7 0 0 []
    else if 64 ≤ others.length ∨ 16 ≤ others.countP (fun (x : Sub) => x.c == c) then d.refuse c u 7 0x0B04
    else
      let x : Sub := { c := c, idx := idx, sub := sub, change := bit (field data 2 1) 0, periodic := bit (field data 2 1) 1,
                       period := field data 0 2, last := (old.map (·.last)).getD (d.readNat e (d.level c) (idx * 256 + sub) true),
                       due := (old.map (·.due)).getD false }
      { d with dict := { d.dict with subs := others ++ [x] } }.reply c u 7 0 0 []

/-! ### Requests in order (R347 to R351) -/

/-- Frame faults that the header of a request can show (R347). -/
def badFrame (u : UHdr) (op : Nat) (data : List Byte) : Bool :=
  u.flags.toNat / 2 != 0 || (op == 4 && (u.idx != 0 || u.sub != 0)) || decide (1024 < data.length)

/-- Execute a request; one that repeats a sequence is answered as before (R349). -/
def Dev.perform (d : Dev) (c : Client) (u : UHdr) (op : Nat) (data : List Byte) : Dev :=
  match d.kept c u.seq, d.heldAgain c u.seq with
  | some f, _ => d.deliver c f
  | none, some d1 => d1
  | none, none =>
    if badFrame u op data then d.refuseFrame c u op
    else if op = 1 then d.readReq c u data
    else if op = 2 then d.writeRecs c u 2 [{ idx := u.idx.toNat, sub := u.sub.toNat, ty := u.ty.toNat, val := data }]
    else if op = 3 then d.writeMulti c u data
    else if op = 4 then d.commitReq c u data
    else if op = 5 then d.claimReq c u data
    else if op = 6 then d.releaseReq c u data
    else d.subscribeReq c u data

/-- Serve what has arrived: a malformed frame gets its E_FRAME response (R347, R349). -/
def Dev.serve (d : Dev) (w : Wait) : Dev :=
  match w.bad with
  | none => d.perform w.c w.u w.op w.data
  | some f => match d.kept w.c w.u.seq, d.heldAgain w.c w.u.seq with
    | some g, _ => d.deliver w.c g
    | none, some d1 => d1
    | none, none => d.answer w.c w.u w.op 0x0B09 f

/-- The writes of a request. -/
def requestRecs (u : UHdr) (op : Nat) (data : List Byte) : List DWrite :=
  if op = 2 then [{ idx := u.idx.toNat, sub := u.sub.toNat, ty := u.ty.toNat, val := data }]
  else if op = 3 then (parseRecs 32 data).getD [] else []

/-- A write joins a window in which its master's earlier write is held, and waits for nothing else (R350, R355). -/
def Dev.joins (d : Dev) (c : Client) (u : UHdr) (op : Nat) (data : List Byte) : Bool :=
  let gs := groupsOf (requestRecs u op data)
  !d.dict.waiting.any (fun (x : Wait) => masterOf x.c == (masterOf c)) && !gs.isEmpty &&
    d.dict.arbs.all (fun (w : ArbWindow) =>
      !w.held.any (fun (h : HeldWrite) => masterOf h.c == (masterOf c)) || gs.all (fun g => w.groups.contains g))

/-- An earlier request of the master is held or waits (R350). -/
def Dev.masterBusy (d : Dev) (m : Nat) : Bool :=
  d.dict.arbs.any (fun (w : ArbWindow) => w.held.any (fun (h : HeldWrite) => masterOf h.c == m)) ||
    d.dict.waiting.any (fun (x : Wait) => masterOf x.c == m)

/-- Frames of a master that wait: those of its requests, and the segments of CAN transfers in progress (R351, R358). -/
def Dev.framesOf (d : Dev) (m : Nat) : Nat :=
  (d.dict.waiting.filter (fun (x : Wait) => masterOf x.c == m)).foldl (fun n x => n + x.frames) 0 +
    (if m = 3 then d.dict.clients.foldl (fun (n : Nat) (x : ClientRec) => n + (match x.seg with | some s => s.next | none => 0)) 0 else 0)

/-- Room for n more frames in a transport's queue during a handoff (R351). -/
def Dev.handoffRoom (d : Dev) (c : Client) (n : Nat) : Bool :=
  match c with
  | .net _ _ => decide (d.framesOf 2 + n ≤ 32)
  | .can _ => decide (d.framesOf 3 + n ≤ 16)
  | .host p => !d.dict.waiting.any (fun (x : Wait) => x.c == .host p)
  | .supervisor => true

/-- A request executes, or waits: during a handoff, or behind its master's earlier requests (R350, R351). -/
def Dev.serveOrWait (d : Dev) (w : Wait) : Dev :=
  let wait := { d with dict := { d.dict with waiting := d.dict.waiting ++ [w] } }
  if d.fw.handoff then (if d.handoffRoom w.c w.frames then wait else d.bump 0xB02101)
  else if d.masterBusy (masterOf w.c) && !(w.bad.isNone && d.joins w.c w.u w.op w.data) then wait
  else d.serve w

/-- Waiting requests are looked at again, in arrival order. -/
def Dev.serveWaiting (d : Dev) : Dev :=
  if d.fw.handoff then d else
  d.dict.waiting.foldl (fun (d : Dev) (w : Wait) => d.serveOrWait w) { d with dict := { d.dict with waiting := [] } }

/-- A request, or what was to be one, fails with E_FRAME in its turn (R347, R351). -/
def Dev.malformedReq (d : Dev) (c : Client) (u : UHdr) (op frames : Nat) : Dev :=
  d.serveOrWait { c := c, u := u, op := op, data := [], frames := frames, bad := some (response c u op 0x0B09 0 []) }

/-- A segmented transfer aborts with E_FRAME (R358). -/
def Dev.abortSeg (d : Dev) (c : Client) : Dev :=
  match (d.client c).seg with
  | none => d
  | some x => (d.setClient { d.client c with seg := none }).malformedReq c x.hdr x.op x.next

/-- One more segment has arrived; the last one completes the request (R358). -/
def Dev.segment (d : Dev) (c : Client) (x : CanSeg) (last : Bool) : Dev :=
  if !last then d.setClient { d.client c with seg := some x }
  else
    let d1 := d.setClient { d.client c with seg := none }
    if x.bytes.length = x.total then d1.serveOrWait { c := c, u := x.hdr, op := x.op, data := x.bytes, frames := x.next }
    else d1.malformedReq c x.hdr x.op x.next

/-- A CAN request frame: whole, or a segment of a longer value (R357, R358). CAN carries no flags. During a handoff a frame that finds no room
is discarded and counted (R351). -/
def Dev.canRequest (d : Dev) (c : Client) (u0 : UHdr) (op : Nat) (data : List Byte) : Dev :=
  let u := { u0 with flags := 0 }
  let n := u.seg.toNat % 64
  let last := bit u.seg.toNat 6
  if d.fw.handoff && !d.handoffRoom c 1 then d.bump 0xB02101
  else if !bit u.seg.toNat 7 then
    let d1 := d.abortSeg c
    if 56 < data.length then d1.malformedReq c u op 1 else d1.serveOrWait { c := c, u := u, op := op, data := data }
  else if n = 0 then
    let d1 := d.abortSeg c
    if data.length < 2 ∨ 56 < data.length then d1.malformedReq c u op 1
    else d1.segment c { op := op, hdr := u, total := field data 0 2, next := 1, bytes := data.drop 2 } last
  else
    match (d.client c).seg with
    | some x =>
      if x.op = op ∧ x.hdr.seq = u.seq ∧ x.next = n ∧ data.length ≤ 56 then
        d.segment c { x with next := n + 1, bytes := x.bytes ++ data } last
      else d.abortSeg c
    | none => d.malformedReq c u op 1

/-- The port of a client is enabled in the settings in effect (R362); boot mode RECOVERY has no control ports (R394). -/
def Dev.portOn (d : Dev) : Client → Bool
  | .net _ _ => d.commVal 0x11000C == 1 && d.fuses.straps != 3
  | .can _ => d.commVal 0x110004 == 1 && d.fuses.straps != 3
  | _ => true

/-- A frame arrives over a client's port: in HOVE it wakes the device where its source is enabled, and is served then (R369, R381). -/
def Dev.arrive (d : Dev) (c : Client) (f : Dev → Dev) : Dev :=
  if !d.portOn c then d
  else
    let d1 := match c with
      | .net _ _ => d.wake 4
      | .can _ => d.wake 5
      | .host _ => d.wake 1
      | .supervisor => d
    if d1.up then f d1 else d1

/-- Requests of a client that are not answered yet. -/
def Dev.unanswered (d : Dev) (c : Client) : Nat :=
  d.dict.waiting.countP (fun (x : Wait) => x.c == c) +
    d.dict.arbs.foldl (fun (n : Nat) (w : ArbWindow) => n + w.held.countP (fun (h : HeldWrite) => h.c == c)) 0

/-- A host mailbox that can take a request: on a USB path 4 responses may be uncollected, those still to come included; during a handoff one
request waits per mailbox (R351, R359). -/
def Dev.mailboxFree (d : Dev) (c : Client) : Bool :=
  let room := !d.fw.handoff || d.handoffRoom c 1
  match c with
  | .host .pcie => !d.xfer.mboxBusy && !d.xfer.mboxReady && !d.link.d3hot
  | .host .usb3 => decide (d.xfer.resp3.length + d.unanswered c < 4) && room && d.usbServes
  | .host .usb2 => decide (d.xfer.resp2.length + d.unanswered c < 4) && room && d.usbServes
  | _ => true

/-- A mailbox that cannot take a request: a doorbell write is ignored and counted, MAILBOX_OUT is stalled (R359). -/
def Dev.mailboxFull (d : Dev) : Client → Dev
  | .host .pcie => if d.link.d3hot then d else d.bump 0xB02101
  | .host _ => d.send .stall
  | _ => d

/-- The PCIe mailbox is BUSY until its response is ready (R359). -/
def Dev.mailboxTake (d : Dev) : Client → Dev
  | .host .pcie => { d with xfer := { d.xfer with mboxBusy := true } }
  | _ => d

/-- A MAILBOX_OUT with a wLength above 4,096, which is stalled and logged (R36). -/
def overlong (c : Client) (n : Nat) : Bool :=
  match c with
  | .host .usb3 => decide (4096 < n)
  | .host .usb2 => decide (4096 < n)
  | _ => false

/-- A request frame arrives (R347 to R351); in forced HOVE the always-on domain answers E_THERMAL (R414). -/
def Dev.request (d : Dev) (c : Client) (u : UHdr) (op : Nat) (data : List Byte) : Dev :=
  if overlong c (16 + data.length) then d.unknownRequest 0x20
  else if !d.mailboxFree c then d.mailboxFull c
  else if d.pw.state = .forcedHove then (if d.portOn c then d.deliver c (response c u op 0x0D02 0 []) else d)
  else d.arrive c (fun d => match c with
    | .can _ => d.canRequest c u op data
    | _ => (d.mailboxTake c).serveOrWait { c := c, u := u, op := op, data := data })

/-! ### Rows of requests -/

/-- UHLOD_READ. -/
def execUhlodRead (c : Client) (u : UHdr) (data : List Byte) (s : State) : Host.Outcome State Fault Refusal :=
  runOn s (fun d => d.request c u 1 data)

/-- UHLOD_WRITE. -/
def execUhlodWrite (c : Client) (u : UHdr) (data : List Byte) (s : State) : Host.Outcome State Fault Refusal :=
  runOn s (fun d => d.request c u 2 data)

/-- UHLOD_WRITE_MULTI. -/
def execUhlodWriteMulti (c : Client) (u : UHdr) (data : List Byte) (s : State) : Host.Outcome State Fault Refusal :=
  runOn s (fun d => d.request c u 3 data)

/-- UHLOD_COMMIT. -/
def execUhlodCommit (c : Client) (u : UHdr) (data : List Byte) (s : State) : Host.Outcome State Fault Refusal :=
  runOn s (fun d => d.request c u 4 data)

/-- CLAIM. -/
def execClaim (c : Client) (u : UHdr) (data : List Byte) (s : State) : Host.Outcome State Fault Refusal :=
  runOn s (fun d => d.request c u 5 data)

/-- RELEASE. -/
def execRelease (c : Client) (u : UHdr) (data : List Byte) (s : State) : Host.Outcome State Fault Refusal :=
  runOn s (fun d => d.request c u 6 data)

/-- SUBSCRIBE. -/
def execSubscribe (c : Client) (u : UHdr) (data : List Byte) (s : State) : Host.Outcome State Fault Refusal :=
  runOn s (fun d => d.request c u 7 data)

/-- The header of a WRITE of an entry. -/
def writeHdr (sq : U16) (ty idx sub : Nat) : UHdr :=
  { seq := sq, ty := BitVec.ofNat 8 ty, flags := 0, idx := BitVec.ofNat 16 idx, sub := BitVec.ofNat 8 sub }

/-- A WRITE request of a value to an entry. -/
def Dev.writeTo (d : Dev) (c : Client) (sq : U16) (ty idx sub : Nat) (data : List Byte) : Dev :=
  d.request c (writeHdr sq ty idx sub) 2 data

/-- LOGIN. -/
def execLogin (c : Client) (sq : U16) (data : List Byte) (s : State) : Host.Outcome State Fault Refusal :=
  runOn s (fun d => d.writeTo c sq 0xD 0x1800 1 data)

/-- LOGOUT. -/
def execLogout (c : Client) (sq : U16) (s : State) : Host.Outcome State Fault Refusal :=
  runOn s (fun d => d.writeTo c sq 5 0x1800 3 [1])

/-- SET_PASSWORD. -/
def execSetPassword (c : Client) (sq : U16) (data : List Byte) (s : State) : Host.Outcome State Fault Refusal :=
  runOn s (fun d => d.writeTo c sq 0xD 0x1800 5 data)

/-- LOCK_ENTRY. -/
def execLockEntry (c : Client) (sq idx : U16) (sub : Byte) (s : State) : Host.Outcome State Fault Refusal :=
  runOn s (fun d => d.writeTo c sq 7 0x1800 6 (leBytes 1 1 ++ leBytes 1 sub.toNat ++ leBytes 2 idx.toNat))

/-- UNLOCK_ENTRY. -/
def execUnlockEntry (c : Client) (sq idx : U16) (sub : Byte) (s : State) : Host.Outcome State Fault Refusal :=
  runOn s (fun d => d.writeTo c sq 7 0x1800 6 (leBytes 1 0 ++ leBytes 1 sub.toNat ++ leBytes 2 idx.toNat))

/-- MARK_ALL. -/
def execMarkAll (c : Client) (sq : U16) (sl : SailId) (v : Byte) (s : State) : Host.Outcome State Fault Refusal :=
  runOn s (fun d => d.writeTo c sq 5 (0x4001 + 16 * sl.toNat) 7 [v])

/-- RESET_REQUEST_WARM. -/
def execResetRequestWarm (c : Client) (sq : U16) (s : State) : Host.Outcome State Fault Refusal :=
  runOn s (fun d => d.writeTo c sq 5 0xC000 3 [1])

/-- RESET_REQUEST_COLD. -/
def execResetRequestCold (c : Client) (sq : U16) (s : State) : Host.Outcome State Fault Refusal :=
  runOn s (fun d => d.writeTo c sq 5 0xC000 3 [2])

/-- MAST_RESET. -/
def execMastReset (c : Client) (sq : U16) (m : Byte) (s : State) : Host.Outcome State Fault Refusal :=
  runOn s (fun d => d.writeTo c sq 5 0xC000 4 [m])

/-- OFFLINE_REQUEST. -/
def execOfflineRequest (c : Client) (sq : U16) (p : Byte) (s : State) : Host.Outcome State Fault Refusal :=
  runOn s (fun d => d.writeTo c sq 6 0xC000 5 [1, p])

/-- RETURN_TO_SERVICE_REQUEST. -/
def execReturnToServiceRequest (c : Client) (sq : U16) (p : Byte) (s : State) : Host.Outcome State Fault Refusal :=
  runOn s (fun d => d.writeTo c sq 6 0xC000 5 [0, p])

/-- BIST_REQUEST. -/
def execBistRequest (c : Client) (sq : U16) (p tests : Byte) (s : State) : Host.Outcome State Fault Refusal :=
  runOn s (fun d => d.writeTo c sq 6 0xC000 6 [tests, p])

/-- BIST_FULL_RUN. -/
def execBistFullRun (c : Client) (sq : U16) (tests : Byte) (s : State) : Host.Outcome State Fault Refusal :=
  runOn s (fun d => d.writeTo c sq 6 0xC000 6 [tests, 0xFF])

/-- LIFE_CYCLE_ADVANCE. -/
def execLifeCycleAdvance (c : Client) (sq : U16) (v : Byte) (s : State) : Host.Outcome State Fault Refusal :=
  runOn s (fun d => d.writeTo c sq 5 0xC000 2 [v])

/-- FW_HANDOFF. -/
def execFwHandoff (c : Client) (sq : U16) (s : State) : Host.Outcome State Fault Refusal :=
  runOn s (fun d => d.writeTo c sq 5 0xC020 6 [1])

/-- TRIM_REQUEST. -/
def execTrimRequest (c : Client) (sq : U16) (s : State) : Host.Outcome State Fault Refusal :=
  runOn s (fun d => d.writeTo c sq 5 0x9000 7 [1])

/-- RESTORE_DEFAULTS. -/
def execRestoreDefaults (c : Client) (sq : U16) (s : State) : Host.Outcome State Fault Refusal :=
  runOn s (fun d => d.writeTo c sq 5 0xA000 8 [1])

/-- TRAIN_REQUEST_RETRAIN. -/
def execTrainRequestRetrain (c : Client) (sq : U16) (m : MastId) (s : State) : Host.Outcome State Fault Refusal :=
  runOn s (fun d => d.writeTo c sq 5 (0x3002 + 0x40 * m.toNat) 0xC [1])

/-- TRAIN_REQUEST_BRINGUP. -/
def execTrainRequestBringup (c : Client) (sq : U16) (m : MastId) (s : State) : Host.Outcome State Fault Refusal :=
  runOn s (fun d => d.writeTo c sq 5 (0x3002 + 0x40 * m.toNat) 0xC [2])

/-- DATA_RATE_WRITE. -/
def execDataRateWrite (c : Client) (sq : U16) (rate : U16) (s : State) : Host.Outcome State Fault Refusal :=
  runOn s (fun d => d.writeTo c sq 6 0x2200 2 (leBytes 2 rate.toNat))

/-! ### The arbitration window (R355) -/

/-- Master codes from the highest rank down (entry 0x1400.01). -/
def Dev.ranking (d : Dev) : List Nat := ((leBytes 4 (d.val 0x140001)).reverse).map (·.toNat)

/-- Groups that each surviving master takes, from the highest rank down. -/
def takenBy (held : List HeldWrite) (ranks : List Nat) : List (Nat × Nat) :=
  ranks.foldl (fun (t : List (Nat × Nat)) (m : Nat) =>
    t ++ ((held.filter (fun (h : HeldWrite) => masterOf h.c == m && (groupsOf h.recs).all (fun g => t.all (fun x => x.1 != g)))).flatMap
      (fun (h : HeldWrite) => groupsOf h.recs)).map (fun g => (g, m))) []

/-- The master that a write loses a group to. -/
def loser (t : List (Nat × Nat)) (m g : Nat) : Option Nat := (t.find? (fun (x : Nat × Nat) => x.1 == g && x.2 != m)).map (·.2)

/-- A losing write goes to the conflict log (R355, R361). -/
def Dev.logConflict (d : Dev) (r : DWrite) (win lose : Nat) : Dev :=
  { d with dict := { d.dict with
      conf := SMap.set 0 d.dict.conf d.dict.confNext (r.idx * 2 ^ 48 + r.sub * 2 ^ 40 + win * 2 ^ 36 + lose * 2 ^ 32 + d.openTack.toNat)
      confNext := if d.dict.confNext = 0x1F then 0x10 else d.dict.confNext + 1 } }.bump 0xB02001

/-- A held write resolves: it applies, checked again, or is superseded (R355); one that repeats a sequence answered meanwhile acts no second
time (R349). -/
def Dev.resolve (d : Dev) (t : List (Nat × Nat)) (h : HeldWrite) : Dev :=
  let m := masterOf h.c
  let lost := h.recs.filterMap (fun (r : DWrite) => ((groupOf r.idx r.sub).bind (fun g => loser t m g)).map (fun w => (r, w)))
  match d.kept h.c h.hdr.seq with
  | some f => d.deliver h.c f
  | none =>
  if lost.isEmpty then
    match d.checkRecs h.c 0 h.recs with
    | some (n, code) => d.refuse h.c h.hdr h.op code (if h.op = 3 then leBytes 1 n else [])
    | none => d.finishWrite h.c h.hdr h.op h.recs
  else
    let d1 := lost.foldl (fun (d : Dev) (x : DWrite × Nat) => d.logConflict x.1 x.2 m) d
    d1.refuse h.c h.hdr h.op 0x0B05 (if h.op = 3 then leBytes 1 (h.recs.findIdx (fun r => lost.any (fun x => x.1 == r))) else [])

/-- ARBITRATION_WINDOW_CLOSE: the held writes of the highest-ranked master apply in arrival order, the others are superseded, and
requests that waited behind them are served (R350, R355). A handoff pauses this too (R401). -/
def Dev.closeWindow (d : Dev) (n : Nat) : Dev :=
  if d.fw.handoff then d else
  match d.dict.arbs[n]? with
  | none => d
  | some w =>
    let t := takenBy w.held d.ranking
    (w.held.foldl (fun (d : Dev) (h : HeldWrite) => d.resolve t h) { d with dict := { d.dict with arbs := d.dict.arbs.eraseIdx n } }).serveWaiting

/-- ARBITRATION_WINDOW_CLOSE. -/
def execArbitrationWindowClose (n : Nat) (s : State) : Host.Outcome State Fault Refusal := runOn s (fun d => d.closeWindow n)

/-! ### Reports and expiries (R344, R353, R354, R358) -/

/-- A report of an entry to a client: an event to the host, a NOTIFY frame elsewhere, its sequence open (R353, R360, log entry 3). -/
def Dev.report (d : Dev) (x : Sub) (e : Entry) (writer : Nat) : Dev :=
  let key := x.idx * 256 + x.sub
  let v := d.readNat e (d.level x.c) key true
  match x.c with
  | .host _ =>
    d.event 0x0B01 writer (x.idx * 2 ^ 48 + x.sub * 2 ^ 40 + e.ty * 2 ^ 32 + (if e.ty = 0xC ∨ e.ty = 0xD then 0 else v % 2 ^ 32))
  | c =>
    if d.portOn c then
      (d.deliver c (frameBytes writer ((d.freeAt 1).toNat % 65536) 8 e.ty x.sub 0 x.idx 0 (d.readBytes e (d.level c) key true))).useFree
    else d

/-- The master that made the value of an entry what it is: the writer of the applied value, or of the value that stands; the device itself, 4,
for a value that it has changed since (R346, R360; log entry 70). -/
def Dev.writerOf (d : Dev) (e : Entry) (key v : Nat) : Nat :=
  if e.t then (if key = 0x212001 ∧ d.intake.dropSelect = true ∧ d.tack.act.isNone = true then 4 else SMap.get 4 d.comp.ap.writers key)
  else if (SMap.get (4, 0) d.dict.writers key).2 = v then (SMap.get (4, 0) d.dict.writers key).1 else 4

/-- NOTIFY: subscription n reports a change not yet reported, with its writer, else its period (R353). -/
def Dev.notify (d : Dev) (n : Nat) : Dev :=
  match d.dict.subs[n]? with
  | none => d
  | some x =>
    match d.entry x.idx x.sub with
    | none => d
    | some e =>
      let key := x.idx * 256 + x.sub
      let v := d.readNat e (d.level x.c) key true
      let put := fun (d : Dev) => { d with dict := { d.dict with subs := d.dict.subs.set n { x with last := v, due := false } } }
      if d.up = false ∨ d.fw.handoff = true then d
      else if x.change && (x.due || v != x.last) then (put d).report x e (d.writerOf e key v)
      else if x.periodic then (put d).report x e 0
      else d

/-- NOTIFY. -/
def execNotify (n : Nat) (s : State) : Host.Outcome State Fault Refusal := runOn s (fun d => d.notify n)

/-- A subscription's entry reads another value than the one last reported: the change is reported, even where the value comes back (R353). -/
def Dev.noteSubs (d : Dev) : Dev :=
  { d with dict := { d.dict with subs := d.dict.subs.map (fun (x : Sub) =>
      match d.entry x.idx x.sub with
      | some e => if x.change && d.readNat e (d.level x.c) (x.idx * 256 + x.sub) true != x.last then { x with due := true } else x
      | none => x) } }

/-- A microsecond passes with no command waiting: mast times are counted, and subscriptions see what their entries hold (R220, R353, log entry
1). -/
def Dev.moment (d : Dev) : Dev := d.idle.noteSubs

/-- SUBSCRIPTION_EXPIRY. -/
def Dev.subscriptionExpiry (d : Dev) (n : Nat) : Dev := { d with dict := { d.dict with subs := d.dict.subs.eraseIdx n } }

/-- SUBSCRIPTION_EXPIRY. -/
def execSubscriptionExpiry (n : Nat) (s : State) : Host.Outcome State Fault Refusal := runOn s (fun d => d.subscriptionExpiry n)

/-- CLAIM_EXPIRY: a lease runs out (R354, R360). -/
def Dev.claimExpiry (d : Dev) (n : Nat) : Dev :=
  match d.dict.claims[n]? with
  | none => d
  | some c => { d with dict := { d.dict with claims := d.dict.claims.eraseIdx n } }.event 0x0B02 c.master (c.group / 256 * 2 ^ 48)

/-- CLAIM_EXPIRY. -/
def execClaimExpiry (n : Nat) (s : State) : Host.Outcome State Fault Refusal := runOn s (fun d => d.claimExpiry n)

/-- PRIVILEGE_TIMEOUT (R344). -/
def execPrivilegeTimeout (c : Client) (s : State) : Host.Outcome State Fault Refusal := runOn s (fun d => d.logout c)

/-- CAN_SEGMENT_TIMEOUT: the gap aborts the transfer with E_FRAME (R358). -/
def execCanSegmentTimeout (node : Byte) (s : State) : Host.Outcome State Fault Refusal := runOn s (fun d => d.abortSeg (.can node))

/-! ### Firmware handoff (R401, R402) -/

/-- The device itself changes FW_SLOT_BOOT, and so is its writer (R346, R360, R401). -/
def Dev.bootSlotOwn (d : Dev) (n : Nat) : Dev :=
  let d1 := (d.setVal 0xC02002 n).noteChange (fun (k : Nat) => k == 0xC02002 && d.val 0xC02002 != n)
  { d1 with dict := { d1.dict with writers := SMap.erase d1.dict.writers 0xC02002 } }

/-- HANDOFF_COMPLETE: the new image serves, and what waited is served (R351, R401). -/
def Dev.handoffComplete (d : Dev) (ms : U16) : Dev :=
  if !d.fw.handoff then d
  else
    let n := 1 - d.fw.active
    let d1 := match d.fw.slot n with | some i => d.runImage n i | none => d
    let d2 := { d1 with fw := { d1.fw with state := 0, handoff := false, rcvd := [] } }.bootSlotOwn n
    ((d2.persist 0xC020).event 0x0C02 0 (d2.fw.version.toNat * 2 ^ 32 + d2.fw.active * 2 ^ 24 + ms.toNat)).serveWaiting

/-- HANDOFF_COMPLETE. -/
def execHandoffComplete (ms : U16) (s : State) : Host.Outcome State Fault Refusal := runOn s (fun d => d.handoffComplete ms)

/-- HANDOFF_TIMEOUT: the previous image serves again (R402). -/
def Dev.handoffTimeout (d : Dev) (ms : U16) : Dev :=
  if !d.fw.handoff then d
  else
    let d1 := { d with fw := { d.fw with state := 4, handoff := false } }
    (d1.event 0x0C02 0 (d.fw.version.toNat * 2 ^ 32 + d.fw.active * 2 ^ 24 + 2 ^ 16 + ms.toNat)).serveWaiting

/-- HANDOFF_TIMEOUT. -/
def execHandoffTimeout (ms : U16) (s : State) : Host.Outcome State Fault Refusal := runOn s (fun d => d.handoffTimeout ms)

/-! ### The field ports (R347, R356, R357, R362) -/

/-- COMMUNICATION_CHANGE_EFFECT: 100 ms after its response, the oldest write that waits takes effect; those written with it take effect with
it (R362). -/
def Dev.commEffect (d : Dev) : Dev :=
  match d.dict.commDue with
  | [] => d
  | (t, _, _) :: _ =>
    let now := d.dict.commDue.filter (fun (x : Nat × Nat × Nat) => x.1 == t)
    let comm := now.foldl (fun (c : SMap (Option Nat)) (x : Nat × Nat × Nat) =>
      SMap.set none c x.2.1 (if x.2.2 = entryDefault d.fuses x.2.1 then none else some x.2.2)) d.dict.comm
    { d with dict := { d.dict with comm := comm, commDue := d.dict.commDue.filter (fun (x : Nat × Nat × Nat) => x.1 != t) } }

/-- COMMUNICATION_CHANGE_EFFECT. -/
def execCommunicationChangeEffect (s : State) : Host.Outcome State Fault Refusal := runOn s (fun d => d.commEffect)

/-- The device's IPv4 address: static, or link-local 169.254.x.y (R356). -/
def Dev.ipv4 (d : Dev) : Nat := if d.commVal 0x110005 = 0 then 0xA9FE0000 + (Config.linkLocal d.fuses.mac).toNat else d.commVal 0x110005

/-- The 10BASE-T1S port serves: UNDERWAY, in HOVE or in forced HOVE. -/
def Dev.netServes (d : Dev) : Bool :=
  d.portOn (.net 0 0) && (d.pw.state == .underway || d.pw.state == .hove || d.pw.state == .forcedHove)

/-- ARP_REQUEST for the device's address is answered, and wakes it from HOVE (R356, R381). -/
def Dev.arp (d : Dev) (target : U32) : Dev :=
  if d.netServes && d.ipv4 == target.toNat then
    let d1 := d.wake 4
    if d1.pw.state = .hove then d1 else d1.send (.arpReply target d1.fuses.mac)
  else d

/-- ARP_REQUEST. -/
def execArpRequest (target : U32) (s : State) : Host.Outcome State Fault Refusal := runOn s (fun d => d.arp target)

/-- ICMP_ECHO_REQUEST to the device's address is answered (R356). -/
def Dev.icmp (d : Dev) (target : U32) (data : List Byte) : Dev :=
  if d.netServes && d.ipv4 == target.toNat then
    let d1 := d.wake 4
    if d1.pw.state = .hove then d1 else d1.send (.netReply data)
  else d

/-- ICMP_ECHO_REQUEST. -/
def execIcmpEchoRequest (target : U32) (data : List Byte) (s : State) : Host.Outcome State Fault Refusal :=
  runOn s (fun d => d.icmp target data)

/-- DISCARDED_NET_TRAFFIC is counted (R356, R361). -/
def Dev.netDiscard (d : Dev) : Dev :=
  if d.netServes then
    let d1 := d.wake 4
    if d1.up then d1.bump 0xB02101 else d1
  else d

/-- DISCARDED_NET_TRAFFIC. -/
def execDiscardedNetTraffic (s : State) : Host.Outcome State Fault Refusal := runOn s (fun d => d.netDiscard)

/-- The header of a 16-byte frame. -/
def hdrOf (x : List Byte) : UHdr :=
  { seq := BitVec.ofNat 16 (field x 2 2), ty := x.getD 5 0, flags := x.getD 7 0, idx := BitVec.ofNat 16 (field x 8 2), sub := x.getD 6 0 }

/-- Frame faults that R347 finds in the bytes of a frame. -/
def frameFault (c : Client) (x : List Byte) : Bool :=
  let op := field x 4 1
  field x 0 1 != 1 || field x 1 1 != (masterOf c) || op == 0 || decide (7 < op) || field x 10 2 != 0 || field x 14 2 != 0 ||
    decide (1024 < field x 12 2) || field x 12 2 + 16 != x.length || badFrame (hdrOf x) op (x.drop 16)

/-- The response to a malformed frame echoes its header with status E_FRAME and no data (R347). -/
def frameEcho (x : List Byte) (status : Nat) : List Byte :=
  slice x 0 4 ++ leBytes 1 (field x 4 1 % 128 + 128) ++ slice x 5 5 ++ leBytes 2 status ++ leBytes 2 0 ++ slice x 14 2

/-- A frame arrives as bytes over NET or a host mailbox: too short for a header, malformed, or a request (R347); one that the mailbox cannot
take is turned away first (R359). -/
def Dev.frameIn (d : Dev) (c : Client) (x : List Byte) : Dev :=
  let u := hdrOf x
  let op := field x 4 1
  if overlong c x.length then d.unknownRequest 0x20
  else if !d.mailboxFree c then d.mailboxFull c
  else if x.length < 16 then d.arrive c (fun d => d.bump 0xB02101)
  else if !frameFault c x then d.request c u op (x.drop 16)
  else if d.pw.state = .forcedHove then (if d.portOn c then d.deliver c (frameEcho x 0x0D02) else d)
  else d.arrive c (fun d => (d.mailboxTake c).serveOrWait { c := c, u := u, op := op, data := [], bad := some (frameEcho x 0x0B09) })

/-- A frame that the device ignores is counted: in UNDERWAY and, by the always-on domain's matching logic, in HOVE and forced HOVE, without a
wake (R357, R376). -/
def Dev.countIgnored (d : Dev) (c : Client) : Dev :=
  if d.portOn c && (d.pw.state == .underway || d.pw.state == .hove || d.pw.state == .forcedHove) then d.bump 0xB02101 else d

/-- A CAN FD frame with its 29-bit identifier arrives (R347, R357). One for another device is none of the device's; one that cannot be
answered is counted. A frame whose DEVICE field matches wakes the device whatever it carries (R381). -/
def Dev.canIn (d : Dev) (node : Byte) (id : Nat) (x : List Byte) : Dev :=
  let c := Client.can node
  let op := id / 2 ^ 25 % 16
  let dev := id / 2 ^ 16 % 256
  let len := field x 6 1
  let u : UHdr := { seq := BitVec.ofNat 16 (id % 256), ty := x.getD 3 0, flags := 0, idx := BitVec.ofNat 16 (field x 0 2), sub := x.getD 2 0,
                    seg := x.getD 7 0 }
  if !(dev == d.commVal 0x110001 || dev == 0xFF) then d
  else if bit id 24 || (dev == 0xFF && op != 1) then d.arrive c (fun d => d)
  else if x.length < 8 then d.arrive c (fun d => d.bump 0xB02101)
  else if op = 0 ∨ 7 < op ∨ field x 4 2 ≠ 0 ∨ 56 < len ∨ x.length < 8 + len then
    if d.pw.state = .forcedHove then (if d.portOn c then d.deliver c (response c u op 0x0D02 0 []) else d)
    else d.arrive c (fun d => if d.fw.handoff && !d.handoffRoom c 1 then d.bump 0xB02101 else (d.abortSeg c).malformedReq c u op 1)
  else d.request c u op (slice x 8 len)

/-- MALFORMED_UHLOD_FRAME: bytes as they arrived; a CAN frame's begin with its identifier (R347, R357). -/
def Dev.malformed (d : Dev) (c : Client) (classical : Bool) (raw : List Byte) : Dev :=
  match c with
  | .can node => if classical then d.countIgnored c else d.canIn node (field raw 0 4) (raw.drop 4)
  | _ => d.frameIn c raw

/-- MALFORMED_UHLOD_FRAME. -/
def execMalformedUhlodFrame (c : Client) (classical : Bool) (raw : List Byte) (s : State) : Host.Outcome State Fault Refusal :=
  runOn s (fun d => d.malformed c classical raw)

end Sys2Proof.Machine
end

