-- ==== Sys2Proof/Machine/HostPort.lean ====
section
/-! DEFINITION. The host port (files 02, 03): links, sessions, BAR0 and BAR2, the USB functions, and the queue engine, which fetches
and dispatches commands. -/

namespace Sys2Proof.Machine

/-! ### Links (R23, R39, R40) -/

/-- LINK_MODE code of a USB4 mode. -/
def usb4Code : Usb4Mode → Nat
  | .gen2 => 1
  | .gen3 => 2
  | .gen4sym => 3
  | .gen4asym => 4

/-- LINK_MODE code of a USB 3.2 mode. -/
def ssCode : SsMode → Nat
  | .g1x1 => 8
  | .g1x2 => 9
  | .g2x1 => 10
  | .g2x2 => 11

/-- VBUS appears: USB4 first, then USB 3.2, each with a valid orientation, and USB 2.0 beside them, by the path enables in force; in
recovery mode USB 2.0 only (R23, R36). A USB function that comes up enumerates with its product ID and speed. At Full-Speed, too, the
USB 2.0 function outside recovery mode serves all its requests (DESIGN CHOICE, log entry 106). -/
def Dev.usbConnect (d : Dev) (orient : Bool) (p : Partner) : Dev :=
  let d1 := { d with link := { d.link with vbus := true } }
  if !d.powered then d1
  else if d.pw.state = .recovery then
    let up := p.hs && !d.coreFenced
    { d1 with link := { d1.link with usb4 := 0, ss := 0, hs := up, fs := up && p.full } }.enumerate
  else
    let en := d.paths
    let u4 := if orient && bit en 0 then ((p.usb4.map usb4Code).getD 0) else 0
    let s3 := if !(orient && bit en 1) then 0
      else if u4 ≠ 0 then (if p.tunnel3 then 12 else 0)
      else (p.ss.map ssCode).getD 0
    { d1 with link := { d1.link with usb4 := u4, ss := s3, hs := p.hs && bit en 2, fs := p.hs && bit en 2 && p.full } }.enumerate

/-- USB_CONNECT. -/
def execUsbConnect (orientValid : Bool) (partner : Partner) (s : State) : Host.Outcome State Fault Refusal :=
  runAlways s (fun d => d.usbConnect orientValid partner)

/-- A path's USB function starts afresh: not suspended, nothing discarded. -/
def Dev.freshUsb (d : Dev) (p : UsbPath) : Dev :=
  let d1 := d.setDiscard p false
  { d1 with link := match p with
      | .usb3 => { d1.link with susp3 := false, wake := d1.link.wake &&& 2 }
      | .usb2 => { d1.link with susp2 := false, wake := d1.link.wake &&& 1 } }

/-- A link is lost: its session ends; the USB3 tunnel goes with the USB4 link (R40). -/
def Dev.loseLink (d : Dev) (p : Path) : Dev :=
  match p with
  | .pcie =>
    let d1 := d.endOn .pcie true
    let d2 := if d.link.ss = 12 then (d1.endOn .usb3 true).freshUsb .usb3 else d1
    { d2 with link := { d2.link with usb4 := 0, ss := if d.link.ss = 12 then 0 else d.link.ss } }
  | .usb3 =>
    let d1 := (d.endOn .usb3 true).freshUsb .usb3
    { d1 with link := { d1.link with ss := 0 } }
  | .usb2 =>
    let d1 := (d.endOn .usb2 true).freshUsb .usb2
    { d1 with link := { d1.link with hs := false, fs := false } }

/-- A link is lost; the loss of the last one is a disconnect, at which VBUS falls (R40, R384; DESIGN CHOICE, log entry 106). -/
def Dev.linkLoss (d : Dev) (p : Path) : Dev :=
  let d1 := d.loseLink p
  { d1 with link := { d1.link with vbus := d1.link.vbus && (d1.link.usb4 != 0 || d1.link.ss != 0 || d1.link.hs) } }

/-- HOST_LINK_LOSS. -/
def execHostLinkLoss (p : Path) (s : State) : Host.Outcome State Fault Refusal := runOn s (fun d => d.linkLoss p)

/-- USB_BUS_RESET (R40). -/
def Dev.busReset (d : Dev) (p : UsbPath) : Dev := (d.endOn p.toPath true).freshUsb p

/-- USB_BUS_RESET. -/
def execUsbBusReset (p : UsbPath) (s : State) : Host.Outcome State Fault Refusal := runOn s (fun d => d.busReset p)

/-- A Function Level Reset or a hot reset: the PCIe session ends; INT_MOD, the descriptors and the MSI-X table return to reset (R40). -/
def Dev.functionReset (d : Dev) : Dev :=
  let d1 := d.endOn .pcie true
  { d1 with host := { d1.host with intMod := 1, unsignalled := 0, timerOn := false, aps := [], msix := [], pba := 0 } }

/-- FUNCTION_LEVEL_RESET. -/
def execFunctionLevelReset (_hot : Bool) (s : State) : Host.Outcome State Fault Refusal := runOn s (fun d => d.functionReset)

/-- MSI-X vectors that were pending are sent once enabled and unmasked (log entry 10). -/
def Dev.flushMsix (d : Dev) : Dev :=
  (List.range 4).foldl (fun (d : Dev) (v : Nat) =>
    if d.host.pba.getLsbD v then { d with host := { d.host with pba := d.host.pba &&& ~~~(BitVec.ofNat 4 (2 ^ v)) } }.msix v else d) d

/-- Bus Master Enable changes; cleared, it ends the PCIe session, which counts in HOST_GONE_COUNT (R28, R40; DESIGN CHOICE, log entry 91). -/
def Dev.setBme (d : Dev) (on : Bool) : Dev :=
  let d1 := { d with link := { d.link with bme := on } }
  if on then d1.flushMsix else d1.endOn .pcie true

/-- BUS_MASTER_DISABLE. -/
def execBusMasterDisable (s : State) : Host.Outcome State Fault Refusal := runOn s (fun d => d.setBme false)

/-- The function enters or leaves D3hot; the device keeps running (R39). -/
def Dev.setD3hot (d : Dev) (on : Bool) : Dev :=
  let d1 := { d with link := { d.link with d3hot := on } }
  if on then d1 else d1.flushMsix

/-- D3HOT_ENTRY. -/
def execD3hotEntry (s : State) : Host.Outcome State Fault Refusal := runOn s (fun d => d.setD3hot true)

/-- D3HOT_EXIT. -/
def execD3hotExit (s : State) : Host.Outcome State Fault Refusal := runOn s (fun d => d.setD3hot false)

/-- A USB function is suspended, with or without remote wake enabled by its host, or resumed; the first event after a suspend signals an enabled
remote wake (R39). -/
def Dev.setSuspend (d : Dev) (p : UsbPath) (on wake : Bool) : Dev :=
  { d with link := match p with
      | .usb3 => { d.link with susp3 := on, wake := (d.link.wake &&& 2) ||| (if wake then 1 else 0) }
      | .usb2 => { d.link with susp2 := on, wake := (d.link.wake &&& 1) ||| (if wake then 2 else 0) } }

/-- USB_SUSPEND. -/
def execUsbSuspend (p : Suspend) (s : State) : Host.Outcome State Fault Refusal := runOn s (fun d => d.setSuspend p.path true p.wake)

/-- USB_RESUME. -/
def execUsbResume (p : UsbPath) (s : State) : Host.Outcome State Fault Refusal := runOn s (fun d => d.setSuspend p false false)

/-- A configuration write (R25, R28, the table of the PCIe function): fields outside what the table offers keep their value. -/
def Dev.configWrite (d : Dev) : CfgSpace → Dev
  | .busMaster on => d.setBme on
  | .msixCtl enable mask => { d with link := { d.link with msixEnable := enable, msixMask := mask } }.flushMsix
  | .maxPayload n => if n = 128 ∨ n = 256 ∨ n = 512 then { d with link := { d.link with maxPayload := n } } else d
  | .maxReadRequest n =>
    if n = 128 ∨ n = 256 ∨ n = 512 ∨ n = 1024 ∨ n = 2048 ∨ n = 4096 then { d with link := { d.link with maxRead := n } } else d
  | .bar n v =>
    if n = 0 then { d with link := { d.link with bars := SMap.set 0 d.link.bars 0 (BitVec.ofNat 64 (v.toNat / 2 ^ 18 * 2 ^ 18)) } }
    else if n = 2 then
      { d with link := { d.link with bars := SMap.set 0 d.link.bars 2 (BitVec.ofNat 64 (v.toNat / 2 ^ d.link.bar2Log2 * 2 ^ d.link.bar2Log2)) } }
    else d

/-- PCIE_CONFIG_WRITE. -/
def execPcieConfigWrite (w : CfgSpace) (s : State) : Host.Outcome State Fault Refusal := runOn s (fun d => d.configWrite w)

/-! ### Sessions (R24, R28) -/

/-- SESSION_OPEN as a BAR0 write: it takes effect only with READY, Bus Master Enable and no session open (R28), in a boot mode that offers
the path (R394). -/
def Dev.pcieOpen (d : Dev) : Dev :=
  if d.booted && d.link.bme && d.host.owner.isNone && d.offers .pcie then d.openSession .pcie else d

/-- SESSION_OPEN as a vendor request, answered with an error code (R24). With no session it opens one once the device is ready, or in
recovery mode (R36); before that the code is a free value (log entry 3). In a STANDALONE boot, which serves update requests only, it is
stalled (R394, log entry 91). A function that the boot mode does not offer is not there to answer. -/
def Dev.usbOpen (d : Dev) (p : UsbPath) : Dev :=
  if d.coreFenced || !d.offers p.toPath then d
  else if d.fuses.straps = 2 ∧ d.pw.state ≠ .recovery then d.send .stall
  else match d.host.owner with
  | some o => d.send (.ctrlIn (leBytes 2 (if o = p.toPath then 0 else 0x0112)))
  | none =>
    if d.booted || d.pw.state == .recovery then (d.openSession p.toPath).send (.ctrlIn (leBytes 2 0))
    else (d.send (.ctrlIn (leBytes 2 ((d.freeAt 0).toNat)))).useFree

/-- SESSION_OPEN. -/
def Dev.sessionOpen (d : Dev) : Path → Dev
  | .pcie => if d.link.d3hot || d.pw.state == .forcedHove then d else d.pcieOpen
  | .usb3 => d.usbOpen .usb3
  | .usb2 => d.usbOpen .usb2

/-- SESSION_OPEN. -/
def execSessionOpen (p : Path) (s : State) : Host.Outcome State Fault Refusal := runOn s (fun d => d.sessionOpen p)

/-- SESSION_CLOSE ends this path's session (R40). -/
def Dev.sessionClose (d : Dev) (p : Path) : Dev :=
  if p = .pcie ∧ (d.link.d3hot = true ∨ d.pw.state = .forcedHove) then d else d.endOn p false

/-- SESSION_CLOSE. -/
def execSessionClose (p : Path) (s : State) : Host.Outcome State Fault Refusal := runOn s (fun d => d.sessionClose p)

/-! ### BAR0 (R25 to R31) -/

/-- MALFORMED_BAR0_ACCESS (R27, R41): Unsupported Request or dropped, and logged; in D3hot not logged, in forced HOVE a write is
ignored (R39, R414). -/
def Dev.malformedBar0 (d : Dev) (write : Bool) (off bytes : Nat) : Dev :=
  if bar0Shape off bytes || !d.pcieOn then d
  else
    let d1 := if write then d else d.send .unsupported
    if d.link.d3hot || (write && d.pw.state == .forcedHove) then d1 else d1.violate 3 off 0 true

/-- MALFORMED_BAR0_ACCESS. -/
def execMalformedBar0Access (write : Bool) (off : BitVec 18) (bytes : Nat) (s : State) : Host.Outcome State Fault Refusal :=
  runOn s (fun d => d.malformedBar0 write off.toNat bytes)

/-- OPEN written as 1: session, handle, offset (R30, R31). Without a session nothing but STATUS changes. -/
def Dev.apOpen (d : Dev) (n : Nat) (writeEn : Bool) : Dev :=
  let a := d.ap n
  if a.isOpen then d.setAp n { a with writeEn := writeEn }
  else if d.host.owner ≠ some .pcie then d.setAp n { a with status := 7 }
  else if !d.live a.ref then d.setAp n { a with writeEn := writeEn, status := 2 }
  else if a.offset.toNat % 4096 = 0 ∧ a.offset.toNat < d.sizeOf a.ref then d.setAp n { a with writeEn := writeEn, isOpen := true, status := 1 }
  else d.setAp n { a with writeEn := writeEn, status := 3 }

/-- OPEN written as 0 closes an open aperture (R31). -/
def Dev.apClose (d : Dev) (n : Nat) (writeEn : Bool) : Dev :=
  let a := d.ap n
  d.setAp n { a with writeEn := writeEn, isOpen := false, status := if a.isOpen then 0 else a.status }

/-- A word written to an aperture descriptor: TARGET and OFFSET are ignored while it is open (R30). -/
def Dev.apWord (d : Dev) (n o : Nat) (v : U32) : Dev :=
  let a := d.ap n
  if o = 4 then (if bit v.toNat 0 then d.apOpen n (bit v.toNat 1) else d.apClose n (bit v.toNat 1))
  else if a.isOpen then d
  else if o = 0 then d.setAp n { a with target := v }
  else if o = 8 then d.setAp n { a with offset := BitVec.ofNat 64 (a.offset.toNat / 2 ^ 32 * 2 ^ 32 + v.toNat) }
  else d.setAp n { a with offset := BitVec.ofNat 64 (v.toNat * 2 ^ 32 + a.offset.toNat % 2 ^ 32) }

/-- INT_MOD is written: the moderation condition is looked at again (R29). -/
def Dev.setIntMod (d : Dev) (v : U32) : Dev :=
  let d1 := { d with host := { d.host with intMod := v } }
  let n := d.host.unsignalled
  if n ≠ 0 ∧ max 1 (v.toNat % 65536) ≤ n then { d1 with host := { d1.host with unsignalled := 0, timerOn := false } }.msix 0
  else { d1 with host := { d1.host with timerOn := decide (n ≠ 0) && v.toNat / 65536 != 0 } }

/-- HOST_CTRL: SESSION_CLOSE, then SESSION_OPEN. -/
def Dev.hostCtrlWord (d : Dev) (v : U32) : Dev :=
  let d1 := if bit v.toNat 1 then d.endOn .pcie false else d
  if bit v.toNat 0 then d1.pcieOpen else d1

/-- A word written to the MSI-X table. -/
def Dev.msixWord (d : Dev) (n o : Nat) (v : U32) : Dev :=
  let e := SMap.get ({} : MsixEntry) d.host.msix n
  let e1 : MsixEntry :=
    if o = 0 then { e with addr := BitVec.ofNat 64 (e.addr.toNat / 2 ^ 32 * 2 ^ 32 + v.toNat) }
    else if o = 4 then { e with addr := BitVec.ofNat 64 (v.toNat * 2 ^ 32 + e.addr.toNat % 2 ^ 32) }
    else if o = 8 then { e with data := v }
    else { e with ctrl := v &&& 1 }
  { d with host := { d.host with msix := SMap.set {} d.host.msix n e1 } }.flushMsix

/-- Writing 1 to RESP_READY frees the mailbox (R359). -/
def Dev.mailboxRelease (d : Dev) : Dev := { d with xfer := { d.xfer with mboxReady := false } }

/-- MBX_DOORBELL submits the frame of that length; another value, or one while the mailbox is taken, is ignored and counted (R359). -/
def Dev.mailboxRing (d : Dev) (n : Nat) : Dev :=
  if n < 16 ∨ 1040 < n ∨ d.xfer.mboxBusy = true ∨ d.xfer.mboxReady = true then d.bump 0xB02101
  else d.frameIn (.host .pcie) ((List.range n).map (fun i => SMap.get 0 d.xfer.mboxReq i))

/-- A word written to the mailbox: the request area, the doorbell, the status (R359). -/
def Dev.mailboxWord (d : Dev) (o : Nat) (v : U32) : Dev :=
  if o < 0x800 then
    { d with xfer := { d.xfer with mboxReq := (List.range 4).foldl (fun (m : SMap Byte) (i : Nat) =>
        SMap.set 0 m (o + i) ((leBytes 4 v.toNat).getD i 0)) d.xfer.mboxReq } }
  else if o = 0x1000 then d.mailboxRing (v.toNat % 2048)
  else if o = 0x1004 ∧ bit v.toNat 1 = true then d.mailboxRelease
  else d

/-- A word written to BAR0 by the PCIe path, by region; reserved and read-only offsets ignore it (R7, R27). -/
def Dev.bar0WriteWord (d : Dev) (o : Nat) (v : U32) : Dev :=
  if 0x10000 ≤ o ∧ o < 0x12000 then d.mailboxWord (o - 0x10000) v
  else if 0x8000 ≤ o ∧ o < 0x8200 then d.portWord .pcie o v
  else if d.pw.state = .forcedHove then d
  else if o = 0x10 then (if bit v.toNat 1 then { d with host := { d.host with viol := false } } else d)
  else if o = 0x14 then d.hostCtrlWord v
  else if o = 0x18 then d.setIntMod v
  else if 0x1000 ≤ o ∧ o < 0x1400 then d.apWord ((o - 0x1000) / 16) (o % 16) v
  else if 0x2000 ≤ o ∧ o < 0x9000 then d.portWord .pcie o v
  else if 0x20000 ≤ o ∧ o < 0x20040 then d.msixWord ((o - 0x20000) / 16) (o % 16) v
  else d

/-- A BAR0 write arrives: dropped in D3hot, and in forced HOVE ignored but for doorbells and the mailbox (R39, R414). An 8-byte write
is its low word, then its high word. -/
def Dev.bar0Write (d : Dev) (off : Nat) (wide : Bool) (v : U64) : Dev :=
  if d.link.d3hot || !d.pcieOn || !bar0Shape off (if wide then 8 else 4) then d
  else
    let d1 := d.bar0WriteWord off (v.setWidth 32)
    if wide then d1.bar0WriteWord (off + 4) ((v >>> 32).setWidth 32) else d1

/-- REGISTER_WRITE. -/
def execRegisterWrite (off : BitVec 18) (wide : Bool) (v : U64) (s : State) : Host.Outcome State Fault Refusal :=
  runOn s (fun d => d.bar0Write off.toNat wide v)

/-- The INT_MOD timer runs out: vector 0 is sent for the events not signalled (R29). -/
def Dev.intModExpiry (d : Dev) : Dev :=
  if d.host.timerOn then { d with host := { d.host with timerOn := false, unsignalled := 0 } }.msix 0 else d

/-- INT_MOD_TIMER_EXPIRY. -/
def execIntModTimerExpiry (s : State) : Host.Outcome State Fault Refusal := runOn s (fun d => d.intModExpiry)

/-- BAR0 writes of the PCIe path reach the device: not in D3hot, in recovery, or in forced HOVE (R36, R39, R414). -/
def Dev.bar0Reach (d : Dev) : Bool := !d.link.d3hot && d.pcieOn && d.pw.state != .forcedHove

/-- APERTURE_OPEN. -/
def execApertureOpen (n : BitVec 6) (writeEn : Bool) (s : State) : Host.Outcome State Fault Refusal :=
  runOn s (fun d => if d.bar0Reach then d.apOpen n.toNat writeEn else d)

/-- APERTURE_CLOSE. -/
def execApertureClose (n : BitVec 6) (writeEn : Bool) (s : State) : Host.Outcome State Fault Refusal :=
  runOn s (fun d => if d.bar0Reach then d.apClose n.toNat writeEn else d)

/-- BAR2 is resized: every open aperture closes with RESIZED, and vector 2 reports it (R26, R31). -/
def Dev.bar2Resize (d : Dev) (log2 : Nat) : Dev :=
  if log2 < 32 ∨ 38 < log2 ∨ log2 = d.link.bar2Log2 ∨ d.pcieOn = false then d
  else
    let d1 := { d with link := { d.link with bar2Log2 := log2 } }
    if (List.range 64).any (fun n => (d.ap n).isOpen) then d1.closeAps (fun _ => true) 5 else d1.msix 2

/-- BAR2_RESIZE. -/
def execBar2Resize (log2 : Nat) (s : State) : Host.Outcome State Fault Refusal := runOn s (fun d => d.bar2Resize log2)

/-! ### BAR2 (R26, R30 to R32) -/

/-- A slot of BAR2. -/
def Dev.slotSize (d : Dev) : Nat := 2 ^ (d.link.bar2Log2 - 6)

/-- The window of an aperture: the slot, or to the end of the buffer (R30). -/
def Dev.window (d : Dev) (a : Ap) : Nat := min d.slotSize (d.sizeOf a.ref - a.offset.toNat)

/-- The open aperture whose window holds a whole access, with the buffer offset it reaches. -/
def Dev.bar2Target (d : Dev) (off n : Nat) : Option (Ap × Nat) :=
  let i := off / d.slotSize
  let a := d.ap i
  let w := off % d.slotSize
  if i < 64 ∧ a.isOpen = true ∧ w + n ≤ d.window a then some (a, a.offset.toNat + w) else none

/-- BAR2 answers: not in D3hot, in recovery, or in forced HOVE (R36, R39, R414). -/
def Dev.bar2Reach (d : Dev) : Bool := d.bar0Reach

/-- A BAR2 access in HOVE takes the DRAM out of self-refresh before it completes (R38); the device stays in HOVE, since no wake source of R381
is a BAR2 access. -/
def Dev.bar2Wakes (d : Dev) : Dev := if d.bar2Reach then { d with dram := { d.dram with selfRefresh := false } } else d

/-- A BAR2 read: answered from DRAM, poisoned on an uncorrectable line, or a violation (R32, R41, R326). How a read of the lost channel
is answered is left open: a free value chooses (log entry 3). -/
def Dev.bar2Read (d : Dev) (off n : Nat) : Dev :=
  if !d.pcieOn then d
  else if !d.bar2Reach then d.send .unsupported
  else match d.bar2Target off n with
  | none => (d.send .unsupported).violate 1 off 0 true
  | some (a, o) =>
    if d.lostBuf a.ref o n then (d.send (if bit (d.freeAt 0).toNat 0 then .unsupported else .poisoned)).useFree
    else match d.checkBuf (hostSrc .pcie) a.ref o n with
    | (some _, d1) => d1.send .poisoned
    | (none, d1) => d1.send (.readData (d1.readBuf a.ref o n))

/-- BAR2_READ. -/
def execBar2Read (off : Nat) (len : Nat) (s : State) : Host.Outcome State Fault Refusal := runOn s (fun d => d.bar2Wakes.bar2Read off len)

/-- A BAR2 write: stored through a window with WRITE_EN, else dropped as a violation (R32, R41). -/
def Dev.bar2Write (d : Dev) (off : Nat) (data : List Byte) : Dev :=
  if !d.bar2Reach then d
  else match d.bar2Target off data.length with
  | none => d.violate 1 off 0 true
  | some (a, o) =>
    if !a.writeEn then d.violate 2 off a.target.toNat true
    else if d.lostBuf a.ref o data.length then d
    else d.hostStore (hostSrc .pcie) a.ref o data

/-- BAR2_WRITE. -/
def execBar2Write (off : Nat) (data : List Byte) (s : State) : Host.Outcome State Fault Refusal := runOn s (fun d => d.bar2Wakes.bar2Write off data)

/-! ### The USB functions (R34 to R36, R66) -/

/-- USB_SUBMIT. -/
def execUsbSubmit (p : UsbPath) (ctrl : Bool) (x : XferHdr) (payload : List Byte) (s : State) : Host.Outcome State Fault Refusal :=
  runOn s (fun d => d.transfer p ctrl x payload)

/-- USB_WRITE. -/
def execUsbWrite (p : UsbPath) (ctrl : Bool) (x : XferHdr) (payload : List Byte) (s : State) : Host.Outcome State Fault Refusal :=
  runOn s (fun d => d.transfer p ctrl x payload)

/-- USB_READ. -/
def execUsbRead (p : UsbPath) (ctrl : Bool) (x : XferHdr) (payload : List Byte) (s : State) : Host.Outcome State Fault Refusal :=
  runOn s (fun d => d.transfer p ctrl x payload)

/-- XFER_IN returns the pending transfer, up to 4,096 bytes at a time (R36). With none pending, the answer is left open: a free value
chooses an empty data stage or a STALL (log entry 3). -/
def Dev.xferIn (d : Dev) : Dev :=
  match d.xfer.xferIn with
  | x :: t =>
    { d with xfer := { d.xfer with xferIn := if 4096 < x.length then x.drop 4096 :: t else t } }.send (.ctrlIn (x.take 4096))
  | [] => (d.send (if bit (d.freeAt 0).toNat 0 then .ctrlIn [] else .stall)).useFree

/-- XFER_IN. -/
def execXferIn (s : State) : Host.Outcome State Fault Refusal := runOn s (fun d => if d.booted && d.usbServes then d.xferIn else d.send .stall)

/-- MAILBOX_IN returns the oldest response, or a zero-length data stage (R359). -/
def Dev.mailboxIn (d : Dev) : UsbPath → Dev
  | .usb3 => { d with xfer := { d.xfer with resp3 := d.xfer.resp3.drop 1 } }.send (.ctrlIn (d.xfer.resp3.headD []))
  | .usb2 => { d with xfer := { d.xfer with resp2 := d.xfer.resp2.drop 1 } }.send (.ctrlIn (d.xfer.resp2.headD []))

/-- MAILBOX_IN; where recovery mode does not accept it, it is stalled and not logged (R36; DESIGN CHOICE, log entry 91). -/
def execMailboxIn (p : UsbPath) (s : State) : Host.Outcome State Fault Refusal :=
  runOn s (fun d => if d.usbServes then d.mailboxIn p else d.send .stall)

/-- MAILBOX_RESPONSE_FREE. -/
def execMailboxResponseFree (s : State) : Host.Outcome State Fault Refusal :=
  runOn s (fun d => if d.link.d3hot || !d.pcieOn then d else d.mailboxRelease)

/-- UNKNOWN_VENDOR_REQUEST. -/
def execUnknownVendorRequest (_p : UsbPath) (bRequest : Byte) (_wLength : U16) (s : State) : Host.Outcome State Fault Refusal :=
  runOn s (fun d => d.unknownRequest bRequest)

/-- The USB function is suspended. -/
def Dev.suspended (d : Dev) : UsbPath → Bool
  | .usb3 => d.link.susp3
  | .usb2 => d.link.susp2

/-- An interrupt transfer of 1 to 64 records completes: its whole records are consumed and HEAD advances; returned space drains an overflow
(R35, R66, R67). With no record in the ring there is none. -/
def Dev.interruptDone (d : Dev) (p : UsbPath) (n : Nat) : Dev :=
  let k := min (min n 64) d.ring.recs.length
  if d.host.owner ≠ some p.toPath ∨ d.suspended p = true ∨ d.ring.enabled = false ∨ k = 0 then d
  else
    ({ d with ring := { d.ring with
        recs := d.ring.recs.drop k
        head := BitVec.ofNat 16 ((d.ring.head.toNat + k) % d.ring.size) } }.send
      (.intrIn p ((d.ring.recs.take k).flatMap Event.bytes))).drainRing

/-- INTERRUPT_TRANSFER_COMPLETE. -/
def execInterruptTransferComplete (p : UsbPath) (records : BitVec 7) (s : State) : Host.Outcome State Fault Refusal :=
  runOn s (fun d => d.interruptDone p records.toNat)

/-! ### Queues and the event ring (R44 to R46, R65 to R67) -/

/-- A write of a path reaches the registers of 0x0_2000 to 0x0_8FFF. -/
def Dev.portReach (d : Dev) (p : Path) : Bool := if p = .pcie then d.bar0Reach else d.booted && d.usbServes

/-- QUEUE_ENABLE. -/
def execQueueEnable (p : Path) (q : QueueId) (cfg : U32) (s : State) : Host.Outcome State Fault Refusal :=
  runOn s (fun d => if d.portReach p then d.queueEnable p q cfg else d)

/-- QUEUE_DISABLE. -/
def execQueueDisable (p : Path) (q : QueueId) (cfg : U32) (s : State) : Host.Outcome State Fault Refusal :=
  runOn s (fun d => if d.portReach p then d.queueDisable p q cfg else d)

/-- DOORBELL: the one BAR0 write that forced HOVE holds. -/
def execDoorbell (p : Path) (q : QueueId) (v : U32) (s : State) : Host.Outcome State Fault Refusal :=
  runOn s (fun d => if d.portReach p || (d.pw.state == .forcedHove && !(p == .pcie && d.link.d3hot)) then d.doorbell p q v else d)

/-- EVENT_RING_ENABLE. -/
def execEventRingEnable (p : Path) (cfg : U32) (s : State) : Host.Outcome State Fault Refusal :=
  runOn s (fun d => if d.portReach p then d.ringEnable p cfg else d)

/-- EVENT_RING_DISABLE. -/
def execEventRingDisable (p : Path) (cfg : U32) (s : State) : Host.Outcome State Fault Refusal :=
  runOn s (fun d => if d.portReach p then d.ringDisable p cfg else d)

/-- EVENT_RING_HEAD_WRITE. -/
def execEventRingHeadWrite (p : Path) (v : U32) (s : State) : Host.Outcome State Fault Refusal :=
  runOn s (fun d => if d.portReach p then d.ringHead p v else d)

/-! ### Fetch and dispatch (R47, R48, R51) -/

/-- A queue has a command ready: RUNNING, a command announced, nothing holding it, and its slot not on the lost channel. -/
def Dev.fetchable (d : Dev) (q : QueueId) : Bool :=
  let x := d.queue q
  x.state == .running && x.head != x.tail && x.hold == .none && !(x.loc && d.lostBuf x.ringRef (64 * x.head) 64)

/-- Every queue, from the one after a given queue round to itself. -/
def roundFrom (q : Nat) : List QueueId := (List.range 64).map (fun i => BitVec.ofNat 6 ((q + 1 + i) % 64))

/-- The queue that the next grant goes to: one that has watched 64 grants, else the lowest class, round robin within it (R47). -/
def Dev.grantee (d : Dev) : Option QueueId :=
  let pick := fun (c : Nat) (p : Queue → Bool) =>
    (roundFrom (SMap.get 63 d.qs.lastGrant c)).find? (fun q => d.fetchable q && (d.queue q).cls.toNat == c && p (d.queue q))
  match (List.range 4).findSome? (fun c => pick c (fun x => decide (64 ≤ x.watched))) with
  | some q => some q
  | none => (List.range 4).findSome? (fun c => pick c (fun _ => true))

/-- A grant goes to a queue; every other queue with a command ready has watched one more (R47). -/
def Dev.granted (d : Dev) (q : QueueId) : Dev :=
  { d with qs := { d.qs with
      lastGrant := SMap.set 63 d.qs.lastGrant (d.queue q).cls.toNat q.toNat
      queues := d.qs.queues.map (fun (x : Nat × Queue) =>
        (x.1, { x.2 with watched := if x.1 = q.toNat then 0 else if d.fetchable (BitVec.ofNat 6 x.1) then min 64 (x.2.watched + 1) else 0 })) } }

/-- A command with a reserved bit set fails with the byte's offset (R7, R52); the commands that count their failures count it. -/
def Dev.reservedBit (d : Dev) (q : QueueId) (h : Hdr) (op i : Nat) : Dev :=
  if op = 0x08 then (d.markFence q).reject q h op 0x0103 i
  else if op = 0x30 then d.lensReject q h (0x0103, i, none)
  else if op = 0x41 then (d.noteReject (0x0103, i, none)).reject q h op 0x0103 i
  else d.reject q h op 0x0103 i

/-- The meaning of an opcode with its body. -/
def Dev.meaning (d : Dev) (q : QueueId) (h : Hdr) (op : Nat) (c : List Byte) : Dev :=
  match op with
  | 0x01 => d.nop q h
  | 0x02 => d.alloc q h (allocOf c)
  | 0x03 => d.free_ q h (refOf c 8)
  | 0x04 => d.query q h (queryOf c)
  | 0x08 => d.fence q h (fenceOf c)
  | 0x09 => d.wait q h (waitOf c)
  | 0x0A => d.tackHold q h (waitOf c)
  | 0x10 => d.dmaIn q h (dmaOf c)
  | 0x11 => d.dmaOut q h (dmaOf c)
  | 0x20 => d.decode q h (decodeOf c)
  | 0x21 => d.feedReset q h (feedResetOf c)
  | 0x28 => d.viewsetDefine q h (viewSetBodyOf c)
  | 0x30 => d.lensSet q h (lensSetOf c)
  | 0x40 => d.layerSet q h (layerOf c)
  | 0x41 => d.commit q h (commitOf c)
  | 0x42 => d.lutLoad q h (lutOf c)
  | 0x50 => d.draw .fill q h (blitOf false c)
  | 0x51 => d.draw .copy q h (blitOf true c)
  | 0x52 => d.draw .blend q h (blitOf true c)
  | 0x53 => d.draw .pattern q h (blitOf true c)
  | 0x54 => d.draw .line q h (blitOf false c)
  | 0x55 => d.clipSet q h (clipOf c)
  | 0x60 => d.proofSet q h (proofOf c)
  | 0x61 => d.readback q h (readbackOf c)
  | 0x70 => d.sailCfgWrite q h (cfgWriteOf c)
  | 0x71 => d.sailCfgRead q h (cfgReadOf c)
  | _ => d

/-- A fetched command is dispatched: steps 1 and 2 of R51, then its own checks and effect. -/
def Dev.runCommand (d : Dev) (q : QueueId) (c : List Byte) : Dev :=
  let op := (byteOf c 0).toNat
  let h := cmdHdr c
  match layout op (byteOf c 11).toNat with
  | none => d.reject q h op 0x0101 0
  | some l =>
    match firstReserved l c with
    | some i => d.reservedBit q h op i
    | none => d.meaning q h op c

/-- The slot at HEAD has been copied: HEAD advances and the command runs (R45). -/
def Dev.fetched (d : Dev) (q : QueueId) (c : List Byte) : Dev :=
  let x := d.queue q
  (d.setQueue q { x with head := (x.head + 1) % 2 ^ x.log2.toNat }).runCommand q c

/-- COMMAND_FETCH: a queue gets the grant; its command comes from host memory, with an error completion (none) halting it, or from its
ring buffer, where an uncorrectable line halts it (R46, R47). Queues that a READBACK holds look for a place first (R48). D3hot does not hold the
fetch of new commands back, nor event records (R39; DESIGN CHOICE, log entry 91). -/
def Dev.commandFetch (d : Dev) (host : Option (List Byte)) : Dev :=
  if !d.up then d
  else
    let d0 := d.retryReadbacks
    match d0.grantee with
    | none => d0
    | some q =>
      let d1 := d0.granted q
      let x := d1.queue q
      if x.loc then
        match d1.fetchBuf 1 queueSrc x.ringRef (64 * x.head) 64 with
        | (some _, d2) => d2.haltQueue q 0x0A03
        | (none, d2) => d2.fetched q (d2.readBuf x.ringRef (64 * x.head) 64)
      else match host with
        | none => d1.haltQueue q 0x0116
        | some c => d1.fetched q c

/-- COMMAND_FETCH. -/
def execCommandFetch (host : Option (List Byte)) (s : State) : Host.Outcome State Fault Refusal := runOn s (fun d => d.commandFetch host)

end Sys2Proof.Machine
end

