-- ==== Sys2Proof/Machine/Dispatch.lean ====
section
/-! DEFINITION. Dispatch: one arm per row of the table, each a direct call of that row's meaning. -/

namespace Sys2Proof.Machine

def exec (i : Instr) (s : State) : Host.Outcome State Fault Refusal :=
  match i with
  | .usbConnect orientValid partner => Sys2Proof.Machine.execUsbConnect orientValid partner s
  | .hostLinkLoss p => Sys2Proof.Machine.execHostLinkLoss p s
  | .usbBusReset p => Sys2Proof.Machine.execUsbBusReset p s
  | .functionLevelReset hot => Sys2Proof.Machine.execFunctionLevelReset hot s
  | .busMasterDisable => Sys2Proof.Machine.execBusMasterDisable s
  | .d3hotEntry => Sys2Proof.Machine.execD3hotEntry s
  | .usbSuspend p => Sys2Proof.Machine.execUsbSuspend p s
  | .sessionOpen p => Sys2Proof.Machine.execSessionOpen p s
  | .sessionClose p => Sys2Proof.Machine.execSessionClose p s
  | .malformedBar0Access write off bytes => Sys2Proof.Machine.execMalformedBar0Access write off bytes s
  | .registerWrite off wide v => Sys2Proof.Machine.execRegisterWrite off wide v s
  | .intModTimerExpiry => Sys2Proof.Machine.execIntModTimerExpiry s
  | .apertureOpen n writeEn => Sys2Proof.Machine.execApertureOpen n writeEn s
  | .apertureClose n writeEn => Sys2Proof.Machine.execApertureClose n writeEn s
  | .bar2Resize log2 => Sys2Proof.Machine.execBar2Resize log2 s
  | .bar2Read off len => Sys2Proof.Machine.execBar2Read off len s
  | .bar2Write off data => Sys2Proof.Machine.execBar2Write off data s
  | .usbSubmit p ctrl x payload => Sys2Proof.Machine.execUsbSubmit p ctrl x payload s
  | .usbWrite p ctrl x payload => Sys2Proof.Machine.execUsbWrite p ctrl x payload s
  | .usbRead p ctrl x payload => Sys2Proof.Machine.execUsbRead p ctrl x payload s
  | .xferIn => Sys2Proof.Machine.execXferIn s
  | .mailboxIn p => Sys2Proof.Machine.execMailboxIn p s
  | .mailboxResponseFree => Sys2Proof.Machine.execMailboxResponseFree s
  | .unknownVendorRequest p bRequest wLength => Sys2Proof.Machine.execUnknownVendorRequest p bRequest wLength s
  | .interruptTransferComplete p records => Sys2Proof.Machine.execInterruptTransferComplete p records s
  | .recoveryWrite p wValue data => Sys2Proof.Machine.execRecoveryWrite p wValue data s
  | .recoveryStatus p => Sys2Proof.Machine.execRecoveryStatus p s
  | .imageVerifyComplete => Sys2Proof.Machine.execImageVerifyComplete s
  | .queueEnable p q cfg => Sys2Proof.Machine.execQueueEnable p q cfg s
  | .queueDisable p q cfg => Sys2Proof.Machine.execQueueDisable p q cfg s
  | .doorbell p q v => Sys2Proof.Machine.execDoorbell p q v s
  | .commandFetch host => Sys2Proof.Machine.execCommandFetch host s
  | .eventRingEnable p cfg => Sys2Proof.Machine.execEventRingEnable p cfg s
  | .eventRingDisable p cfg => Sys2Proof.Machine.execEventRingDisable p cfg s
  | .eventRingHeadWrite p v => Sys2Proof.Machine.execEventRingHeadWrite p v s
  | .nop q h => Sys2Proof.Machine.execNop q h s
  | .alloc q h b => Sys2Proof.Machine.execAlloc q h b s
  | .free q h b => Sys2Proof.Machine.execFree q h b s
  | .bufFreeComplete handle => Sys2Proof.Machine.execBufFreeComplete handle s
  | .query q h b => Sys2Proof.Machine.execQuery q h b s
  | .fence q h b => Sys2Proof.Machine.execFence q h b s
  | .fenceSignal q => Sys2Proof.Machine.execFenceSignal q s
  | .wait q h b => Sys2Proof.Machine.execWait q h b s
  | .waitTimeout q => Sys2Proof.Machine.execWaitTimeout q s
  | .tackHold q h b => Sys2Proof.Machine.execTackHold q h b s
  | .dmaIn q h b => Sys2Proof.Machine.execDmaIn q h b s
  | .dmaOut q h b => Sys2Proof.Machine.execDmaOut q h b s
  | .dmaComplete id host => Sys2Proof.Machine.execDmaComplete id host s
  | .decode q h b => Sys2Proof.Machine.execDecode q h b s
  | .decodeJobPlace q => Sys2Proof.Machine.execDecodeJobPlace q s
  | .matchStallResume t lane => Sys2Proof.Machine.execMatchStallResume t lane s
  | .sheafSuccess t => Sys2Proof.Machine.execSheafSuccess t s
  | .sheafFailure t => Sys2Proof.Machine.execSheafFailure t s
  | .feedReset q h b => Sys2Proof.Machine.execFeedReset q h b s
  | .feedActionTakesEffect f => Sys2Proof.Machine.execFeedActionTakesEffect f s
  | .saveAreaFreeEffect f => Sys2Proof.Machine.execSaveAreaFreeEffect f s
  | .thresherFault t fence => Sys2Proof.Machine.execThresherFault t fence s
  | .thresherProgressTimeout t => Sys2Proof.Machine.execThresherProgressTimeout t s
  | .jobsJoinThresher f => Sys2Proof.Machine.execJobsJoinThresher f s
  | .encodeJobComplete t sheaf => Sys2Proof.Machine.execEncodeJobComplete t sheaf s
  | .viewsetDefine q h b => Sys2Proof.Machine.execViewsetDefine q h b s
  | .viewsetDefineTakesEffect slot => Sys2Proof.Machine.execViewsetDefineTakesEffect slot s
  | .pendingSlotFreeEffect slot => Sys2Proof.Machine.execPendingSlotFreeEffect slot s
  | .lensSet q h b => Sys2Proof.Machine.execLensSet q h b s
  | .layerSet q h b => Sys2Proof.Machine.execLayerSet q h b s
  | .lutLoad q h b => Sys2Proof.Machine.execLutLoad q h b s
  | .commit q h b => Sys2Proof.Machine.execCommit q h b s
  | .tackBoundary => Sys2Proof.Machine.execTackBoundary s
  | .commitWaitTimeout => Sys2Proof.Machine.execCommitWaitTimeout s
  | .tackPeriodExpiry => Sys2Proof.Machine.execTackPeriodExpiry s
  | .tackSyncEdge rising => Sys2Proof.Machine.execTackSyncEdge rising s
  | .syncTimeout => Sys2Proof.Machine.execSyncTimeout s
  | .plotAdmit m => Sys2Proof.Machine.execPlotAdmit m s
  | .jobDispatch => Sys2Proof.Machine.execJobDispatch s
  | .plotComputeStart c corrected refetched upsets => Sys2Proof.Machine.execPlotComputeStart c corrected refetched upsets s
  | .scalerGrant c => Sys2Proof.Machine.execScalerGrant c s
  | .plotHandoff c upto => Sys2Proof.Machine.execPlotHandoff c upto s
  | .clusterFault c cause => Sys2Proof.Machine.execClusterFault c cause s
  | .clusterProgressTimeout c => Sys2Proof.Machine.execClusterProgressTimeout c s
  | .clusterFenceComplete c => Sys2Proof.Machine.execClusterFenceComplete c s
  | .partitionFault p => Sys2Proof.Machine.execPartitionFault p s
  | .packetSerialiseStart m => Sys2Proof.Machine.execPacketSerialiseStart m s
  | .underrun m => Sys2Proof.Machine.execUnderrun m s
  | .alignDue m => Sys2Proof.Machine.execAlignDue m s
  | .ackReceived m sl sq => Sys2Proof.Machine.execAckReceived m sl sq s
  | .tackBroadcast => Sys2Proof.Machine.execTackBroadcast s
  | .tackOutPulse => Sys2Proof.Machine.execTackOutPulse s
  | .nakReceived m sl sq reason => Sys2Proof.Machine.execNakReceived m sl sq reason s
  | .retransmitTimeout m sq => Sys2Proof.Machine.execRetransmitTimeout m sq s
  | .pingTimer => Sys2Proof.Machine.execPingTimer s
  | .creditReceived sl total => Sys2Proof.Machine.execCreditReceived sl total s
  | .statusReceived sl flags temp => Sys2Proof.Machine.execStatusReceived sl flags temp s
  | .cfgDataReceived m sl sq addr data => Sys2Proof.Machine.execCfgDataReceived m sl sq addr data s
  | .backstayPacketError p => Sys2Proof.Machine.execBackstayPacketError p s
  | .strayAnswer m => Sys2Proof.Machine.execStrayAnswer m s
  | .sailCfgWrite q h b => Sys2Proof.Machine.execSailCfgWrite q h b s
  | .sailCfgRead q h b => Sys2Proof.Machine.execSailCfgRead q h b s
  | .mastDetHigh m => Sys2Proof.Machine.execMastDetHigh m s
  | .mastDetQualified m => Sys2Proof.Machine.execMastDetQualified m s
  | .enumerationComplete m caps => Sys2Proof.Machine.execEnumerationComplete m caps s
  | .eyeReportReceived m r => Sys2Proof.Machine.execEyeReportReceived m r s
  | .equaliseEnd m => Sys2Proof.Machine.execEqualiseEnd m s
  | .verifyComplete m hops => Sys2Proof.Machine.execVerifyComplete m hops s
  | .retrainStart m => Sys2Proof.Machine.execRetrainStart m s
  | .backstayLockLoss m => Sys2Proof.Machine.execBackstayLockLoss m s
  | .retrainComplete m => Sys2Proof.Machine.execRetrainComplete m s
  | .rateChangeComplete m hops => Sys2Proof.Machine.execRateChangeComplete m hops s
  | .rejoinAttempt m found => Sys2Proof.Machine.execRejoinAttempt m found s
  | .hoveExitLockTimeout m => Sys2Proof.Machine.execHoveExitLockTimeout m s
  | .trainRequestRetrain c sq m => Sys2Proof.Machine.execTrainRequestRetrain c sq m s
  | .trainRequestBringup c sq m => Sys2Proof.Machine.execTrainRequestBringup c sq m s
  | .fill q h b => Sys2Proof.Machine.execFill q h b s
  | .copy q h b => Sys2Proof.Machine.execCopy q h b s
  | .blend q h b => Sys2Proof.Machine.execBlend q h b s
  | .pattern q h b => Sys2Proof.Machine.execPattern q h b s
  | .line q h b => Sys2Proof.Machine.execLine q h b s
  | .clipSet q h b => Sys2Proof.Machine.execClipSet q h b s
  | .blitAccept q => Sys2Proof.Machine.execBlitAccept q s
  | .blitWatermark => Sys2Proof.Machine.execBlitWatermark s
  | .blitComplete => Sys2Proof.Machine.execBlitComplete s
  | .proofSet q h b => Sys2Proof.Machine.execProofSet q h b s
  | .readback q h b => Sys2Proof.Machine.execReadback q h b s
  | .readbackComplete id => Sys2Proof.Machine.execReadbackComplete id s
  | .writeQueueDrain ch => Sys2Proof.Machine.execWriteQueueDrain ch s
  | .requestClassPromotion ch n => Sys2Proof.Machine.execRequestClassPromotion ch n s
  | .dramTempPoll temps => Sys2Proof.Machine.execDramTempPoll temps s
  | .dramThermalStep => Sys2Proof.Machine.execDramThermalStep s
  | .dramRateStepUp => Sys2Proof.Machine.execDramRateStepUp s
  | .dqTracking ch retrain => Sys2Proof.Machine.execDqTracking ch retrain s
  | .dramRetrainStep ch works => Sys2Proof.Machine.execDramRetrainStep ch works s
  | .dataRateWrite c sq rate => Sys2Proof.Machine.execDataRateWrite c sq rate s
  | .dramRateSwitch => Sys2Proof.Machine.execDramRateSwitch s
  | .dramModeRegisterTimeout ch => Sys2Proof.Machine.execDramModeRegisterTimeout ch s
  | .uhlodRead c u data => Sys2Proof.Machine.execUhlodRead c u data s
  | .uhlodWrite c u data => Sys2Proof.Machine.execUhlodWrite c u data s
  | .uhlodWriteMulti c u data => Sys2Proof.Machine.execUhlodWriteMulti c u data s
  | .uhlodCommit c u data => Sys2Proof.Machine.execUhlodCommit c u data s
  | .claim c u data => Sys2Proof.Machine.execClaim c u data s
  | .release c u data => Sys2Proof.Machine.execRelease c u data s
  | .subscribe c u data => Sys2Proof.Machine.execSubscribe c u data s
  | .notify n => Sys2Proof.Machine.execNotify n s
  | .subscriptionExpiry n => Sys2Proof.Machine.execSubscriptionExpiry n s
  | .claimExpiry n => Sys2Proof.Machine.execClaimExpiry n s
  | .arbitrationWindowClose n => Sys2Proof.Machine.execArbitrationWindowClose n s
  | .privilegeTimeout c => Sys2Proof.Machine.execPrivilegeTimeout c s
  | .canSegmentTimeout node => Sys2Proof.Machine.execCanSegmentTimeout node s
  | .login c sq data => Sys2Proof.Machine.execLogin c sq data s
  | .logout c sq => Sys2Proof.Machine.execLogout c sq s
  | .setPassword c sq data => Sys2Proof.Machine.execSetPassword c sq data s
  | .lockEntry c sq idx sub => Sys2Proof.Machine.execLockEntry c sq idx sub s
  | .unlockEntry c sq idx sub => Sys2Proof.Machine.execUnlockEntry c sq idx sub s
  | .markAll c sq sl v => Sys2Proof.Machine.execMarkAll c sq sl v s
  | .resetRequestWarm c sq => Sys2Proof.Machine.execResetRequestWarm c sq s
  | .resetRequestCold c sq => Sys2Proof.Machine.execResetRequestCold c sq s
  | .requestedResetDue => Sys2Proof.Machine.execRequestedResetDue s
  | .mastReset c sq m => Sys2Proof.Machine.execMastReset c sq m s
  | .offlineRequest c sq p => Sys2Proof.Machine.execOfflineRequest c sq p s
  | .returnToServiceRequest c sq p => Sys2Proof.Machine.execReturnToServiceRequest c sq p s
  | .bistRequest c sq p tests => Sys2Proof.Machine.execBistRequest c sq p tests s
  | .bistFullRun c sq tests => Sys2Proof.Machine.execBistFullRun c sq tests s
  | .bistStart => Sys2Proof.Machine.execBistStart s
  | .bistComplete p r => Sys2Proof.Machine.execBistComplete p r s
  | .lifeCycleAdvance c sq v => Sys2Proof.Machine.execLifeCycleAdvance c sq v s
  | .fwHandoff c sq => Sys2Proof.Machine.execFwHandoff c sq s
  | .handoffComplete ms => Sys2Proof.Machine.execHandoffComplete ms s
  | .handoffTimeout ms => Sys2Proof.Machine.execHandoffTimeout ms s
  | .trimRequest c sq => Sys2Proof.Machine.execTrimRequest c sq s
  | .restoreDefaults c sq => Sys2Proof.Machine.execRestoreDefaults c sq s
  | .powerOn refclk => Sys2Proof.Machine.execPowerOn refclk s
  | .resetNQualified => Sys2Proof.Machine.execResetNQualified s
  | .pwrOkFall => Sys2Proof.Machine.execPwrOkFall s
  | .bootComplete b => Sys2Proof.Machine.execBootComplete b s
  | .watchdogExpiry => Sys2Proof.Machine.execWatchdogExpiry s
  | .hoveIdleTimeout => Sys2Proof.Machine.execHoveIdleTimeout s
  | .wakeTimerExpiry => Sys2Proof.Machine.execWakeTimerExpiry s
  | .mooredEntry => Sys2Proof.Machine.execMooredEntry s
  | .mooredExit w => Sys2Proof.Machine.execMooredExit w s
  | .thermalSample raw => Sys2Proof.Machine.execThermalSample raw s
  | .sensorExclude n => Sys2Proof.Machine.execSensorExclude n s
  | .sensorReinclude n => Sys2Proof.Machine.execSensorReinclude n s
  | .classAReleaseStep => Sys2Proof.Machine.execClassAReleaseStep s
  | .classBStepUp => Sys2Proof.Machine.execClassBStepUp s
  | .classBStepDown => Sys2Proof.Machine.execClassBStepDown s
  | .forcedHoveExit => Sys2Proof.Machine.execForcedHoveExit s
  | .shutdownRecordWrite => Sys2Proof.Machine.execShutdownRecordWrite s
  | .trimRunStart t rcalMilliohm => Sys2Proof.Machine.execTrimRunStart t rcalMilliohm s
  | .mastTrimSlot m a => Sys2Proof.Machine.execMastTrimSlot m a s
  | .trimRunComplete rest => Sys2Proof.Machine.execTrimRunComplete rest s
  | .trimInterpolate => Sys2Proof.Machine.execTrimInterpolate s
  | .ledgerWrite => Sys2Proof.Machine.execLedgerWrite s
  | .counterStep n => Sys2Proof.Machine.execCounterStep n s
  | .ledgerRefreshScan weakBits => Sys2Proof.Machine.execLedgerRefreshScan weakBits s
  | .returnAuth key sig => Sys2Proof.Machine.execReturnAuth key sig s
  | .ledgerRaw a => Sys2Proof.Machine.execLedgerRaw a s
  | .bistCtrl r => Sys2Proof.Machine.execBistCtrl r s
  | .idcode => Sys2Proof.Machine.execIdcode s
  | .extest bits => Sys2Proof.Machine.execExtest bits s
  | .samplePreload bits => Sys2Proof.Machine.execSamplePreload bits s
  | .bypass => Sys2Proof.Machine.execBypass s
  | .resetRelease straps => Sys2Proof.Machine.execResetRelease straps s
  | .powerLoss => Sys2Proof.Machine.execPowerLoss s
  | .pcieConfigWrite w => Sys2Proof.Machine.execPcieConfigWrite w s
  | .d3hotExit => Sys2Proof.Machine.execD3hotExit s
  | .usbResume p => Sys2Proof.Machine.execUsbResume p s
  | .communicationChangeEffect => Sys2Proof.Machine.execCommunicationChangeEffect s
  | .arpRequest target => Sys2Proof.Machine.execArpRequest target s
  | .icmpEchoRequest target data => Sys2Proof.Machine.execIcmpEchoRequest target data s
  | .discardedNetTraffic => Sys2Proof.Machine.execDiscardedNetTraffic s
  | .malformedUhlodFrame c classical raw => Sys2Proof.Machine.execMalformedUhlodFrame c classical raw s
  | .blitRowVisible => Sys2Proof.Machine.execBlitRowVisible s
  | .dramPhyTrimSlot g a => Sys2Proof.Machine.execDramPhyTrimSlot g a s
  | .ledgerWriteComplete => Sys2Proof.Machine.execLedgerWriteComplete s

end Sys2Proof.Machine
end

