-- ==== Sys2Proof/Machine/Pins.lean ====
section
/-! DEFINITION. The levels of the control outputs that follow from the state (R415, R473, R475): open-drain pins, driven low or high
impedance. -/

namespace Sys2Proof.Machine

/-- THERM_SHDN_N is driven low: a shutdown is latched; high impedance otherwise, from power-up on (R415, R469, R473). -/
def Dev.thermShdnLow (d : Dev) : Bool := d.pw.latched

/-- No block drives its outputs: VDD_AON below its range, RESET_N or PWR_OK low, a shutdown latched (R415, R469, R470, R473). -/
def Dev.outputsOff (d : Dev) : Bool :=
  d.pw.state == .off || d.pw.state == .shutdown || d.pw.resetLow || !d.pw.pwrOk || d.pw.latched

/-- The event ring of an open session holds a record that has not been consumed: TAIL differs from HEAD (R475). -/
def Dev.unconsumed (d : Dev) : Bool := d.host.owner.isSome && d.ring.tail != d.ring.head

/-- A class A or class B throttle, or forced HOVE, is in force (R409, R475). -/
def Dev.throttled (d : Dev) : Bool := d.th.clsNow != 0 || d.pw.state == .forcedHove

/-- A partition is FENCED (R461, R475). -/
def Dev.anyFenced (d : Dev) : Bool := (List.range 40).any (fun (p : Nat) => (d.partn p).state == .fenced)

/-- A sail is UNRESPONSIVE: entry 0x2010.02 is not 0 (R475). -/
def Dev.anyUnresponsive (d : Dev) : Bool := d.push.sails.any (fun (x : Nat × Sail) => x.2.reach == .unresponsive)

/-- EVENT_N is driven low while any of R475's conditions holds, and is high impedance otherwise; the 10 µs that it may take to change are
left out (log entry 104). -/
def Dev.eventLow (d : Dev) : Bool :=
  !d.outputsOff && (d.unconsumed || d.dram.lost.isSome || d.throttled || d.anyFenced || d.anyUnresponsive)

/-- The low-speed outputs. XSPI_CLK's level in reset is not stated; its blocks are idle. -/
inductive OutPin where
  | eventN | thermShdnN | tackOut | canTx | xspiCsN | xspiDq | tdo
  deriving DecidableEq, Repr

/-- What an output does: a level, high impedance, the boundary-scan register's bit, or what its block makes of it. -/
inductive PinDrive where
  | low | high | highZ | scan | block
  deriving DecidableEq, Repr

/-- The in-reset level of an output (R473). -/
def OutPin.inReset : OutPin → PinDrive
  | .eventN | .thermShdnN | .xspiDq | .tdo => .highZ
  | .tackOut => .low
  | .canTx | .xspiCsN => .high

/-- The level of an output: high impedance without VDD_AON and while a shutdown is latched, but for THERM_SHDN_N; in reset as R473 gives, but where
boundary scan drives it; and else by its block (R415, R457, R469, R470, R473, R475). -/
def Dev.pinDrive (d : Dev) (p : OutPin) : PinDrive :=
  if p = .thermShdnN then (if d.thermShdnLow then .low else .highZ)
  else if d.pw.state = .off ∨ d.pw.latched = true then .highZ
  else if d.flt.extest = true ∧ p ≠ .tdo then .scan
  else if d.outputsOff then p.inReset
  else if p = .eventN then (if d.eventLow then .low else .highZ)
  else .block

end Sys2Proof.Machine
end

