-- ==== Sys2Proof/Safety.lean ====
section
/-! DEFINITION. What claims mean by a run that goes on, by a frame, and by the canonical form of the device's memory. -/

namespace Sys2Proof.Machine

/-- The parts of the device that a frame names. What the device sends outside (`out`) is no part: it belongs to one command. -/
inductive Part where
  | fuses | link | host | xfer | ring | qs | intake | comp | tack | push | lines | draws | dram | memlog | dict | pw | fw | th | trim
  | ledger | flt | now | free
  deriving DecidableEq, Repr

/-- A part is the same in two devices. -/
def Dev.samePart (a b : Dev) : Part → Prop
  | .fuses => b.fuses = a.fuses
  | .link => b.link = a.link
  | .host => b.host = a.host
  | .xfer => b.xfer = a.xfer
  | .ring => b.ring = a.ring
  | .qs => b.qs = a.qs
  | .intake => b.intake = a.intake
  | .comp => b.comp = a.comp
  | .tack => b.tack = a.tack
  | .push => b.push = a.push
  | .lines => b.lines = a.lines
  | .draws => b.draws = a.draws
  | .dram => b.dram = a.dram
  | .memlog => b.memlog = a.memlog
  | .dict => b.dict = a.dict
  | .pw => b.pw = a.pw
  | .fw => b.fw = a.fw
  | .th => b.th = a.th
  | .trim => b.trim = a.trim
  | .ledger => b.ledger = a.ledger
  | .flt => b.flt = a.flt
  | .now => b.now = a.now
  | .free => b.free = a.free

/-- The frame: every part but the named ones is unchanged. -/
def Frame (parts : List Part) (a b : Dev) : Prop := ∀ p : Part, p ∉ parts → a.samePart b p

/-- The parts that raising an event may touch: the ring, the host port's signalling, the remote-wake flag and the counter of
dropped events (R29, R39, R40, R65 to R67). -/
def eventParts : List Part := [.ring, .host, .link, .dict]

/-- The parts that work on plots, sails and masts may touch: a sail that is lost withdraws its plots and fails its commands, and the last
plot of a tack retires it, which writes READBACKs and so may meet an upset line (R198, R202, R208, R258, R308, R324). -/
def deliveryParts : List Part := eventParts ++ [.push, .lines, .comp, .draws, .tack, .dram, .memlog, .ledger, .flt, .qs, .intake, .free]

/-- A command answers a next state with the same waiting commands, leaves every part but the named ones unchanged, and the device
it leaves has a property. -/
def Runs (c : Instr) (s : State) (parts : List Part) (p : Dev → Prop) : Prop :=
  ∃ t : Dev, exec c s = .next { dev := t, pending := s.pending } ∧ Frame parts s.dev t ∧ p t

/-- A command answers exactly this device, with the same waiting commands. -/
def Becomes (c : Instr) (s : State) (t : Dev) : Prop := exec c s = .next { dev := t, pending := s.pending }

/-- DRAM is in canonical form: addresses strictly rising, no listed byte that reads as an unlisted one. -/
def Memory.wf (d : Dev) : Bool := SMap.wf (0 : Byte) d.dram.data

/-- The tables whose entries are written under a key have rising keys. -/
def TablesRise (d : Dev) : Prop :=
  SMap.rising d.dict.vals = true ∧ SMap.rising d.qs.queues = true ∧ SMap.rising d.qs.bufs = true ∧ SMap.rising d.intake.feeds = true ∧
  SMap.rising d.intake.slots = true ∧ SMap.rising d.push.sails = true ∧ SMap.rising d.push.masts = true ∧ SMap.rising d.dram.chans = true ∧
  SMap.rising d.host.aps = true ∧ SMap.rising d.link.bars = true ∧ SMap.rising d.th.sensors = true ∧ SMap.rising d.trim.codes = true ∧
  SMap.rising d.dram.caches = true ∧ SMap.rising d.dict.comm = true ∧ SMap.rising d.qs.lastGrant = true

/-- The next id is above that of every incomplete command, of every job of a feed, and of every DECODE that a write has met. -/
def IdsAreFresh (d : Dev) : Prop :=
  (∀ c ∈ d.qs.cmds, c.id < d.qs.nextId) ∧ (∀ j ∈ d.jobs, j.feed.isSome = true → j.id < d.qs.nextId) ∧
  ∀ r ∈ d.intake.races, r.1 < d.qs.nextId

/-- No address lies in two buffers that are LIVE or FREEING (R54). -/
def BuffersAreApart (d : Dev) : Prop :=
  ∀ m n : U16, m ≠ n → (d.buf m).state ≠ .free → (d.buf n).state ≠ .free →
    ∀ a : Nat, (d.buf m).base ≤ a → a < (d.buf m).base + (d.buf m).size → (d.buf n).base ≤ a → (d.buf n).base + (d.buf n).size ≤ a

/-- Every byte of DRAM outside a range of addresses reads as before. -/
def SameMemoryOutside (a n : Nat) (d t : Dev) : Prop := ∀ x : Nat, x < a ∨ a + n ≤ x → t.byteAt x = d.byteAt x

/-- A request frame of a client executes as it arrives (R346 to R351, R357 to R359): the device is UNDERWAY, the client's port is enabled and its
mailbox free, no handoff runs, no earlier request of its master is held or waits, its sequence is no repeat, its header is no frame fault; over
CAN it is one unsegmented frame, which carries no flags. -/
def Dev.serves (d : Dev) (c : Client) (u : UHdr) (op : Nat) (data : List Byte) : Prop :=
  d.pw.state = .underway ∧ d.mailboxFree c = true ∧ d.portOn c = true ∧ d.fw.handoff = false ∧ d.masterBusy (masterOf c) = false ∧
  (d.client c).dup.find? (fun (x : U16 × Nat × List Byte) => x.1 == u.seq && decide (d.now < x.2.1 + 2000000)) = none ∧
  badFrame u op data = false ∧
  (∀ node, c = .can node → u.flags = 0 ∧ bit u.seg.toNat 7 = false ∧ data.length ≤ 56 ∧ (d.client c).seg = none)

/-- A WRITE of one value to an entry by a client whose master holds the entry's group passes every check, and so acts at once (R348, R354). -/
def Dev.acts (d : Dev) (c : Client) (sq : U16) (ty idx sub : Nat) (data : List Byte) : Prop :=
  d.serves c (writeHdr sq ty idx sub) 2 data ∧ d.writeCheck c { idx := idx, sub := sub, ty := ty, val := data } = 0 ∧
  ∃ g, groupOf idx sub = some g ∧ d.holder g = some (masterOf c)

/-- Every part, but for the clock: what a reset of the device may touch. -/
def resetParts : List Part :=
  [.fuses, .link, .host, .xfer, .ring, .qs, .intake, .comp, .tack, .push, .lines, .draws, .dram, .memlog, .dict, .pw, .fw, .th, .trim, .ledger, .flt, .free]

/-- What every reset clears: nothing waits, runs or is held in the datapath, at the ports or in the dictionary, and of the masts only the state of their
DET pins is left (R388). -/
def Cleared (d t : Dev) : Prop :=
  t.xfer = {} ∧ t.ring = {} ∧ t.intake = {} ∧ t.tack = {} ∧ t.draws = {} ∧ t.memlog = {} ∧ t.comp.shadow = [] ∧ t.comp.pend = [] ∧
  t.comp.held = [] ∧ t.push = { masts := d.maskMasts } ∧ t.dict.claims = [] ∧ t.dict.subs = [] ∧ t.dict.arbs = [] ∧ t.dict.waiting = [] ∧
  t.host.owner = none

/-- A COLD reset with a cause has happened (R388, R416). -/
def ColdReset (d t : Dev) (held : Bool) (cause : Nat) : Prop :=
  Cleared d t ∧ t.host = {} ∧ t.qs = {} ∧ t.th = {} ∧ t.pw.state = (if held then .resetHeld else .boot) ∧ t.pw.since = d.now ∧
  t.pw.coldAt = d.now ∧ t.pw.request = none ∧
  (∃ r : Bool, t.fw = { slotA := d.fw.slotA, slotB := d.fw.slotB, flash := d.fw.flash, active := d.fw.active, version := d.fw.version, restored := r }) ∧
  (d.fuses.lifeNext = none → t.fuses = d.fuses) ∧
  (d.fuses.lifeNext = none → d.ledger.writing = none → t.pw.cause = if (d.recordData 0xF602).getD [] = [] then cause else 7) ∧
  t.link.usb4 = 0 ∧ t.link.ss = 0 ∧ t.link.hs = false ∧ t.link.bme = false ∧ t.link.vbus = d.link.vbus

/-- A WARM reset with a cause has happened: DRAM, buffers, firmware and fuses are kept, and the host links but on leaving MOORED (R383, R388, R389). -/
def WarmReset (d t : Dev) (moored : Bool) (cause : Nat) : Prop :=
  Cleared d t ∧ t.dram.data = d.dram.data ∧ t.qs = d.qs.warm ∧ t.fuses = d.fuses ∧ t.pw.state = .boot ∧ t.pw.since = d.now ∧ t.pw.cause = cause ∧
  t.pw.coldAt = d.pw.coldAt ∧
  t.fw = { slotA := d.fw.slotA, slotB := d.fw.slotB, flash := d.fw.flash, active := d.fw.active, version := d.fw.version,
           restored := d.fw.restored } ∧
  t.th = { peak := d.th.peak } ∧
  (moored = false → t.host = { msix := d.host.msix, pba := d.host.pba } ∧ t.link = { d.link with wake := 0, low := .l0 }) ∧
  (moored = true → t.host = {} ∧ t.link.usb4 = 0 ∧ t.link.ss = 0 ∧ t.link.hs = false ∧ t.link.bme = false)

/-- A session has ended (R40): no owner, the ring disabled and empty, queues DISABLED with nothing left to fetch, apertures closed, holds
released, no host DMA left; commands already fetched stay, but for the DMAs, and so do buffers and fence slots. -/
def SessionEnded (d t : Dev) : Prop :=
  t.host.owner = none ∧ t.ring.enabled = false ∧ t.ring.recs = [] ∧
  (∀ q : QueueId, (t.queue q).state = .disabled ∧ (t.queue q).head = (d.queue q).head ∧ (t.queue q).tail = (d.queue q).head) ∧
  (∀ n : Nat, n < 64 → (t.ap n).isOpen = false) ∧
  t.qs.holds = [] ∧ t.qs.dmas = [] ∧ t.qs.bufs = d.qs.bufs ∧ t.qs.slots = d.qs.slots ∧
  (∀ c : CmdRec, c ∈ d.qs.cmds → (∀ x : DmaRec, x ∈ d.qs.dmas → x.id ≠ c.id) → c ∈ t.qs.cmds)

end Sys2Proof.Machine

namespace Sys2Proof

/-- The commands that reach the always-on domain or a pin, and so act whether or not the rest of the device has power. -/
def Instr.alwaysOn : Instr → Bool
  | .usbConnect _ _ | .powerOn _ | .powerLoss | .resetNQualified | .pwrOkFall | .resetRelease _ | .mooredExit _ => true
  | .thermalSample _ | .sensorExclude _ | .sensorReinclude _ | .classAReleaseStep | .classBStepUp | .classBStepDown => true
  | .shutdownRecordWrite | .counterStep _ | .idcode | .extest _ | .samplePreload _ | .bypass => true
  | _ => false

/-- The queue of a command that a submission queue dispatches (R50). -/
def Instr.queue : Instr → Option QueueId
  | .nop q _ | .alloc q _ _ | .free q _ _ | .query q _ _ | .fence q _ _ | .wait q _ _ | .tackHold q _ _ => some q
  | .dmaIn q _ _ | .dmaOut q _ _ | .decode q _ _ | .feedReset q _ _ | .viewsetDefine q _ _ | .lensSet q _ _ => some q
  | .layerSet q _ _ | .lutLoad q _ _ | .commit q _ _ | .sailCfgWrite q _ _ | .sailCfgRead q _ _ => some q
  | .fill q _ _ | .copy q _ _ | .blend q _ _ | .pattern q _ _ | .line q _ _ | .clipSet q _ _ => some q
  | .proofSet q _ _ | .readback q _ _ => some q
  | _ => none

/-- The command that a slot of a ring spells: the opcode table of R50 with each body's layout. -/
def slotCommand (q : QueueId) (c : List Byte) : Option Instr :=
  let h := Machine.cmdHdr c
  match (Machine.byteOf c 0).toNat with
  | 0x01 => some (.nop q h)
  | 0x02 => some (.alloc q h (Machine.allocOf c))
  | 0x03 => some (.free q h (Machine.refOf c 8))
  | 0x04 => some (.query q h (Machine.queryOf c))
  | 0x08 => some (.fence q h (Machine.fenceOf c))
  | 0x09 => some (.wait q h (Machine.waitOf c))
  | 0x0A => some (.tackHold q h (Machine.waitOf c))
  | 0x10 => some (.dmaIn q h (Machine.dmaOf c))
  | 0x11 => some (.dmaOut q h (Machine.dmaOf c))
  | 0x20 => some (.decode q h (Machine.decodeOf c))
  | 0x21 => some (.feedReset q h (Machine.feedResetOf c))
  | 0x28 => some (.viewsetDefine q h (Machine.viewSetBodyOf c))
  | 0x30 => some (.lensSet q h (Machine.lensSetOf c))
  | 0x40 => some (.layerSet q h (Machine.layerOf c))
  | 0x41 => some (.commit q h (Machine.commitOf c))
  | 0x42 => some (.lutLoad q h (Machine.lutOf c))
  | 0x50 => some (.fill q h (Machine.blitOf false c))
  | 0x51 => some (.copy q h (Machine.blitOf true c))
  | 0x52 => some (.blend q h (Machine.blitOf true c))
  | 0x53 => some (.pattern q h (Machine.blitOf true c))
  | 0x54 => some (.line q h (Machine.blitOf false c))
  | 0x55 => some (.clipSet q h (Machine.clipOf c))
  | 0x60 => some (.proofSet q h (Machine.proofOf c))
  | 0x61 => some (.readback q h (Machine.readbackOf c))
  | 0x70 => some (.sailCfgWrite q h (Machine.cfgWriteOf c))
  | 0x71 => some (.sailCfgRead q h (Machine.cfgReadOf c))
  | _ => none

end Sys2Proof
end

