-- ==== Sys2Proof/Certificates/Slice0/Obligations.lean ====
section
/-! DEFINITION. The statements of this model, by the files of the spec. `Runs` and `Becomes` say that a command answers a next state;
the frame of `Runs` names every part that may change. A statement that rests on a choice of the model names its log entry. -/

open Sys2Proof Sys2Proof.Machine

/-! ### The machine -/

/-- A step runs the command at the front of the queue, with the rest of the queue. -/
def Obligations.StepRunsTheFrontCommand : Prop :=
  ∀ (c : Instr) (rest : List Instr) (d : Dev), step { dev := d, pending := c :: rest } = exec c { dev := d, pending := rest }

/-- On an empty queue a microsecond passes: the clock advances, nothing is sent, and nothing but the counters of the time each mast is
URGENT, and what subscriptions note of their entries, may change (R220, R353; the tick is log entry 1).
No command ends a run: each answers a next state, and none touches the commands that wait. -/
def Obligations.EveryStepGoesOn : Prop :=
  (∀ d : Dev, ∃ t : Dev, step { dev := d, pending := [] } = .next { dev := t, pending := [] } ∧ t.now = d.now + 1 ∧ t.out = [] ∧
     Frame [.now, .dict] d t ∧
     (∀ k : Nat, (∀ m : MastId, k ≠ mastKey m 0x14) → t.val k = d.val k)) ∧
  (∀ (c : Instr) (s : State), ∃ t : Dev, exec c s = .next { dev := t, pending := s.pending })

/-- While only the always-on domain runs, every command of the rest of the device has no effect (R376, R382, R388, R415).
A queue that a command holds dispatches nothing: each of the 26 commands has no effect there (R48; what a row means on a held queue is
log entry 8). -/
def Obligations.UnpoweredAndHeldDoNothing : Prop :=
  (∀ (c : Instr) (s : State), c.alwaysOn = false → s.dev.powered = false → Becomes c s { s.dev with out := [] }) ∧
  (∀ (c : Instr) (q : QueueId) (s : State), c.queue = some q → s.dev.powered = true → (s.dev.queue q).hold ≠ .none →
     Becomes c s { s.dev with out := [] })

/-! ### Host port: links and sessions (files 02, 03) -/

/-- USB_CONNECT offers USB4 first, then USB 3.2, then USB 2.0, each where its path is enabled and the orientation is valid, with the
USB3 tunnel beside USB4 (R23); a USB function that comes up enumerates with its product ID and speed (the USB functions of 02_host_attachment.md);
in recovery mode USB 2.0 only, with product ID 0x10FF (R36), and none where only BIST_CTRL reaches the device (R463). That no orientation leaves
USB 2.0 alone is log entry 25; a USB 2.0 host at Full-Speed is served as one at High-Speed by log entry 106.
D3hot, USB suspend and resume, and the plain fields of the PCIe function's configuration space change those fields and nothing else
(R25, R28, R39); the MSI-X control and the remote wake are log entry 10, the masking of BAR 2 is log entry 26. -/
def Obligations.LinksAndConfigurationSpace : Prop :=
  (∀ (s : State) (o : Bool) (p : Partner), s.dev.powered = true →
     (s.dev.pw.state ≠ .recovery → Runs (.usbConnect o p) s [.link] (fun t =>
       t.link.vbus = true ∧ t.link.hs = (p.hs && bit s.dev.paths 2) ∧ t.link.fs = (t.link.hs && p.full) ∧
       (o = false → t.link.usb4 = 0 ∧ t.link.ss = 0) ∧
       (∀ m, o = true → bit s.dev.paths 0 = true → p.usb4 = some m →
         t.link.usb4 = usb4Code m ∧ t.link.ss = if bit s.dev.paths 1 && p.tunnel3 then 12 else 0) ∧
       (∀ m, o = true → bit s.dev.paths 1 = true → p.usb4 = none → p.ss = some m →
         t.link.usb4 = 0 ∧ t.link.ss = ssCode m) ∧
       t.out = (if t.link.ss = 0 then [] else [.usbDevice .usb3 0x1F4D s.dev.usbProduct false]) ++
         (if t.link.hs then [.usbDevice .usb2 0x1F4D s.dev.usbProduct t.link.fs] else []))) ∧
     (s.dev.pw.state = .recovery → Runs (.usbConnect o p) s [.link] (fun t =>
       t.link.vbus = true ∧ t.link.usb4 = 0 ∧ t.link.ss = 0 ∧ t.link.hs = (p.hs && !s.dev.coreFenced) ∧
       t.out = if t.link.hs then [.usbDevice .usb2 0x1F4D 0x10FF p.full] else []))) ∧
  (∀ s : State, s.dev.powered = true →
     Becomes .d3hotEntry s { s.dev with out := [], link := { s.dev.link with d3hot := true } } ∧
     (s.dev.host.pba = 0 → Becomes .d3hotExit s { s.dev with out := [], link := { s.dev.link with d3hot := false } }) ∧
     (∀ w : Bool,
       Becomes (.usbSuspend ⟨.usb3, w⟩) s { s.dev with
         out := [], link := { s.dev.link with susp3 := true, wake := (s.dev.link.wake &&& 2) ||| (if w then 1 else 0) } } ∧
       Becomes (.usbSuspend ⟨.usb2, w⟩) s { s.dev with
         out := [], link := { s.dev.link with susp2 := true, wake := (s.dev.link.wake &&& 1) ||| (if w then 2 else 0) } }) ∧
     Becomes (.usbResume .usb3) s { s.dev with out := [], link := { s.dev.link with susp3 := false, wake := s.dev.link.wake &&& 2 } } ∧
     Becomes (.usbResume .usb2) s { s.dev with out := [], link := { s.dev.link with susp2 := false, wake := s.dev.link.wake &&& 1 } } ∧
     (s.dev.host.pba = 0 → Becomes (.pcieConfigWrite (.busMaster true)) s { s.dev with out := [], link := { s.dev.link with bme := true } }) ∧
     (∀ e m : Bool, s.dev.host.pba = 0 →
       Becomes (.pcieConfigWrite (.msixCtl e m)) s { s.dev with out := [], link := { s.dev.link with msixEnable := e, msixMask := m } }) ∧
     (∀ n : Nat, n ∈ [128, 256, 512] →
       Becomes (.pcieConfigWrite (.maxPayload n)) s { s.dev with out := [], link := { s.dev.link with maxPayload := n } }) ∧
     (∀ n : Nat, n ∈ [128, 256, 512, 1024, 2048, 4096] →
       Becomes (.pcieConfigWrite (.maxReadRequest n)) s { s.dev with out := [], link := { s.dev.link with maxRead := n } }) ∧
     (∀ v : U64, SMap.rising s.dev.link.bars = true → Runs (.pcieConfigWrite (.bar 2 v)) s [.link] (fun t =>
       SMap.get 0 t.link.bars 2 = BitVec.ofNat 64 (v.toNat - v.toNat % 2 ^ s.dev.link.bar2Log2) ∧
       SMap.get 0 t.link.bars 0 = SMap.get 0 s.dev.link.bars 0)))

/-- SESSION_OPEN by a path that may have it makes it the queue owner, advances SESSION, restarts the event accounting and clears every
clip state: by PCIe with READY and Bus Master Enable, by a USB path with READY or in recovery mode, there by USB 2.0 alone (R24, R28, R36, R65,
R288). On a busy device a vendor request is answered with E_HOST_PATH_BUSY and a PCIe write is ignored (R24, R28). A path that the boot mode
does not offer opens none, and in a STANDALONE boot no session opens at all (R394); that the USB 2.0 request is stalled there, and that
EVR_STATUS.OVERFLOW is cleared by an opening, is the model's choice (log entry 91). -/
def Obligations.SessionOpenTakesOrRefuses : Prop :=
  ∀ (s : State) (p : Path), s.dev.powered = true → s.dev.coreFenced = false → SMap.rising s.dev.dict.vals = true →
    (s.dev.host.owner = none → s.dev.offers p = true →
      (p = .pcie → s.dev.booted = true ∧ s.dev.pw.state ≠ .forcedHove ∧ s.dev.link.bme = true ∧ s.dev.link.d3hot = false) →
      (p ≠ .pcie → (s.dev.booted = true ∧ s.dev.fuses.straps ≠ 2) ∨ s.dev.pw.state = .recovery) →
      Runs (.sessionOpen p) s [.host, .ring, .qs, .dict] (fun t =>
        t.host.owner = some p ∧ t.host.sessionCtr = s.dev.host.sessionCtr + 1 ∧ t.host.unsignalled = 0 ∧
        t.host.aps = s.dev.host.aps ∧ t.host.intMod = s.dev.host.intMod ∧
        t.ring.enabled = false ∧ t.ring.dropped = 0 ∧ t.ring.base = s.dev.ring.base ∧
        (∀ q, t.queue q = { s.dev.queue q with clip := [] }) ∧ t.qs.cmds = s.dev.qs.cmds ∧ t.qs.bufs = s.dev.qs.bufs ∧
        t.val 0x230005 = satAdd 0xFFFFFFFF (s.dev.val 0x230005) 1 ∧ (∀ k, k ≠ 0x230005 → t.val k = s.dev.val k) ∧
        t.out = if p = .pcie then [] else [.ctrlIn [0, 0]])) ∧
    (∀ o, s.dev.host.owner = some o → o ≠ p → s.dev.offers p = true →
      (p ≠ .pcie → s.dev.fuses.straps ≠ 2 ∨ s.dev.pw.state = .recovery) →
      Becomes (.sessionOpen p) s { s.dev with out := if p = .pcie then [] else [.ctrlIn [0x12, 0x01]] }) ∧
    (p = .pcie → (s.dev.booted = false ∨ s.dev.link.bme = false) → Becomes (.sessionOpen p) s { s.dev with out := [] }) ∧
    (s.dev.offers p = false → Becomes (.sessionOpen p) s { s.dev with out := [] }) ∧
    (s.dev.fuses.straps = 2 → s.dev.pw.state ≠ .recovery →
      Becomes (.sessionOpen p) s { s.dev with out := if p = .usb2 ∧ bit s.dev.link.pathEnable 2 = true then [.stall] else [] }) ∧
    (s.dev.pw.state = .recovery → (s.dev.offers p = true ↔ p = .usb2)) ∧
    (s.dev.fuses.straps = 1 → s.dev.pw.state ≠ .recovery → s.dev.offers .pcie = false)

/-- A session ends by SESSION_CLOSE, by loss of its link, by a bus reset, a function reset, or the clearing of Bus Master Enable: no path
owns the queues, the ring is disabled and its records are gone and counted, every queue is DISABLED with its unfetched commands discarded,
every open aperture is closed, every hold is released, every host DMA is over; buffers, fences, memory and deliveries are as they were,
and a path that does not own the session ends nothing (R40). That a bus reset clears the path's bulk discard and suspend state, and a link loss its
mode, is log entry 25. -/
def Obligations.SessionEndClosesTheHostPort : Prop :=
  ∀ (s : State) (p : Path), s.dev.powered = true → s.dev.host.owner = some p → s.dev.pw.state ≠ .forcedHove →
    (s.dev.link.d3hot = false → Runs (.sessionClose p) s [.host, .ring, .qs, .dict, .intake, .link, .free] (fun t =>
      SessionEnded s.dev t ∧ ∀ n < 64, (s.dev.ap n).isOpen = true → (t.ap n).status = 6)) ∧
    Runs (.hostLinkLoss p) s [.host, .ring, .qs, .dict, .intake, .link, .free, .xfer] (fun t => SessionEnded s.dev t ∧
      (match p with | .pcie => t.link.usb4 = 0 | .usb3 => t.link.ss = 0 | .usb2 => t.link.hs = false)) ∧
    (∀ u : UsbPath, u.toPath = p →
      Runs (.usbBusReset u) s [.host, .ring, .qs, .dict, .intake, .link, .free, .xfer] (fun t => SessionEnded s.dev t ∧
        t.discards u = false ∧ t.suspended u = false)) ∧
    (p = .pcie → ∀ hot : Bool, Runs (.functionLevelReset hot) s [.host, .ring, .qs, .dict, .intake, .link, .free] (fun t =>
      SessionEnded s.dev t ∧ t.host.intMod = 1 ∧ t.host.aps = [] ∧ t.host.msix = [] ∧ t.host.pba = 0)) ∧
    (p = .pcie → Runs .busMasterDisable s [.host, .ring, .qs, .dict, .intake, .link, .free] (fun t =>
      SessionEnded s.dev t ∧ t.link.bme = false)) ∧
    (∀ o : Path, o ≠ p → Becomes (.sessionClose o) s { s.dev with out := [] })

/-! ### Host port: BAR0, apertures, BAR2 (files 02, 03) -/

/-- A BAR0 access of the wrong width or alignment is dropped or answered with Unsupported Request, and logged as a violation: VIOL is set,
the log holds source 3, the offset, handle 0 and the OPEN tack, the counter advances, and the event comes at most once per 100 µs
(R27, R41, R42). In D3hot it is not logged (R39). -/
def Obligations.MalformedBar0AccessIsLogged : Prop :=
  ∀ (s : State) (write : Bool) (off : BitVec 18) (n : Nat), s.dev.powered = true → bar0Shape off.toNat n = false →
    s.dev.pw.state ≠ .recovery → SMap.rising s.dev.dict.vals = true →
    (s.dev.link.d3hot = false → s.dev.pw.state ≠ .forcedHove →
      Runs (.malformedBar0Access write off n) s eventParts (fun t =>
        t.host.viol = true ∧ t.host.violSource = 3 ∧ t.host.violAddr = off.toNat ∧ t.host.violHandle = 0 ∧
        t.host.violTack = s.dev.openTack ∧ t.host.owner = s.dev.host.owner ∧ t.host.aps = s.dev.host.aps ∧
        t.val 0xB01001 = satAdd 0xFFFFFFFF (s.dev.val 0xB01001) 1 ∧
        (write = false → t.out.head? = some .unsupported) ∧ (write = true → Out.unsupported ∉ t.out) ∧
        (∀ at_, s.dev.host.violAt = some at_ → s.dev.now < at_ + 100 →
          t.host.violAt = some at_ ∧ t.host.violSince = s.dev.host.violSince + 1) ∧
        ((∀ at_, s.dev.host.violAt = some at_ → at_ + 100 ≤ s.dev.now) → t.host.violAt = some s.dev.now ∧ t.host.violSince = 0))) ∧
    (s.dev.link.d3hot = true →
      Becomes (.malformedBar0Access write off n) s { s.dev with out := if write then [] else [.unsupported] })

/-- A plain register stores what is written, a W1C bit is cleared by a 1, a reserved or read-only offset ignores the write, and nothing
else changes (R7, R27, R30, R44, R65; the MSI-X table's layout is log entry 10). In D3hot every write is dropped (R39).
The INT_MOD timer, where it runs, sends vector 0 for the events not signalled; where it does not run, nothing happens (R29). -/
def Obligations.RegistersAndTheIntModTimer : Prop :=
  (∀ s : State, s.dev.powered = true → s.dev.pw.state ≠ .recovery → s.dev.pw.state ≠ .forcedHove →
     (∀ off wide v, s.dev.link.d3hot = true → Becomes (.registerWrite off wide v) s { s.dev with out := [] }) ∧
     (s.dev.link.d3hot = false →
       (∀ w : U32, Becomes (.registerWrite 0x10 false (w.setWidth 64)) s
         { s.dev with out := [], host := { s.dev.host with viol := s.dev.host.viol && !w.getLsbD 1 } }) ∧
       (∀ w : U32, s.dev.host.unsignalled = 0 → Becomes (.registerWrite 0x18 false (w.setWidth 64)) s
         { s.dev with out := [], host := { s.dev.host with intMod := w, timerOn := false } }) ∧
       (∀ (n : Nat) (w : U32), n < 64 → (s.dev.ap n).isOpen = false →
         Becomes (.registerWrite (BitVec.ofNat 18 (0x1000 + 16 * n)) false (w.setWidth 64)) s
           ({ s.dev with out := [] }.setAp n { s.dev.ap n with target := w })) ∧
       (∀ (n : Nat) (v : U64), n < 64 → (s.dev.ap n).isOpen = true →
         Becomes (.registerWrite (BitVec.ofNat 18 (0x1008 + 16 * n)) true v) s { s.dev with out := [] }) ∧
       (∀ v : U64, (s.dev.host.owner = none ∨ s.dev.host.owner = some .pcie) →
         Becomes (.registerWrite 0x2000 true v) s { s.dev with out := [], ring := { s.dev.ring with base := v } }) ∧
       (∀ w : U32, (s.dev.host.owner = none ∨ s.dev.host.owner = some .pcie) → w.getLsbD 1 = true →
         Becomes (.registerWrite 0x2014 false (w.setWidth 64)) s { s.dev with out := [], ring := { s.dev.ring with overflow := false } }) ∧
       (∀ (q : QueueId) (w : U32), (s.dev.host.owner = none ∨ s.dev.host.owner = some .pcie) → (s.dev.queue q).state = .disabled →
         Becomes (.registerWrite (BitVec.ofNat 18 (0x4000 + 64 * q.toNat)) false (w.setWidth 64)) s
           ({ s.dev with out := [] }.setQueue q { s.dev.queue q with
             base := BitVec.ofNat 64 ((s.dev.queue q).base.toNat / 2 ^ 32 * 2 ^ 32 + w.toNat) })) ∧
       (∀ (off : BitVec 18) (wide : Bool) (v : U64), off.toNat % 8 = 0 →
         (off.toNat = 0 ∨ (0x20 ≤ off.toNat ∧ off.toNat < 0x1000) ∨ (0x1400 ≤ off.toNat ∧ off.toNat < 0x2000) ∨
           (0x9000 ≤ off.toNat ∧ off.toNat < 0x10000) ∨ 0x20040 ≤ off.toNat) →
         Becomes (.registerWrite off wide v) s { s.dev with out := [] }))) ∧
  (∀ s : State, s.dev.powered = true →
     (s.dev.host.timerOn = true → s.dev.link.bme = true → s.dev.link.d3hot = false → s.dev.link.msixEnable = true →
       s.dev.link.msixMask = false → bit (SMap.get ({} : MsixEntry) s.dev.host.msix 0).ctrl.toNat 0 = false →
       Becomes .intModTimerExpiry s { s.dev with
         host := { s.dev.host with timerOn := false, unsignalled := 0 }
         out := [.msix 0 (SMap.get ({} : MsixEntry) s.dev.host.msix 0).addr (SMap.get ({} : MsixEntry) s.dev.host.msix 0).data] }) ∧
     (s.dev.host.timerOn = false → Becomes .intModTimerExpiry s { s.dev with out := [] }))

/-- APERTURE_OPEN checks the session, then the handle, then the offset, and STATUS says which failed; APERTURE_CLOSE closes; resizing BAR2
closes every open aperture with STATUS RESIZED. Other apertures, and everything else, stay as they were (R26, R30, R31). That a failed opening and a
closing store WRITE_EN as written is log entry 27. -/
def Obligations.AperturesOpenAndClose : Prop :=
  ∀ (s : State) (n : BitVec 6) (w : Bool), s.dev.powered = true → s.dev.link.d3hot = false → s.dev.pw.state ≠ .recovery →
    s.dev.pw.state ≠ .forcedHove →
    ((s.dev.ap n.toNat).isOpen = false →
      (s.dev.host.owner ≠ some .pcie →
        Becomes (.apertureOpen n w) s ({ s.dev with out := [] }.setAp n.toNat { s.dev.ap n.toNat with status := 7 })) ∧
      (s.dev.host.owner = some .pcie →
        (s.dev.live (s.dev.ap n.toNat).ref = false → Becomes (.apertureOpen n w) s
          ({ s.dev with out := [] }.setAp n.toNat { s.dev.ap n.toNat with writeEn := w, status := 2 })) ∧
        (s.dev.live (s.dev.ap n.toNat).ref = true →
          ((s.dev.ap n.toNat).offset.toNat % 4096 ≠ 0 ∨ s.dev.sizeOf (s.dev.ap n.toNat).ref ≤ (s.dev.ap n.toNat).offset.toNat) →
          Becomes (.apertureOpen n w) s ({ s.dev with out := [] }.setAp n.toNat { s.dev.ap n.toNat with writeEn := w, status := 3 })) ∧
        (s.dev.live (s.dev.ap n.toNat).ref = true → (s.dev.ap n.toNat).offset.toNat % 4096 = 0 →
          (s.dev.ap n.toNat).offset.toNat < s.dev.sizeOf (s.dev.ap n.toNat).ref →
          Runs (.apertureOpen n w) s [.host] (fun t =>
            t.ap n.toNat = { s.dev.ap n.toNat with writeEn := w, isOpen := true, status := 1 } ∧
            ∀ k, k ≠ n.toNat → t.ap k = s.dev.ap k)))) ∧
    ((s.dev.ap n.toNat).isOpen = true → Runs (.apertureClose n w) s [.host] (fun t =>
      (SMap.rising s.dev.host.aps = true → t.ap n.toNat = { s.dev.ap n.toNat with writeEn := w, isOpen := false, status := 0 }) ∧
      ∀ k, k ≠ n.toNat → t.ap k = s.dev.ap k)) ∧
    (∀ log2 : Nat, 32 ≤ log2 → log2 ≤ 38 → log2 ≠ s.dev.link.bar2Log2 → Runs (.bar2Resize log2) s [.link, .host] (fun t =>
      t.link = { s.dev.link with bar2Log2 := log2 } ∧
      ∀ k < 64, t.ap k = if (s.dev.ap k).isOpen then { s.dev.ap k with isOpen := false, status := 5 } else s.dev.ap k))

/-- BAR2 through an open aperture: a read returns the buffer's bytes and changes nothing; a write through WRITE_EN stores them at the
aperture's offset and changes no other byte; an access outside every window is a violation of source 1, a write without WRITE_EN one of
source 2, and neither stores anything (R30, R32, R41). Each takes the DRAM out of self-refresh (R38); that the device stays in HOVE is the model's
choice (log entries 26 and 91). The hypotheses name an access that meets no memory error. -/
def Obligations.Bar2ReadsAndWritesThroughWindows : Prop :=
  ∀ (s : State) (off : Nat), s.dev.powered = true → s.dev.link.d3hot = false → s.dev.pw.state ≠ .recovery → s.dev.pw.state ≠ .forcedHove →
    (∀ (n : Nat) (a : Ap) (o : Nat), s.dev.bar2Target off n = some (a, o) → s.dev.lostBuf a.ref o n = false → s.dev.dram.upsets = [] →
      Becomes (.bar2Read off n) s { s.dev with
        out := [.readData (s.dev.readMem ((s.dev.buf a.ref.handle).base + o) n)], dram := { s.dev.dram with selfRefresh := false } }) ∧
    (∀ n : Nat, s.dev.bar2Target off n = none → Runs (.bar2Read off n) s (.dram :: eventParts) (fun t =>
      t.dram = { s.dev.dram with selfRefresh := false } ∧
      t.host.violSource = 1 ∧ t.host.violAddr = off ∧ t.host.viol = true ∧ t.out.head? = some .unsupported)) ∧
    (∀ (bs : List Byte) (a : Ap) (o : Nat), s.dev.bar2Target off bs.length = some (a, o) → a.writeEn = true → bs ≠ [] →
      s.dev.lostBuf a.ref o bs.length = false → s.dev.draws.accepted = [] → s.dev.dram.upsets = [] → Memory.wf s.dev = true →
      Runs (.bar2Write off bs) s [.dram, .intake] (fun t => t.dram.selfRefresh = false ∧
        t.readMem ((s.dev.buf a.ref.handle).base + o) bs.length = bs ∧
        SameMemoryOutside ((s.dev.buf a.ref.handle).base + o) bs.length s.dev t ∧ t.out = [])) ∧
    (∀ (bs : List Byte) (a : Ap) (o : Nat), s.dev.bar2Target off bs.length = some (a, o) → a.writeEn = false →
      Runs (.bar2Write off bs) s (.dram :: eventParts) (fun t => t.dram = { s.dev.dram with selfRefresh := false } ∧
        t.host.violSource = 2 ∧ t.host.violAddr = off ∧ t.host.violHandle = a.target.toNat ∧ t.host.viol = true)) ∧
    (∀ bs : List Byte, s.dev.bar2Target off bs.length = none → Runs (.bar2Write off bs) s (.dram :: eventParts) (fun t =>
      t.dram = { s.dev.dram with selfRefresh := false } ∧ t.host.violSource = 1 ∧ t.host.violAddr = off ∧ t.host.viol = true))

/-! ### The USB functions (file 02) -/

/-- A USB WRITE stores its payload in the buffer and nothing else; a USB READ returns the bytes with the transfer's tag; a failure is
one STATUS transfer with its code: E_TRANSFER_FRAMING, E_NO_SESSION, E_STALE_HANDLE, E_BOUNDS (R34, R35).
A USB SUBMIT places its 64-byte commands at the tail of a RUNNING queue's ring and announces them; with too little room it fails with
E_QUEUE_FULL and places none (R34, R45). The order of these checks is log entry 28. -/
def Obligations.UsbTransfersAndSubmissions : Prop :=
  (∀ (s : State) (p : UsbPath) (x : XferHdr) (payload : List Byte), s.dev.powered = true → s.dev.booted = true → s.dev.fuses.straps ≠ 2 →
     s.dev.pw.state ≠ .forcedHove → s.dev.discards p = false → s.dev.dram.upsets = [] →
     (x.kind = 2 → x.handle ≠ 0 → framed x payload = true → s.dev.host.owner = some p.toPath →
       s.dev.live { handle := x.handle, gen := x.gen } = true →
       x.offset.toNat + payload.length ≤ s.dev.sizeOf { handle := x.handle, gen := x.gen } →
       s.dev.lostBuf { handle := x.handle, gen := x.gen } x.offset.toNat payload.length = false → s.dev.draws.accepted = [] →
       Memory.wf s.dev = true → Runs (.usbWrite p false x payload) s [.dram, .intake] (fun t =>
         t.readMem ((s.dev.buf x.handle).base + x.offset.toNat) payload.length = payload ∧
         SameMemoryOutside ((s.dev.buf x.handle).base + x.offset.toNat) payload.length s.dev t ∧ t.out = [])) ∧
     (x.kind = 3 → x.handle ≠ 0 → framed x payload = true → s.dev.live { handle := x.handle, gen := x.gen } = true →
       x.offset.toNat + x.rlen.toNat ≤ s.dev.sizeOf { handle := x.handle, gen := x.gen } →
       s.dev.lostBuf { handle := x.handle, gen := x.gen } x.offset.toNat x.rlen.toNat = false →
       Becomes (.usbRead p false x payload) s { s.dev with
         out := [.bulkIn p (inTransfer 0x83 x.tag 0 (s.dev.readMem ((s.dev.buf x.handle).base + x.offset.toNat) x.rlen.toNat))] }) ∧
     (x.kind = 2 → framed x payload = true → s.dev.host.owner ≠ some p.toPath →
       Becomes (.usbWrite p false x payload) s { s.dev with out := [.bulkIn p (inTransfer 0x8F x.tag 0x0113 [])] }) ∧
     (framed x payload = false → fullEnd p payload = false →
       Becomes (.usbSubmit p false x payload) s { s.dev with out := [.bulkIn p (inTransfer 0x8F x.tag 0x0110 [])] }) ∧
     (x.kind = 3 → framed x payload = true → x.handle ≠ 0 → s.dev.live { handle := x.handle, gen := x.gen } = false →
       Runs (.usbRead p false x payload) s eventParts (fun t =>
         t.out.head? = some (.bulkIn p (inTransfer 0x8F x.tag 0x0111 [])) ∧ t.host.violSource = 5 ∧ t.host.viol = true)) ∧
     (x.kind = 3 → x.handle ≠ 0 → framed x payload = true → s.dev.live { handle := x.handle, gen := x.gen } = true →
       s.dev.sizeOf { handle := x.handle, gen := x.gen } < x.offset.toNat + x.rlen.toNat →
       Runs (.usbRead p false x payload) s eventParts (fun t =>
         t.out.head? = some (.bulkIn p (inTransfer 0x8F x.tag 0x0A01 [])) ∧ t.host.violSource = 4 ∧ t.host.viol = true))) ∧
  (∀ (s : State) (p : UsbPath) (x : XferHdr) (c : List Byte), s.dev.pw.state = .underway → s.dev.fuses.straps ≠ 2 →
     s.dev.discards p = false → s.dev.dram.upsets = [] → x.kind = 1 → framed x c = true → s.dev.host.owner = some p.toPath → Memory.wf s.dev = true →
     (s.dev.queue (BitVec.ofNat 6 x.queue.toNat)).state = .running →
     (c.length = 64 → 1 ≤ (s.dev.queue (BitVec.ofNat 6 x.queue.toNat)).room →
       s.dev.barred (s.dev.queue (BitVec.ofNat 6 x.queue.toNat)).ringRef
         (64 * ((s.dev.queue (BitVec.ofNat 6 x.queue.toNat)).tail % 2 ^ (s.dev.queue (BitVec.ofNat 6 x.queue.toNat)).log2.toNat)) 64 = none →
       Runs (.usbSubmit p false x c) s [.dram, .intake, .qs] (fun t =>
         let y := s.dev.queue (BitVec.ofNat 6 x.queue.toNat)
         let a := (s.dev.buf y.ringRef.handle).base + 64 * (y.tail % 2 ^ y.log2.toNat)
         t.readMem a 64 = c ∧ SameMemoryOutside a 64 s.dev t ∧
         t.queue (BitVec.ofNat 6 x.queue.toNat) = { y with tail := (y.tail + 1) % 2 ^ y.log2.toNat } ∧
         (∀ q, q ≠ BitVec.ofNat 6 x.queue.toNat → t.queue q = s.dev.queue q) ∧ t.qs.cmds = s.dev.qs.cmds ∧ t.out = [])) ∧
     ((s.dev.queue (BitVec.ofNat 6 x.queue.toNat)).room < c.length / 64 →
       Becomes (.usbSubmit p false x c) s { s.dev with out := [.bulkIn p (inTransfer 0x8F x.tag 0x010A [])] }))

/-- The vendor requests of the USB functions and the mailboxes: XFER_IN returns the oldest pending transfer, MAILBOX_IN the oldest response or a
zero-length stage, writing RESP_READY frees the mailbox, an unknown request is stalled and logged with source 6 without setting VIOL
(R36, R41, R359). That the row names a request that is unknown or too long, whichever it carries, is log entry 106; that it counts among the
violations since the last report is log entry 87. -/
def Obligations.VendorRequestsAnswer : Prop :=
  ∀ s : State, s.dev.powered = true → s.dev.booted = true → s.dev.fuses.straps ≠ 2 →
    (∀ x rest, s.dev.xfer.xferIn = x :: rest → x.length ≤ 4096 →
      Becomes .xferIn s { s.dev with out := [.ctrlIn x], xfer := { s.dev.xfer with xferIn := rest } }) ∧
    Becomes (.mailboxIn .usb3) s
      { s.dev with out := [.ctrlIn (s.dev.xfer.resp3.headD [])], xfer := { s.dev.xfer with resp3 := s.dev.xfer.resp3.drop 1 } } ∧
    Becomes (.mailboxIn .usb2) s
      { s.dev with out := [.ctrlIn (s.dev.xfer.resp2.headD [])], xfer := { s.dev.xfer with resp2 := s.dev.xfer.resp2.drop 1 } } ∧
    (s.dev.link.d3hot = false →
      Becomes .mailboxResponseFree s { s.dev with out := [], xfer := { s.dev.xfer with mboxReady := false } }) ∧
    (∀ p b n, Runs (.unknownVendorRequest p b n) s [.host, .dict] (fun t =>
      t.out = [.stall] ∧ t.host = { s.dev.host with
        violSource := 6, violAddr := b.toNat, violHandle := 0, violTack := s.dev.openTack, violSince := s.dev.host.violSince + 1 } ∧ ∀ k, k ≠ 0xB01001 → t.val k = s.dev.val k))

/-! ### Queues and the event ring (file 03) -/

/-- An interrupt transfer of 1 to 64 records on the owning USB path delivers the oldest records, 16 bytes each, consumes them and advances HEAD;
there is none without a record; on PCIe a write of HEAD below the ring size sets it; both leave everything but the ring as it was while nothing
was dropped (R35, R66, R67). Enabling the event ring restarts TAIL and HEAD where the session, the size and the base are valid, and is ignored
otherwise; disabling it is ignored while a queue is enabled (R65). That enabling a ring already enabled restarts it too is log entry 32. -/
def Obligations.EventRingIsSetUpAndConsumed : Prop :=
  (∀ s : State, s.dev.powered = true → s.dev.ring.lost = 0 →
     (∀ (p : UsbPath) (n : BitVec 7), s.dev.host.owner = some p.toPath → s.dev.suspended p = false → s.dev.ring.enabled = true →
       1 ≤ n.toNat → n.toNat ≤ 64 → s.dev.ring.recs ≠ [] →
       Becomes (.interruptTransferComplete p n) s { s.dev with
         ring := { s.dev.ring with
           recs := s.dev.ring.recs.drop (min n.toNat s.dev.ring.recs.length)
           head := BitVec.ofNat 16 ((s.dev.ring.head.toNat + min n.toNat s.dev.ring.recs.length) % s.dev.ring.size) }
         out := [.intrIn p ((s.dev.ring.recs.take (min n.toNat s.dev.ring.recs.length)).flatMap Event.bytes)] }) ∧
     (∀ (p : UsbPath) (n : BitVec 7), (s.dev.host.owner ≠ some p.toPath ∨ s.dev.suspended p = true ∨ s.dev.ring.enabled = false ∨ s.dev.ring.recs = []) →
       Becomes (.interruptTransferComplete p n) s { s.dev with out := [] }) ∧
     (∀ v : U32, s.dev.host.owner = some .pcie → s.dev.link.d3hot = false → s.dev.pw.state ≠ .recovery → s.dev.pw.state ≠ .forcedHove →
       v.toNat % 65536 < s.dev.ring.size →
       Becomes (.eventRingHeadWrite .pcie v) s { s.dev with out := [], ring := { s.dev.ring with head := BitVec.ofNat 16 v.toNat } }) ∧
     (∀ (p : UsbPath) (v : U32), s.dev.booted = true → Becomes (.eventRingHeadWrite p.toPath v) s { s.dev with out := [] })) ∧
  (∀ (s : State) (p : Path) (cfg : U32), s.dev.powered = true → s.dev.portReach p = true →
     (s.dev.host.owner = some p → 8 ≤ cfg.toNat / 256 % 32 → cfg.toNat / 256 % 32 ≤ 16 →
       (p = .pcie → s.dev.ring.base.toNat % 4096 = 0) → s.dev.ring.lost = 0 →
       Becomes (.eventRingEnable p cfg) s { s.dev with out := [], ring := { s.dev.ring with
         log2 := BitVec.ofNat 5 (cfg.toNat / 256 % 32), enabled := true, tail := 0, head := 0, recs := [] } }) ∧
     ((s.dev.host.owner ≠ some p ∨ cfg.toNat / 256 % 32 < 8 ∨ 16 < cfg.toNat / 256 % 32 ∨ (p = .pcie ∧ s.dev.ring.base.toNat % 4096 ≠ 0)) →
       Becomes (.eventRingEnable p cfg) s { s.dev with out := [] }) ∧
     (s.dev.mayPort p = true → s.dev.anyQueue = false →
       Becomes (.eventRingDisable p cfg) s { s.dev with out := [], ring := { s.dev.ring with
         enabled := false, log2 := BitVec.ofNat 5 (cfg.toNat / 256 % 32) } }) ∧
     (s.dev.anyQueue = true → Becomes (.eventRingDisable p cfg) s { s.dev with out := [] }))

/-- Where each event goes (R29, R40, R65 to R67): without a session it is dropped and counted; with the ring disabled or full it is dropped,
counted in DROPPED and flagged; on a USB path it joins the records; on PCIe its sixteen bytes are written at TAIL. TAIL advances by one modulo
the size, and a record of the stated tack is never changed on the way. EVENT_N is low while a session's ring holds a record, a channel is lost, a
throttle or forced HOVE is in force, a partition is FENCED or a sail UNRESPONSIVE (R475), at once, which is log entry 104. -/
def Obligations.EventsGoToTheRingOrAreCounted : Prop :=
  ∀ (d : Dev) (e : Event),
    (d.host.owner = none → d.record e = d.bump 0x230007) ∧
    (d.host.owner ≠ none → d.ring.enabled = false → d.record e = { d with ring := { d.ring with
      dropped := satAdd 0xFFFFFFFF d.ring.dropped 1, overflow := true } }) ∧
    (d.host.owner ≠ none → d.ring.enabled = true → d.ring.full = true → d.record e = { d with ring := { d.ring with
      dropped := satAdd 0xFFFFFFFF d.ring.dropped 1, overflow := true, lost := d.ring.lost + 1 } }) ∧
    (∀ p : UsbPath, d.host.owner = some p.toPath → d.ring.enabled = true → d.ring.full = false →
      (d.record e).ring = { d.ring with recs := d.ring.recs ++ [e], tail := BitVec.ofNat 16 ((d.ring.tail.toNat + 1) % d.ring.size) } ∧
      (d.link.susp3 = false → d.link.susp2 = false → (d.record e).out = d.out)) ∧
    (d.host.owner = some .pcie → d.ring.enabled = true → d.ring.full = false →
      (d.record e).ring = { d.ring with tail := BitVec.ofNat 16 ((d.ring.tail.toNat + 1) % d.ring.size) } ∧
      ∃ more, (d.record e).out = d.out ++ Out.hostWrite (d.ring.base + BitVec.ofNat 64 (16 * d.ring.tail.toNat)) e.bytes :: more) ∧
    e.bytes.length = 16 ∧
    (d.outputsOff = true → d.eventLow = false) ∧
    (d.outputsOff = false → (d.eventLow = true ↔ (d.host.owner ≠ none ∧ d.ring.tail ≠ d.ring.head) ∨ d.dram.lost ≠ none ∨ d.th.k ≠ 0 ∨ d.th.b ≠ 0 ∨
      d.pw.state = .forcedHove ∨ (∃ p < 40, (d.partn p).state = .fenced) ∨ ∃ x ∈ d.push.sails, x.2.reach = .unresponsive))

/-- Enabling a queue checks in the order of R44: session, event ring, size and base, location, handle, buffer size; the first that fails leaves its
code in ERROR and the queue not RUNNING; else the queue is RUNNING with HEAD 0 and an empty clip state. Disabling stops it at HEAD (R46).
On a queue that is enabled, only CLASS changes. A doorbell's value inside the ring becomes the announced tail of a RUNNING queue, one at or above
the ring size halts it with E_DOORBELL, and a queue that is not RUNNING ignores it (R45, R46). That ERROR and a hold survive disabling and
enabling is log entry 31; a doorbell in HOVE is another statement's. -/
def Obligations.QueuesAreEnabledDisabledAndRung : Prop :=
  (∀ (s : State) (p : Path) (q : QueueId) (cfg : U32), s.dev.powered = true → s.dev.portReach p = true → s.dev.mayPort p = true →
     (s.dev.queue q).state = .disabled →
     let x := (s.dev.queue q).withCfg cfg
     (s.dev.host.owner = some p → s.dev.ring.enabled = true → 4 ≤ x.log2.toNat → x.log2.toNat ≤ 12 →
       ((x.loc = false ∧ x.base.toNat % 4096 = 0 ∧ p = .pcie) ∨
         (x.loc = true ∧ x.base.toNat / 2 ^ 32 = 0 ∧ s.dev.live x.ringRef = true ∧ 64 * 2 ^ x.log2.toNat ≤ s.dev.sizeOf x.ringRef)) →
       Runs (.queueEnable p q cfg) s [.qs] (fun t =>
         t.queue q = { x with state := .running, head := 0, tail := 0, error := 0, clip := [], watched := 0 } ∧
         (∀ r, r ≠ q → t.queue r = s.dev.queue r) ∧ t.qs.cmds = s.dev.qs.cmds ∧ t.qs.bufs = s.dev.qs.bufs)) ∧
     (s.dev.host.owner = none → Becomes (.queueEnable p q cfg) s ({ s.dev with out := [] }.setQueue q { x with error := 0x0113 })) ∧
     (s.dev.host.owner = some p → s.dev.ring.enabled = false →
       Becomes (.queueEnable p q cfg) s ({ s.dev with out := [] }.setQueue q { x with error := 0x0117 })) ∧
     (s.dev.host.owner = some p → s.dev.ring.enabled = true → 4 ≤ x.log2.toNat → x.log2.toNat ≤ 12 → x.loc = true → x.base.toNat / 2 ^ 32 = 0 →
       s.dev.live x.ringRef = false →
       Becomes (.queueEnable p q cfg) s ({ s.dev with out := [] }.setQueue q { x with error := 0x0111 })) ∧
     (s.dev.host.owner = some p → s.dev.ring.enabled = true →
       (x.log2.toNat < 4 ∨ 12 < x.log2.toNat ∨ (x.loc = true ∧ x.base.toNat / 2 ^ 32 ≠ 0) ∨ (x.loc = false ∧ x.base.toNat % 4096 ≠ 0)) →
       Becomes (.queueEnable p q cfg) s ({ s.dev with out := [] }.setQueue q { x with error := 0x0102 })) ∧
     (s.dev.host.owner = some p → s.dev.ring.enabled = true → 4 ≤ x.log2.toNat → x.log2.toNat ≤ 12 → x.loc = false → x.base.toNat % 4096 = 0 →
       p ≠ .pcie → Becomes (.queueEnable p q cfg) s ({ s.dev with out := [] }.setQueue q { x with error := 0x0115 })) ∧
     (s.dev.host.owner = some p → s.dev.ring.enabled = true → 4 ≤ x.log2.toNat → x.log2.toNat ≤ 12 → x.loc = true → x.base.toNat / 2 ^ 32 = 0 →
       s.dev.live x.ringRef = true → s.dev.sizeOf x.ringRef < 64 * 2 ^ x.log2.toNat →
       Becomes (.queueEnable p q cfg) s ({ s.dev with out := [] }.setQueue q { x with error := 0x0A01 }))) ∧
  (∀ (s : State) (p : Path) (q : QueueId) (cfg : U32), s.dev.powered = true → s.dev.portReach p = true → s.dev.mayPort p = false →
     ((s.dev.queue q).state = .disabled →
       Becomes (.queueEnable p q cfg) s ({ s.dev with out := [] }.setQueue q { s.dev.queue q with error := 0x0113 })) ∧
     Becomes (.queueDisable p q cfg) s { s.dev with out := [] } ∧
     (s.dev.pw.state ≠ .forcedHove → ∀ v : U32, Becomes (.doorbell p q v) s { s.dev with out := [] })) ∧
  (∀ (s : State) (p : Path) (q : QueueId), s.dev.powered = true → s.dev.pw.state = .underway → s.dev.portReach p = true →
     s.dev.mayPort p = true →
     (∀ cfg : U32, (s.dev.queue q).state ≠ .disabled → Becomes (.queueDisable p q cfg) s ({ s.dev with out := [] }.setQueue q
       { s.dev.queue q with cls := BitVec.ofNat 2 (cfg.toNat / 256), state := .disabled, tail := (s.dev.queue q).head })) ∧
     (∀ cfg : U32, (s.dev.queue q).state ≠ .disabled → Becomes (.queueEnable p q cfg) s ({ s.dev with out := [] }.setQueue q
       { s.dev.queue q with cls := BitVec.ofNat 2 (cfg.toNat / 256) })) ∧
     (∀ v : U32, (s.dev.queue q).state = .running → v.toNat % 4096 < 2 ^ (s.dev.queue q).log2.toNat →
       Becomes (.doorbell p q v) s ({ s.dev with out := [] }.setQueue q { s.dev.queue q with tail := v.toNat % 4096 })) ∧
     (∀ v : U32, (s.dev.queue q).state = .running → 2 ^ (s.dev.queue q).log2.toNat ≤ v.toNat % 4096 →
       Runs (.doorbell p q v) s ([.qs] ++ eventParts) (fun t =>
         t.queue q = { s.dev.queue q with state := .halted, error := 0x0108 } ∧ ∀ r, r ≠ q → t.queue r = s.dev.queue r)) ∧
     (∀ v : U32, (s.dev.queue q).state ≠ .running → Becomes (.doorbell p q v) s { s.dev with out := [] }))

/-! ### Commands of the queues (file 03) -/

/-- What a completion and a failure report (R52, R61, R67): a dispatched command that completes leaves the list of incomplete commands, and
EV_CMD_DONE with its tag, opcode and result is raised exactly when NOTIFY is set or it is ALLOC or QUERY; one that fails raises EV_CMD_ERROR
with its tag, code, opcode and detail, and poisons its queue's next FENCE. The id is one that no incomplete command has. -/
def Obligations.CompletionAndFailureReports : Prop :=
  ∀ (d : Dev) (q : QueueId) (h : Hdr) (op : Nat) (refs : List BufRef), op < 256 →
    (∀ c ∈ d.qs.cmds, c.id ≠ d.qs.nextId) → (∀ r ∈ d.intake.races, r.1 ≠ d.qs.nextId) →
    let d' := { d with qs := { d.qs with nextId := d.qs.nextId + 1 } }
    (∀ result, (d.dispatch q h op refs).finish d.qs.nextId result =
      if h.notify = true ∨ op = 2 ∨ op = 4 then d'.event 0x0101 q.toNat (doneData h.tag.toNat op result) else d') ∧
    (∀ code detail, (d.queue q).lastFence < d.qs.nextId → (d.dispatch q h op refs).failCmd d.qs.nextId code detail =
      (d'.setQueue q { d.queue q with failed := firstFail (d.queue q).failed d.qs.nextId h.tag }).event 0x0102 q.toNat
        (errData h.tag.toNat code op detail))

/-- NOP completes at its dispatch; ALLOC checks size, format and pitch in offset order, then a handle and space, and gives out a LIVE buffer of the
size rounded up to 4 KiB at an aligned base inside one free extent of its region, every other buffer staying as it was (R50, R51, R53, R54).
Which free extent is log entry 16.
The space ALLOC may give out: no free extent of either region meets the range of a LIVE or FREEING buffer (R54). -/
def Obligations.NopAndAllocInFreeExtents : Prop :=
  (∀ (s : State) (q : QueueId) (h : Hdr) (b : AllocBody), s.dev.powered = true → (s.dev.queue q).hold = .none →
     let d := { s.dev with out := [] }
     let size := ceilDiv b.size.toNat 4096 * 4096
     let good := 1 ≤ b.size.toNat ∧ b.size.toNat ≤ 137438953472 ∧ b.fmt.toNat ≤ 5 ∧ allocPitch b.fmt.toNat b.pitch.toNat = true
     Becomes (.nop q h) s ((d.dispatch q h 0x01 []).finish d.qs.nextId) ∧
     ((b.size = 0 ∨ 137438953472 < b.size.toNat) → Becomes (.alloc q h b) s (d.reject q h 0x02 0x0102 8)) ∧
     (1 ≤ b.size.toNat → b.size.toNat ≤ 137438953472 → 5 < b.fmt.toNat → Becomes (.alloc q h b) s (d.reject q h 0x02 0x0102 16)) ∧
     (1 ≤ b.size.toNat → b.size.toNat ≤ 137438953472 → b.fmt.toNat ≤ 5 → allocPitch b.fmt.toNat b.pitch.toNat = false →
       Becomes (.alloc q h b) s (d.reject q h 0x02 0x0102 20)) ∧
     (good → s.dev.dram.lost = none → s.dev.nextHandle = none → Becomes (.alloc q h b) s (d.rejectOpen q h 0x02 0x0104)) ∧
     (∀ n, good → s.dev.dram.lost = none → s.dev.nextHandle = some n → s.dev.placeBuf b.fmt.toNat size b.ecc = none →
       Becomes (.alloc q h b) s (d.reject q h 0x02 0x0A02 (s.dev.largestFree b.ecc))) ∧
     (∀ n base, good → s.dev.dram.lost = none → s.dev.nextHandle = some n → s.dev.placeBuf b.fmt.toNat size b.ecc = some base →
       Runs (.alloc q h b) s (eventParts ++ [.qs, .intake, .free]) (fun t =>
         t.buf n = { state := .live, gen := (s.dev.buf n).gen, base := base, size := size, fmt := b.fmt.toNat, ecc := b.ecc, pitch := b.pitch.toNat } ∧
         (∀ k, k ≠ n → t.buf k = s.dev.buf k) ∧ base % baseAlign b.fmt.toNat = 0 ∧
         (∃ e ∈ s.dev.extents b.ecc, e.1 ≤ base ∧ base + size ≤ e.2)))) ∧
  (∀ (d : Dev) (ecc : Bool) (e : Nat × Nat), e ∈ d.extents ecc → e.1 < e.2 ∧
     ∀ p ∈ d.qs.bufs, p.2.state ≠ .free → p.2.size = 0 ∨ p.2.base + p.2.size ≤ e.1 ∨ e.2 ≤ p.2.base)

/-- FREE refuses handle 0 and a handle that is not live; it makes the entry FREEING and closes the apertures on the buffer with STATUS FREED. The
FREE completes once nothing references the buffer: the entry is FREE again with the next generation, which skips 0, and EV_BUF_FREED is
raised (R49, R53, R55, R56). -/
def Obligations.FreeAndItsCompletion : Prop :=
  ∀ (s : State) (q : QueueId) (h : Hdr) (r : BufRef), s.dev.powered = true → (s.dev.queue q).hold = .none →
    let d := { s.dev with out := [] }
    (r.handle = 0 → Becomes (.free q h r) s (d.reject q h 0x03 0x0102 8)) ∧
    (r.handle ≠ 0 → s.dev.live r = false → Becomes (.free q h r) s (d.reject q h 0x03 0x0111 8)) ∧
    (s.dev.live r = true → Runs (.free q h r) s (eventParts ++ [.qs, .intake]) (fun t =>
      t.buf r.handle = { s.dev.buf r.handle with state := .freeing, freeQ := q, freeTag := h.tag, freeId := s.dev.qs.nextId } ∧
      (∀ k, k ≠ r.handle → t.buf k = s.dev.buf k) ∧
      (∀ k < 64, (s.dev.ap k).isOpen = true → (s.dev.ap k).ref.handle = r.handle → (t.ap k).isOpen = false ∧ (t.ap k).status = 4) ∧
      (∀ k < 64, (s.dev.ap k).ref.handle ≠ r.handle → t.ap k = s.dev.ap k) ∧ t.live r = false)) ∧
    (∀ n : U16, (s.dev.buf n).state = .freeing → s.dev.unreferenced n = true →
      Becomes (.bufFreeComplete n) s (({ d with qs := { d.qs with
        bufs := SMap.set {} d.qs.bufs n.toNat { gen := nextGen (d.buf n).gen }, freed := d.qs.freed ++ [n] } }).event 0x0105 (d.buf n).freeQ.toNat
        ((d.buf n).freeTag.toNat * 2 ^ 48 + (d.buf n).gen.toNat * 65536 + n.toNat))) ∧
    (∀ n : U16, ((s.dev.buf n).state ≠ .freeing ∨ s.dev.unreferenced n = false) → Becomes (.bufFreeComplete n) s d) ∧
    (∀ g : U16, nextGen g ≠ 0)

/-- QUERY writes its snapshot where it is asked to, 32 bytes a buffer entry and 8 a fence slot, and changes no other byte: to host memory on the
PCIe path, or into a live buffer (R57). -/
def Obligations.QueryWritesItsSnapshot : Prop :=
  ∀ (s : State) (q : QueueId) (h : Hdr) (b : QueryBody), s.dev.powered = true → (s.dev.queue q).hold = .none → Memory.wf s.dev = true →
    b.kind.toNat ≤ 1 → b.first.toNat < queryTop b.kind.toNat → 1 ≤ b.count.toNat → b.first.toNat + b.count.toNat ≤ queryTop b.kind.toNat →
    let d := { s.dev with out := [] }
    let image := s.dev.snapshot b.kind.toNat b.first.toNat b.count.toNat
    image.length = b.count.toNat * (if b.kind = 0 then 32 else 8) ∧
    (b.loc = 0 → s.dev.host.owner = some .pcie → Runs (.query q h b) s (eventParts ++ [.qs, .intake]) (fun t =>
      t.out.head? = some (.hostWrite b.dest image) ∧ t.qs.bufs = s.dev.qs.bufs ∧ t.qs.slots = s.dev.qs.slots)) ∧
    (b.loc = 1 → s.dev.live b.ref = true → b.dest.toNat + image.length ≤ s.dev.sizeOf b.ref →
      s.dev.lostBuf b.ref b.dest.toNat image.length = false → s.dev.dram.upsets = [] →
      Runs (.query q h b) s (eventParts ++ [.qs, .intake, .dram]) (fun t =>
        t.readMem ((s.dev.buf b.ref.handle).base + b.dest.toNat) image.length = image ∧
        SameMemoryOutside ((s.dev.buf b.ref.handle).base + b.dest.toNat) image.length s.dev t ∧ t.qs.bufs = s.dev.qs.bufs)) ∧
    (b.loc = 1 → s.dev.live b.ref = false → Becomes (.query q h b) s (d.reject q h 0x04 0x0111 10)) ∧
    (b.loc = 1 → s.dev.live b.ref = true → s.dev.sizeOf b.ref < b.dest.toNat + image.length →
      Becomes (.query q h b) s (d.reject q h 0x04 0x0A01 (boundsDetail (s.dev.sizeOf b.ref) b.dest.toNat)))

/-- FENCE checks the handle, the slot and the order of values; an accepted FENCE waits, binds its buffer to its slot and value, and holds its queue
unless NO_BARRIER is set. A ready FENCE that is not poisoned raises its slot to its value and lets its queue go; a poisoned one fails with
E_FENCE_POISONED and leaves the slot (R59 to R62).
WAIT and TACK_HOLD: a reached slot lets both complete at dispatch without effect; else WAIT holds its queue until the slot is reached or its
timeout, which fails it with E_WAIT_TIMEOUT and lets the queue go, and TACK_HOLD puts a hold in force and takes a pending edge away. A slot
above 4,095 is E_BAD_PARAM at offset 8 (R62 to R64, R209). That a FENCE of value 0 fails with E_FENCE_ORDER is log entry 33. -/
def Obligations.FencesWaitsAndHolds : Prop :=
  (∀ (s : State) (q : QueueId) (h : Hdr) (b : FenceBody), s.dev.powered = true → (s.dev.queue q).hold = .none →
     let d := { s.dev with out := [] }
     (b.ref.handle ≠ 0 → s.dev.live b.ref = false → Becomes (.fence q h b) s ((d.markFence q).reject q h 0x08 0x0111 12)) ∧
     (b.ref.handle = 0 → 4096 ≤ b.slot.toNat → Becomes (.fence q h b) s ((d.markFence q).reject q h 0x08 0x0102 8)) ∧
     (b.ref.handle = 0 → b.slot.toNat < 4096 → b.value.toNat ≤ (s.dev.slot b.slot.toNat).toNat →
       Becomes (.fence q h b) s ((d.markFence q).reject q h 0x08 0x0105 16)) ∧
     (b.slot.toNat < 4096 → s.dev.fenceOrder b.slot.toNat b.value = true → s.dev.live b.ref = true → s.dev.qs.nextId ≠ 0 →
       Runs (.fence q h b) s [.qs] (fun t =>
         (t.buf b.ref.handle).ready = some (b.slot.toNat, b.value) ∧ (∀ k, k ≠ b.ref.handle → t.buf k = s.dev.buf k) ∧
         (t.queue q).hold = (if b.noBarrier then .none else .barrier s.dev.qs.nextId) ∧ (∀ r, r ≠ q → t.queue r = s.dev.queue r) ∧
         t.qs.slots = s.dev.qs.slots ∧ ∃ f, t.qs.fences = s.dev.qs.fences ++ [f] ∧ f.id = s.dev.qs.nextId ∧ f.q = q ∧ f.slot = b.slot.toNat ∧
           f.value = b.value ∧ f.after = (s.dev.queue q).lastFence ∧ f.failed = (s.dev.queue q).failed)) ∧
     (∀ f : FenceRec, s.dev.qs.fences.find? (fun g => g.q == q) = some f → s.dev.fenceReady f = true →
       SMap.rising s.dev.qs.queues = true → (f.failed = none ∨ f.ignoreErrors = true) → (s.dev.slot f.slot).toNat < f.value.toNat →
       Runs (.fenceSignal q) s (eventParts ++ [.qs, .intake]) (fun t =>
         t.slot f.slot = f.value ∧ (∀ n, n ≠ f.slot → t.slot n = s.dev.slot n) ∧ (∀ g ∈ t.qs.fences, g.id ≠ f.id) ∧ t.qs.bufs = s.dev.qs.bufs ∧
         (∀ r id v timed, (s.dev.queue r).hold = .wait id f.slot v timed → v.toNat ≤ f.value.toNat → (t.queue r).hold = .none) ∧
         ((s.dev.queue f.q).hold = .barrier f.id → (t.queue f.q).hold = .none))) ∧
     (∀ f : FenceRec, s.dev.qs.fences.find? (fun g => g.q == q) = some f → s.dev.fenceReady f = true → f.failed ≠ none → f.ignoreErrors = false →
       Runs (.fenceSignal q) s (eventParts ++ [.qs, .intake]) (fun t => t.qs.slots = s.dev.qs.slots ∧ ∀ g ∈ t.qs.fences, g.id ≠ f.id)) ∧
     (∀ f : FenceRec, s.dev.qs.fences.find? (fun g => g.q == q) = some f → s.dev.fenceReady f = false → Becomes (.fenceSignal q) s d)) ∧
  (∀ (s : State) (q : QueueId) (h : Hdr) (b : WaitBody), s.dev.powered = true →
     let d := { s.dev with out := [] }
     ((s.dev.queue q).hold = .none →
       (4096 ≤ b.slot.toNat → Becomes (.wait q h b) s (d.reject q h 0x09 0x0102 8) ∧ Becomes (.tackHold q h b) s (d.reject q h 0x0A 0x0102 8)) ∧
       (b.slot.toNat < 4096 → s.dev.reached b.slot.toNat b.value = true →
         Becomes (.wait q h b) s ((d.dispatch q h 0x09 []).finish d.qs.nextId) ∧
         Becomes (.tackHold q h b) s ((d.dispatch q h 0x0A []).finish d.qs.nextId)) ∧
       (b.slot.toNat < 4096 → s.dev.reached b.slot.toNat b.value = false →
         Becomes (.wait q h b) s ((d.dispatch q h 0x09 []).hold q (.wait d.qs.nextId b.slot.toNat b.value (b.timeout != 0))) ∧
         Runs (.tackHold q h b) s (eventParts ++ [.qs, .intake, .tack]) (fun t =>
           t.qs.holds = s.dev.qs.holds ++ [(b.slot.toNat, b.value)] ∧ t.tack.edgeDue = false ∧ t.tack.openSeq = s.dev.tack.openSeq ∧
           t.tack.act = s.dev.tack.act ∧ (∀ f ∈ t.tack.flips, f.armed = false) ∧ t.tack.flips.map (·.seq) = s.dev.tack.flips.map (·.seq)))) ∧
     (∀ id slot v, (s.dev.queue q).hold = .wait id slot v true →
       Becomes (.waitTimeout q) s ((d.hold q .none).failOpen id 0x0106)) ∧
     (∀ id slot v, (s.dev.queue q).hold = .wait id slot v false → Becomes (.waitTimeout q) s d))

/-- DMA_IN and DMA_OUT need the PCIe path, a live handle, a length of 1 byte to 64 MiB and the bounds, checked in that order, and then run beside
the queue. Their end moves exactly the bytes named: DMA_IN stores the host's bytes and touches no other byte, DMA_OUT sends the buffer's
bytes and stores none; an error completion fails the command with E_HOST_DMA (R57, R58). That the path is checked first is log entry 34; that an error completion stores nothing is log entry 106; the detail
of a failure to which the spec gives none is free (log entry 3). -/
def Obligations.HostDmaMovesExactlyItsBytes : Prop :=
  ∀ (s : State) (q : QueueId) (h : Hdr) (b : DmaBody), s.dev.powered = true →
    let d := { s.dev with out := [] }
    (∀ u : UsbPath, (s.dev.queue q).hold = .none → s.dev.host.owner = some u.toPath →
      Becomes (.dmaIn q h b) s (d.rejectOpen q h 0x10 0x0115) ∧ Becomes (.dmaOut q h b) s (d.rejectOpen q h 0x11 0x0115)) ∧
    ((s.dev.queue q).hold = .none → s.dev.host.owner = some .pcie →
      (s.dev.live b.ref = true → (b.len = 0 ∨ 67108864 < b.len.toNat) →
        Becomes (.dmaIn q h b) s (d.reject q h 0x10 0x0102 32) ∧ Becomes (.dmaOut q h b) s (d.reject q h 0x11 0x0102 32)) ∧
      (s.dev.live b.ref = false →
        Becomes (.dmaIn q h b) s (d.reject q h 0x10 0x0111 8) ∧ Becomes (.dmaOut q h b) s (d.reject q h 0x11 0x0111 8)) ∧
      (s.dev.live b.ref = true → 1 ≤ b.len.toNat → b.len.toNat ≤ 67108864 → s.dev.sizeOf b.ref < b.offset.toNat + b.len.toNat →
        Becomes (.dmaIn q h b) s (d.reject q h 0x10 0x0A01 (boundsDetail (s.dev.sizeOf b.ref) b.offset.toNat)) ∧
        Becomes (.dmaOut q h b) s (d.reject q h 0x11 0x0A01 (boundsDetail (s.dev.sizeOf b.ref) b.offset.toNat))) ∧
      (s.dev.live b.ref = true → 1 ≤ b.len.toNat → b.len.toNat ≤ 67108864 → b.offset.toNat + b.len.toNat ≤ s.dev.sizeOf b.ref →
        Runs (.dmaIn q h b) s [.qs] (fun t =>
          t.qs.dmas = s.dev.qs.dmas ++ [⟨s.dev.qs.nextId, false, b.ref, b.offset.toNat, b.host, b.len.toNat⟩] ∧ t.qs.nextId = s.dev.qs.nextId + 1 ∧
          t.qs.bufs = s.dev.qs.bufs ∧ t.qs.queues = s.dev.qs.queues) ∧
        Runs (.dmaOut q h b) s [.qs] (fun t =>
          t.qs.dmas = s.dev.qs.dmas ++ [⟨s.dev.qs.nextId, true, b.ref, b.offset.toNat, b.host, b.len.toNat⟩] ∧ t.qs.nextId = s.dev.qs.nextId + 1 ∧
          t.qs.bufs = s.dev.qs.bufs ∧ t.qs.queues = s.dev.qs.queues))) ∧
    (∀ (x : DmaRec) (bs : List Byte), s.dev.qs.dmas.find? (fun y => y.id == x.id) = some x → x.out = false → bs.length = x.len → bs ≠ [] →
      s.dev.barred x.ref x.offset x.len = none → s.dev.dram.upsets = [] → Memory.wf s.dev = true →
      Runs (.dmaComplete x.id (some bs)) s (eventParts ++ [.qs, .intake, .dram]) (fun t =>
        t.readMem ((s.dev.buf x.ref.handle).base + x.offset) x.len = bs ∧
        SameMemoryOutside ((s.dev.buf x.ref.handle).base + x.offset) x.len s.dev t ∧ (∀ y ∈ t.qs.dmas, y.id ≠ x.id) ∧
        t.qs.bufs = s.dev.qs.bufs)) ∧
    (∀ (x : DmaRec), s.dev.qs.dmas.find? (fun y => y.id == x.id) = some x → x.out = true → s.dev.barred x.ref x.offset x.len = none →
      s.dev.dram.upsets = [] → Runs (.dmaComplete x.id (some [])) s (eventParts ++ [.qs, .intake, .dram]) (fun t =>
        t.dram.data = s.dev.dram.data ∧ t.qs.bufs = s.dev.qs.bufs ∧
        t.out.head? = some (.hostWrite x.host (s.dev.readMem ((s.dev.buf x.ref.handle).base + x.offset) x.len)) ∧
        (∀ y ∈ t.qs.dmas, y.id ≠ x.id))) ∧
    (∀ (x : DmaRec), s.dev.qs.dmas.find? (fun y => y.id == x.id) = some x →
      Becomes (.dmaComplete x.id none) s
        (({ d with qs := { d.qs with dmas := d.qs.dmas.filter (fun y => y.id != x.id) } }).failOpen x.id 0x0116))

/-! ### Decompression (files 04, 05) -/

/-- DECODE checks its source, destination, feed, header range, view set and destination range, and an accepted one becomes a job that waits for a
thresher and holds its queue; its placement puts it at the end of the resident thresher's queue and lets the queue go; with no thresher in service
it fails with cause 6. Where its feed must first be taken up, it waits for an earlier RESET of the feed (R91). How a placement waits and which
thresher it prefers rests on log entries 36 and 37. A resumed match changes its thresher's scoreboard and nothing else. A sheaf decoded into a
view set writes its output and the rows of the tiles it addresses and no other byte, counts its tiles, and marks only sails that use one of
their views, and none where the slot is not ACTIVE (R87, R95, R97, R98, R100, R105, R112, R123, R128 to R132, R137). -/
def Obligations.DecodeIsCheckedAndPlaced : Prop :=
  ∀ (s : State) (q : QueueId) (h : Hdr) (b : DecodeBody), s.dev.powered = true →
    let d := { s.dev with out := [] }
    ((s.dev.queue q).hold = .none →
      (s.dev.live b.src = false → Becomes (.decode q h b) s (d.reject q h 0x20 0x0111 10)) ∧
      (s.dev.live b.src = true → s.dev.live b.dst = false → Becomes (.decode q h b) s (d.reject q h 0x20 0x0111 24)) ∧
      (s.dev.live b.src = true → s.dev.live b.dst = true → (s.dev.feed b.feed).gone = true →
        Becomes (.decode q h b) s (d.reject q h 0x20 0x0102 8)) ∧
      (s.dev.live b.src = true → s.dev.live b.dst = true → (s.dev.feed b.feed).gone = false → s.dev.sizeOf b.src < b.srcOff.toNat + 32 →
        Becomes (.decode q h b) s (d.reject q h 0x20 0x0A01 (boundsDetail (s.dev.sizeOf b.src) b.srcOff.toNat))) ∧
      (s.dev.live b.src = true → s.dev.live b.dst = true → (s.dev.feed b.feed).gone = false → b.srcOff.toNat + 32 ≤ s.dev.sizeOf b.src →
        b.viewTarget = true →
        (1 < b.viewSet.toNat → Becomes (.decode q h b) s (d.reject q h 0x20 0x0102 28)) ∧
        (b.viewSet.toNat ≤ 1 → s.dev.slotDef b.viewSet.toNat = none → Becomes (.decode q h b) s (d.reject q h 0x20 0x0302 28)) ∧
        (∀ w, b.viewSet.toNat ≤ 1 → s.dev.slotDef b.viewSet.toNat = some w → w.count ≤ b.firstView.toNat →
          Becomes (.decode q h b) s (d.reject q h 0x20 0x0302 30))) ∧
      (s.dev.live b.src = true → s.dev.live b.dst = true → (s.dev.feed b.feed).gone = false → b.srcOff.toNat + 32 ≤ s.dev.sizeOf b.src →
        (b.viewTarget = true → b.viewSet.toNat ≤ 1 ∧ ∃ w, s.dev.slotDef b.viewSet.toNat = some w ∧ b.firstView.toNat < w.count) →
        (s.dev.sizeOf b.dst ≤ b.dstOff.toNat → Becomes (.decode q h b) s (d.reject q h 0x20 0x0A01 (b.dstOff.toNat % 2 ^ 24))) ∧
        (b.dstOff.toNat < s.dev.sizeOf b.dst → s.dev.sizeOf b.dst < b.dstOff.toNat + b.cap.toNat →
          Becomes (.decode q h b) s (d.reject q h 0x20 0x0A01 (s.dev.sizeOf b.dst % 2 ^ 24)))) ∧
      (∀ w, s.dev.live b.src = true → s.dev.live b.dst = true → (s.dev.feed b.feed).gone = false → b.srcOff.toNat + 32 ≤ s.dev.sizeOf b.src →
        b.viewTarget = true → b.viewSet.toNat ≤ 1 → s.dev.slotDef b.viewSet.toNat = some w → b.firstView.toNat < w.count →
        b.dstOff.toNat < s.dev.sizeOf b.dst → b.dstOff.toNat + b.cap.toNat ≤ s.dev.sizeOf b.dst →
        Runs (.decode q h b) s [.qs, .intake] (fun t =>
          (t.queue q).hold = .place s.dev.qs.nextId ∧ (∀ r, r ≠ q → t.queue r = s.dev.queue r) ∧ t.qs.bufs = s.dev.qs.bufs ∧
          (Job.decode s.dev.qs.nextId b (some w) s.dev.activeSet (s.dev.activeSlot != some b.viewSet.toNat), none) ∈ t.intake.waiting ∧
          t.intake.slots = s.dev.intake.slots ∧ t.intake.threshers = s.dev.intake.threshers)) ∧
      (s.dev.live b.src = true → s.dev.live b.dst = true → (s.dev.feed b.feed).gone = false → b.srcOff.toNat + 32 ≤ s.dev.sizeOf b.src →
        b.viewTarget = false → b.dstOff.toNat < s.dev.sizeOf b.dst → b.dstOff.toNat + b.cap.toNat ≤ s.dev.sizeOf b.dst →
        Runs (.decode q h b) s [.qs, .intake] (fun t =>
          (t.queue q).hold = .place s.dev.qs.nextId ∧ (∀ r, r ≠ q → t.queue r = s.dev.queue r) ∧ t.qs.bufs = s.dev.qs.bufs ∧
          (Job.decode s.dev.qs.nextId b none s.dev.activeSet (s.dev.activeSlot != some b.viewSet.toNat), none) ∈ t.intake.waiting ∧
          (∀ w ∈ s.dev.intake.waiting, w ∈ t.intake.waiting) ∧ t.intake.feeds = s.dev.intake.feeds ∧
          t.intake.threshers = s.dev.intake.threshers ∧ t.intake.slots = s.dev.intake.slots))) ∧
    (∀ (id : Nat) (x : Job × Option ThresherId) (t0 : ThresherId), (s.dev.queue q).hold = .place id →
      s.dev.intake.waiting.find? (fun w => w.1.id == id) = some x → x.1.feed = some b.feed → s.dev.noThresher = false →
      (∀ w ∈ s.dev.intake.waiting, w.1.feed = some b.feed → id ≤ w.1.id) → s.dev.placeFor b.feed = some t0 →
      (s.dev.thresher t0).resident = some b.feed → (∀ p ∈ s.dev.intake.feeds, p.2.dropAt = none) →
      Runs (.decodeJobPlace q) s [.qs, .intake] (fun t =>
        (t.thresher t0).jobs = (s.dev.thresher t0).jobs ++ [x.1] ∧ (∀ u, u ≠ t0 → t.thresher u = s.dev.thresher u) ∧
        t.intake.waiting = s.dev.intake.waiting.filter (fun w => w.1.id != x.1.id) ∧ t.intake.feeds = s.dev.intake.feeds ∧
        (∀ r, r ≠ q → t.queue r = s.dev.queue r) ∧ t.qs.cmds = s.dev.qs.cmds)) ∧
    (∀ (id : Nat) (x : Job × Option ThresherId), (s.dev.queue q).hold = .place id →
      s.dev.intake.waiting.find? (fun w => w.1.id == id) = some x → x.1.feed = some b.feed → s.dev.noThresher = true →
      Becomes (.decodeJobPlace q) s (((d.unwait id).hold q .none).failThresher x.1 0xFF 6).dropFeeds) ∧
    (∀ (id : Nat) (x : Job × Option ThresherId), (s.dev.queue q).hold = .place id →
      s.dev.intake.waiting.find? (fun w => w.1.id == id) = some x → x.1.feed = some b.feed → s.dev.noThresher = false →
      s.dev.residentOn b.feed = none → s.dev.actionFirst b.feed id = true → Becomes (.decodeJobPlace q) s d) ∧
    (∀ (t0 : ThresherId) (id : Nat) (w : VSet) (active : Option VSet) (pending : Bool),
      (s.dev.thresher t0).jobs.head? = some (.decode id b (some w) active pending) → b.viewTarget = true → (w.fmt = 4 ∨ w.fmt = 5) →
      (s.dev.judge id b (some w) active pending).fault = none → (s.dev.thresher t0).fenced = false → (s.dev.thresher t0).leaving = false →
      s.dev.actionFirst b.feed id = false → s.dev.intake.waiting = [] → (∀ p ∈ s.dev.intake.feeds, p.2.dropAt = none) →
      s.dev.intake.raced id = false → s.dev.dram.upsets = [] → (∀ p, (s.dev.partn p).leaving = false) → Memory.wf s.dev = true →
      SMap.rising s.dev.dict.vals = true →
      let v := s.dev.judge id b (some w) active pending
      let row := fun (r : TileRec) (y : Nat) => (s.dev.buf w.ref.handle).base + w.tileRow r.view r.tile y
      let dst := (s.dev.buf b.dst.handle).base + b.dstOff.toNat
      Runs (.sheafSuccess t0) s (eventParts ++ [.qs, .intake, .dram, .push]) (fun t =>
        (∀ x : Nat, (x < dst ∨ dst + v.dec.out.length ≤ x) →
          (∀ r ∈ v.recs, ∀ y < 64, x < row r y ∨ row r y + 64 * sampleSize w.fmt ≤ x) → t.byteAt x = s.dev.byteAt x) ∧
        t.val 0x212003 = satAdd 0xFFFFFFFF (s.dev.val 0x212003) v.recs.length ∧ t.val 0x211005 = satAdd 0xFFFFFFFF (s.dev.val 0x211005) 1 ∧
        (t.feed b.feed).state = .ready ∧ (t.thresher t0).jobs = (s.dev.thresher t0).jobs.drop 1 ∧ (∀ c ∈ t.qs.cmds, c.id ≠ id) ∧
        t.intake.slots = s.dev.intake.slots ∧ t.qs.bufs = s.dev.qs.bufs ∧
        (s.dev.activeSlot ≠ some b.viewSet.toNat → t.push = s.dev.push) ∧
        (∀ y : SailId, (∀ l, s.dev.lensOf y = some l → ∀ r ∈ v.recs, l.uses r.view = false) → t.sail y = s.dev.sail y))) ∧
    (∀ (t0 : ThresherId) (lane : BitVec 4), Runs (.matchStallResume t0 lane) s [.intake] (fun t =>
      t.thresher t0 = { s.dev.thresher t0 with score := (t.thresher t0).score } ∧ (∀ u, u ≠ t0 → t.thresher u = s.dev.thresher u) ∧
      t.intake.feeds = s.dev.intake.feeds ∧ t.intake.waiting = s.dev.intake.waiting))

/-- The decoder keeps the declared lengths (R88, R108): whatever the bytes and the feed's context, it produces no more bytes than the
destination's capacity, and a sheaf that passes its header checks, is present in full and has no fault produces exactly its output length.
R127, whole: the signed residual of z is (z >> 1) XOR −(z & 1), from −32,768 to 32,767, and z = (q << 1) XOR (q >> 15) is the code whose
residual is q. The predictor of an INTRA tile is the median of left, above and left + above − above-left; with NEAR 0 the residual of a sample
against any prediction gives the sample back, and every reconstructed sample is a code of its format (R128, R130). -/
def Obligations.DecodedLengthsAndSamples : Prop :=
  (∀ (s : List Byte) (faulted hasHist : Bool) (c : FeedCtx) (cap : Nat),
     (decodeSheaf s faulted hasHist c cap).out.length ≤ cap ∧
     (hdrChecks s = none → s.length = 32 + (sheafHdr s).compLen → (decodeSheaf s faulted hasHist c cap).fault = none →
       (decodeSheaf s faulted hasHist c cap).out.length = (sheafHdr s).outLen)) ∧
  ((∀ a b c : Nat, ((medPred a b c : Nat) : Int) = max (min (a : Int) b) (min (max (a : Int) b) ((a : Int) + b - c))) ∧
   (∀ z : BitVec 16, ((z >>> 1) ^^^ (-(z &&& 1))).toInt = unzig z.toNat ∧ -32768 ≤ unzig z.toNat ∧ unzig z.toNat ≤ 32767) ∧
   (∀ q : BitVec 16, unzig ((q <<< 1) ^^^ q.sshiftRight 15).toNat = q.toInt) ∧
   (∀ bits pred x : Nat, x < 2 ^ bits → reconSample bits 0 pred ((x : Int) - pred) = x) ∧
   (∀ (bits near pred : Nat) (q : Int), reconSample bits near pred q < 2 ^ bits))

/-- A sheaf that decodes without a fault completes as one step: its bytes stand in the destination and no other byte changes, the feed is READY
with the context the sheaf leaves, the counter of sheaves advances, the job and its command are gone, and no other thresher changes. The
hypotheses: a DECODE into a buffer, undisturbed, on a thresher that stays in service, with nothing else waiting (R98, R104, R106). -/
def Obligations.SheafSuccessStoresItsOutput : Prop :=
  ∀ (s : State) (t0 : ThresherId) (id : Nat) (b : DecodeBody) (active : Option VSet) (pending : Bool), s.dev.powered = true →
    (s.dev.thresher t0).jobs.head? = some (.decode id b none active pending) → b.viewTarget = false →
    (s.dev.judge id b none active pending).fault = none → (s.dev.thresher t0).fenced = false → (s.dev.thresher t0).leaving = false →
    s.dev.actionFirst b.feed id = false → s.dev.intake.waiting = [] → (∀ p ∈ s.dev.intake.feeds, p.2.dropAt = none) →
    s.dev.intake.raced id = false → s.dev.dram.upsets = [] →
    (∀ p, (s.dev.partn p).leaving = false) → Memory.wf s.dev = true → SMap.rising s.dev.dict.vals = true →
    let v := s.dev.judge id b none active pending
    Runs (.sheafSuccess t0) s (eventParts ++ [.qs, .intake, .dram]) (fun t =>
      t.readMem ((s.dev.buf b.dst.handle).base + b.dstOff.toNat) v.dec.out.length = v.dec.out ∧
      SameMemoryOutside ((s.dev.buf b.dst.handle).base + b.dstOff.toNat) v.dec.out.length s.dev t ∧
      (t.feed b.feed).state = .ready ∧
      (t.feed b.feed).ctx = (s.dev.feed b.feed).ctx.after (sheafHdr (s.dev.readBuf b.src b.srcOff.toNat 32)) v.dec ∧
      (t.thresher t0).jobs = (s.dev.thresher t0).jobs.drop 1 ∧ (t.thresher t0).resident = (s.dev.thresher t0).resident ∧
      (∀ u, u ≠ t0 → t.thresher u = s.dev.thresher u) ∧ (∀ f, f ≠ b.feed → t.feed f = s.dev.feed f) ∧
      (∀ c ∈ t.qs.cmds, c.id ≠ id) ∧ t.qs.bufs = s.dev.qs.bufs ∧ t.val 0x211005 = satAdd 0xFFFFFFFF (s.dev.val 0x211005) 1)

/-- A sheaf with a fault fails its command and leaves the feed as it was; only bytes of the destination range may differ afterwards, and what
they hold is free; the counter of failed sheaves advances (R106, R107). -/
def Obligations.SheafFailureLeavesTheFeed : Prop :=
  ∀ (s : State) (t0 : ThresherId) (id : Nat) (b : DecodeBody) (active : Option VSet) (pending : Bool) (f : PFault), s.dev.powered = true →
    (s.dev.thresher t0).jobs.head? = some (.decode id b none active pending) →
    (s.dev.judge id b none active pending).fault = some f → f.code ≠ 0x0301 → (s.dev.thresher t0).fenced = false →
    (s.dev.thresher t0).leaving = false → s.dev.actionFirst b.feed id = false → s.dev.intake.waiting = [] → (∀ p ∈ s.dev.intake.feeds, p.2.dropAt = none) →
    s.dev.dram.upsets = [] → (∀ p, (s.dev.partn p).leaving = false) → SMap.rising s.dev.dict.vals = true →
    Runs (.sheafFailure t0) s (eventParts ++ [.qs, .intake, .dram, .free]) (fun t =>
      SameMemoryOutside ((s.dev.buf b.dst.handle).base + b.dstOff.toNat)
        (min (sheafHdr (s.dev.sheafBytes id b 32)).outLen (s.dev.capOf b)) s.dev t ∧
      t.intake.feeds = s.dev.intake.feeds ∧ (t.thresher t0).jobs = (s.dev.thresher t0).jobs.drop 1 ∧
      (∀ c ∈ t.qs.cmds, c.id ≠ id) ∧ t.val 0x211006 = satAdd 0xFFFFFFFF (s.dev.val 0x211006) 1 ∧
      t.val 0x211005 = s.dev.val 0x211005)

/-- FEED_RESET: CREATE of an ABSENT feed with an allowed save area makes it EMPTY; RESET and DELETE act at once where no earlier DECODE of the
feed runs and no earlier action waits, and else wait; the FREE of a save area makes the feed ABSENT once its DECODEs are over; the codes
follow the order of R91 (R90, R91, R93). That a RESET sets the expected sequence to 0 is log entry 93. -/
def Obligations.FeedLifeCycle : Prop :=
  ∀ (s : State) (q : QueueId) (h : Hdr) (b : FeedResetBody), s.dev.powered = true → SMap.rising s.dev.intake.feeds = true →
    let d := { s.dev with out := [] }
    ((s.dev.queue q).hold = .none →
      (2 < b.action.toNat → Becomes (.feedReset q h b) s (d.reject q h 0x21 0x0102 9)) ∧
      (b.action = 1 → (s.dev.feed b.feed).state ≠ .absent → Becomes (.feedReset q h b) s (d.reject q h 0x21 0x0102 8)) ∧
      (b.action ≠ 1 → b.action.toNat ≤ 2 → (s.dev.feed b.feed).gone = true → Becomes (.feedReset q h b) s (d.reject q h 0x21 0x0102 8)) ∧
      (b.action = 1 → (s.dev.feed b.feed).state = .absent → s.dev.saveAreaOk b.feed b.save = false →
        Becomes (.feedReset q h b) s (d.reject q h 0x21 0x0102 10)) ∧
      (b.action = 1 → (s.dev.feed b.feed).state = .absent → s.dev.saveAreaOk b.feed b.save = true →
        Runs (.feedReset q h b) s (eventParts ++ [.qs, .intake]) (fun t =>
          t.feed b.feed = { state := .empty, save := b.save } ∧ ∀ f, f ≠ b.feed → t.feed f = s.dev.feed f)) ∧
      (b.action = 0 → b.save = ⟨0, 0⟩ → (s.dev.feed b.feed).gone = false → (s.dev.feed b.feed).actions = [] →
        s.dev.feedQuiet b.feed s.dev.qs.nextId = true → Runs (.feedReset q h b) s (eventParts ++ [.qs, .intake]) (fun t =>
          (t.feed b.feed).state = .empty ∧ (t.feed b.feed).ctx = {} ∧ (t.feed b.feed).save = (s.dev.feed b.feed).save ∧
          (t.feed b.feed).actions = [] ∧ ∀ f, f ≠ b.feed → t.feed f = s.dev.feed f)) ∧
      (b.action = 2 → b.save = ⟨0, 0⟩ → (s.dev.feed b.feed).gone = false → (s.dev.feed b.feed).actions = [] →
        s.dev.feedQuiet b.feed s.dev.qs.nextId = true → Runs (.feedReset q h b) s (eventParts ++ [.qs, .intake]) (fun t =>
          t.feed b.feed = {} ∧ ∀ f, f ≠ b.feed → t.feed f = s.dev.feed f)) ∧
      (b.action ≠ 1 → b.action.toNat ≤ 2 → b.save = ⟨0, 0⟩ → (s.dev.feed b.feed).gone = false → (s.dev.feed b.feed).actions = [] →
        s.dev.feedQuiet b.feed s.dev.qs.nextId = false → Runs (.feedReset q h b) s [.qs, .intake] (fun t =>
          t.feed b.feed = { s.dev.feed b.feed with actions := [(s.dev.qs.nextId, b.action == 2)] }))) ∧
    (∀ (f : FeedId) (id : Nat) (rest : List (Nat × Bool)), (s.dev.feed f).actions = (id, false) :: rest → s.dev.feedQuiet f id = true →
      Runs (.feedActionTakesEffect f) s (eventParts ++ [.qs, .intake]) (fun t =>
        (t.feed f).state = .empty ∧ (t.feed f).ctx = {} ∧ (t.feed f).actions = rest ∧ ∀ g, g ≠ f → t.feed g = s.dev.feed g)) ∧
    (∀ (f : FeedId) (id : Nat), (s.dev.feed f).freeing = some id → s.dev.feedQuiet f id = true →
      Runs (.saveAreaFreeEffect f) s (eventParts ++ [.qs, .intake]) (fun t => t.feed f = {} ∧ ∀ g, g ≠ f → t.feed g = s.dev.feed g)) ∧
    (∀ (f : FeedId) (id : Nat), (s.dev.feed f).freeing = some id → s.dev.feedQuiet f id = false → Becomes (.saveAreaFreeEffect f) s d)

/-- A thresher fault with cause 1, 2 or 5 fences the thresher, faults its resident feed, records the fault, and hands its queued
DECODEs on; a second fault of a fenced thresher does nothing, nor does one of a thresher whose partition is OFFLINE or under BIST (R450). The
feed keeps its expected sequence (R73). Moved jobs join the thresher where their feed is resident, in order; an encode job that ends stores its
sheaf in the READBACK's destination only (R110 to R114, R309). That LAST_FAULT names feed 0 where no feed is resident is log entry 93. -/
def Obligations.ThresherFaultsAndMovedJobs : Prop :=
  ∀ (s : State) (t0 : ThresherId), s.dev.powered = true → (∀ p ∈ s.dev.intake.feeds, p.2.dropAt = none) →
    let d := { s.dev with out := [] }
    let fencedBy := fun (cause : Nat) (t : Dev) =>
      (t.thresher t0).fenced = true ∧ (t.thresher t0).jobs = [] ∧ (t.thresher t0).resident = none ∧
      t.intake.lastFault = t0.toNat * 2 ^ 24 + cause * 2 ^ 16 + ((s.dev.thresher t0).resident.getD 0).toNat ∧
      (∀ f, (s.dev.thresher t0).resident = some f →
        (t.feed f).state = .faulted ∧ (t.feed f).ctx = { seq := (s.dev.feed f).ctx.seq }) ∧
      ((∀ w ∈ s.dev.intake.waiting, w.1.feed.isSome = true) → (∀ j ∈ (s.dev.thresher t0).jobs.drop 1, j.feed.isSome = true) →
        ∀ j ∈ (s.dev.thresher t0).jobs.drop 1, (j, some t0) ∈ t.intake.waiting)
    ((s.dev.thresher t0).fenced = false →
      ((s.dev.partn (8 + t0.toNat / 4)).state ≠ .offline → (s.dev.partn (8 + t0.toNat / 4)).state ≠ .bist → ∀ fence : Bool,
        Runs (.thresherFault t0 fence) s (eventParts ++ [.qs, .intake, .dram, .draws, .flt, .free]) (fencedBy (if fence then 5 else 1))) ∧
      ((s.dev.thresher t0).jobs ≠ [] →
        Runs (.thresherProgressTimeout t0) s (eventParts ++ [.qs, .intake, .dram, .draws, .flt, .free]) (fencedBy 2))) ∧
    (((s.dev.thresher t0).fenced = true ∨ (s.dev.partn (8 + t0.toNat / 4)).state = .offline ∨ (s.dev.partn (8 + t0.toNat / 4)).state = .bist) →
      ∀ fence : Bool, Becomes (.thresherFault t0 fence) s d) ∧
    ((s.dev.thresher t0).jobs = [] → Becomes (.thresherProgressTimeout t0) s d) ∧
    (∀ (f : FeedId) (x : Job × ThresherId) (rest : List (Job × ThresherId)), s.dev.movedJobs f = x :: rest → s.dev.noThresher = false →
      s.dev.placeFor f = some t0 → (s.dev.thresher t0).resident = some f → s.dev.actionFirst f x.1.id = false →
      Runs (.jobsJoinThresher f) s (eventParts ++ [.intake]) (fun t =>
        (t.thresher t0).jobs = (s.dev.thresher t0).jobs ++ (x :: rest).map (·.1) ∧ (∀ u, u ≠ t0 → t.thresher u = s.dev.thresher u) ∧
        t.movedJobs f = [] ∧ t.intake.feeds = s.dev.intake.feeds)) ∧
    (∀ f : FeedId, s.dev.movedJobs f = [] → Becomes (.jobsJoinThresher f) s d) ∧
    (∀ (id : Nat) (raw sheaf : List Byte) (r : Rb), (s.dev.thresher t0).jobs.head? = some (.encode id raw) →
      s.dev.draws.readbacks.find? (fun r => r.id == id) = some r → encodes raw sheaf = true → (s.dev.thresher t0).fenced = false →
      (s.dev.thresher t0).leaving = false → s.dev.intake.waiting = [] → (∀ p, (s.dev.partn p).leaving = false) → sheaf ≠ [] →
      s.dev.lostBuf r.b.ref r.b.offset.toNat sheaf.length = false → s.dev.dram.upsets = [] → Memory.wf s.dev = true →
      Runs (.encodeJobComplete t0 sheaf) s [.intake, .dram, .draws] (fun t =>
        t.readMem ((s.dev.buf r.b.ref.handle).base + r.b.offset.toNat) sheaf.length = sheaf ∧
        SameMemoryOutside ((s.dev.buf r.b.ref.handle).base + r.b.offset.toNat) sheaf.length s.dev t ∧
        t.draws.readbacks = s.dev.draws.readbacks.map (fun (x : Rb) => if x.id = id then { x with done := some sheaf.length } else x) ∧
        (t.thresher t0).jobs = (s.dev.thresher t0).jobs.drop 1)) ∧
    (∀ raw sheaf : List Byte, encodes raw sheaf = true → (decodeSheaf sheaf false false {} raw.length).out = raw)

/-! ### View sets (file 06) -/

/-- VIEWSET_DEFINE defines or undefines a slot that no applied or pending selection uses, at once where no earlier DECODE into the slot runs, and
else waits; a FREE of its buffer undefines a PENDING slot; the ACTIVE slot stays. Each field's failure has its code and offset: of a DEFINE format,
curve, view count, width, height, PQ peak, then the sample count and the buffer; of an UNDEFINE the first field that is not 0 (R118, R119,
R121, R122). That the FREE undefines a slot a pending commit selects too is log entry 116. -/
def Obligations.ViewSetSlots : Prop :=
  ∀ (s : State) (q : QueueId) (h : Hdr) (b : ViewSetBody), s.dev.powered = true →
    let d := { s.dev with out := [] }
    ((s.dev.queue q).hold = .none →
      (b.action = 0 → s.dev.live b.ref = false → Becomes (.viewsetDefine q h b) s (d.reject q h 0x28 0x0111 10)) ∧
      (b.action = 0 → s.dev.live b.ref = true → 1 < b.slot.toNat → Becomes (.viewsetDefine q h b) s (d.reject q h 0x28 0x0102 8)) ∧
      (1 < b.action.toNat → b.slot.toNat ≤ 1 → Becomes (.viewsetDefine q h b) s (d.reject q h 0x28 0x0102 9)) ∧
      (let fails := fun (code detail : Nat) => Becomes (.viewsetDefine q h b) s (d.reject q h 0x28 code detail)
       let fmt := b.fmt = 4 ∨ b.fmt = 5
       let curve := if b.fmt = 5 then b.curve = 0 else b.curve = 1 ∨ b.curve = 2
       let count := 1 ≤ b.count.toNat ∧ b.count.toNat ≤ 256
       let dim := fun (n : Nat) => 64 ≤ n ∧ n ≤ 16384 ∧ n % 64 = 0
       let peak := if b.curve = 1 then 100 ≤ b.peak.toNat ∧ b.peak.toNat ≤ 10000 else b.peak = 0
       let sized := b.count.toNat * b.width.toNat * b.height.toNat ≤ 8589934592
       let pitch := b.width.toNat * (if b.fmt = 5 then 6 else 4)
       let x := s.dev.buf b.ref.handle
       (b.action = 0 → s.dev.live b.ref = true → b.slot.toNat ≤ 1 →
         (¬ fmt → fails 0x0102 14) ∧ (fmt → ¬ curve → fails 0x0102 15) ∧ (fmt → curve → ¬ count → fails 0x0102 16) ∧
         (fmt → curve → count → ¬ dim b.width.toNat → fails 0x0302 18) ∧
         (fmt → curve → count → dim b.width.toNat → ¬ dim b.height.toNat → fails 0x0302 20) ∧
         (fmt → curve → count → dim b.width.toNat → dim b.height.toNat → ¬ peak → fails 0x0102 22) ∧
         (fmt → curve → count → dim b.width.toNat → dim b.height.toNat → peak → ¬ sized → fails 0x0302 16) ∧
         (fmt → curve → count → dim b.width.toNat → dim b.height.toNat → peak → sized →
           (x.fmt ≠ b.fmt.toNat ∨ x.pitch ≠ pitch ∨ x.size < b.count.toNat * pitch * b.height.toNat) → fails 0x0302 10) ∧
         (fmt → curve → count → dim b.width.toNat → dim b.height.toNat → peak → sized → x.fmt = b.fmt.toNat → x.pitch = pitch →
           b.count.toNat * pitch * b.height.toNat ≤ x.size → firstBad (s.dev.defineChecks b) = none)) ∧
       (b.action = 1 → 1 < b.slot.toNat → fails 0x0102 8) ∧
       (b.action = 1 → b.slot.toNat ≤ 1 →
         (b.ref.handle ≠ 0 → fails 0x0102 10) ∧ (b.ref.handle = 0 → b.ref.gen ≠ 0 → fails 0x0102 12) ∧
         (b.ref = ⟨0, 0⟩ → b.fmt ≠ 0 → fails 0x0102 14) ∧ (b.ref = ⟨0, 0⟩ → b.fmt = 0 → b.curve ≠ 0 → fails 0x0102 15) ∧
         (b.ref = ⟨0, 0⟩ → b.fmt = 0 → b.curve = 0 → b.count ≠ 0 → fails 0x0102 16) ∧
         (b.ref = ⟨0, 0⟩ → b.fmt = 0 → b.curve = 0 → b.count = 0 → b.width ≠ 0 → fails 0x0102 18) ∧
         (b.ref = ⟨0, 0⟩ → b.fmt = 0 → b.curve = 0 → b.count = 0 → b.width = 0 → b.height ≠ 0 → fails 0x0102 20) ∧
         (b.ref = ⟨0, 0⟩ → b.fmt = 0 → b.curve = 0 → b.count = 0 → b.width = 0 → b.height = 0 → b.peak ≠ 0 → fails 0x0102 22) ∧
         (b.ref = ⟨0, 0⟩ → b.fmt = 0 → b.curve = 0 → b.count = 0 → b.width = 0 → b.height = 0 → b.peak = 0 →
           (s.dev.slotInUse b.slot.toNat = true → fails 0x0102 8) ∧
           (s.dev.slotInUse b.slot.toNat = false → (s.dev.vslot b.slot.toNat).actions = [] →
             (s.dev.slotQuiet b.slot.toNat s.dev.qs.nextId = true → SMap.rising s.dev.intake.slots = true →
               Runs (.viewsetDefine q h b) s (eventParts ++ [.qs, .intake]) (fun t =>
                 (t.vslot b.slot.toNat).dfn = none ∧ (t.vslot b.slot.toNat).actions = [] ∧
                 (∀ n, n ≠ b.slot.toNat → t.vslot n = s.dev.vslot n) ∧ t.intake.feeds = s.dev.intake.feeds)) ∧
             (s.dev.slotQuiet b.slot.toNat s.dev.qs.nextId = false →
               Runs (.viewsetDefine q h b) s [.qs, .intake] (fun t =>
                 t.vslot b.slot.toNat = { s.dev.vslot b.slot.toNat with actions := [(s.dev.qs.nextId, none)] })))))) ∧
      (b.action = 0 → s.dev.live b.ref = true → b.slot.toNat ≤ 1 → firstBad (s.dev.defineChecks b) = none → s.dev.slotInUse b.slot.toNat = true →
        Becomes (.viewsetDefine q h b) s (d.reject q h 0x28 0x0102 8)) ∧
      (b.action = 0 → s.dev.live b.ref = true → b.slot.toNat ≤ 1 → firstBad (s.dev.defineChecks b) = none → s.dev.slotInUse b.slot.toNat = false →
        (s.dev.vslot b.slot.toNat).actions = [] →
        (s.dev.slotQuiet b.slot.toNat s.dev.qs.nextId = true →
          Runs (.viewsetDefine q h b) s (eventParts ++ [.qs, .intake]) (fun t =>
            (t.vslot b.slot.toNat).dfn = some (viewSetOf b) ∧ (t.vslot b.slot.toNat).actions = [] ∧
            (∀ n, n ≠ b.slot.toNat → t.vslot n = s.dev.vslot n) ∧ t.intake.feeds = s.dev.intake.feeds)) ∧
        (s.dev.slotQuiet b.slot.toNat s.dev.qs.nextId = false →
          Runs (.viewsetDefine q h b) s [.qs, .intake] (fun t =>
            t.vslot b.slot.toNat = { s.dev.vslot b.slot.toNat with actions := [(s.dev.qs.nextId, some (viewSetOf b))] })))) ∧
    (∀ (n : BitVec 1) (id : Nat) (v : Option VSet) (rest : List (Nat × Option VSet)), (s.dev.vslot n.toNat).actions = (id, v) :: rest →
      (s.dev.slotQuiet n.toNat id = true → v ≠ none ∨ rest ≠ [] ∨ SMap.rising s.dev.intake.slots = true → Runs (.viewsetDefineTakesEffect n) s (eventParts ++ [.qs, .intake]) (fun t =>
        (t.vslot n.toNat).dfn = v ∧ (t.vslot n.toNat).actions = rest ∧ ∀ k, k ≠ n.toNat → t.vslot k = s.dev.vslot k)) ∧
      (s.dev.slotQuiet n.toNat id = false → Becomes (.viewsetDefineTakesEffect n) s d)) ∧
    (∀ (n : BitVec 1) (id : Nat), (s.dev.vslot n.toNat).freeing = some id →
      (s.dev.slotQuiet n.toNat id = true → s.dev.activeSlot ≠ some n.toNat → (s.dev.vslot n.toNat).actions = [] →
        SMap.rising s.dev.intake.slots = true → Runs (.pendingSlotFreeEffect n) s [.intake] (fun t =>
          t.vslot n.toNat = {} ∧ ∀ k, k ≠ n.toNat → t.vslot k = s.dev.vslot k)) ∧
      (s.dev.activeSlot = some n.toNat → Becomes (.pendingSlotFreeEffect n) s d))

/-! ### Shadows, commits and tacks (files 06, 07, 09, 10, 14) -/

/-- LENS_SET, LAYER_SET, LUT_LOAD and PROOF_SET write one kind of shadow each, and put nothing in force; a failing one writes no shadow. A LUT
is 4,096 little-endian words. LENS_SET fails whole, and is counted (R144, R145, R160, R178, R186, R187, R298). -/
def Obligations.ShadowsAreWritten : Prop :=
  ∀ (s : State) (q : QueueId) (h : Hdr), s.dev.powered = true → (s.dev.queue q).hold = .none →
    let d := { s.dev with out := [] }
    let parts := eventParts ++ [.qs, .intake]
    let shadowed := fun (is : List Item) (t : Dev) =>
      t.comp = { s.dev.comp with shadow := is.foldl putItem s.dev.comp.shadow } ∧ t.qs.bufs = s.dev.qs.bufs ∧ t.qs.queues = s.dev.qs.queues
    (∀ b : LensSetBody,
      (b.none = false → s.dev.live b.ref = false → Runs (.lensSet q h b) s parts (fun t => t.qs.bufs = s.dev.qs.bufs)) ∧
      (b.none = true → b.first.toNat + b.count.toNat ≤ 32 * mastsOf s.dev.fuses.md0512 → 1 ≤ b.count.toNat → b.ref = ⟨0, 0⟩ → b.offset = 0 →
        b.stride = 0 → Runs (.lensSet q h b) s (parts ++ [.comp])
          (shadowed ((List.range b.count.toNat).map (fun i => Item.lens (BitVec.ofNat 10 (b.first.toNat + i)) none)))) ∧
      (b.none = false → firstBad (s.dev.lensFields b) = none → s.dev.dram.upsets = [] →
        (∀ is d1, s.dev.readLenses b.ref b.stride.toNat b.count.toNat b.first.toNat b.offset.toNat = (.ok is, d1) →
          Runs (.lensSet q h b) s (parts ++ [.comp]) (shadowed is)) ∧
        (∀ e d1, s.dev.readLenses b.ref b.stride.toNat b.count.toNat b.first.toNat b.offset.toNat = (.error e, d1) →
          SMap.rising s.dev.dict.vals = true →
          Runs (.lensSet q h b) s (parts ++ [.free]) (fun t => t.val 0x213002 = satAdd 0xFFFFFFFF (s.dev.val 0x213002) 1)))) ∧
    (∀ b : LayerBody,
      (b.action = 0 → s.dev.live b.ref = false → Becomes (.layerSet q h b) s (d.reject q h 0x40 0x0111 10)) ∧
      (b.action = 1 → (b.layer = 0 ∨ 7 < b.layer.toNat) → Becomes (.layerSet q h b) s (d.reject q h 0x40 0x0501 8)) ∧
      (firstBad (s.dev.layerChecks b) = none → Runs (.layerSet q h b) s (parts ++ [.comp])
        (shadowed [.layer b.layer.toNat (if b.action = 0 then some b else none)]))) ∧
    (∀ b : LutBody,
      (s.dev.live b.ref = false → Becomes (.lutLoad q h b) s (d.reject q h 0x42 0x0111 10)) ∧
      (s.dev.live b.ref = true → b.lut.toNat ≤ 7 → b.offset.toNat % 64 = 0 → s.dev.sizeOf b.ref < b.offset.toNat + 16384 →
        Becomes (.lutLoad q h b) s (d.reject q h 0x42 0x0A01 (boundsDetail (s.dev.sizeOf b.ref) b.offset.toNat))) ∧
      (s.dev.live b.ref = true → b.lut.toNat ≤ 7 → b.offset.toNat % 64 = 0 → b.offset.toNat + 16384 ≤ s.dev.sizeOf b.ref →
        s.dev.lostBuf b.ref b.offset.toNat 16384 = false → s.dev.dram.upsets = [] →
        ∃ ws : List U32, ws.length = 4096 ∧
          (∀ i < 4096, ws.getD i 0 = BitVec.ofNat 32 (field (s.dev.readBuf b.ref b.offset.toNat 16384) (4 * i) 4)) ∧
          Runs (.lutLoad q h b) s (parts ++ [.comp]) (shadowed [.lut b.lut.toNat ws]))) ∧
    (∀ b : ProofBody,
      (63 < b.window.toNat → Becomes (.proofSet q h b) s (d.reject q h 0x60 0x0102 8)) ∧
      (firstBad (s.dev.proofFields b) = none → Runs (.proofSet q h b) s (parts ++ [.comp])
        (shadowed [.win b.window.toNat (if b.action = 1 then none else some b)])))

/-- COMMIT checks its policy, its chase queue, the number of pending commits and the selected slot, in that order; a valid one takes the next ordinal
and every shadow into a pending commit, and no longer defers the others; a rejected one leaves the shadows and the pending commits, and
its code and data in entries 0x2100.07 and .08. Neither puts anything in force (R134, R187 to R189, R193, R203). That the selected slot is looked
at as the latest definition that waits leaves it is log entry 94. -/
def Obligations.CommitTakesTheShadows : Prop :=
  ∀ (s : State) (q : QueueId) (h : Hdr) (b : CommitBody), s.dev.powered = true → (s.dev.queue q).hold = .none →
    let parts := eventParts ++ [.qs, .intake, .comp]
    let a := s.dev.projected.puts s.dev.fuses s.dev.comp.shadow
    let n := a.val s.dev.fuses 0x212001
    let rejected := fun (code data : Nat) (t : Dev) => t.comp = { s.dev.comp with rejCode := code, rejData := data }
    (2 < b.policy.toNat → Runs (.commit q h b) s parts (rejected 0x0102 8)) ∧
    (b.policy.toNat ≤ 2 → b.chase = true → 63 < b.chaseQueue.toNat → Runs (.commit q h b) s parts (rejected 0x0102 10)) ∧
    (b.policy.toNat ≤ 2 → (b.chase = true → b.chaseQueue.toNat ≤ 63) →
      (4 ≤ s.dev.comp.pend.length → Runs (.commit q h b) s parts (rejected 0x0503 0)) ∧
      (s.dev.comp.pend.length < 4 → n ≠ 0xFF → (2 ≤ n ∨ s.dev.slotDef n = none) →
        Runs (.commit q h b) s parts (rejected 0x0302 (n % 256 * 65536))) ∧
      (s.dev.validate = none → Runs (.commit q h b) s parts (fun t =>
        t.comp.ordinal = s.dev.comp.ordinal + 1 ∧ t.comp.shadow = [] ∧ t.comp.ap = s.dev.comp.ap ∧ t.comp.held = s.dev.comp.held ∧
        t.comp.gates = s.dev.comp.gates ∧ t.comp.rejCode = s.dev.comp.rejCode ∧
        t.comp.pend.map (·.items) = s.dev.comp.pend.map (·.items) ++ [s.dev.comp.shadow] ∧ (∀ c ∈ t.comp.pend, c.deferred = false) ∧
        ∃ c, t.comp.pend.getLast? = some c ∧ c.policy = b.policy.toNat ∧ c.who = .queue q ∧ c.tag = h.tag)))

/-- A boundary turns the tack where R196 allows one: the OPEN tack seals, the next sequence is OPEN, the triggers and the requests of partitions
are spent, the shadows stay. A tack with no plots retires at once (R194 to R197, R203). A WAIT timeout is such a boundary, or in LOCKED mode
marks the waiting commit (R191, R192). -/
def Obligations.TackBoundaryTurnsTheTack : Prop :=
  ∀ s : State, s.dev.powered = true →
    let d := { s.dev with out := [] }
    let turned := fun (t : Dev) =>
      t.tack.openSeq = s.dev.tack.openSeq + 1 ∧ t.tack.lastBoundary = s.dev.now ∧ t.tack.periodDue = false ∧ t.tack.edgeDue = false ∧
      t.comp.waiting = false ∧ t.comp.shadow = s.dev.comp.shadow ∧ t.flt.reqs = [] ∧
      (∀ a, t.tack.act = some a → a.seq = s.dev.tack.openSeq ∧ a.pushing = false ∧ a.sealedAt = s.dev.now) ∧
      (t.tack.act = none → t.tack.retired = s.dev.tack.openSeq)
    ((s.dev.boundaryDue = false ∨ s.dev.waitBlocks = true) → Becomes .tackBoundary s d) ∧
    (s.dev.boundaryDue = true → s.dev.waitBlocks = false → Runs .tackBoundary s deliveryParts turned) ∧
    (s.dev.waitBlocks = false → Becomes .commitWaitTimeout s d) ∧
    (s.dev.tval 0x200001 ≠ 2 → s.dev.boundaryDue = true → s.dev.waitBlocks = true → Runs .commitWaitTimeout s deliveryParts turned) ∧
    (∀ w, s.dev.tval 0x200001 = 2 → s.dev.comp.waiting = true → s.dev.waitBlocks = true →
      s.dev.comp.pend.find? (fun c => c.policy != 2 && !(s.dev.notReady c).isEmpty) = some w →
      Becomes .commitWaitTimeout s { d with comp := { d.comp with pend := timeOutWait d.comp.pend w } })

/-- The timing modes: the period falls due in PERIODIC mode without a hold; in LOCKED mode each n-th transition of the selected polarity
qualifies, arms the flips of retired tacks, and triggers the boundary unless a hold is in force or a tack is SEALED or PUSHING; the loss of
the input is reported once; a boundary that WAIT delayed in LOCKED mode is triggered by the first edge after its items are ready (R192); a
broadcast sends copies 0, 1 and 2 of TACK, each with its launch time, on every mast in SERVICE that serialises no packet, and TACK_OUT
pulses; under a hold neither happens (R64, R203 to R209, R235), nor does a broadcast after a lost channel (R334). In HOVE the first two also
wake the device, which the statement of HOVE says. What stands as the last transition before one has come is log entry 110, and how a hold and a delayed
boundary meet an edge is log entry 48. -/
def Obligations.TackTriggersAndPulses : Prop :=
  ∀ s : State, s.dev.powered = true →
    let d := { s.dev with out := [] }
    let armed := s.dev.tack.flips.map (fun (f : Flip) => { f with armed := true })
    (s.dev.tval 0x200001 = 1 → s.dev.qs.holds = [] → s.dev.pw.state ≠ .hove →
      Becomes .tackPeriodExpiry s { d with tack := { d.tack with periodDue := true } }) ∧
    ((s.dev.tval 0x200001 ≠ 1 ∨ s.dev.qs.holds ≠ []) → Becomes .tackPeriodExpiry s d) ∧
    (∀ rising : Bool,
      ((s.dev.tval 0x200004 == 0) ≠ rising → Becomes (.tackSyncEdge rising) s { d with tack := { d.tack with otherEdge := s.dev.now } }) ∧
      ((s.dev.tval 0x200004 == 0) = rising →
        (s.dev.tval 0x200001 ≠ 2 → Becomes (.tackSyncEdge rising) s { d with tack := { d.tack with lastEdge := s.dev.now } }) ∧
        (s.dev.tval 0x200001 = 2 → s.dev.tack.edges + 1 < s.dev.tval 0x200003 →
          let due := s.dev.tack.edgeDue || (s.dev.comp.waiting && !s.dev.waitBlocks && s.dev.qs.holds.isEmpty && s.dev.tack.act.isNone)
          Becomes (.tackSyncEdge rising) s
            { d with tack := { d.tack with lastEdge := s.dev.now, edges := s.dev.tack.edges + 1, edgeDue := due } }) ∧
        (s.dev.tval 0x200001 = 2 → s.dev.tval 0x200003 ≤ s.dev.tack.edges + 1 → s.dev.pw.state ≠ .hove →
          let k := { d.tack with lastEdge := s.dev.now, edges := 0, syncLost := false }
          (s.dev.qs.holds ≠ [] → Becomes (.tackSyncEdge rising) s { d with tack := k }) ∧
          (s.dev.qs.holds = [] → s.dev.tack.act ≠ none → Becomes (.tackSyncEdge rising) s { d with tack := { k with flips := armed } }) ∧
          (s.dev.qs.holds = [] → s.dev.tack.act = none → s.dev.waitBlocks = false →
            Becomes (.tackSyncEdge rising) s { d with tack := { k with flips := armed, edgeDue := true } })))) ∧
    (s.dev.tval 0x200001 = 2 → s.dev.tack.syncLost = false →
      Runs .syncTimeout s (eventParts ++ [.tack]) (fun t => t.tack = { s.dev.tack with syncLost := true })) ∧
    ((s.dev.tval 0x200001 ≠ 2 ∨ s.dev.tack.syncLost = true) → Becomes .syncTimeout s d) ∧
    (s.dev.tack.pulses ≠ 0 → s.dev.qs.holds = [] →
      Becomes .tackOutPulse s { d with out := [.tackOut], tack := { d.tack with pulses := s.dev.tack.pulses - 1 } }) ∧
    ((s.dev.tack.pulses = 0 ∨ s.dev.qs.holds ≠ []) → Becomes .tackOutPulse s d) ∧
    (∀ (f : Flip) (rest : List Flip), s.dev.tack.flips = f :: rest →
      (s.dev.pw.state = .underway → s.dev.stopped = false → s.dev.qs.holds = [] → (s.dev.tval 0x200001 ≠ 2 ∨ f.armed = true) →
        Runs .tackBroadcast s [.tack, .push, .lines, .dict] (fun t =>
          t.tack = { s.dev.tack with flips := rest, pulses := s.dev.tack.pulses + 1 } ∧ t.push.plots = s.dev.push.plots ∧
          ∀ m ∈ s.dev.mastList, (s.dev.mast m).state = .service → s.dev.serialising m = false → ∀ i < 3,
            t.out.countP (fun o => decide (o = Out.mast m (.tack f.seq i ((s.dev.mast m).adjust i)))) = 1)) ∧
      ((s.dev.pw.state ≠ .underway ∨ s.dev.stopped = true ∨ s.dev.qs.holds ≠ [] ∨ (s.dev.tval 0x200001 = 2 ∧ f.armed = false)) → Becomes .tackBroadcast s d)) ∧
    (s.dev.tack.flips = [] → Becomes .tackBroadcast s d)

/-! ### Push and clusters (files 08, 10) -/

/-- A mast admits a plot only of its push set: SEALED, not reserved, held by no gate, its sail deliverable with credits left; the reservation
joins the list, the tack is PUSHING, and the mast's FIFO stays within 512 KiB and 128 job slots. Nothing is admitted without a tack, while
the mast withholds, retrains or changes its setting, or without a cluster in service (R175, R198, R210, R211, R272, R275). -/
def Obligations.PlotsAreAdmittedWithinLimits : Prop :=
  (∀ (d : Dev) (m : MastId) (cls : Nat) (x : SailId) (p : Nat), d.choosePlot m = some (cls, x, p) →
    (d.sail x).sealedMap.getLsbD p = true ∧ d.reserved x p = false ∧ d.gated x p = false ∧ d.deliverable x = true ∧
    4 * (d.push.plots.countP (fun (r : Plot) => r.sail == x)) + 4 ≤ (d.sail x).credits) ∧
  (∀ (s : State) (m : MastId), s.dev.powered = true →
    let able := s.dev.pw.state = .underway ∧ s.dev.tack.act ≠ none ∧ s.dev.stopped = false ∧ (s.dev.mast m).state = .service ∧
      (s.dev.mast m).withhold = false ∧ s.dev.groupUp m = true ∧ s.dev.fifoOpen m = true ∧ allClusters.any s.dev.clusterUp = true
    (able → ∀ (cls : Nat) (x : SailId) (p : Nat), s.dev.choosePlot m = some (cls, x, p) →
      Runs (.plotAdmit m) s [.push, .tack, .dict] (fun t =>
        t.push.plots = s.dev.push.plots ++ [{ mast := m, sail := x, plot := p, promoted := s.dev.promotedRow x (p / 64) }] ∧
        t.push.sails = s.dev.push.sails ∧ (∀ k, k ≠ m → t.mast k = s.dev.mast k) ∧
        t.tack = { s.dev.tack with act := s.dev.tack.act.map (fun (a : ActiveTack) => { a with pushing := true }) } ∧
        t.occupancy m ≤ 524288 ∧ (t.plotsOn m).length ≤ 128)) ∧
    ((¬ able ∨ s.dev.choosePlot m = none) → Becomes (.plotAdmit m) s { s.dev with out := [] }))

/-- The dispatcher places a job on a cluster in service with a free place, of at most 8 in all and 6 queued behind one in prefetch; a plot that
needs scalers takes as many free ones as it needs in one step; a plot whose cluster is free enters its engines, which more than 16 refetches
of its cache within 1 ms fence with cause 4 instead; its pixels are composed and handed over in order (R161 to R165, R168, R171, R182). What the
operands of the two rows mean is the model's choice (log entry 51). -/
def Obligations.JobsArePlacedAndComputed : Prop :=
  (∀ (d : Dev) (p : Plot) (urgent : Bool) (c : ClusterId), d.placeJob p urgent = some c →
    d.clusterUp c = true ∧ (d.jobsOn c).length < 8 ∧ (d.push.plots.any (fun (x : Plot) => x.stage == .prefetch c) = true →
      d.push.plots.countP (fun (x : Plot) => x.stage == .queued c) < 6)) ∧
  (∀ s : State, s.dev.powered = true →
    let d := { s.dev with out := [] }
    let sameShape := fun (t : Dev) => t.push.plots.length = s.dev.push.plots.length ∧ t.push.sails = s.dev.push.sails
    (s.dev.openClusters = [] → Becomes .jobDispatch s d) ∧
    (∀ (p : Plot) (d1 : Dev) (c : ClusterId), s.dev.pw.state = .underway → s.dev.openClusters ≠ [] → s.dev.handedJob = none →
      d.present = (some p, d1) → d1.placeJob p (s.dev.urgent p.mast) = some c →
      Runs .jobDispatch s [.push, .dram] (fun t => sameShape t ∧ t.push.clusters = s.dev.push.clusters ∧
        ∃ x ∈ t.push.plots, x.sail = p.sail ∧ x.plot = p.plot ∧ x.stage.cluster = some c ∧ x.urgent = s.dev.urgent p.mast)) ∧
    (∀ (c : ClusterId) (p : Plot), s.dev.readyOn c = some p →
      let n := min (s.dev.scalersNeeded p) s.dev.scalersUp.length
      (p.scalers = none → n ≠ 0 → n ≤ s.dev.scalersFree.length → Runs (.scalerGrant c) s [.push] (fun t => sameShape t ∧
        ∃ x ∈ t.push.plots, x.sail = p.sail ∧ x.plot = p.plot ∧ x.scalers = some (s.dev.scalersFree.take n))) ∧
      ((p.scalers ≠ none ∨ n = 0 ∨ s.dev.scalersFree.length < n) → Becomes (.scalerGrant c) s d)) ∧
    (∀ c : ClusterId, s.dev.readyOn c = none → Becomes (.scalerGrant c) s d ∧
      ∀ n m us, Becomes (.plotComputeStart c n m us) s d) ∧
    (∀ (c : ClusterId) (p : Plot) (l : Lens) (n m : U16) (us : List Upset), s.dev.readyOn c = some p → s.dev.lensOf p.sail = some l →
      SMap.rising s.dev.dram.caches = true →
      let again := ((s.dev.cache c).refetches.filter (fun t => decide (s.dev.now < t + 1000))).length + m.toNat
      (d.canCompute c p l = false → Becomes (.plotComputeStart c n m us) s d) ∧
      (d.canCompute c p l = true → again ≤ 16 →
        Runs (.plotComputeStart c n m us) s (eventParts ++ [.push, .dram, .memlog, .flt, .free]) (fun t => sameShape t ∧
          t.dram.data = s.dev.dram.data ∧
          ∃ x ∈ t.push.plots, x.sail = p.sail ∧ x.plot = p.plot ∧ x.pixels = [] ∧ x.handed = 0 ∧ x.stage = .compute c)) ∧
      (d.canCompute c p l = true → 16 < again →
        Runs (.plotComputeStart c n m us) s (eventParts ++ [.push, .lines, .dram, .memlog, .flt, .free]) (fun t =>
          t.dram.data = s.dev.dram.data ∧ (t.cluster c).cause = 4 ∧ (t.partn c.toNat).state = .fenced))) ∧
    (∀ (c : ClusterId) (n : Nat), (s.dev.cluster c).tail ≠ none → n < 4096 → Becomes (.plotHandoff c n) s d) ∧
    (∀ (c : ClusterId) (p : Plot) (l : Lens) (n : Nat), (s.dev.cluster c).tail = none →
      s.dev.push.plots.find? (fun (x : Plot) => x.stage == .compute c) = some p → s.dev.lensOf p.sail = some l →
      let parts := eventParts ++ [.push, .dram, .memlog, .flt, .free]
      (n < 4096 → p.handed < n → Runs (.plotHandoff c n) s parts (fun t => sameShape t ∧ t.dram.data = s.dev.dram.data ∧
        ∃ x ∈ t.push.plots, x.sail = p.sail ∧ x.plot = p.plot ∧ x.handed = n ∧ x.stage = .compute c ∧
          (p.repeated = false → x.pixels.take p.pixels.length = p.pixels ∧ x.pixels.length = p.pixels.length + (n - p.handed)))) ∧
      (n < 4096 → n ≤ p.handed → Becomes (.plotHandoff c n) s d) ∧
      (4096 ≤ n → p.handed < 4096 → p.pkt ≠ .started → Runs (.plotHandoff c n) s parts (fun t => sameShape t ∧
        (t.cluster c).computed = satAdd 0xFFFFFFFF (s.dev.cluster c).computed 1 ∧ (∀ k, k ≠ c → t.cluster k = s.dev.cluster k) ∧
        ∃ x ∈ t.push.plots, x.sail = p.sail ∧ x.plot = p.plot ∧ x.handed = 4096 ∧ x.scalers = none)) ∧
      (4096 ≤ n → p.handed < 4096 → p.pkt = .started → Runs (.plotHandoff c n) s (parts ++ [.lines]) (fun t =>
        t.push.plots.length = s.dev.push.plots.length ∧
        ∃ x ∈ t.push.plots, x.sail = p.sail ∧ x.plot = p.plot ∧ x.handed = 4096 ∧ x.scalers = none ∧ x.pkt = .sent ∧
          Out.mast p.mast (.plotWrite p.sail p.seq p.retry ((s.dev.tack.act.map (·.seq)).getD 0) (p.plot % 64) (p.plot / 64) x.pixels) ∈ t.out))))

/-- A cluster fault fences the cluster and its partition, once: no job of it is left on it. Its completion is reported in LAST_FENCE. A fault of a
thresher group, a slice, a scaler group or a mast group fences that partition; a thresher group's threshers are fenced with it, a mast group's
masts are DOWN and its sails UNREACHABLE (R110, R172 to R174, R451). That jobs are handed on and the partition is FENCED at the detection, and the
fence completes by its own row, is log entry 52; how a thresher group's fence is reported is log entry 109. -/
def Obligations.ClusterAndPartitionFaults : Prop :=
  ∀ s : State, s.dev.powered = true → SMap.rising s.dev.push.sails = true → SMap.rising s.dev.push.masts = true →
    let d := { s.dev with out := [] }
    let fenced := fun (c : ClusterId) (cause : Nat) (t : Dev) =>
      (t.cluster c).cause = cause ∧ (t.cluster c).done = false ∧ (∀ k, k ≠ c → t.cluster k = s.dev.cluster k) ∧ t.jobsOn c = [] ∧
      (t.partn c.toNat).state = .fenced ∧ ∀ n, n ≠ c.toNat → t.partn n = s.dev.partn n
    (∀ c : ClusterId, (s.dev.cluster c).cause = 0 → (s.dev.partn c.toNat).state = .inService →
      (∀ cause : BitVec 3, 1 ≤ cause.toNat → cause.toNat ≤ 5 → Runs (.clusterFault c cause) s [.push, .lines, .dram, .flt, .dict] (fenced c cause.toNat)) ∧
      ((s.dev.cluster c).tail ≠ none ∨ s.dev.push.plots.any (fun (p : Plot) => p.stage == .compute c) = true →
        Runs (.clusterProgressTimeout c) s [.push, .lines, .dram, .flt, .dict] (fenced c 3))) ∧
    (∀ (c : ClusterId) (cause : BitVec 3), ((s.dev.cluster c).cause ≠ 0 ∨ cause = 0 ∨ 5 < cause.toNat) → Becomes (.clusterFault c cause) s d) ∧
    (∀ c : ClusterId, (s.dev.cluster c).tail = none → s.dev.push.plots.any (fun (p : Plot) => p.stage == .compute c) = false →
      Becomes (.clusterProgressTimeout c) s d) ∧
    (∀ c : ClusterId, (s.dev.cluster c).cause ≠ 0 → (s.dev.cluster c).done = false →
      Runs (.clusterFenceComplete c) s (eventParts ++ [.push, .flt]) (fun t => t.cluster c = { s.dev.cluster c with done := true } ∧
        t.push.plots = s.dev.push.plots ∧
        t.push.lastFence = c.toNat * 2 ^ 24 + (s.dev.cluster c).cause * 2 ^ 16 + min (s.dev.cluster c).repeats 0xFFFF)) ∧
    (∀ c : ClusterId, ((s.dev.cluster c).cause = 0 ∨ (s.dev.cluster c).done = true) → Becomes (.clusterFenceComplete c) s d) ∧
    (∀ p : BitVec 6, (s.dev.partn p.toNat).state = .inService →
      (8 ≤ p.toNat → p.toNat ≤ 11 → Runs (.partitionFault p) s (eventParts ++ [.qs, .intake, .dram, .draws, .flt, .free]) (fun t =>
        (t.partn p.toNat).state = .fenced ∧ ∀ u : ThresherId, 8 + u.toNat / 4 = p.toNat → (t.thresher u).fenced = true)) ∧
      (12 ≤ p.toNat → p.toNat ≤ 15 → Runs (.partitionFault p) s (eventParts ++ [.push, .lines, .dram, .flt]) (fun t =>
        (t.partn p.toNat).state = .fenced ∧
        ∀ c : ClusterId, c.toNat / 2 = p.toNat - 12 → (s.dev.partn c.toNat).state ≠ .bist → (t.cluster c).cause ≠ 0)) ∧
      (16 ≤ p.toNat → p.toNat ≤ 23 → Runs (.partitionFault p) s deliveryParts (fun t => (t.partn p.toNat).state = .fenced ∧
        ∀ m ∈ groupMasts (p.toNat - 16), (t.mast m).state = .down ∧ ∀ k < 32, (t.sail (sailOf m k)).reach = .unreachable)) ∧
      (24 ≤ p.toNat → p.toNat ≤ 27 → Runs (.partitionFault p) s (eventParts ++ [.push, .lines, .dram, .flt]) (fun t =>
        (t.partn p.toNat).state = .fenced ∧ ∀ n, n ≠ p.toNat → t.partn n = s.dev.partn n))) ∧
    (∀ p : BitVec 6, (s.dev.partn p.toNat).state ≠ .inService → Becomes (.partitionFault p) s d)

/-! ### The Shroud Link (file 11) -/

/-- A mast in SERVICE starts its next packet while no other is being serialised and no TACK is due: a new plot takes the mast's next sequence, a
retransmission keeps its own; a composed one is sent whole. An underrun ends the started packet by repetition, counts it, and has the plot
pushed again. ALIGN and PING go out when due. The active lanes send their blocks in lockstep, each with its sync header (R209, R216, R217, R226, R228, R240, R241, R244). -/
def Obligations.PacketsLeaveMasts : Prop :=
  (∀ (l : Line) (mask : BitVec 4) (fs : List Fwd), mask ≠ 0 →
    let blocks := (l.run (lanesOf mask) fs ((lanesOf mask).map (fun i => (i, []))) []).1
    blocks.map (·.1) = lanesOf mask ∧ (∀ x ∈ blocks, ∀ y ∈ blocks, x.2.length = y.2.length) ∧
    ∀ x ∈ blocks, ∀ w ∈ x.2, w.toNat % 4 = 1 ∨ w.toNat % 4 = 2) ∧
  ∀ (s : State) (m : MastId), s.dev.powered = true → SMap.rising s.dev.dict.vals = true →
    let d := { s.dev with out := [] }
    let tk := (s.dev.tack.act.map (·.seq)).getD 0
    (∀ p : Plot, s.dev.pw.state = .underway → s.dev.stopped = false → (s.dev.mast m).state = .service → s.dev.tack.flips = [] →
      s.dev.pauseOver m = true → (∀ x ∈ s.dev.plotsOn m, x.pkt ≠ .started) → s.dev.nextPacket m = some p →
      Runs (.packetSerialiseStart m) s [.push, .lines, .trim, .dict] (fun t =>
        t.push.plots.length = s.dev.push.plots.length ∧
        ((p.retry = false ∨ p.whole = true) → ∃ x ∈ t.push.plots, x.sail = p.sail ∧ x.plot = p.plot ∧ (x.pkt = .started ∨ x.pkt = .sent)) ∧
        ((s.dev.mast m).idle = false → p.retry = false →
          (∃ x ∈ t.push.plots, x.sail = p.sail ∧ x.plot = p.plot ∧ x.seq = (s.dev.mast m).txSeq) ∧
          (p.whole = true → Out.mast m (.plotWrite p.sail (s.dev.mast m).txSeq false tk (p.plot % 64) (p.plot / 64) p.pixels) ∈ t.out) ∧
          (p.whole = false → t.out = [] ∧ (t.mast m).txSeq = (s.dev.mast m).txSeq + 1)) ∧
        ((s.dev.mast m).idle = false → p.retry = true → p.whole = true →
          Out.mast m (.plotWrite p.sail p.seq true tk (p.plot % 64) (p.plot / 64) p.pixels) ∈ t.out))) ∧
    ((s.dev.tack.flips ≠ [] ∨ (s.dev.mast m).state ≠ .service ∨ (∃ x ∈ s.dev.plotsOn m, x.pkt = .started) ∨ s.dev.nextPacket m = none) →
      Becomes (.packetSerialiseStart m) s d) ∧
    (∀ p : Plot, (s.dev.plotsOn m).find? (fun (x : Plot) => x.pkt == .started) = some p → p.pixels.length ≤ 4096 →
      let n := p.pixels.length
      Runs (.underrun m) s (eventParts ++ [.push, .lines, .ledger]) (fun t =>
        t.val (mastKey m 0x11) = satAdd 0xFFFFFFFF (s.dev.val (mastKey m 0x11)) 1 ∧
        (∃ ps : List U32, ps.length = 4096 ∧ ps.take n = p.pixels ∧ (1 ≤ n → ∀ i, n ≤ i → i < 4096 → ps[i]? = p.pixels[n - 1]?) ∧
          Out.mast p.mast (.plotWrite p.sail p.seq p.retry tk (p.plot % 64) (p.plot / 64) ps) ∈ t.out) ∧
        ((s.dev.sail p.sail).sealedMap.getLsbD p.plot = true → (p.sail, p.plot) ∈ (t.mast (mastOf p.sail)).repairs))) ∧
    ((s.dev.plotsOn m).find? (fun (x : Plot) => x.pkt == .started) = none → Becomes (.underrun m) s d) ∧
    (let f := (s.dev.mast m).alignSet
     let due := s.dev.pw.state = .underway ∧ s.dev.mastExists m = true ∧ (s.dev.mast m).state = .service ∧ (s.dev.mast m).idle = false
     (due → s.dev.serialising m = false → Runs (.alignDue m) s [.lines] (fun t => t.out.head? = some (Out.mast m f))) ∧
     (due → s.dev.serialising m = true → Becomes (.alignDue m) s (d.setLine m { s.dev.line m with wait := (s.dev.line m).wait ++ [f] })) ∧
     (¬ due → Becomes (.alignDue m) s d)) ∧
    (s.dev.pw.state = .underway → SMap.rising s.dev.push.sails = true → Runs .pingTimer s [.push, .lines, .dict, .free] (fun t =>
      t.push.plots = s.dev.push.plots ∧
      (∀ x : SailId, ((s.dev.deliverable x = false ∧ (s.dev.sail x).reach ≠ .unresponsive) ∨ (s.dev.sail x).pinged = true) →
        t.sail x = s.dev.sail x) ∧
      (∀ x ∈ s.dev.sailList, (s.dev.deliverable x = true ∨ (s.dev.sail x).reach = .unresponsive) → (t.sail x).pinged = true ∧
        ((s.dev.sail x).out = none → (s.dev.sail x).ops = [] → s.dev.linkFree (mastOf x) = true →
          ∃ o token, (t.sail x).out = some o ∧ o.op = .ping token ∧ o.fails = 0)))) ∧
    (s.dev.pw.state ≠ .underway → Becomes .pingTimer s d)

/-- What an answer from a sail does: ACK releases the plot, cleans it in the SEALED map and counts it, or completes a configuration packet; NAK or no
answer has the packet sent again, and the third failure, or a NAK of another reason, makes the sail UNRESPONSIVE; CFG_DATA is stored
word by word; CREDIT and STATUS are recorded; an answer to nothing is counted. Sixteen characters that fail framing or CRC are counted and
nothing else; an ACK in good ones is that ACK (R199, R212, R237, R239 to R243, R245, R251, R258). That CREDIT and STATUS are taken from a
sail in any state is log entry 105; that a plot's NAK of a reason other than 1 and 2 acts as reason 3 does is log entry 54. -/
def Obligations.AnswersFromSails : Prop :=
  ∀ (s : State) (x : SailId) (sq : U16), s.dev.powered = true → SMap.rising s.dev.dict.vals = true → SMap.rising s.dev.push.sails = true →
    (s.dev.partn (16 + (mastOf x).toNat / 4)).leaving = false → s.dev.mastExists (mastOf x) = true →
    let m := mastOf x
    let d := { s.dev with out := [] }.heard m
    (∀ p : Plot, s.dev.plotOf m sq = some p → p.sail = x →
      (p.repeated = false → Runs (.ackReceived m x sq) s deliveryParts (fun t => p ∉ t.push.plots ∧
        (t.sail x).sealedMap = (s.dev.sail x).sealedMap &&& ~~~(BitVec.ofNat 2048 (2 ^ p.plot)) ∧
        t.val (sailKey x 0x106) = satAdd 0xFFFFFFFF (s.dev.val (sailKey x 0x106)) 1)) ∧
      (p.repeated = true → Becomes (.ackReceived m x sq) s (d.answered p)) ∧
      (p.pkt = .sent → p.repeated = false → p.fails < 2 →
        let again := fun (t : Dev) => t.push.plots.length = s.dev.push.plots.length ∧ t.push.sails = s.dev.push.sails ∧
          { p with pkt := .waiting, retry := true, fails := p.fails + 1 } ∈ t.push.plots
        (∀ reason : Byte, (reason = 1 ∨ reason = 2) → (s.dev.mast m).naks.length < 7 →
          Runs (.nakReceived m x sq reason) s [.push, .dict] again) ∧
        ((s.dev.mast m).state = .service → s.dev.pw.state = .underway → Runs (.retransmitTimeout m sq) s [.push, .dict] again)) ∧
      (p.pkt = .sent → p.repeated = false → 2 ≤ p.fails → ∀ reason : Byte, (reason = 1 ∨ reason = 2) →
        Runs (.nakReceived m x sq reason) s deliveryParts (fun t => (t.sail x).reach = .unresponsive)) ∧
      (p.repeated = false → ∀ reason : Byte, reason ≠ 1 → reason ≠ 2 →
        Runs (.nakReceived m x sq reason) s deliveryParts (fun t => (t.sail x).reach = .unresponsive))) ∧
    (s.dev.plotOf m sq = none → (s.dev.sail x).out = none → Becomes (.ackReceived m x sq) s (d.bump (mastKey m 0x105)) ∧
      ∀ a v, Becomes (.cfgDataReceived m x sq a v) s (d.bump (mastKey m 0x105))) ∧
    (((s.dev.mast m).state ≠ .service ∨ s.dev.pw.state ≠ .underway) → Becomes (.retransmitTimeout m sq) s { s.dev with out := [] }) ∧
    (∀ (o : CfgOut), s.dev.plotOf m sq = none → (s.dev.sail x).out = some o → o.seq = sq →
      (∀ a ds id, o.op = .write a ds (some id) → (s.dev.sail x).ops = [] →
        Runs (.ackReceived m x sq) s (eventParts ++ [.push, .qs, .intake]) (fun t => (∀ c ∈ t.qs.cmds, c.id ≠ id) ∧
          t.sail x = { s.dev.sail x with out := none } ∧ t.push.plots = s.dev.push.plots)) ∧
      (∀ a n id got addr v, o.op = .read a n (some id) none got → a.toNat ≤ addr.toNat → addr.toNat < a.toNat + n.toNat →
        (SMap.ins got addr.toNat v).length ≠ n.toNat → Becomes (.cfgDataReceived m x sq addr v) s
          (d.setSail x { s.dev.sail x with out := some { o with op := .read a n (some id) none (SMap.ins got addr.toNat v) } })) ∧
      (∀ a n id got addr v, o.op = .read a n (some id) none got → a.toNat ≤ addr.toNat → addr.toNat < a.toNat + n.toNat →
        (SMap.ins got addr.toNat v).length = n.toNat → (s.dev.sail x).ops = [] →
        Runs (.cfgDataReceived m x sq addr v) s (eventParts ++ [.push, .qs, .intake]) (fun t => (∀ c ∈ t.qs.cmds, c.id ≠ id) ∧
          t.sail x = { s.dev.sail x with out := none })) ∧
      (∀ a n id r off got addr v, o.op = .read a n (some id) (some (r, off)) got → a.toNat ≤ addr.toNat → addr.toNat < a.toNat + n.toNat →
        s.dev.lostBuf r (off + 4 * (addr.toNat - a.toNat)) 4 = false → s.dev.dram.upsets = [] → Memory.wf s.dev = true →
        Runs (.cfgDataReceived m x sq addr v) s (eventParts ++ [.push, .lines, .qs, .intake, .dram]) (fun t =>
          let at_ := (s.dev.buf r.handle).base + (off + 4 * (addr.toNat - a.toNat))
          t.readMem at_ 4 = leBytes 4 v.toNat ∧ SameMemoryOutside at_ 4 s.dev t))) ∧
    (∀ total : Byte, Becomes (.creditReceived x total) s (d.setSail x { s.dev.sail x with credits := total.toNat })) ∧
    (∀ (flags : U32) (temp : U16), flags.getLsbD 3 = false →
      let new := flags.setWidth 8 &&& 0xF8#8 &&& ~~~(s.dev.sail x).seen
      (new = 0 →
        Becomes (.statusReceived x flags temp) s (d.setSail x { s.dev.sail x with status := flags, temp := temp })) ∧
      (new ≠ 0 → Runs (.statusReceived x flags temp) s (eventParts ++ [.push, .lines]) (fun t =>
        (t.sail x).status = flags ∧ (t.sail x).temp = temp ∧ (t.sail x).seen = (s.dev.sail x).seen ||| new ∧
        (∀ y, y ≠ x → t.sail y = s.dev.sail y)))) ∧
    (∀ cs : List (Bool × Byte), backData cs = none → Becomes (.backstayPacketError ⟨m, cs⟩) s ({ s.dev with out := [] }.bump (mastKey m 0x104))) ∧
    (∀ (cs : List (Bool × Byte)) (b : List Byte), backData cs = some b → field b 0 1 = 1 → field b 2 2 = x.toNat → field b 4 2 = sq.toNat →
      exec (.backstayPacketError ⟨m, cs⟩) s = exec (.ackReceived m x sq) s) ∧
    Becomes (.strayAnswer m) s ({ s.dev with out := [] }.bump (mastKey m 0x105))

/-- SAIL_CFG_WRITE reaches the maker area only, SAIL_CFG_READ any word, with its destination inside its buffer; a mast without its link fails them
with E_LINK_DOWN, a sail that does not answer with E_SAIL_UNREACHABLE, with a detail left free (log entry 3); an accepted one is sent at once where the sail has no configuration packet outstanding and the mast serialises
no packet, and else waits behind those that came first (R241, R246, R254, R257, R258). -/
def Obligations.SailConfigurationCommands : Prop :=
  ∀ (s : State) (q : QueueId) (h : Hdr), s.dev.powered = true → (s.dev.queue q).hold = .none →
    let d := { s.dev with out := [] }
    let taken := fun (x : SailId) (op : CfgOp) (f : Fwd) (t : Dev) =>
      ((s.dev.linkFree (mastOf x) = false ∨ ∃ o, (s.dev.sail x).out = some o ∧ o.due = false) →
        t.sail x = { s.dev.sail x with ops := (s.dev.sail x).ops ++ [op] } ∧ t.out = []) ∧
      ((s.dev.sail x).out = none → (s.dev.sail x).ops = [] → s.dev.linkFree (mastOf x) = true → (s.dev.mast (mastOf x)).idle = false →
        t.sail x = { s.dev.sail x with out := some { op := op, seq := (s.dev.mast (mastOf x)).txSeq, fails := 0, at_ := s.dev.now } } ∧
        t.out.head? = some (.mast (mastOf x) f) ∧ (t.mast (mastOf x)).txSeq = (s.dev.mast (mastOf x)).txSeq + 1) ∧
      (∀ y, y ≠ x → t.sail y = s.dev.sail y) ∧ t.qs.nextId = s.dev.qs.nextId + 1 ∧ t.qs.bufs = s.dev.qs.bufs
    (∀ b : CfgWriteBody,
      let x : SailId := b.sail.setWidth 10
      let ok := s.dev.sailExists b.sail.toNat = true ∧ 0x80 ≤ b.addr.toNat ∧ 1 ≤ b.count.toNat ∧ b.count.toNat ≤ 12 ∧ b.addr.toNat + b.count.toNat ≤ 256
      (s.dev.sailExists b.sail.toNat = false → Becomes (.sailCfgWrite q h b) s (d.reject q h 0x70 0x0102 8)) ∧
      (s.dev.sailExists b.sail.toNat = true → b.addr.toNat < 0x80 → Becomes (.sailCfgWrite q h b) s (d.reject q h 0x70 0x0102 10)) ∧
      (s.dev.sailExists b.sail.toNat = true → 0x80 ≤ b.addr.toNat → (b.count = 0 ∨ 12 < b.count.toNat ∨ 256 < b.addr.toNat + b.count.toNat) →
        Becomes (.sailCfgWrite q h b) s (d.reject q h 0x70 0x0102 11)) ∧
      (ok → (s.dev.mast (mastOf x)).inService = false → Becomes (.sailCfgWrite q h b) s (d.rejectOpen q h 0x70 0x0701)) ∧
      (ok → (s.dev.mast (mastOf x)).inService = true → (s.dev.sail x).answers = false →
        Becomes (.sailCfgWrite q h b) s (d.rejectOpen q h 0x70 0x0602)) ∧
      (ok → (s.dev.mast (mastOf x)).inService = true → (s.dev.sail x).answers = true →
        Runs (.sailCfgWrite q h b) s [.qs, .push, .lines, .dict] (taken x (.write b.addr (b.data.take b.count.toNat) (some s.dev.qs.nextId))
          (.cfgWrite x (s.dev.mast (mastOf x)).txSeq false b.addr (b.data.take b.count.toNat))))) ∧
    (∀ b : CfgReadBody,
      let x : SailId := b.sail.setWidth 10
      let ok := s.dev.sailExists b.sail.toNat = true ∧ 1 ≤ b.count.toNat ∧ b.count.toNat ≤ 64 ∧ b.addr.toNat + b.count.toNat ≤ 256
      let sent := fun (dst : Option (BufRef × Nat)) => taken x (.read b.addr b.count (some s.dev.qs.nextId) dst [])
        (.cfgRead x (s.dev.mast (mastOf x)).txSeq false b.addr b.count)
      (b.ref.handle ≠ 0 → s.dev.live b.ref = false → Becomes (.sailCfgRead q h b) s (d.reject q h 0x71 0x0111 12)) ∧
      ((b.ref.handle = 0 ∨ s.dev.live b.ref = true) → s.dev.sailExists b.sail.toNat = false →
        Becomes (.sailCfgRead q h b) s (d.reject q h 0x71 0x0102 8)) ∧
      ((b.ref.handle = 0 ∨ s.dev.live b.ref = true) → s.dev.sailExists b.sail.toNat = true →
        (b.count = 0 ∨ 64 < b.count.toNat ∨ 256 < b.addr.toNat + b.count.toNat) → Becomes (.sailCfgRead q h b) s (d.reject q h 0x71 0x0102 11)) ∧
      (ok → s.dev.live b.ref = true → s.dev.sizeOf b.ref < b.offset.toNat + 4 * b.count.toNat →
        Becomes (.sailCfgRead q h b) s (d.reject q h 0x71 0x0A01 (boundsDetail (s.dev.sizeOf b.ref) b.offset.toNat))) ∧
      (ok → ((b.ref.handle = 0 ∧ b.count = 1) ∨ (s.dev.live b.ref = true ∧ b.offset.toNat + 4 * b.count.toNat ≤ s.dev.sizeOf b.ref)) →
        ((s.dev.mast (mastOf x)).inService = false → Becomes (.sailCfgRead q h b) s (d.rejectOpen q h 0x71 0x0701)) ∧
        ((s.dev.mast (mastOf x)).inService = true → (s.dev.sail x).answers = false →
          Becomes (.sailCfgRead q h b) s (d.rejectOpen q h 0x71 0x0602))) ∧
      (ok → b.ref.handle = 0 → b.count ≠ 1 → Becomes (.sailCfgRead q h b) s (d.reject q h 0x71 0x0102 11)) ∧
      (ok → (s.dev.mast (mastOf x)).inService = true → (s.dev.sail x).answers = true →
        (b.ref.handle = 0 → b.count = 1 → Runs (.sailCfgRead q h b) s [.qs, .push, .lines, .dict] (sent none)) ∧
        (s.dev.live b.ref = true → b.offset.toNat + 4 * b.count.toNat ≤ s.dev.sizeOf b.ref →
          Runs (.sailCfgRead q h b) s [.qs, .push, .lines, .dict] (sent (some (b.ref, b.offset.toNat))))))

/-! ### Mast training (file 12) -/

/-- R266, whole. An EYE_REPORT of a sweep sets its lane's bit in the pass mask of its hop and rate exactly when the report meets the limits; the
lanes that another preset has passed stay set, so a lane passes when at least one preset has; a sweep starts from no measurement. A preset of
the sweep is 0 to 10 and a lane 0 to 3 (R265); any other value passes nothing. Every report of every sweep is recorded, and no other mast changes. -/
def Obligations.EyeReportsPassLanes : Prop :=
  (∀ (s : State) (m : MastId) (r : EyeReport), s.dev.powered = true → s.dev.mastExists m = true → mastOf r.sail = m →
    let x := s.dev.mast m
    let k := posOf r.sail * 4 + x.trial
    let passes := fun (y : Mast) (lane : Nat) => ((SMap.get none y.pass k).getD 0).getLsbD lane
    let good := r.errors = 0 ∧ 80 ≤ r.height.toNat ∧ 308 ≤ r.width.toNat ∧ r.preset.toNat ≤ 10 ∧ r.lane.toNat ≤ 3
    (x.state = .equalise ∨ x.state = .retrain ∨ x.state = .rateChange) →
    Runs (.eyeReportReceived m r) s [.push] (fun t =>
      (∀ lane < 4, passes (t.mast m) lane = true ↔ passes x lane = true ∨ (good ∧ lane = r.lane.toNat)) ∧
      (∀ j, j ≠ k → SMap.get none (t.mast m).pass j = SMap.get none x.pass j) ∧
      (t.mast m).state = x.state ∧ (t.mast m).trial = x.trial ∧
      (∀ o, o ≠ m → t.mast o = s.dev.mast o) ∧ t.push.sails = s.dev.push.sails)) ∧
  (∀ (x : Mast) (h r : Nat), r < 4 → SMap.get none (x.sweep r).pass (h * 4 + r) = none)

/-- Bring-up: DET, enumeration, the sweep of presets 0 to 10, VERIFY and the ladder. A setting puts the mast in SERVICE at its rate, with its lanes
and its first sails entering; a mast without a sail or a setting is FAILED; DET high stops it; nothing trains in HOVE (R261, R262, R264,
R265, R268, R380). The ladder uses only rates of every sail's CAPS1 and lanes, at least two, that pass on every hop of the chain. That DET is kept
in HOVE is log entry 101, that ENUMERATION_COMPLETE carries the RATES of the sails is log entry 102, that one training set stands for a run of
them is log entry 99. -/
def Obligations.MastBringUpAndTraining : Prop :=
  (∀ (x : Mast) (n : Nat) (rates shorter : List Nat) (r k : Nat) (mask : BitVec 4), x.ladder n rates shorter = .use r k mask →
    2 ≤ laneCount mask ∧ 1 ≤ k ∧ k ≤ n ∧ (∀ h < k, x.may h r = true) ∧
    ∀ h < k, ∃ p, SMap.get none x.pass (h * 4 + r) = some p ∧ mask &&& p = mask) ∧
  (∀ (s : State) (m : MastId), s.dev.powered = true → SMap.rising s.dev.push.sails = true → SMap.rising s.dev.push.masts = true →
    s.dev.mastExists m = true → s.dev.serialising m = false →
    let d := { s.dev with out := [] }
    let x := s.dev.mast m
    let up := s.dev.pw.state = .underway
    let trains := fun (t : Dev) => t.out.filterMap (fun (o : Out) => match o with
      | .mast k (.train y) => if k = m then some (y.phase, y.rate, y.lanes, y.presets) else none
      | _ => none)
    let gone := fun (st : MastState) (t : Dev) => (t.mast m).state = st ∧ (t.mast m).idle = true ∧
      (∀ k < 32, (t.sail (sailOf m k)).reach = .unreachable) ∧ (x.idle = false → Out.mast m .stop ∈ t.out)
    let sweep := fun (r : Nat) (t : Dev) => (t.mast m).state = .equalise ∧ (t.mast m).trial = r ∧ t.push.sails = s.dev.push.sails ∧
      trains t = (1, r, 15, x.presets) :: (List.range 11).map (fun i => (2, r, 15, List.replicate 4 i))
    let found := fun (r : Nat) (t : Dev) => (t.mast m).state = .equalise ∧ (t.mast m).trial = r ∧ t.push.sails = s.dev.push.sails ∧
      trains t = (0, 0, 15, x.presets) :: (1, r, 15, x.presets) :: (List.range 11).map (fun i => (2, r, 15, List.replicate 4 i))
    (x.det = false → Becomes (.mastDetHigh m) s d) ∧
    (x.det = true → Runs (.mastDetHigh m) s deliveryParts (fun t => gone .down t ∧ (t.mast m).det = false)) ∧
    (((x.state ≠ .down ∧ x.state ≠ .failed) ∨ ¬ up) → Becomes (.mastDetQualified m) s (d.setMast m { x with det := true })) ∧
    ((x.state = .down ∨ x.state = .failed) → up → s.dev.groupUp m = true →
      Runs (.mastDetQualified m) s deliveryParts (fun t => (t.mast m).state = .enumerate ∧ (t.mast m).det = true ∧
        (t.mast m).since = s.dev.now ∧ trains t = [(0, 0, 15, [4, 4, 4, 4])])) ∧
    (∀ caps : List (BitVec 4),
      let y := { x with enumerated := min caps.length 32, caps := caps.take 32 }
      let rs := s.dev.ratesFrom m (s.dev.targetRate m)
      ((x.state ≠ .enumerate ∨ ¬ up) → Becomes (.enumerationComplete m caps) s d) ∧
      (x.state = .enumerate → up → (caps = [] ∨ y.ladder y.enumerated rs rs = .fail) →
        Runs (.enumerationComplete m caps) s deliveryParts (gone .failed)) ∧
      (∀ r, x.state = .enumerate → up → caps ≠ [] → (y.ladder y.enumerated rs rs = .measure r ∨ ∃ k mask, y.ladder y.enumerated rs rs = .use r k mask) →
        Runs (.enumerationComplete m caps) s [.push, .lines, .free] (fun t => found r t ∧ (t.mast m).enumerated = min caps.length 32))) ∧
    (∀ r : EyeReport, mastOf r.sail = m → (x.state = .equalise ∨ x.state = .retrain ∨ x.state = .rateChange) →
      Becomes (.eyeReportReceived m r) s ((d.heard m).setMast m (((d.heard m).mast m).report r))) ∧
    (x.state = .equalise → up → Runs (.equaliseEnd m) s [.push, .lines, .free] (fun t => (t.mast m).state = .verify ∧
      trains t = [(3, x.trial, 15, x.presets)])) ∧
    ((x.state ≠ .equalise ∨ ¬ up) → Becomes (.equaliseEnd m) s d) ∧
    (∀ ts : List HopTiming,
      let rs := s.dev.ratesFrom m (s.dev.targetRate m)
      let plan := { x with timing := ts }.ladder x.enumerated rs rs
      ((x.state ≠ .verify ∨ ¬ up) → Becomes (.verifyComplete m ts) s d) ∧
      (x.state = .verify → up → plan = .fail → Runs (.verifyComplete m ts) s deliveryParts (gone .failed)) ∧
      (∀ r, x.state = .verify → up → (plan = .measure r ∨ ∃ k mask, plan = .use r k mask ∧ r ≠ x.trial) →
        Runs (.verifyComplete m ts) s [.push, .lines, .free] (sweep r)) ∧
      (∀ k mask, x.state = .verify → up → plan = .use x.trial k mask → k ≤ 32 → Runs (.verifyComplete m ts) s deliveryParts (fun t =>
        (t.mast m).state = .service ∧ (t.mast m).rate = x.trial ∧ (t.mast m).reach = k ∧
        (t.mast m).lanes = lowestLanes (min (s.dev.targetLanes m) (laneCount mask)) mask ∧
        ∀ i < k, (t.sail (sailOf m i)).reach = .entering))))

/-- A retrain starts on a mast in SERVICE only; it ends at the same rate with the lanes that pass, at least two. A rate change ends at the new rate,
or in a retrain that restores the old setting. A lost hop trains at an attempt and rejoins with the sails found behind it where every hop
passes (R271 to R273, R275, R276). That one REJOIN_ATTEMPT starts the training and the next ends it is log entry 103. What a retrain keeps of earlier measurements is log entry 111. -/
def Obligations.RetrainsAndRateChanges : Prop :=
  ∀ (s : State) (m : MastId), s.dev.powered = true → SMap.rising s.dev.push.sails = true → SMap.rising s.dev.push.masts = true →
    s.dev.mastExists m = true →
    let d := { s.dev with out := [] }
    let x := s.dev.mast m
    let up := s.dev.pw.state = .underway
    let retrains := fun (t : Dev) => (t.mast m).state = .retrain ∧ (t.mast m).since = s.dev.now ∧ (t.mast m).rate = x.rate ∧
      (s.dev.serialising m = false → ∀ i ≤ 10, ∃ y, Out.mast m (.train y) ∈ t.out ∧ y.phase = 2 ∧ y.rate = x.rate ∧ y.lanes = x.lanes ∧
        y.presets = List.replicate 4 i) ∧
      t.push.sails = s.dev.push.sails ∧
      t.push.plots = s.dev.push.plots.map (fun (p : Plot) => if p.mast = m ∧ p.pkt = .sent then { p with resend := true } else p)
    let setTo := fun (r k : Nat) (lanes : BitVec 4) (t : Dev) =>
      (t.mast m).state = .service ∧ (t.mast m).rate = r ∧ (t.mast m).reach = k ∧ (t.mast m).lanes = lanes
    let unlocked := d.setMast m { x with backLock := false }
    (x.state = .service → up → Runs (.retrainStart m) s [.push, .lines, .dict, .ledger, .free] retrains ∧
      Runs (.backstayLockLoss m) s [.push, .lines, .dict, .ledger, .free] retrains ∧
      Runs (.hoveExitLockTimeout m) s [.push, .lines, .dict, .ledger, .free] retrains) ∧
    ((x.state ≠ .service ∨ ¬ up) → Becomes (.retrainStart m) s d ∧ Becomes (.backstayLockLoss m) s unlocked ∧
      Becomes (.hoveExitLockTimeout m) s (if s.dev.up then unlocked else d)) ∧
    ((x.state ≠ .retrain ∨ ¬ up) → Becomes (.retrainComplete m) s d) ∧
    (let y := x.closeSweep x.reach
     let mask := (y.common x.reach x.rate).getD 0
     let goal := if x.restore then laneCount x.lanes else s.dev.targetLanes m
     let top := if 5 ≤ x.retrains.length then laneCount x.lanes - 1 else goal
     let lanes := lowestLanes (min (min top goal) (laneCount mask)) mask
     x.state = .retrain → up → x.changeDue = false → 2 ≤ laneCount lanes →
      Runs (.retrainComplete m) s deliveryParts (setTo x.rate x.reach lanes)) ∧
    (∀ ts : List HopTiming,
      let plan := { x.closeSweep x.reach with timing := ts }.rung x.reach x.trial
      ((x.state ≠ .rateChange ∨ ¬ up) → Becomes (.rateChangeComplete m ts) s d) ∧
      (∀ r0 l0, x.state = .rateChange → up → x.prior = some (r0, l0) → x.changeDue = false →
        (∀ r k mask, plan = some (.use r k mask) → Runs (.rateChangeComplete m ts) s deliveryParts
          (setTo r k (lowestLanes (min (s.dev.targetLanes m) (laneCount mask)) mask))) ∧
        ((∀ r k mask, plan ≠ some (.use r k mask)) → Runs (.rateChangeComplete m ts) s deliveryParts (fun t =>
          (t.mast m).state = .retrain ∧ (t.mast m).restore = true ∧ (t.mast m).rate = r0 ∧ (t.mast m).lanes = l0 ∧
          t.push.sails = s.dev.push.sails)))) ∧
    (∀ (caps : List (BitVec 4)) (hops : List HopTiming),
      (∀ p : Nat, x.lostHop = some p → x.state = .service → up → p < 32 →
        let n := min caps.length (32 - p)
        (x.rejoin = none → Runs (.rejoinAttempt m ⟨caps, hops⟩) s [.push, .lines, .dict, .free] (fun t =>
          (t.mast m).rejoin = some s.dev.now ∧ (t.mast m).lostHop = some p ∧ (t.mast m).reach = x.reach)) ∧
        (x.rejoin ≠ none → x.rejoins p n caps hops = true → Runs (.rejoinAttempt m ⟨caps, hops⟩) s deliveryParts (fun t =>
          (t.mast m).lostHop = none ∧ (t.mast m).rejoin = none ∧ (t.mast m).reach = p + n ∧
          ∀ i < n, (t.sail (sailOf m (p + i))).reach = .entering)) ∧
        (x.rejoin ≠ none → x.rejoins p n caps hops = false → Runs (.rejoinAttempt m ⟨caps, hops⟩) s [.push, .lines] (fun t =>
          (t.mast m).lostHop = some p ∧ (t.mast m).rejoin = none ∧ (t.mast m).reach = x.reach ∧ t.push.sails = s.dev.push.sails))) ∧
      ((x.lostHop = none ∨ x.state ≠ .service ∨ ¬ up) → Becomes (.rejoinAttempt m ⟨caps, hops⟩) s d))

/-! ### The block engine (file 13) -/

/-- A drawing command past its checks is accepted while fewer than 8 are, and else holds its queue until BLIT_ACCEPT; the accepted ones run one
at a time, row by row in processing order, and a row touches no byte outside its range of the destination; a row of FILL holds the value
throughout; a row that a request of its own fails ends the command's work, its range open. A watermark is reported once, and completion ends the command, opens its gate and starts the next (R284, R288 to R294, R296).
BLEND's arithmetic and the line rule stay in range (R286, R287): a sample of a blend fits its format, an opaque source replaces the
destination, and the pixels of a line run from its first endpoint to its second inside their bounding box, one for each step of the longer
axis. -/
def Obligations.DrawingBlendsAndLines : Prop :=
  (∀ s : State, s.dev.powered = true →
     let d := { s.dev with out := [] }
     let reads := eventParts ++ [.qs, .draws, .dram, .memlog, .flt]
     let headRuns := ∀ x, s.dev.draws.accepted.head? = some x → x.started = true
     let joined := fun (id : Nat) (t : Dev) => t.draws.accepted.map (·.id) = s.dev.draws.accepted.map (·.id) ++ [id] ∧
       t.dram.data = s.dev.dram.data ∧ t.draws.readbacks = s.dev.draws.readbacks
     (∀ (q : QueueId) (h : Hdr) (b : BlitBody) (w : Draw), (s.dev.queue q).hold = .none →
       let c : Instr := match w with
         | .fill => .fill q h b | .copy => .copy q h b | .blend => .blend q h b | .pattern => .pattern q h b | .line => .line q h b
       (s.dev.live b.dst = false → Becomes c s (d.reject q h w.op 0x0111 8)) ∧
       (s.dev.live b.dst = true → w.hasSrc = true → s.dev.live b.src = false → Becomes c s (d.reject q h w.op 0x0111 32)) ∧
       (firstBad (s.dev.drawChecks w b) = none →
         (s.dev.draws.accepted.length < 8 → Runs c s reads (joined s.dev.qs.nextId)) ∧
         (s.dev.draws.accepted.length < 8 → headRuns → (w ≠ .pattern ∨ s.dev.draws.accepted ≠ []) →
           Runs c s [.qs, .draws] (fun t => joined s.dev.qs.nextId t ∧ t.draws.waiting = s.dev.draws.waiting ∧
             ∃ x, t.draws.accepted.getLast? = some x ∧ x.draw = w ∧ x.b = b ∧ x.q = q ∧ x.tag = h.tag ∧ x.rows = 0 ∧
               x.clip = if b.clip then some (s.dev.queue q).clip else none)) ∧
         (8 ≤ s.dev.draws.accepted.length → Runs c s [.qs, .draws] (fun t => t.draws.accepted = s.dev.draws.accepted ∧
           t.draws.waiting.map (·.id) = s.dev.draws.waiting.map (·.id) ++ [s.dev.qs.nextId] ∧ (t.queue q).hold = .accept s.dev.qs.nextId ∧
           ∀ r, r ≠ q → t.queue r = s.dev.queue r)))) ∧
     (∀ (q : QueueId) (h : Hdr) (b : ClipBody), (s.dev.queue q).hold = .none →
       (b.enable.getLsbD 0 = false → b.r0.x ≠ 0 → Becomes (.clipSet q h b) s (d.reject q h 0x55 0x0102 8)) ∧
       (b.enable.getLsbD 0 = true → b.r0.w = 0 → Becomes (.clipSet q h b) s (d.reject q h 0x55 0x0802 12)) ∧
       (b.enable = 15 → (∀ r ∈ [b.r0, b.r1, b.r2, b.r3], 1 ≤ r.w.toNat ∧ 1 ≤ r.h.toNat ∧ r.x.toNat + r.w.toNat ≤ 16384 ∧ r.y.toNat + r.h.toNat ≤ 16384) →
         Runs (.clipSet q h b) s (eventParts ++ [.qs, .intake]) (fun t => (t.queue q).clip = [b.r0, b.r1, b.r2, b.r3] ∧
           ∀ r, r ≠ q → t.queue r = s.dev.queue r)) ∧
       (b = ⟨⟨0, 0, 0, 0⟩, ⟨0, 0, 0, 0⟩, ⟨0, 0, 0, 0⟩, ⟨0, 0, 0, 0⟩, 0⟩ →
         Runs (.clipSet q h b) s (eventParts ++ [.qs, .intake]) (fun t => SMap.rising s.dev.qs.queues = true → (t.queue q).clip = []))) ∧
     (∀ (q : QueueId) (id : Nat) (x : Blit), (s.dev.queue q).hold = .accept id → s.dev.draws.waiting.find? (fun y => y.id == id) = some x →
       (s.dev.draws.accepted.length < 8 → SMap.rising s.dev.qs.queues = true → Runs (.blitAccept q) s reads (fun t => joined id t ∧
         (t.queue q).hold = .none ∧ ∀ y ∈ t.draws.waiting, y.id ≠ id)) ∧
       (8 ≤ s.dev.draws.accepted.length → Becomes (.blitAccept q) s d)) ∧
     (∀ (x : Blit) (rest : List Blit), s.dev.draws.accepted = x :: rest →
       let py := x.row x.rows
       let at_ := (s.dev.buf x.b.dst.handle).base + (s.dev.dstRange x py).1
       let n := (s.dev.dstRange x py).2
       let ss := sampleSize (s.dev.buf x.b.dst.handle).fmt
       let whole := x.draw = .pattern → (∀ r ∈ x.pat, r.length = x.b.patW.toNat * ss) ∧ x.pat.length = x.b.patH.toNat ∧
         1 ≤ x.b.patW.toNat ∧ 1 ≤ x.b.patH.toNat
       ((x.failed ≠ none ∨ x.draw.height x.b ≤ x.rows) → Becomes .blitRowVisible s d) ∧
       (∀ e, x.failed = none → x.rows < x.draw.height x.b → (s.dev.rowError x py).1 = some e →
         Runs .blitRowVisible s (reads ++ [.intake, .free]) (fun t => SameMemoryOutside at_ n s.dev t ∧
           t.draws.accepted = { x with failed := some e } :: rest)) ∧
       (x.failed = none → x.rows < x.draw.height x.b → (s.dev.rowError x py).1 = none → s.dev.dram.upsets = [] → whole →
         (x.draw = .copy → (s.dev.buf x.b.src.handle).fmt = (s.dev.buf x.b.dst.handle).fmt) →
         Runs .blitRowVisible s [.dram, .intake, .draws, .push] (fun t => SameMemoryOutside at_ n s.dev t ∧
           t.draws.accepted = { x with rows := x.rows + 1 } :: rest ∧ t.push.plots = s.dev.push.plots ∧
           (x.draw = .fill → x.clip = none → Memory.wf s.dev = true →
             t.readMem at_ n = (List.replicate x.b.x1.toNat (leBytes ss x.b.value.toNat)).flatten))) ∧
       (x.wmDue = true → Runs .blitWatermark s (eventParts ++ [.draws, .comp]) (fun t =>
         t.draws.accepted = { x with wmDone := true } :: rest ∧ t.comp.pend = s.dev.comp.pend ∧
         t.comp.gates.map (·.blit) = s.dev.comp.gates.map (·.blit))) ∧
       (x.wmDue = false → Becomes .blitWatermark s d) ∧
       ((x.wmDue = true ∨ (x.failed = none ∧ x.rows < x.draw.height x.b)) → Becomes .blitComplete s d) ∧
       (x.wmDue = false → x.failed = none → x.draw.height x.b ≤ x.rows → s.dev.draws.races = [] →
         Runs .blitComplete s (reads ++ [.comp, .intake]) (fun t => t.draws.accepted.map (·.id) = rest.map (·.id) ∧
           (∀ c ∈ t.qs.cmds, c.id ≠ x.id) ∧ t.dram.data = s.dev.dram.data ∧ ∀ g ∈ t.comp.gates, g.blit = x.id → g.plots = [])) ∧
       (∀ e, x.wmDue = false → x.failed = some e →
         Runs .blitComplete s (reads ++ [.comp, .intake, .free]) (fun t => t.draws.accepted.map (·.id) = rest.map (·.id) ∧
           (∀ c ∈ t.qs.cmds, c.id ≠ x.id) ∧ ∀ g ∈ t.comp.gates, g.blit = x.id → g.plots = []))) ∧
     (s.dev.draws.accepted = [] → Becomes .blitRowVisible s d ∧ Becomes .blitWatermark s d ∧ Becomes .blitComplete s d)) ∧
  ((∀ df sf s t : Nat, (df = 1 ∨ df = 2) → blendOver sf df s t < 2 ^ 32) ∧
   (∀ s t : Nat, s < 2 ^ 32 → s / 2 ^ 24 = 255 → blendOver 1 1 s t = s) ∧
   (∀ b : BlitBody,
     let dx := ((b.x1.toNat : Int) - b.x0.toNat).natAbs
     let dy := ((b.y1.toNat : Int) - b.y0.toNat).natAbs
     (linePixels b).length = max dx dy + 1 ∧ (linePixels b).head? = some (b.x0.toNat, b.y0.toNat) ∧
     (linePixels b).getLast? = some (b.x1.toNat, b.y1.toNat) ∧
     ∀ p ∈ linePixels b, min b.x0.toNat b.x1.toNat ≤ p.1 ∧ p.1 ≤ max b.x0.toNat b.x1.toNat ∧
       min b.y0.toNat b.y1.toNat ≤ p.2 ∧ p.2 ≤ max b.y0.toNat b.y1.toNat))

/-! ### Proof windows and READBACK (file 14) -/

/-- READBACK is checked, refused for a sail that does not answer, in flight while fewer than 4 are, and else holds its queue; it completes when its
bytes are captured, leaves its place and lets a waiting one in; one that lost a plot fails with its destination's bytes open, the 32 that an
encoded sheaf may add included; one not yet captured waits. A CHECK window compares the CRC of its masked pixels
(R300, R303, R304, R307, R308). -/
def Obligations.ReadbacksAndWindows : Prop :=
  (∀ (s : State) (q : QueueId) (h : Hdr) (b : ReadbackBody), s.dev.powered = true → (s.dev.queue q).hold = .none →
    let d := { s.dev with out := [] }
    (s.dev.live b.ref = false → Becomes (.readback q h b) s (d.reject q h 0x61 0x0111 20)) ∧
    (s.dev.live b.ref = true → s.dev.sailExists b.sail.toNat = false → Becomes (.readback q h b) s (d.reject q h 0x61 0x0102 8)) ∧
    (s.dev.live b.ref = true → s.dev.sailExists b.sail.toNat = true → s.dev.lensOf (rbSail b) = none →
      Becomes (.readback q h b) s (d.reject q h 0x61 0x0902 8)) ∧
    (firstBad (s.dev.rbFields b) = none →
      ((s.dev.sail (rbSail b)).answers = false → Becomes (.readback q h b) s (d.rejectOpen q h 0x61 0x0602)) ∧
      ((s.dev.sail (rbSail b)).answers = true → b.offset.toNat + rbSize b + (if b.encode then 32 else 0) ≤ s.dev.sizeOf b.ref →
        (s.dev.draws.readbacks.length < 4 →
          Becomes (.readback q h b) s ({ d.dispatch q h 0x61 [b.ref] with
            draws := { d.draws with readbacks := d.draws.readbacks ++ [{ id := d.qs.nextId, b := b }] } }) ∧
          Runs (.readback q h b) s [.qs, .draws] (fun t =>
          t.draws.readbacks = s.dev.draws.readbacks ++ [{ id := s.dev.qs.nextId, b := b }] ∧ t.draws.accepted = s.dev.draws.accepted ∧
          t.qs.nextId = s.dev.qs.nextId + 1 ∧ t.qs.queues = s.dev.qs.queues)) ∧
        (4 ≤ s.dev.draws.readbacks.length → Becomes (.readback q h b) s (d.hold q (.retry (.readback q h b))))))) ∧
  (∀ (s : State) (id : Nat), s.dev.powered = true → id < s.dev.qs.nextId →
    (s.dev.draws.readbacks.find? (fun r => r.id == id) = none → Becomes (.readbackComplete id) s { s.dev with out := [] }) ∧
    (∀ (r : Rb) (n : Nat), s.dev.draws.readbacks.find? (fun r => r.id == id) = some r → r.lost = false → r.done = some n →
      Becomes (.readbackComplete id) s
        ((((({ s.dev with out := [] }).dropReadback id).bump 0xD00006).finish id n).retryReadbacks) ∧
      Runs (.readbackComplete id) s (eventParts ++ [.qs, .intake, .draws, .free]) (fun t =>
        (∀ c ∈ t.qs.cmds, c.id ≠ id) ∧ ∀ x ∈ t.draws.readbacks, x.id ≠ id)) ∧
    (∀ r : Rb, s.dev.draws.readbacks.find? (fun r => r.id == id) = some r → r.lost = false → r.done = none →
      Becomes (.readbackComplete id) s { s.dev with out := [] }) ∧
    (∀ r : Rb, s.dev.draws.readbacks.find? (fun r => r.id == id) = some r → r.lost = true →
      Runs (.readbackComplete id) s (eventParts ++ [.qs, .intake, .draws, .dram, .free]) (fun t =>
        SameMemoryOutside ((s.dev.buf r.b.ref.handle).base + r.b.offset.toNat) (rbRange r.b) s.dev t ∧
        (∀ c ∈ t.qs.cmds, c.id ≠ id) ∧ ∀ x ∈ t.draws.readbacks, x.id ≠ id))) ∧
  (∀ (d : Dev) (seq : U32) (b : ProofBody), hits d.draws.pushSet (winSail b) (winPlots b) = true →
    (∀ ps, hits d.draws.withdrawn (winSail b) (winPlots b) = false → rectPixels d.draws.contrib (winSail b) b.x b.y b.w b.h = some ps →
      let crc := crc32 (pack30 (ps.map (mask30 b.mask)))
      (b.mode ≠ 1 → crc = b.expected.toNat →
        (d.winRetire seq b).win b.window.toNat = { crc := BitVec.ofNat 32 crc, tack := seq, status := 1, mism := 0 }) ∧
      (b.mode ≠ 1 → crc ≠ b.expected.toNat → (d.winRetire seq b).win b.window.toNat =
        { crc := BitVec.ofNat 32 crc, tack := seq, status := 2, mism := min ((d.win b.window.toNat).mism + 1) 255 }) ∧
      (b.mode = 1 → ((d.winRetire seq b).win b.window.toNat).status = 3)) ∧
    (hits d.draws.withdrawn (winSail b) (winPlots b) = true →
      (d.winRetire seq b).win b.window.toNat = { d.win b.window.toNat with status := 4 }))

/-! ### The memory controller (file 15) -/

/-- The write queues drain to WQ_LOW, where a drain may start, and requests rise by class; temperature, thermal steps, requested switches,
tracking, retrains and the loss of a channel change the fields that file 15 gives them, and no byte of memory (R317, R319, R322, R323, R330
to R334); a device in HOVE, whose DRAM refreshes itself, does none of them. Every address has a place of its own: in each of the three maps,
the channel, rank, bank, row and column of an address below the capacity name no other address, on 32 channels and on 31, and a device that
runs on 31 channels uses the lost one for none (R315, R335). That one write drains where no more than WQ_LOW wait is log entry 15, that a retrain
counts at its start is log entry 65, that tracking takes a step of the trim is log entry 80. -/
def Obligations.MemoryControllerAndAddressMap : Prop :=
  (∀ (s : State) (ch : BitVec 5), s.dev.powered = true → SMap.rising s.dev.dram.chans = true →
     let d := { s.dev with out := [] }
     let c := s.dev.chan ch.toNat
     let kept := fun (t : Dev) => t.dram.data = s.dev.dram.data ∧ ∀ n, n ≠ ch.toNat → t.chan n = s.dev.chan n
     let serves := s.dev.dram.up = true ∧ s.dev.dram.selfRefresh = false
     (s.dev.stopped = false → s.dev.drainDue c = true → Runs (.writeQueueDrain ch) s [.dram] (fun t => kept t ∧
       (t.chan ch.toNat).writes.length = (if s.dev.val 0x220006 < c.writes.length then s.dev.val 0x220006 else c.writes.length - 1) ∧
       (t.chan ch.toNat).reads = c.reads ∧
       ∀ r ∈ (t.chan ch.toNat).writes, ∃ r0 ∈ c.writes, r = { r0 with passed := r.passed })) ∧
     (s.dev.drainDue c = false → Becomes (.writeQueueDrain ch) s d) ∧
     (let rise := fun (r : MemReq) =>
        if r.at_ + 4 * (r.rises + 1) ≤ s.dev.now ∧ 0 < r.cls then { r with cls := r.cls - 1, rises := r.rises + 1 } else r
      (∀ (n : Nat) (r : MemReq), c.reads[n]? = some r → Runs (.requestClassPromotion ch n) s [.dram] (fun t => kept t ∧
        (t.chan ch.toNat).reads[n]? = some (rise r) ∧ (t.chan ch.toNat).writes = c.writes ∧
        ∀ k, k ≠ n → (t.chan ch.toNat).reads[k]? = c.reads[k]?)) ∧
      (∀ (n : Nat) (r : MemReq), c.writes[n]? = some r → Runs (.requestClassPromotion ch (c.reads.length + n)) s [.dram] (fun t => kept t ∧
        (t.chan ch.toNat).writes[n]? = some (rise r) ∧ (t.chan ch.toNat).reads = c.reads ∧
        ∀ k, k ≠ n → (t.chan ch.toNat).writes[k]? = c.writes[k]?))) ∧
     (∀ temps : List U16,
       (s.dev.rated = false → Becomes (.dramTempPoll temps) s d) ∧
       (serves → Runs (.dramTempPoll temps) s [.dram] (fun t => t.dram.data = s.dev.dram.data ∧ t.dram.rate = s.dev.dram.rate ∧
         t.dram.tempMax = hottest temps ∧ t.dram.band ∈ [1, 2, 4] ∧
         (t.dram.hotSince = if 1680 < (hottest temps).toInt then some (s.dev.dram.hotSince.getD s.dev.now) else none) ∧
         (1520 < (hottest temps).toInt → t.dram.band = 4)))) ∧
     (serves → ∀ since r,
       (s.dev.dram.hotSince = some since → s.dev.rateBelow = some r → Runs .dramThermalStep s [.dram, .dict] (fun t =>
         t.dram.data = s.dev.dram.data ∧ t.dram.rate = r ∧ r < s.dev.dram.rate ∧ t.dram.hotSince = none)) ∧
       (s.dev.dram.coolSince = some since → s.dev.rateAbove = some r → s.dev.dram.stepped = true → Runs .dramRateStepUp s [.dram, .dict] (fun t =>
         t.dram.data = s.dev.dram.data ∧ t.dram.rate = r ∧ s.dev.dram.rate < r ∧ r ≤ s.dev.val 0x220002)) ∧
       (s.dev.dram.switchTo = some r → Runs .dramRateSwitch s [.dram, .dict] (fun t =>
         t.dram.data = s.dev.dram.data ∧ t.dram.rate = r ∧ t.dram.switchTo = none))) ∧
     ((s.dev.dram.hotSince = none ∨ s.dev.rateBelow = none ∨ s.dev.rated = false) → Becomes .dramThermalStep s d) ∧
     ((s.dev.dram.stepped = false ∨ s.dev.rated = false) → Becomes .dramRateStepUp s d) ∧
     ((s.dev.dram.switchTo = none ∨ s.dev.rated = false) → Becomes .dramRateSwitch s d) ∧
     (s.dev.chanUp ch = true → s.dev.pw.state = .underway →
       Becomes (.dqTracking ch false) s ((d.setChan ch.toNat { c with tracks := satAdd 0xFFFFFF c.tracks 1 }).trimStep (64 + ch.toNat)) ∧
       (c.step = 0 → c.starts = [] → Runs (.dqTracking ch true) s [.dram, .dict, .ledger, .trim] (fun t => kept t ∧
         (t.chan ch.toNat).step = 1 ∧ (t.chan ch.toNat).retrains = satAdd 0xFFFF c.retrains 1 ∧ t.dram.lost = s.dev.dram.lost))) ∧
     ((s.dev.chanUp ch = false ∨ s.dev.pw.state ≠ .underway) → ∀ retrain, Becomes (.dqTracking ch retrain) s d) ∧
     (s.dev.chanUp ch = true → s.dev.dram.selfRefresh = false → c.step ≠ 0 →
       Runs (.dramRetrainStep ch true) s [.dram] (fun t => kept t ∧ (t.chan ch.toNat).step = if c.step = 4 then 0 else c.step + 1) ∧
       (s.dev.stopped = false → Runs (.dramRetrainStep ch false) s (eventParts ++ [.dram, .ledger, .flt]) (fun t => kept t ∧
         t.dram.lost = some ch ∧ t.stopped = true))) ∧
     ((c.step = 0 ∨ s.dev.chanUp ch = false ∨ s.dev.dram.selfRefresh = true) → ∀ works, Becomes (.dramRetrainStep ch works) s d) ∧
     (s.dev.chanUp ch = true → s.dev.stopped = false →
       Runs (.dramModeRegisterTimeout ch) s (eventParts ++ [.dram, .ledger, .flt]) (fun t => kept t ∧ t.dram.lost = some ch ∧ t.stopped = true)) ∧
     ((s.dev.chanUp ch = false ∨ s.dev.stopped = true) → Becomes (.dramModeRegisterTimeout ch) s d)) ∧
  ((∀ map rows a b : Nat, map ≤ 2 → 4 ≤ rows → a < 2 ^ (21 + rows) → b < 2 ^ (21 + rows) → mapAddr map rows a = mapAddr map rows b → a = b) ∧
   (∀ (map rows a b : Nat) (c : BitVec 5), map ≤ 2 → 4 ≤ rows → a < 31 * 2 ^ (16 + rows) → b < 31 * 2 ^ (16 + rows) →
     mapAddr31 map rows c a = mapAddr31 map rows c b → a = b) ∧
   (∀ (d : Dev) (c : BitVec 5) (a : Nat), d.dram.gone = some c → d.chanOf a ≠ c.toNat ∧ d.chanOf a < 32))

/-! ### The Uhlod protocol and the object dictionary (files 16, 17) -/

/-- A write is checked in the order of R348: existence, access, privilege, type and length, lock, claim, range. -/
def Obligations.WriteChecksInOrder : Prop :=
  ∀ (d : Dev) (c : Client) (r : DWrite),
    (d.entry r.idx r.sub = none → d.writeCheck c r = 0x0B01) ∧
    (∀ e, d.entry r.idx r.sub = some e →
      (e.acc = .ro → d.writeCheck c r = 0x0B02) ∧
      (e.acc ≠ .ro → d.level c < needLevel r → d.writeCheck c r = 0x0B03) ∧
      (e.acc ≠ .ro → needLevel r ≤ d.level c → (e.ty ≠ r.ty ∨ lenOk e r.val.length = false) → d.writeCheck c r = 0x0B07) ∧
      (e.acc ≠ .ro → needLevel r ≤ d.level c → e.ty = r.ty → lenOk e r.val.length = true →
        (d.lockedEntry r.key = true → d.writeCheck c r = 0x0B08) ∧
        (d.lockedEntry r.key = false → d.claimedBut r.idx r.sub (masterOf c) = true → d.writeCheck c r = 0x0B06) ∧
        (d.lockedEntry r.key = false → d.claimedBut r.idx r.sub (masterOf c) = false → d.inRange e r.key (leNat r.val) = false →
          d.writeCheck c r = 0x0B04))) ∧
    ((∃ h, (groupOf r.idx r.sub).bind (fun g => d.holder g) = some h ∧ h ≠ masterOf c) ↔ d.claimedBut r.idx r.sub (masterOf c) = true)

/-- A request that executes as it arrives. READ returns the entry's value with PENDING where shadow and applied value differ; a WRITE, WRITE_MULTI or
COMMIT that fails its checks changes nothing but the log; one to groups that its master holds applies at once, to a value, to a shadow or as a
commit; one to unclaimed groups is held in an arbitration window; CLAIM, RELEASE and SUBSCRIBE change their lists (R341, R346, R348,
R352 to R355). That these three need no privilege, and SUBSCRIBE's E_RANGE for a reserved byte or an unknown mode, are log entry 70. -/
def Obligations.RequestsAreAnswered : Prop :=
  ∀ (s : State) (c : Client) (u : UHdr) (data : List Byte), s.dev.powered = true → SMap.rising s.dev.dict.vals = true →
    let d := ({ s.dev with out := [] } : Dev).mailboxTake c
    let key := u.idx.toNat * 256 + u.sub.toNat
    let r : DWrite := { idx := u.idx.toNat, sub := u.sub.toNat, ty := u.ty.toNat, val := data }
    let port : List Part := [.dict, .xfer, .host]
    (s.dev.serves c u 1 data →
      (s.dev.entry u.idx.toNat u.sub.toNat = none → Becomes (.uhlodRead c u data) s (d.refuse c u 1 0x0B01)) ∧
      (∀ e, s.dev.entry u.idx.toNat u.sub.toNat = some e →
        (e.acc = .wo → Becomes (.uhlodRead c u data) s (d.refuse c u 1 0x0B02)) ∧
        (e.acc ≠ .wo → (e.ty ≠ u.ty.toNat ∨ data ≠ []) → Becomes (.uhlodRead c u data) s (d.refuse c u 1 0x0B07)) ∧
        (e.acc ≠ .wo → e.ty = u.ty.toNat → data = [] →
          let t := d.reply c u 1 0 (if s.dev.readPending e key then 2 else 0) (s.dev.readBytes e (s.dev.level c) key (bit u.flags.toNat 0))
          Becomes (.uhlodRead c u data) s (if key = 0xA00001 then t.useFree else t)))) ∧
    (s.dev.serves c u 2 data →
      (s.dev.writeCheck c r ≠ 0 → Becomes (.uhlodWrite c u data) s (d.refuse c u 2 (s.dev.writeCheck c r))) ∧
      (∀ g, s.dev.writeCheck c r = 0 → groupOf r.idx r.sub = some g →
        (s.dev.holder g = none → Runs (.uhlodWrite c u data) s [.dict, .xfer] (fun t => t.dict.vals = s.dev.dict.vals ∧
          t.dict.claims = s.dev.dict.claims ∧ ∃ w ∈ t.dict.arbs, g ∈ w.groups ∧ ∃ h ∈ w.held, h.c = c ∧ h.op = 2 ∧ h.recs = [r])) ∧
        (∀ e, s.dev.holder g = some (masterOf c) → s.dev.entry r.idx r.sub = some e → e.acc = .rw → e.p = false →
          (e.t = false → Runs (.uhlodWrite c u data) s (port ++ (if key = 0x220002 then [.dram] else if r.idx = 0x8002 then [.th] else []))
            (fun t => t.val key = leNat data ∧ ∀ k, k ≠ key → t.val k = s.dev.val k)) ∧
          (e.t = true → Runs (.uhlodWrite c u data) s (port ++ [.comp]) (fun t => t.dict.vals = s.dev.dict.vals ∧
            t.comp = { s.dev.comp with shadow := putItem s.dev.comp.shadow (.val key (leNat data) (masterOf c)) }))))) ∧
    (s.dev.serves c u 3 data →
      ((parseRecs 32 data = none ∨ parseRecs 32 data = some []) → Becomes (.uhlodWriteMulti c u data) s (d.refuseFrame c u 3)) ∧
      (∀ rs, parseRecs 32 data = some rs → rs ≠ [] →
        (∀ n code, s.dev.checkRecs c 0 rs = some (n, code) → Becomes (.uhlodWriteMulti c u data) s (d.refuse c u 3 code (leBytes 1 n))) ∧
        (s.dev.checkRecs c 0 rs = none → (∀ g ∈ groupsOf rs, s.dev.holder g ≠ none) →
          Becomes (.uhlodWriteMulti c u data) s (d.finishWrite c u 3 rs)) ∧
        (s.dev.checkRecs c 0 rs = none → (∃ g ∈ groupsOf rs, s.dev.holder g = none) →
          Runs (.uhlodWriteMulti c u data) s [.dict, .xfer] (fun t => t.dict.vals = s.dev.dict.vals ∧
            ∃ w ∈ t.dict.arbs, ∃ h ∈ w.held, h.c = c ∧ h.op = 3 ∧ h.recs = rs)))) ∧
    (s.dev.serves c u 4 data →
      let x : DWrite := { idx := 0x2000, sub := 0x10, ty := 5, val := data }
      (u.ty ≠ 0 → Becomes (.uhlodCommit c u data) s (d.refuse c u 4 0x0B07)) ∧
      (u.ty = 0 → s.dev.writeCheck c x ≠ 0 → Becomes (.uhlodCommit c u data) s (d.refuse c u 4 (s.dev.writeCheck c x))) ∧
      (u.ty = 0 → s.dev.writeCheck c x = 0 → s.dev.validate = none → Runs (.uhlodCommit c u data) s (port ++ [.comp]) (fun t =>
        t.comp.ordinal = s.dev.comp.ordinal + 1 ∧ t.comp.shadow = [] ∧ t.comp.ap = s.dev.comp.ap ∧
        t.comp.pend.map (·.items) = s.dev.comp.pend.map (·.items) ++ [s.dev.comp.shadow])) ∧
      (∀ e, u.ty = 0 → s.dev.writeCheck c x = 0 → s.dev.validate = some e → Runs (.uhlodCommit c u data) s (port ++ [.comp]) (fun t =>
        t.comp.shadow = s.dev.comp.shadow ∧ t.comp.pend = s.dev.comp.pend ∧ t.comp.rejCode = e.1))) ∧
    (s.dev.serves c u 5 data → (s.dev.groupNamed u.idx.toNat u.sub.toNat = none → Becomes (.claim c u data) s (d.refuse c u 5 0x0B01)) ∧
      (∀ g, s.dev.groupNamed u.idx.toNat u.sub.toNat = some g → u.ty = 0 → data.length = 2 →
        (∀ h, s.dev.holder g = some h → h ≠ masterOf c → Becomes (.claim c u data) s (d.refuse c u 5 0x0B06)) ∧
        (s.dev.holder g = none → (leNat data = 0 ∨ 60 < leNat data ∨ 16 ≤ s.dev.dict.claims.length) →
          Becomes (.claim c u data) s (d.refuse c u 5 0x0B04)) ∧
        (s.dev.holder g = none → 1 ≤ leNat data → leNat data ≤ 60 → s.dev.dict.claims.length < 16 →
          Runs (.claim c u data) s port (fun t => t.holder g = some (masterOf c) ∧ t.dict.vals = s.dev.dict.vals ∧
            t.dict.claims = s.dev.dict.claims ++ [{ group := g, master := masterOf c, until_ := s.dev.now + leNat data * 1000000 }])))) ∧
    (s.dev.serves c u 6 data → ∀ g, s.dev.groupNamed u.idx.toNat u.sub.toNat = some g → u.ty = 0 → data = [] →
      (∀ h, s.dev.holder g = some h → h ≠ masterOf c → Becomes (.release c u data) s (d.refuse c u 6 0x0B06)) ∧
      ((s.dev.holder g = none ∨ s.dev.holder g = some (masterOf c)) → Runs (.release c u data) s port (fun t => t.holder g = none ∧
        t.dict.vals = s.dev.dict.vals ∧ t.dict.claims = s.dev.dict.claims.filter (fun (x : Claim) => x.group != g)))) ∧
    (s.dev.serves c u 7 data → ∀ e, s.dev.entry u.idx.toNat u.sub.toNat = some e → e.acc ≠ .wo → u.ty = 0 → data.length = 6 →
      let others := s.dev.dict.subs.filter (fun (x : Sub) => !(x.c == c && x.idx == u.idx.toNat && x.sub == u.sub.toNat))
      (subscribeBad data = true → Becomes (.subscribe c u data) s (d.refuse c u 7 0x0B04)) ∧
      (subscribeBad data = false → field data 2 1 = 0 → Runs (.subscribe c u data) s port (fun t => t.dict.subs = others ∧
        t.dict.vals = s.dev.dict.vals)) ∧
      (subscribeBad data = false → field data 2 1 ≠ 0 → others.length < 64 → others.countP (fun (x : Sub) => x.c == c) < 16 →
        Runs (.subscribe c u data) s port (fun t => t.dict.vals = s.dev.dict.vals ∧
          ∃ x, t.dict.subs = others ++ [x] ∧ x.c = c ∧ x.idx = u.idx.toNat ∧ x.sub = u.sub.toNat ∧ x.period = field data 0 2)))

/-- Writes that act at once, for a client whose master holds the entry's group (R344, R345, R386, R391, R401, R420, R447, R452, R453,
R455, R458, R463): each request sets what its entry's row says, and is answered with status 0. Privilege and the other checks are those of R348;
without the claim such a write waits in its arbitration window. No entry of the map carries attribute L (log entry 69): LOCK and UNLOCK are
refused, whichever entry they name, while the operation itself locks and unlocks one entry. These rows are WRITE requests (log entry 23), a rate
equal to the one in use requests no switch (log entry 74), and a MAST reset acts when it is written (log entry 75). -/
def Obligations.ActingWrites : Prop :=
  ∀ (s : State) (c : Client) (sq : U16), s.dev.powered = true →
    let d := ({ s.dev with out := [] } : Dev).mailboxTake c
    let ok := fun (t : Dev) (ty idx sub : Nat) => t.reply c (writeHdr sq ty idx sub) 2 0 0 []
    let fits := fun (id n : Nat) => s.dev.nvmFull id n = false ∧ s.dev.tjWrites = true
    (∀ data, s.dev.acts c sq 0xD 0x1800 1 data →
      let part := if (data.headD 0).toNat = 2 then 4 else 5
      s.dev.pwLocked part = false → (s.dev.digests part).1 = s.dev.digest (data.drop 1) → c ≠ .supervisor →
      Runs (.login c sq data) s [.dict, .xfer, .host, .pw] (fun t => t.level c = max (s.dev.level c) (data.headD 0).toNat ∧
        t.dict.vals = s.dev.dict.vals ∧ t.pw.state = s.dev.pw.state)) ∧
    (s.dev.acts c sq 5 0x1800 3 [1] → Becomes (.logout c sq) s (ok (d.logout c) 5 0x1800 3)) ∧
    (∀ data, s.dev.acts c sq 0xD 0x1800 5 data →
      let part := if data.headD 0 = 2 then 4 else 5
      let rec_ := (s.dev.digests part).2 ++ s.dev.digest (data.drop 1)
      fits (0xF400 + part) rec_.length → Becomes (.setPassword c sq data) s (ok (d.queueRecord (0xF400 + part) rec_) 0xD 0x1800 5)) ∧
    (∀ (idx : U16) (sub : Byte),
      let v := fun (on : Nat) => leBytes 1 on ++ leBytes 1 sub.toNat ++ leBytes 2 idx.toNat
      let asked := fun (on : Nat) => s.dev.serves c (writeHdr sq 7 0x1800 6) 2 (v on) ∧ 2 ≤ s.dev.level c ∧
        s.dev.lockedEntry 0x180006 = false ∧ s.dev.claimedBut 0x1800 6 (masterOf c) = false
      let no := fun (code : Nat) => d.refuse c (writeHdr sq 7 0x1800 6) 2 code
      ((s.dev.entry idx.toNat sub.toNat).isSome = true → (asked 1 → Becomes (.lockEntry c sq idx sub) s (no 0x0B02)) ∧
        (asked 0 → Becomes (.unlockEntry c sq idx sub) s (no 0x0B02))) ∧
      ((s.dev.entry idx.toNat sub.toNat).isSome = false → (asked 1 → Becomes (.lockEntry c sq idx sub) s (no 0x0B01)) ∧
        (asked 0 → Becomes (.unlockEntry c sq idx sub) s (no 0x0B01)))) ∧
    (∀ (t : Dev) (k : Nat), (t.writeLock (k * 256 + 1)).2.lockedEntry k = true ∧ (t.writeLock (k * 256)).2.lockedEntry k = false ∧
      ∀ n, n ≠ k → (t.writeLock (k * 256 + 1)).2.lockedEntry n = t.lockedEntry n ∧ (t.writeLock (k * 256)).2.lockedEntry n = t.lockedEntry n) ∧
    (∀ (x : SailId) (v : Byte), s.dev.acts c sq 5 (0x4001 + 16 * x.toNat) 7 [v] →
      Becomes (.markAll c sq x v) s (ok (d.markSail x) 5 (0x4001 + 16 * x.toNat) 7)) ∧
    (s.dev.acts c sq 5 0xC000 3 [1] → Becomes (.resetRequestWarm c sq) s (ok { d with pw := { d.pw with request := some .warm } } 5 0xC000 3)) ∧
    (s.dev.acts c sq 5 0xC000 3 [2] → Becomes (.resetRequestCold c sq) s (ok { d with pw := { d.pw with request := some .cold } } 5 0xC000 3)) ∧
    (∀ m : Byte, s.dev.acts c sq 5 0xC000 4 [m] → Becomes (.mastReset c sq m) s (ok (d.mastReset (BitVec.ofNat 5 m.toNat)) 5 0xC000 4)) ∧
    (∀ p : Byte, s.dev.acts c sq 6 0xC000 5 [1, p] → (s.dev.partn p.toNat).state ≠ .offline →
      Becomes (.offlineRequest c sq p) s (ok { d with flt := { d.flt with reqs := d.flt.reqs ++ [(p.toNat, true)] } } 6 0xC000 5)) ∧
    (∀ p : Byte, s.dev.acts c sq 6 0xC000 5 [0, p] →
      Becomes (.returnToServiceRequest c sq p) s (ok { d with flt := { d.flt with reqs := d.flt.reqs ++ [(p.toNat, false)] } } 6 0xC000 5)) ∧
    (∀ p tests : Byte, p ≠ 0xFF → s.dev.acts c sq 6 0xC000 6 [tests, p] →
      Becomes (.bistRequest c sq p tests) s (ok (d.bistQueue p.toNat tests.toNat).bistStart 6 0xC000 6)) ∧
    (∀ tests : Byte, s.dev.acts c sq 6 0xC000 6 [tests, 0xFF] →
      Becomes (.bistFullRun c sq tests) s (ok { d with pw := { d.pw with request := some (.coldBist tests.toNat) } } 6 0xC000 6)) ∧
    (∀ v : Byte, s.dev.acts c sq 5 0xC000 2 [v] →
      Becomes (.lifeCycleAdvance c sq v) s (ok { d with fuses := { d.fuses with lifeNext := some v.toNat } } 5 0xC000 2)) ∧
    (s.dev.acts c sq 5 0xC020 6 [1] → Becomes (.fwHandoff c sq) s (ok { d with fw := { d.fw with handoff := true } } 5 0xC020 6)) ∧
    (s.dev.acts c sq 5 0x9000 7 [1] → s.dev.trim.run = none →
      Becomes (.trimRequest c sq) s (ok { d with trim := { d.trim with due := true } } 5 0x9000 7)) ∧
    (s.dev.acts c sq 5 0xA000 8 [1] → fits 0xF603 0 → Becomes (.restoreDefaults c sq) s (ok (d.queueRecord 0xF603 []) 5 0xA000 8)) ∧
    (∀ m : MastId, s.dev.acts c sq 5 (0x3002 + 0x40 * m.toNat) 0xC [1] →
      Becomes (.trainRequestRetrain c sq m) s
        (ok (if (s.dev.mast m).state = .failed then d.bringUp m else d.startRetrain m) 5 (0x3002 + 0x40 * m.toNat) 0xC)) ∧
    (∀ m : MastId, s.dev.acts c sq 5 (0x3002 + 0x40 * m.toNat) 0xC [2] →
      Becomes (.trainRequestBringup c sq m) s (ok (d.bringUp m) 5 (0x3002 + 0x40 * m.toNat) 0xC)) ∧
    (∀ rate : U16, s.dev.acts c sq 6 0x2200 2 (leBytes 2 rate.toNat) → SMap.rising s.dev.dict.vals = true →
      Runs (.dataRateWrite c sq rate) s [.dict, .xfer, .host, .dram, .ledger] (fun t => t.val 0x220002 = rate.toNat ∧
        t.dram = { s.dev.dram with switchTo := if rate.toNat = s.dev.dram.rate then none else some rate.toNat } ∧
        ∀ k, k ≠ 0x220002 → t.val k = s.dev.val k))

/-- What comes to the ports without a request, and what runs out (R344, R347, R353 to R358, R362): a report carries the value and is kept as the last
one; a subscription, a claim, a privilege and a segmented transfer end; a window's only write applies when it closes, and no group goes to two
masters; a malformed frame is answered with E_FRAME or counted; ARP and ICMP for the device's address are answered. Which master a report names, and which
changes it reports, is log entry 70; that frames wait through a handoff is log entry 71; which malformed frames are answered, and with what
header, is log entry 72; that discarded traffic is counted is log entry 73. -/
def Obligations.PortsReportsAndExpiries : Prop :=
  (∀ (held : List HeldWrite) (ranks : List Nat) (g m n : Nat), (g, m) ∈ takenBy held ranks → (g, n) ∈ takenBy held ranks → m = n) ∧
  (∀ s : State, s.dev.powered = true →
    let d := { s.dev with out := [] }
    (∀ (n : Nat) (x : Sub) (e : Entry), s.dev.dict.subs[n]? = some x → s.dev.entry x.idx x.sub = some e →
      let v := s.dev.readNat e (s.dev.level x.c) (x.idx * 256 + x.sub) true
      (s.dev.pw.state = .underway → s.dev.fw.handoff = false → ((x.change = true ∧ (x.due = true ∨ v ≠ x.last)) ∨ x.periodic = true) →
        Runs (.notify n) s (eventParts ++ [.xfer, .free]) (fun t =>
          t.dict.subs = s.dev.dict.subs.set n { x with last := v, due := false })) ∧
      ((s.dev.pw.state ≠ .underway ∨ s.dev.fw.handoff = true ∨ ((x.change = false ∨ (x.due = false ∧ v = x.last)) ∧ x.periodic = false)) →
        Becomes (.notify n) s d)) ∧
    (∀ n, Becomes (.subscriptionExpiry n) s { d with dict := { d.dict with subs := d.dict.subs.eraseIdx n } }) ∧
    (∀ (n : Nat) (x : Claim), s.dev.dict.claims[n]? = some x → Becomes (.claimExpiry n) s
      ({ d with dict := { d.dict with claims := d.dict.claims.eraseIdx n } }.event 0x0B02 x.master (x.group / 256 * 2 ^ 48))) ∧
    (∀ n, s.dev.dict.claims[n]? = none → Becomes (.claimExpiry n) s d) ∧
    (∀ (n : Nat) (w : ArbWindow) (h : HeldWrite), s.dev.fw.handoff = false → s.dev.dict.arbs[n]? = some w → w.held = [h] →
      s.dev.dict.waiting = [] → s.dev.kept h.c h.hdr.seq = none → s.dev.checkRecs h.c 0 h.recs = none → Becomes (.arbitrationWindowClose n) s
        ({ d with dict := { d.dict with arbs := d.dict.arbs.eraseIdx n } }.finishWrite h.c h.hdr h.op h.recs)) ∧
    (∀ n, (s.dev.fw.handoff = true ∨ s.dev.dict.arbs[n]? = none) → Becomes (.arbitrationWindowClose n) s d) ∧
    (∀ c : Client, ((s.dev.client c).level = 1 → Becomes (.privilegeTimeout c) s d) ∧
      ((s.dev.client c).level ≠ 1 → Runs (.privilegeTimeout c) s [.dict] (fun t => (t.client c).level = 1 ∧
        (∀ y, y ≠ c → t.client y = s.dev.client y) ∧ t.dict.vals = s.dev.dict.vals))) ∧
    (∀ (node : Byte) (x : CanSeg), (s.dev.client (.can node)).seg = some x →
      let t := d.setClient { d.client (.can node) with seg := none }
      let f := response (.can node) x.hdr x.op 0x0B09 0 []
      let w : Wait := { c := .can node, u := x.hdr, op := x.op, data := [], frames := x.next, bad := some f }
      let wait := { t with dict := { t.dict with waiting := t.dict.waiting ++ [w] } }
      (s.dev.fw.handoff = false → s.dev.masterBusy 3 = false → s.dev.kept (.can node) x.hdr.seq = none →
        Becomes (.canSegmentTimeout node) s (t.answer (.can node) x.hdr x.op 0x0B09 f)) ∧
      (s.dev.fw.handoff = false → s.dev.masterBusy 3 = true → Becomes (.canSegmentTimeout node) s wait) ∧
      (s.dev.fw.handoff = true → Becomes (.canSegmentTimeout node) s (if t.handoffRoom (.can node) x.next then wait else t.bump 0xB02101))) ∧
    (∀ node : Byte, (s.dev.client (.can node)).seg = none → Becomes (.canSegmentTimeout node) s d) ∧
    (∀ (at_ key v : Nat) (rest : List (Nat × Nat × Nat)), s.dev.dict.commDue = (at_, key, v) :: rest → SMap.rising s.dev.dict.comm = true →
      Runs .communicationChangeEffect s [.dict] (fun t => t.dict.commDue = rest.filter (fun (x : Nat × Nat × Nat) => x.1 != at_) ∧
        t.dict.vals = s.dev.dict.vals ∧ ((∀ x ∈ rest, x.1 = at_ → x.2.1 ≠ key) → t.commVal key = v) ∧
        (∀ k, (∀ x ∈ s.dev.dict.commDue, x.1 = at_ → x.2.1 ≠ k) → t.commVal k = s.dev.commVal k))) ∧
    (s.dev.dict.commDue = [] → Becomes .communicationChangeEffect s d) ∧
    (s.dev.pw.state = .underway → s.dev.portOn (.net 0 0) = true →
      Becomes .discardedNetTraffic s (d.bump 0xB02101) ∧
      (∀ (target : U32) (data : List Byte), s.dev.ipv4 = target.toNat →
        Becomes (.arpRequest target) s { d with out := [.arpReply target s.dev.fuses.mac] } ∧
        Becomes (.icmpEchoRequest target data) s { d with out := [.netReply data] })) ∧
    (s.dev.netServes = false → Becomes .discardedNetTraffic s d) ∧
    (∀ (target : U32) (data : List Byte), (s.dev.ipv4 ≠ target.toNat ∨ s.dev.netServes = false) →
      Becomes (.arpRequest target) s d ∧ Becomes (.icmpEchoRequest target data) s d) ∧
    (∀ (c : Client) (raw : List Byte), s.dev.pw.state = .underway → s.dev.portOn c = true →
      ((∀ node, c ≠ .can node) → s.dev.mailboxFree c = false → Becomes (.malformedUhlodFrame c false raw) s (d.mailboxFull c)) ∧
      ((∀ node, c ≠ .can node) → s.dev.mailboxFree c = true → raw.length < 16 →
        Becomes (.malformedUhlodFrame c false raw) s (d.bump 0xB02101)) ∧
      ((∀ node, c ≠ .can node) → s.dev.mailboxFree c = true → 16 ≤ raw.length → frameFault c raw = true → s.dev.fw.handoff = false →
        s.dev.masterBusy (masterOf c) = false → s.dev.kept c (hdrOf raw).seq = none → Becomes (.malformedUhlodFrame c false raw) s
          ((d.mailboxTake c).answer c (hdrOf raw) (field raw 4 1) 0x0B09 (frameEcho raw 0x0B09))) ∧
      (∀ node, c = .can node → Becomes (.malformedUhlodFrame c true raw) s (d.bump 0xB02101))))

/-! ### Fetching, firmware, power (files 03, 18) -/

/-- R47, whole. A grant goes to a queue with a command ready, where there is one. Where a queue with a command ready has watched 64 consecutive
grants, the grant goes to such a queue; else to one of the lowest class, and within the class to the first after the queue that the class's last
grant went to, counted round modulo 64. A grant is the class's last one; it ends its queue's watch, a queue with a command ready has watched one more
(64 is enough), and one without a command ready starts over. COMMAND_FETCH runs the command of the queue that has the grant: for a NOP of a
ring in host memory, the whole device it leaves. That a class without a grant yet starts at queue 0 is log entry 19, and which
queues may be granted is log entry 30. -/
def Obligations.GrantsFollowClassAndTurn : Prop :=
  (∀ d : Dev,
    (d.grantee = none ↔ ∀ q, d.fetchable q = false) ∧
    (∀ q, d.grantee = some q → d.fetchable q = true ∧
      ((∃ r, d.fetchable r = true ∧ 64 ≤ (d.queue r).watched) → 64 ≤ (d.queue q).watched) ∧
      ((∀ r, d.fetchable r = true → (d.queue r).watched < 64) →
        let turn := fun (r : QueueId) => (r.toNat + 63 - SMap.get 63 d.qs.lastGrant (d.queue q).cls.toNat % 64) % 64
        ∀ r, d.fetchable r = true → (d.queue q).cls.toNat < (d.queue r).cls.toNat ∨
          ((d.queue q).cls = (d.queue r).cls ∧ turn q ≤ turn r))) ∧
    (∀ q, SMap.rising d.qs.lastGrant = true →
      SMap.get 63 (d.granted q).qs.lastGrant (d.queue q).cls.toNat = q.toNat ∧
      (∀ c, c ≠ (d.queue q).cls.toNat → SMap.get 63 (d.granted q).qs.lastGrant c = SMap.get 63 d.qs.lastGrant c) ∧
      ∀ r, (d.granted q).queue r = { d.queue r with
        watched := if r = q then 0 else if d.fetchable r = true then min 64 ((d.queue r).watched + 1) else 0 })) ∧
  (∀ (s : State) (q : QueueId) (c : List Byte), s.dev.powered = true → s.dev.up = true → (∀ r i, (s.dev.queue r).hold ≠ .retry i) →
    s.dev.grantee = some q → (s.dev.queue q).loc = false → (byteOf c 0).toNat = 1 → firstReserved ([], []) c = none →
    let d := { s.dev with out := [] }
    Becomes (.commandFetch (some c)) s (((d.granted q).setQueue q { (d.granted q).queue q with
      head := ((s.dev.queue q).head + 1) % 2 ^ (s.dev.queue q).log2.toNat }).nop q (cmdHdr c)))

/-- COMMAND_FETCH. HEAD advances over the slot copied, from host memory or from a ring in a device buffer, and the command that the slot spells runs
as its row does; an opcode outside the table fails with E_BAD_OPCODE; an error completion halts the queue with E_HOST_DMA, HEAD unmoved
(R44 to R46, R50, R51). With no command ready, or outside UNDERWAY, nothing is fetched. The hypotheses name a fetch that no READBACK waits before
(R48) and, from a buffer, that meets no memory error. That fetching goes on in D3hot is log entry 91. -/
def Obligations.CommandsAreFetched : Prop :=
  ∀ (s : State) (host : Option (List Byte)), s.dev.powered = true →
    let d := { s.dev with out := [] }
    (s.dev.up = false → Becomes (.commandFetch host) s d) ∧
    (s.dev.up = true → (∀ r c, (s.dev.queue r).hold ≠ .retry c) →
      (s.dev.grantee = none → Becomes (.commandFetch host) s d) ∧
      (∀ q, s.dev.grantee = some q → (s.dev.queue q).loc = false →
        (host = none → Runs (.commandFetch host) s (eventParts ++ [.qs]) (fun t =>
          (t.queue q).state = .halted ∧ (t.queue q).error = 0x0116 ∧ (t.queue q).head = (s.dev.queue q).head ∧
          (t.queue q).tail = (s.dev.queue q).tail ∧ t.qs.cmds = s.dev.qs.cmds)) ∧
        (∀ c, host = some c → layout (byteOf c 0).toNat (byteOf c 11).toNat = none → Runs (.commandFetch host) s (eventParts ++ [.qs, .intake])
          (fun t => (t.queue q).head = ((s.dev.queue q).head + 1) % 2 ^ (s.dev.queue q).log2.toNat ∧ (t.queue q).state = .running ∧
            ∀ x ∈ t.qs.cmds, x ∈ s.dev.qs.cmds))) ∧
      (∀ (q : QueueId) (c : List Byte), s.dev.grantee = some q →
        ((s.dev.queue q).loc = false ∧ host = some c ∨ (s.dev.queue q).loc = true ∧ s.dev.dram.upsets = [] ∧
          c = s.dev.readMem ((s.dev.buf (s.dev.queue q).ringRef.handle).base + 64 * (s.dev.queue q).head) 64) →
        ∃ t : Dev, Frame [.qs, .dram] s.dev t ∧ t.dram.data = s.dev.dram.data ∧ t.qs.cmds = s.dev.qs.cmds ∧ t.qs.bufs = s.dev.qs.bufs ∧ t.out = [] ∧
          t.queue q = { s.dev.queue q with
            watched := 0, head := ((s.dev.queue q).head + 1) % 2 ^ (s.dev.queue q).log2.toNat } ∧
          (∀ r, r ≠ q → { t.queue r with watched := 0 } = { s.dev.queue r with watched := 0 }) ∧
          ((slotCommand q c = none ∨ layout (byteOf c 0).toNat (byteOf c 11).toNat = none) →
            Becomes (.commandFetch host) s (t.reject q (cmdHdr c) (byteOf c 0).toNat 0x0101 0)) ∧
          ∀ i l, slotCommand q c = some i → layout (byteOf c 0).toNat (byteOf c 11).toNat = some l → firstReserved l c = none →
            exec (.commandFetch host) s = exec i { dev := t, pending := s.pending }))

/-- Images. What passes verification carries an unrevoked key's signature over header and payload, a security version not below the fuses', and
its checksum (R396, R397). RECOVERY_WRITE is refused where recovery is not served, starts over with block 0, is refused while busy, and starts verification at
the implied length (R36, R400); RECOVERY_STATUS reports count, state and error. An image verified in service takes the inactive slot, and a handoff makes
it the active one, or leaves the previous one in service (R398 to R402). Boot runs an image, or enters recovery mode without one (R394, R398). That ECDSA is a function
of Config is log entry 9; an image over 4 MiB, and a write while busy, are log entry 77; which slot a recovery image takes is log entry 112; that a
handoff's requests wait is log entry 71; that boot waits for a power-up trim run is log entry 113. -/
def Obligations.ImagesAreVerifiedAndBooted : Prop :=
  (∀ (f : Fuses) (x : List Byte), imageCheck f x = 0 →
    slice x 0 4 = [0x4D, 0x44, 0x46, 0x57] ∧ x.length = 352 + field x 16 4 ∧ f.secVersion ≤ field x 12 2 ∧
    Config.sha384 (slice x 64 97) ∈ f.keyDigests ∧ crc32c (slice x 256 (field x 16 4)) = field x 20 4 ∧
    Config.ecdsaP384 (slice x 64 97) (slice x (256 + field x 16 4) 96) (x.take (256 + field x 16 4)) = true) ∧
  (∀ s : State, s.dev.powered = true →
    let d := { s.dev with out := [] }
    let n := 1 - s.dev.fw.active
    (∀ (p : UsbPath) (w : U16) (x : List Byte), s.dev.coreFenced = true → Becomes (.recoveryWrite p w x) s d ∧ Becomes (.recoveryStatus p) s d) ∧
    (∀ (p : UsbPath) (w : U16) (x : List Byte), s.dev.coreFenced = false →
      (s.dev.recoveryOn p = false → Becomes (.recoveryWrite p w x) s { s.dev with out := [.stall] } ∧
        Becomes (.recoveryStatus p) s { s.dev with out := [.stall] }) ∧
      (s.dev.recoveryOn p = true → s.dev.pw.state ≠ .recovery →
        (s.dev.fw.state ≠ 1 → s.dev.fw.state ≠ 2 → x.length < 20 → Becomes (.recoveryWrite p 0 x) s
          { d with fw := { s.dev.fw.setSlot n none with rcvd := x, state := 1, err := 0 } }) ∧
        ((s.dev.fw.state = 1 ∨ s.dev.fw.state = 2) → Becomes (.recoveryWrite p 0 x) s { d with fw := { d.fw with err := 0x0C03 } }) ∧
        (s.dev.fw.state = 1 → impliedLen (s.dev.fw.rcvd ++ x) = some (s.dev.fw.rcvd ++ x).length → (s.dev.fw.rcvd ++ x).length ≤ 4194304 →
          Becomes (.recoveryWrite p 1 x) s { d with fw := { d.fw with rcvd := s.dev.fw.rcvd ++ x, state := 2, err := 0 } }) ∧
        (s.dev.fw.state ≠ 0 → Becomes (.recoveryStatus p) s { d with
          out := [.recoveryStatus (leBytes 4 s.dev.fw.rcvd.length ++ leBytes 2 (s.dev.fw.state - 1) ++ leBytes 2 s.dev.fw.err)]
          free := s.dev.free + 1 })) ∧
      (s.dev.pw.state = .recovery → s.dev.fw.recState ≠ 1 → x.length < 20 → Becomes (.recoveryWrite .usb2 0 x) s
        { d with fw := { d.fw with rcvd := x, recState := 0, err := 0 } })) ∧
    (s.dev.pw.state ≠ .recovery →
      (s.dev.fw.state ≠ 2 → Becomes .imageVerifyComplete s d) ∧
      (s.dev.fw.state = 2 → imageCheck s.dev.fuses s.dev.fw.rcvd ≠ 0 → Becomes .imageVerifyComplete s
        { d with fw := { d.fw with state := 4, err := imageCheck s.dev.fuses s.dev.fw.rcvd } }) ∧
      (s.dev.fw.state = 2 → imageCheck s.dev.fuses s.dev.fw.rcvd = 0 → Becomes .imageVerifyComplete s
        { d with fw := { d.fw.setSlot n (some (imageOf d.fw.rcvd)) with state := 3, err := 0 } })) ∧
    (s.dev.pw.state = .recovery → s.dev.fw.recState = 1 → imageCheck s.dev.fuses s.dev.fw.rcvd = 0 → s.dev.host.owner = none →
      Runs .imageVerifyComplete s [.fw, .pw, .link] (fun t => t.pw.state = .boot ∧ t.link.hs = false ∧
        t.fw.accepted = some (s.dev.recoverySlot, imageOf s.dev.fw.rcvd) ∧
        (s.dev.fw.flash = true → t.fw.slot s.dev.recoverySlot = some (imageOf s.dev.fw.rcvd)))) ∧
    (∀ ms : U16,
      (s.dev.fw.handoff = false → Becomes (.handoffComplete ms) s d ∧ Becomes (.handoffTimeout ms) s d) ∧
      (s.dev.fw.handoff = true → s.dev.dict.waiting = [] →
        (∀ i, s.dev.fw.slot n = some i → SMap.rising s.dev.dict.vals = true →
          Runs (.handoffComplete ms) s (eventParts ++ [.fw, .fuses, .ledger]) (fun t =>
            t.fw.active = n ∧ t.fw.version = i.version ∧ t.fw.handoff = false ∧ t.fw.state = 0 ∧ t.val 0xC02002 = n ∧
            t.fuses = { s.dev.fuses with secVersion := max s.dev.fuses.secVersion i.sec })) ∧
        Runs (.handoffTimeout ms) s (eventParts ++ [.fw]) (fun t => t.fw = { s.dev.fw with state := 4, handoff := false }))) ∧
    (∀ b : BootReport,
      (s.dev.pw.state ≠ .boot → Becomes (.bootComplete b) s d) ∧
      (let recovers := fun (bad : List Nat) => Runs (.bootComplete b) s [.pw, .fw, .link] (fun t =>
          t.pw = { s.dev.pw with state := .recovery, since := s.dev.now } ∧ t.fw = { s.dev.fw with bad := bad } ∧
          t.link = { s.dev.link with usb4 := 0, ss := 0, hs := s.dev.link.hs && !s.dev.coreFenced, fs := s.dev.link.fs && !s.dev.coreFenced } ∧
          t.out = if s.dev.link.hs = true ∧ s.dev.coreFenced = false then [.usbDevice .usb2 0x1F4D 0x10FF s.dev.link.fs] else [])
       (s.dev.pw.state = .boot → s.dev.pw.fullRun = none → s.dev.bootImage.1 = none → recovers s.dev.bootImage.2) ∧
       (∀ k i, s.dev.pw.state = .boot → s.dev.pw.fullRun = none → s.dev.bootImage.1 = some (k, i) → s.dev.mustRecover = true →
         recovers s.dev.fw.bad)) ∧
      (∀ k i, s.dev.pw.state = .boot → s.dev.pw.fullRun = none → s.dev.bootImage.1 = some (k, i) →
        (s.dev.mustRecover = false → (∃ r, s.dev.trim.run = some r ∧ r.powerUp = true) → Becomes (.bootComplete b) s d) ∧
        (s.dev.mustRecover = false → (∀ r, s.dev.trim.run = some r → r.powerUp = false) → s.dev.push.plots = [] → Runs (.bootComplete b) s (deliveryParts ++ [.fw, .fuses, .pw]) (fun t =>
          t.pw.state = .underway ∧ t.pw.since = s.dev.now ∧ t.fw.active = k ∧ t.fw.version = i.version ∧ t.fw.accepted = none ∧
          t.fuses = { s.dev.fuses with secVersion := max s.dev.fuses.secVersion i.sec })))))

/-- Resets (R383, R386 to R389, R392 to R394, R415, R416, R470): what starts each, its cause, what it clears and what it keeps. A device without power, one
that is latched, and one that waits for no reset keep their state. The reset values are those of log entry 5. What a requested COLD reset samples,
and that the first watchdog expiry outlives a WARM reset, is log entry 112; that the request being written is interrupted is log entry 76. -/
def Obligations.ResetsKeepWhatTheyKeep : Prop :=
  ∀ s : State,
    let d := { s.dev with out := [] }
    (∀ r : Bool, (s.dev.pw.state ≠ .off → Becomes (.powerOn r) s d) ∧
      (s.dev.pw.state = .off → Runs (.powerOn r) s resetParts (fun t => ColdReset s.dev t true 1 ∧ t.pw.refclk = r ∧ t.pw.latched = false))) ∧
    (s.dev.pw.state = .off → Becomes .resetNQualified s d) ∧
    (s.dev.pw.state ≠ .off → s.dev.pw.latched = true → Becomes .resetNQualified s { d with pw := { d.pw with resetLow := true } }) ∧
    (s.dev.pw.state ≠ .off → s.dev.pw.latched = false → Runs .resetNQualified s resetParts (fun t => ColdReset s.dev t true 2 ∧ t.pw.resetLow = true)) ∧
    ((s.dev.pw.state = .off ∨ s.dev.pw.latched = true) → Becomes .pwrOkFall s { d with pw := { d.pw with pwrOk := false } }) ∧
    (s.dev.pw.state ≠ .off → s.dev.pw.latched = false → Runs .pwrOkFall s resetParts (fun t => ColdReset s.dev t true 2 ∧ t.pw.pwrOk = false)) ∧
    Runs .powerLoss s resetParts (fun t => Cleared s.dev t ∧ t.pw = { state := .off } ∧ t.fuses = s.dev.fuses ∧ t.link = {} ∧ t.qs = {} ∧ t.flt = {} ∧
      t.ledger.queue = [] ∧ t.fw = { slotA := s.dev.fw.slotA, slotB := s.dev.fw.slotB, flash := s.dev.fw.flash }) ∧
    (∀ x : BitVec 2, (s.dev.pw.state ≠ .resetHeld → Becomes (.resetRelease x) s d) ∧
      (s.dev.pw.state = .resetHeld → Runs (.resetRelease x) s [.pw, .fuses, .dict] (fun t =>
        t.pw = { s.dev.pw with state := .boot, resetLow := false, pwrOk := true, since := s.dev.now } ∧ t.fuses = { s.dev.fuses with straps := x } ∧
        (x ≠ 2 → t.dict = s.dev.dict)))) ∧
    (s.dev.powered = true →
      ((s.dev.fw.handoff = true ∨ s.dev.pw.request = none) → Becomes .requestedResetDue s d) ∧
      (s.dev.fw.handoff = false →
        (s.dev.pw.request = some .warm → Runs .requestedResetDue s resetParts (fun t => WarmReset s.dev t false 3)) ∧
        (s.dev.pw.request = some .cold → Runs .requestedResetDue s resetParts (fun t => ColdReset s.dev t false 4)) ∧
        (∀ n, s.dev.pw.request = some (.coldBist n) → Runs .requestedResetDue s resetParts (fun t => ColdReset s.dev t false 4 ∧ t.pw.fullRun = some n))) ∧
      ((s.dev.pw.state = .boot ∨ s.dev.pw.state = .recovery) → Becomes .watchdogExpiry s d) ∧
      (s.dev.pw.state ≠ .boot → s.dev.pw.state ≠ .recovery →
        (∀ at_, s.dev.pw.wdAt = some at_ → s.dev.now ≤ at_ + 10000000 → Runs .watchdogExpiry s resetParts (fun t => WarmReset s.dev t false 5)) ∧
        ((∀ at_, s.dev.pw.wdAt = some at_ → at_ + 10000000 < s.dev.now) →
          Runs .watchdogExpiry s [.flt, .dict, .pw] (fun t => t.pw = { s.dev.pw with wdAt := some s.dev.now })))) ∧
    (∀ w : MooredWake,
      (s.dev.pw.state = .moored → s.dev.moorWakes w = true → Runs (.mooredExit w) s resetParts (fun t => WarmReset s.dev t true 6)) ∧
      ((s.dev.pw.state ≠ .moored ∨ s.dev.moorWakes w = false) → Becomes (.mooredExit w) s d))

/-- HOVE, MOORED and the exit of forced HOVE (R378 to R382, R403, R413, R414): an idle device enters HOVE when HOVE_IDLE_TIME elapses; each wake source
that is enabled ends it, its number kept, and what woke the device is served: a doorbell or SUBMIT (1, R38), WAKE_TIMER (2), a qualifying
TACK_SYNC_IN edge (3), a frame or ARP request over 10BASE-T1S (4), a CAN FD frame (5), a request of a host mailbox (1); a PERIODIC period wakes it
whatever is enabled (R379; log entry 112). A device without session and masts in service goes to MOORED, and forced HOVE ends after 1,000 samples
below 110 °C; each is ignored elsewhere. -/
def Obligations.HoveAndMooredComeAndGo : Prop :=
  ∀ s : State, s.dev.powered = true → SMap.rising s.dev.dict.vals = true →
    let d := { s.dev with out := [] }
    let stay := s.dev.pw.hoveRest + (s.dev.now - s.dev.pw.since)
    (s.dev.up = true → s.dev.quiet = true → s.dev.val 0x240001 ≠ 0 → (s.dev.tval 0x200001 ≠ 2 ∨ bit (s.dev.val 0x240002) 2 = true) →
      Runs .hoveIdleTimeout s (eventParts ++ [.push, .lines, .dram, .flt, .pw]) (fun t =>
        t.pw = { s.dev.pw with state := .hove, since := s.dev.now } ∧ t.val 0x240005 = satAdd 0xFFFFFFFF (s.dev.val 0x240005) 1 ∧
        t.dram = { s.dev.dram with selfRefresh := true } ∧ t.link.low = s.dev.link.lowState ∧ t.push.plots = s.dev.push.plots)) ∧
    ((s.dev.up = false ∨ s.dev.quiet = false ∨ s.dev.val 0x240001 = 0 ∨ (s.dev.tval 0x200001 = 2 ∧ bit (s.dev.val 0x240002) 2 = false)) →
      Becomes .hoveIdleTimeout s d) ∧
    (s.dev.pw.state = .hove → (s.dev.tval 0x200001 = 1 ∨ (s.dev.val 0x240003 ≠ 0 ∧ bit (s.dev.val 0x240002) 1 = true)) →
      Runs .wakeTimerExpiry s (deliveryParts ++ [.pw]) (fun t =>
        t.pw = { s.dev.pw with state := .underway, since := s.dev.now, lastWake := 2, hoveRest := stay % 1000 } ∧
        t.val 0x240006 = satAdd 0xFFFFFFFF (s.dev.val 0x240006) (stay / 1000) ∧ t.dram.selfRefresh = false ∧ t.link.low = .l0 ∧
        ((∀ m, (s.dev.mast m).state ≠ .down ∨ (s.dev.mast m).det = false) →
          t.push.plots = s.dev.push.plots ∧ t.dram = { s.dev.dram with selfRefresh := false }))) ∧
    (let woken := fun (src : Nat) (t : Dev) =>
       t.pw = { s.dev.pw with state := .underway, since := s.dev.now, lastWake := src, hoveRest := stay % 1000 } ∧
       t.dram.selfRefresh = false ∧ t.link.low = .l0
     let on := fun (src : Nat) => bit (s.dev.val 0x240002) (src - 1) = true
     let calm := ∀ m, (s.dev.mast m).state ≠ .down ∨ (s.dev.mast m).det = false
     s.dev.pw.state = .hove →
     (∀ (p : Path) (q : QueueId) (v : U32), s.dev.portReach p = true → s.dev.mayPort p = true → (s.dev.queue q).state = .running →
       v.toNat % 4096 < 2 ^ (s.dev.queue q).log2.toNat →
       (on 1 → calm → Runs (.doorbell p q v) s (deliveryParts ++ [.pw]) (fun t =>
         woken 1 t ∧ t.queue q = { s.dev.queue q with tail := v.toNat % 4096 } ∧ ∀ r, r ≠ q → t.queue r = s.dev.queue r)) ∧
       (¬ on 1 → Becomes (.doorbell p q v) s (d.setQueue q { s.dev.queue q with tail := v.toNat % 4096 }))) ∧
     (∀ (p : UsbPath) (x : XferHdr) (c : List Byte), s.dev.fuses.straps ≠ 2 → s.dev.discards p = false → s.dev.dram.upsets = [] → x.kind = 1 →
       framed x c = true → c.length = 64 → s.dev.host.owner = some p.toPath → Memory.wf s.dev = true → on 1 → calm →
       let y := s.dev.queue (BitVec.ofNat 6 x.queue.toNat)
       let a := (s.dev.buf y.ringRef.handle).base + 64 * (y.tail % 2 ^ y.log2.toNat)
       y.state = .running → 1 ≤ y.room → s.dev.barred y.ringRef (64 * (y.tail % 2 ^ y.log2.toNat)) 64 = none →
       Runs (.usbSubmit p false x c) s (deliveryParts ++ [.pw]) (fun t => woken 1 t ∧ t.readMem a 64 = c ∧ SameMemoryOutside a 64 s.dev t ∧
         t.queue (BitVec.ofNat 6 x.queue.toNat) = { y with tail := (y.tail + 1) % 2 ^ y.log2.toNat })) ∧
     (s.dev.tval 0x200001 = 1 → s.dev.qs.holds = [] → Runs .tackPeriodExpiry s (deliveryParts ++ [.pw]) (fun t =>
       woken 2 t ∧ t.tack.periodDue = true)) ∧
     (∀ rising : Bool, (s.dev.tval 0x200004 == 0) = rising → s.dev.tval 0x200001 = 2 → s.dev.tval 0x200003 ≤ s.dev.tack.edges + 1 → on 3 →
       Runs (.tackSyncEdge rising) s (deliveryParts ++ [.pw]) (fun t => woken 3 t ∧ t.tack.lastEdge = s.dev.now ∧ t.tack.edges = 0 ∧
         (calm → s.dev.qs.holds = [] → s.dev.tack.act = none → s.dev.comp.pend = [] → t.tack.edgeDue = true))) ∧
     (∀ (c : Client) (src : Nat), (match c with | .host _ => src = 1 | .net _ _ => src = 4 | .can _ => src = 5 | .supervisor => False) →
       on src → s.dev.portOn c = true → s.dev.mailboxFree c = true → ∀ (u : UHdr) (data : List Byte), data.length ≤ 4080 →
       Runs (.uhlodRead c u data) s (deliveryParts ++ [.pw, .xfer]) (woken src)) ∧
     (s.dev.portOn (.net 0 0) = true → on 4 → ∀ target : U32, target.toNat = s.dev.ipv4 → Runs (.arpRequest target) s (deliveryParts ++ [.pw])
       (fun t => woken 4 t ∧ Out.arpReply target s.dev.fuses.mac ∈ t.out))) ∧
    (s.dev.tval 0x200001 ≠ 1 → (s.dev.val 0x240003 = 0 ∨ bit (s.dev.val 0x240002) 1 = false) → Becomes .wakeTimerExpiry s d) ∧
    (s.dev.pw.state ≠ .hove → Becomes .wakeTimerExpiry s d ∧ Becomes .mooredEntry s d) ∧
    (s.dev.pw.state = .hove → s.dev.host.owner = none → (∀ x ∈ s.dev.push.masts, x.2.inService = false) → Runs .mooredEntry s [.dict, .dram, .pw]
      (fun t => t.pw = { s.dev.pw with state := .moored, since := s.dev.now, hoveRest := stay % 1000 } ∧ t.dram = { s.dev.dram with selfRefresh := true } ∧
        t.val 0x240006 = satAdd 0xFFFFFFFF (s.dev.val 0x240006) (stay / 1000) ∧ ∀ k, k ≠ 0x240006 → t.val k = s.dev.val k)) ∧
    ((s.dev.host.owner ≠ none ∨ ∃ x ∈ s.dev.push.masts, x.2.inService = true) → Becomes .mooredEntry s d) ∧
    ((s.dev.pw.state ≠ .forcedHove ∨ s.dev.th.below110 < 1000) → Becomes .forcedHoveExit s d) ∧
    (s.dev.pw.state = .forcedHove → 1000 ≤ s.dev.th.below110 → s.dev.xfer.held = [] →
      Runs .forcedHoveExit s (deliveryParts ++ [.pw]) (fun t =>
        t.pw = { s.dev.pw with state := .underway, since := s.dev.now, hoveRest := stay % 1000 } ∧ t.link.low = .l0))

/-! ### Temperatures and trim (file 19) -/

/-- THERMAL_SAMPLE takes the 24 readings, Tj is the highest working reading and its sensor the lowest-numbered that has it (R405, R406); while no shutdown
is latched the warning, k and b follow Tj (R409 to R411), forced HOVE begins from 118 °C and the shutdown from 125 °C (R413, R415). Sensors are excluded after
3 suspect samples and included after 10,000 good ones (R407, R408); k falls by a step per 8 samples below 102 °C, b rises per 10 at 110 °C and falls per
50 below 107 °C. Each of these is ignored where its count has not been reached. That a tie
names the lowest sensor is log entry 79; that k falls while b is above 0 is log entry 95; that the shutdown's event may be written is log entry
84; from where forced HOVE is entered is log entry 78. -/
def Obligations.TemperatureThresholdsAct : Prop :=
  ∀ s : State, SMap.rising s.dev.th.sensors = true →
    let d := { s.dev with out := [] }
    (∀ raw, s.dev.pw.state = .off → Becomes (.thermalSample raw) s d) ∧
    (∀ (raw : List U16) (n : Nat) (tj : U16), s.dev.pw.state ≠ .off → n < 24 → (s.dev.readSensor raw n).work = tj →
      (∀ i < 24, (s.dev.readSensor raw i).work.toInt ≤ tj.toInt) → (∀ i < n, (s.dev.readSensor raw i).work.toInt < tj.toInt) →
      let hot := fun (t : Dev) => t.th.tj = tj ∧ t.th.tjSensor = n ∧ (∀ i < 24, t.sensor i = s.dev.readSensor raw i) ∧
        t.th.peak = if s.dev.th.peak.toInt < tj.toInt then tj else s.dev.th.peak
      let k := if 1680 ≤ tj.toInt ∧ s.dev.th.k < 15 then s.dev.th.k + 1 else s.dev.th.k
      let b := if 1760 ≤ tj.toInt ∧ s.dev.th.b = 0 then 1 else s.dev.th.b
      let throttled := fun (t : Dev) => t.th.k = k ∧ t.th.b = b ∧ t.th.cls = (if b ≠ 0 then 2 else if k ≠ 0 then 1 else 0) ∧
        t.th.warned = (if sext 16 (s.dev.val 0x800002) ≤ tj.toInt then true
          else if tj.toInt < sext 16 (s.dev.val 0x800002) - 48 then false else s.dev.th.warned)
      (s.dev.pw.latched = true → Runs (.thermalSample raw) s [.th] (fun t => hot t ∧ t.th.k = s.dev.th.k ∧ t.th.b = s.dev.th.b)) ∧
      (s.dev.pw.latched = false → tj.toInt < 2000 →
        (tj.toInt < 1888 ∨ (s.dev.pw.state ≠ .underway ∧ s.dev.pw.state ≠ .hove) →
          Runs (.thermalSample raw) s (eventParts ++ [.th, .trim, .dram]) (fun t => hot t ∧ throttled t ∧ t.dram.data = s.dev.dram.data)) ∧
        (1888 ≤ tj.toInt → (s.dev.pw.state = .underway ∨ s.dev.pw.state = .hove) →
          Runs (.thermalSample raw) s (deliveryParts ++ [.th, .trim, .pw]) (fun t => hot t ∧ throttled t ∧ t.pw.state = .forcedHove))) ∧
      (s.dev.pw.latched = false → 2000 ≤ tj.toInt → Runs (.thermalSample raw) s resetParts (fun t => hot t ∧ throttled t ∧ Cleared s.dev t ∧
        t.pw.state = .shutdown ∧ t.pw.latched = true ∧ t.pw.latchTj = tj ∧ t.pw.cause = s.dev.pw.cause ∧ t.fuses = s.dev.fuses ∧ t.qs = {} ∧
        t.ledger.queue = []))) ∧
    (∀ n : BitVec 5,
      let x := s.dev.sensor n.toNat
      ((x.excluded = true ∨ x.suspect < 3) → Becomes (.sensorExclude n) s d) ∧
      (x.excluded = false → 3 ≤ x.suspect → Runs (.sensorExclude n) s (eventParts ++ [.th, .flt]) (fun t =>
        t.sensor n.toNat = { x with excluded := true, suspect := 0, good := 0 } ∧ t.th.tj = s.dev.th.tj ∧ ∀ i, i ≠ n.toNat → t.sensor i = s.dev.sensor i)) ∧
      ((x.excluded = false ∨ x.good < 10000) → Becomes (.sensorReinclude n) s d) ∧
      (x.excluded = true → 10000 ≤ x.good → Runs (.sensorReinclude n) s [.th] (fun t =>
        t.sensor n.toNat = { x with excluded := false, suspect := 0, good := 0 } ∧ t.th.tj = s.dev.th.tj ∧ ∀ i, i ≠ n.toNat → t.sensor i = s.dev.sensor i))) ∧
    ((s.dev.th.k = 0 ∨ s.dev.th.below102 < 8) → Becomes .classAReleaseStep s d) ∧
    (s.dev.th.k ≠ 0 → 8 ≤ s.dev.th.below102 → Runs .classAReleaseStep s (eventParts ++ [.th]) (fun t =>
      t.th.k = s.dev.th.k - 1 ∧ t.th.b = s.dev.th.b ∧ t.th.below102 = s.dev.th.below102 - 8 ∧ t.th.tj = s.dev.th.tj)) ∧
    ((s.dev.th.b = 0 ∨ 4 ≤ s.dev.th.b ∨ s.dev.th.above110 < 10) → Becomes .classBStepUp s d) ∧
    (s.dev.th.b ≠ 0 → s.dev.th.b < 4 → 10 ≤ s.dev.th.above110 → Becomes .classBStepUp s
      { d with th := { d.th with b := s.dev.th.b + 1, above110 := s.dev.th.above110 - 10 } }) ∧
    ((s.dev.th.b = 0 ∨ s.dev.th.below107 < 50) → Becomes .classBStepDown s d) ∧
    (s.dev.th.b ≠ 0 → 50 ≤ s.dev.th.below107 → Runs .classBStepDown s (eventParts ++ [.th]) (fun t =>
      t.th.b = s.dev.th.b - 1 ∧ t.th.k = s.dev.th.k ∧ t.th.below107 = s.dev.th.below107 - 50 ∧ t.th.tj = s.dev.th.tj)) ∧
    ((s.dev.pw.latched = false ∨ s.dev.th.tj.toInt < -640 ∨ 1600 < s.dev.th.tj.toInt ∨ (s.dev.recordData 0xF602).getD [] ≠ []) → Becomes .shutdownRecordWrite s d) ∧
    (s.dev.pw.latched = true → -640 ≤ s.dev.th.tj.toInt → s.dev.th.tj.toInt ≤ 1600 → s.dev.ledger.sectors = [] → Runs .shutdownRecordWrite s [.ledger, .free] (fun t =>
      t.recordData 0xF602 = some (leBytes 2 s.dev.pw.latchTj.toNat) ∧ t.ledger.queue = s.dev.ledger.queue))

/-- Trim. A run starts by its trigger with RCAL inside 1,980 to 2,020 Ω, and is abandoned outside (R418, R420). An item takes the mean, rounded up, of its first pair
that agrees within 2; four that disagree fall back (R419). A mast trims once none of its packets is outstanding, a DRAM group in its order; a finished run
forms a set, and codes follow the sensors by interpolation between the sets (R422 to R424). The order of items in service, and that a code moves by
steps, is log entry 80; when an accepted code acts is log entry 113. -/
def Obligations.TrimRunsAndFollows : Prop :=
  (∀ (a b : Byte) (rest : List TrimAttempt), Int.natAbs ((a.toNat : Int) - b.toNat) ≤ 2 →
    trimCode 4 ({ a := a, b := b } :: rest) = some (some (BitVec.ofNat 8 ((a.toNat + b.toNat + 1) / 2)))) ∧
  (∀ (x : TrimSet) (i : Nat) (t : Int) (c : Byte), x.codes.getD i none = some c → interpolate [x] i t = some c) ∧
  (∀ (x y : TrimSet) (i : Nat) (c e : Byte), x.codes.getD i none = some c → y.codes.getD i none = some e → x.point.toInt < y.point.toInt →
    interpolate [x, y] i x.point.toInt = some c ∧ interpolate [x, y] i y.point.toInt = some e) ∧
  (∀ s : State, s.dev.powered = true →
    let d := { s.dev with out := [] }
    (∀ (g : TrimTrigger) (rcal : Nat),
      ((s.dev.trim.run ≠ none ∨ s.dev.trimDue g = false) → Becomes (.trimRunStart g rcal) s d) ∧
      (s.dev.trim.run = none → s.dev.trimDue g = true → 1980000 ≤ rcal → rcal ≤ 2020000 → Becomes (.trimRunStart g rcal) s
        (let run : TrimRun := { point := d.th.tj, startAt := d.now, powerUp := decide (g = .powerUp), next := d.now, done := [] }
         { d with trim := { d.trim with rcal := 1, due := false, run := some run } })) ∧
      (s.dev.trim.run = none → s.dev.trimDue g = true → (rcal < 1980000 ∨ 2020000 < rcal) → Runs (.trimRunStart g rcal) s (eventParts ++ [.trim])
        (fun t => t.trim = { s.dev.trim with rcal := 2, due := false, codes := [] }))) ∧
    (s.dev.trim.run = none → (∀ m a, Becomes (.mastTrimSlot m a) s d) ∧ (∀ g a, Becomes (.dramPhyTrimSlot g a) s d) ∧
      (∀ rest, Becomes (.trimRunComplete rest) s d)) ∧
    (∀ r, s.dev.trim.run = some r →
      (∀ (m : MastId) (a : List TrimAttempt),
        (s.dev.mastTurn r m = false → Becomes (.mastTrimSlot m a) s d) ∧
        (s.dev.mastTurn r m = true →
          ((∃ p ∈ s.dev.push.plots, p.mast = m ∧ p.pkt ≠ .waiting) → Becomes (.mastTrimSlot m a) s
            (d.setMast m { s.dev.mast m with withhold := true })) ∧
          ((∀ p ∈ s.dev.push.plots, p.mast = m → p.pkt = .waiting ∧ p.retry = false) → (∀ x ∈ sailsOf m, (s.dev.sail x).out = none) →
            (∀ c, trimCode 4 a = some (some c) → Runs (.mastTrimSlot m a) s [.push, .trim] (fun t =>
              t.trim = { s.dev.trim with run := some { r with done := r.done ++ [(m.toNat, some c)], next := s.dev.now + 1000 } } ∧ (t.mast m).state = .service ∧
              (t.mast m).withhold = false ∧ t.push.plots = s.dev.push.plots)) ∧
            (trimCode 4 a = some none → Runs (.mastTrimSlot m a) s (eventParts ++ [.push, .trim]) (fun t =>
              t.trim.run = some { r with done := r.done ++ [(m.toNat, none)], next := s.dev.now + 1000 } ∧ t.trim.sets = s.dev.trim.sets))))) ∧
      (∀ (g : BitVec 2) (a : List TrimAttempt),
        let turn := s.dev.up && !r.powerUp && r.has 36 && r.groupsDone g.toNat && decide (r.next ≤ s.dev.now) && !s.dev.retrainHolds
        (turn = false → Becomes (.dramPhyTrimSlot g a) s d) ∧
        (∀ c, turn = true → r.has (32 + g.toNat) = false → trimCode 4 a = some (some c) → Becomes (.dramPhyTrimSlot g a) s
          (let run : TrimRun := { r with done := r.done ++ [(32 + g.toNat, some c)], next := s.dev.now + (if g = 3 then 0 else 20000) }
           { d with trim := { d.trim with run := some run } }))) ∧
      ((∀ i < 37, r.has i = true) → Runs (.trimRunComplete []) s (eventParts ++ [.trim, .ledger]) (fun t =>
        t.trim.run = none ∧ t.trim.lastTemp = r.point ∧ (∃ x ∈ t.trim.sets, x.point = r.point) ∧
        (s.dev.trim.sets.length ≤ 8 → t.trim.sets.length ≤ 8))) ∧
      ((∃ i, i < mastsOf s.dev.fuses.md0512 ∧ r.has i = false) → Becomes (.trimRunComplete []) s d)) ∧
    (s.dev.up = false → s.dev.pw.state ≠ .boot → Becomes .trimInterpolate s d) ∧
    ((s.dev.up = true ∨ s.dev.pw.state = .boot) → Runs .trimInterpolate s [.trim] (fun t =>
      (∀ i < 37, SMap.get none t.trim.codes i =
        if s.dev.trim.rcal = 2 then none else interpolate s.dev.trim.sets i (s.dev.sensor (trimSensor i)).work.toInt) ∧
      t.trim.sets = s.dev.trim.sets ∧ t.trim.run = s.dev.trim.run ∧
      (s.dev.up = true → ∀ m : MastId, s.dev.serialising m = true → t.trimNow m.toNat = s.dev.trimNow m.toNat))))

/-! ### Ledger, self-test, test port (files 20, 21) -/

/-- The ledger's queue and counters. A write starts for the first request waiting, under the conditions of R433, and takes it from the queue; one with no room
is dropped (R434); completion ends it. A record created in an erased ledger is written to both banks, and is not valid before (R430). A
counter step clears the next bit of its ring; the refresh reads the next of 2,048 pages (R437 to R439). Which sector is
opened, and how full is reckoned, is log entry 81; when counter steps are programmed is log entry 83; that a full ring is queued again is log entry
114. -/
def Obligations.LedgerWritesAndCounts : Prop :=
  ∀ s : State, s.dev.powered = true →
    let d := { s.dev with out := [] }
    Runs .ledgerWrite s [.ledger, .free] (fun t => t.ledger.pw = s.dev.ledger.pw ∧ t.ledger.scan = s.dev.ledger.scan) ∧
    ((∀ n < 10, (s.dev.ringOf n).ram < ringStep n ∨ s.dev.mayCount n = false) →
      ((s.dev.ledger.queue = [] ∨ s.dev.mayWrite = false) → Becomes .ledgerWrite s d) ∧
      (∀ r rest, s.dev.ledger.queue = r :: rest → s.dev.mayWrite = true →
        Runs .ledgerWrite s [.ledger, .free] (fun t => t.ledger.queue = rest ∧ t.ledger.rings = s.dev.ledger.rings ∧ t.ledger.pw = s.dev.ledger.pw) ∧
        (∀ id data, r = .record id data → s.dev.nvmFull id data.length = true →
          Becomes .ledgerWrite s { d with ledger := { d.ledger with queue := rest } }) ∧
        (∀ n, r = .compact n → Becomes .ledgerWrite s { d with ledger := { d.ledger with queue := rest, writing := some (.compact n, []) } }) ∧
        (∀ id data, r = .record id data → data.length ≤ 3824 → s.dev.ledger.sectors = [] → Runs .ledgerWrite s [.ledger, .free] (fun t =>
          let raw := recordBytes id 1 data
          let head := sectorHeader 0 0
          t.recordData id = none ∧ ∃ a ∈ bankSectors 0, ∃ b ∈ bankSectors 1, t.ledger.writing = some (r,
            [{ sector := a, page := 0, bytes := head }, { sector := a, page := 1, bytes := raw },
             { sector := b, page := 0, bytes := head }, { sector := b, page := 1, bytes := raw }]))))) ∧
    (s.dev.ledger.writing = none → Becomes .ledgerWriteComplete s d) ∧
    (s.dev.ledger.writing ≠ none → Runs .ledgerWriteComplete s [.ledger, .free] (fun t => t.ledger.writing = none ∧
      t.ledger.queue = s.dev.ledger.queue ∧ t.ledger.scan = s.dev.ledger.scan)) ∧
    (∀ n : BitVec 4,
      let r := s.dev.ringOf n.toNat
      let ram := if n.toNat < 2 then r.ram + 1 else r.ram
      let steps := ram / ringStep n.toNat
      let done := (if r.blank then 0 else r.bits) + steps
      let others := fun (t : Dev) => (∀ k, k ≠ n.toNat → t.ringOf k = s.dev.ringOf k) ∧
        t.ledger.sectors = s.dev.ledger.sectors ∧ t.ledger.writing = s.dev.ledger.writing
      ((10 ≤ n.toNat ∨ (n.toNat = 1 ∧ s.dev.pw.state ≠ .underway)) → Becomes (.counterStep n) s d) ∧
      (n.toNat < 10 → (n.toNat = 1 → s.dev.pw.state = .underway) →
        ((steps = 0 ∨ s.dev.mayCount n.toNat = false) → Runs (.counterStep n) s [.ledger] (fun t =>
          t.ringOf n.toNat = { r with ram := ram } ∧ t.ledger.queue = s.dev.ledger.queue ∧ others t)) ∧
        (steps ≠ 0 → s.dev.mayCount n.toNat = true → done ≤ 32704 → Runs (.counterStep n) s [.ledger] (fun t =>
          (t.ringOf n.toNat).ram = ram % ringStep n.toNat ∧ (t.ringOf n.toNat).bits = done ∧ (t.ringOf n.toNat).blank = false ∧ others t)))) ∧
    (∀ w : Nat, (s.dev.up = false → Becomes (.ledgerRefreshScan w) s d) ∧
      (s.dev.up = true → Runs (.ledgerRefreshScan w) s (eventParts ++ [.ledger]) (fun t => t.ledger.scan = (s.dev.ledger.scan + 1) % 2048 ∧
        t.ledger.sectors = s.dev.ledger.sectors ∧ t.ledger.rings = s.dev.ledger.rings ∧ t.ledger.writing = s.dev.ledger.writing)))

/-- The test access port and the self-test. IDCODE, BYPASS and boundary scan answer whenever the device has power, but boundary scan not while a mast is in
service; the private instructions answer by life cycle, RETURN_AUTH in DEPLOYED only (R454, R456, R457). Raw access needs the partition's password (R443,
R444). A self-test starts in turn and within its limits, and ends OFFLINE or FENCED (R461, R463, R464). What the pins sample is free (log entry 3). The port
is held in reset while a shutdown is latched (R415, R473). The
instruction register's reset is log entry 14, the registers' lengths and order log entry 85, the order of the checks of a self-test, and what it
reads of the circuits, log entries 86 and 115. -/
def Obligations.TestPortAndSelfTest : Prop :=
  ∀ s : State,
    let d := { s.dev with out := [] }
    let quiet := fun (code : Byte) => { s.dev.flt with extest := false, ir := code }
    let there := fun (p : Nat) => ¬(s.dev.fuses.md0512 = true ∧ 20 ≤ p ∧ p ≤ 23)
    let bypassed := fun (code : Byte) => { s.dev with flt := quiet code, out := [.jtag [false]] }
    ((s.dev.pw.state = .off ∨ s.dev.pw.latched = true) → Becomes .bypass s d ∧ Becomes .idcode s d ∧ ∀ bits, Becomes (.extest bits) s d ∧ Becomes (.samplePreload bits) s d) ∧
    (s.dev.pw.state ≠ .off → s.dev.pw.latched = false →
      Becomes .bypass s (bypassed 0xFF) ∧
      Becomes .idcode s { s.dev with
        flt := quiet 0x01
        out := [.jtag (shiftBits 32 (0x10000001 + (if s.dev.fuses.md0512 then 0x0512 else 0x1024) * 4096 + s.dev.fuses.jtagMfr.toNat * 2))] } ∧
      (∀ bits : List Bool,
        (s.dev.noScan = true → Becomes (.extest bits) s (bypassed 0x00) ∧ Becomes (.samplePreload bits) s (bypassed 0x02)) ∧
        (s.dev.noScan = false →
          Runs (.extest bits) s [.flt, .free] (fun t => t.flt = { s.dev.flt with scan := bits, extest := true, ir := 0x00 } ∧
            ∃ bs, t.out = [.jtag bs] ∧ bs.length = bits.length) ∧
          Runs (.samplePreload bits) s [.flt, .free] (fun t => t.flt = { quiet 0x02 with scan := bits } ∧
            ∃ bs, t.out = [.jtag bs] ∧ bs.length = bits.length)))) ∧
    (s.dev.powered = true → s.dev.pw.latched = false →
      (∀ key sig, (s.dev.fuses.lifeCycle ≠ 2 → Becomes (.returnAuth key sig) s (bypassed 0x42)) ∧
        (s.dev.fuses.lifeCycle = 2 →
          let ok := s.dev.fuses.keyDigests.contains (Config.sha384 key) && Config.ecdsaP384 key sig (s.dev.fuses.serial ++ [0x03])
          Becomes (.returnAuth key sig) s { s.dev with
            flt := { quiet 0x42 with authOk := ok }
            fuses := { s.dev.fuses with lifeNext := if ok then some 3 else s.dev.fuses.lifeNext }
            out := [.jtag (shiftBits 32 (if ok then 1 else 0))] })) ∧
      (s.dev.privateJtag = false → (∀ a, Becomes (.ledgerRaw a) s (bypassed 0x40)) ∧ ∀ r, Becomes (.bistCtrl r) s (bypassed 0x41)) ∧
      (s.dev.privateJtag = true →
        (∀ (a : RawAccess) (p : Nat), recPart a.record.toNat = some p →
          (a.write = false → (s.dev.digests p).2 = List.replicate 48 0 → s.dev.pwLocked p = false → Becomes (.ledgerRaw a) s { s.dev with
            flt := quiet 0x40
            out := [.jtag (((s.dev.recordData a.record.toNat).getD []).flatMap (fun x => shiftBits 8 x.toNat))] }) ∧
          (a.write = true → a.data.length ≤ 3824 → (s.dev.digests p).1 = List.replicate 48 0 → s.dev.pwLocked p = false → Becomes (.ledgerRaw a) s
            { d.queueRecord a.record.toNat a.data with flt := quiet 0x40, out := [.jtag []] }) ∧
          (s.dev.pwLocked p = true → Becomes (.ledgerRaw a) s { s.dev with flt := quiet 0x40, out := [.jtag []] }) ∧
          (s.dev.pwLocked p = false → (if a.write then (s.dev.digests p).1 else (s.dev.digests p).2) ≠ List.replicate 48 0 →
            (if a.write then (s.dev.digests p).1 else (s.dev.digests p).2) ≠ s.dev.digest a.password → Runs (.ledgerRaw a) s [.flt, .pw] (fun t =>
              t.out = [.jtag []] ∧ SMap.get 0 t.pw.pwFails p = SMap.get 0 s.dev.pw.pwFails p + 1 ∧
              t.pw.state = s.dev.pw.state))) ∧
        (∀ p : Byte, Becomes (.bistCtrl (.read p)) s { s.dev with flt := quiet 0x41, out := [.jtag (shiftBits 32 (s.dev.partEntry p.toNat))] }) ∧
        (∀ p tests : Byte, (s.dev.bistCheck p.toNat tests.toNat ≠ 0 → Becomes (.bistCtrl (.request p tests)) s
            { s.dev with flt := quiet 0x41, out := [.jtag []] }) ∧
          (s.dev.bistCheck p.toNat tests.toNat = 0 → p ≠ 0xFF → there p.toNat → Runs (.bistCtrl (.request p tests)) s [.flt] (fun t =>
            (t.partn p.toNat).state = .bist ∧ (t.partn p.toNat).prev = (s.dev.partn p.toNat).state ∧ (t.partn p.toNat).tests = tests.toNat ∧
            t.out = [.jtag []])))) ∧
      (s.dev.flt.queue = [] → Becomes .bistStart s d) ∧
      (∀ p rest, s.dev.flt.queue = p :: rest →
        ((4 ≤ s.dev.bistRunning.length ∨ s.dev.th.k ≠ 0 ∨ s.dev.th.b ≠ 0 ∨ (s.dev.up = false ∧ s.dev.pw.fullRun = none ∧ s.dev.pw.state ≠ .recovery)) →
          Becomes .bistStart s d) ∧
        ((s.dev.up = true ∨ s.dev.pw.fullRun ≠ none ∨ s.dev.pw.state = .recovery) → there p → s.dev.bistRunning = [] → s.dev.th.k = 0 → s.dev.th.b = 0 → bistPower p ≤ 10 * s.dev.val 0xC01001 →
          Runs .bistStart s [.flt] (fun t => t.flt.queue = rest ∧ t.partn p = { s.dev.partn p with running := true } ∧
            ∀ x, x ≠ p → t.partn x = s.dev.partn x))) ∧
      (∀ (p : BitVec 6) (r : BistResult),
        let x := s.dev.partn p.toNat
        let after := fun (st : PartState) (last : Nat) (t : Dev) =>
          t.partn p.toNat = { x with state := st, last := last, running := false, tests := 0 } ∧ t.flt.queue = s.dev.flt.queue ∧
          ∀ n, n ≠ p.toNat → t.partn n = s.dev.partn n
        (x.running = false → Becomes (.bistComplete p r) s d) ∧
        (x.running = true → s.dev.bistVerdict p.toNat x.tests r = none →
          Runs (.bistComplete p r) s (eventParts ++ [.flt] ++ (if p.toNat ≤ 7 then [.push, .dram] else if p.toNat ≤ 11 then [.intake] else []))
            (after (if s.dev.pw.fullRun.isSome then .inService else .offline) 1)) ∧
        (x.running = true → s.dev.bistVerdict p.toNat x.tests r ≠ none →
          Runs (.bistComplete p r) s (eventParts ++ [.flt] ++ (if p.toNat ≤ 7 then [.push, .dram] else if p.toNat ≤ 11 then
            [.qs, .intake, .dram, .draws, .free] else [])) (fun t => after .fenced 2 t ∧
              (∀ c : ClusterId, c.toNat = p.toNat → (t.cluster c).cause = if (s.dev.cluster c).cause = 0 then 5 else (s.dev.cluster c).cause) ∧
              ∀ u : ThresherId, 8 + u.toNat / 4 = p.toNat → (t.thresher u).fenced = true))))

/-! ### The state after reset, and what every step keeps -/

/-- After reset (R26, R27, R30, R44, R65, R195): HOST_ID identifies the MD-1024, no session is open, READY, VIOL and INT_MOD's TIME are 0 and COUNT is 1, every aperture is closed,
every queue DISABLED, the ring disabled, no command waits, no buffer is allocated, tack 1 is OPEN and tack 0 RETIRED, DRAM lists nothing,
and what every step keeps holds. -/
def Obligations.ResetLeavesTheBlockIdle : Prop :=
  State.reset.pending = [] ∧ State.reset.dev.out = [] ∧
  (∀ p : Path, State.reset.dev.bar0Word p 0 = 0x1024B001 ∧ State.reset.dev.bar0Word p 0x10 = 0 ∧ State.reset.dev.bar0Word p 0x14 = 0 ∧
    State.reset.dev.bar0Word p 0x18 = 1) ∧
  (∀ n : Nat, State.reset.dev.ap n = {} ∧ (State.reset.dev.ap n).ctrl = 0) ∧
  (∀ q : QueueId, (State.reset.dev.queue q).state = .disabled ∧ (State.reset.dev.queue q).status = 0) ∧
  State.reset.dev.ring.status = 0 ∧ State.reset.dev.ring.dropped = 0 ∧ (∀ h g, State.reset.dev.live { handle := h, gen := g } = false) ∧
  State.reset.dev.openTack = 1 ∧ State.reset.dev.tack.retired = 0 ∧ State.reset.dev.tack.act = none ∧ State.reset.dev.comp.pend = [] ∧
  Memory.wf State.reset.dev = true ∧ TablesRise State.reset.dev ∧ BuffersAreApart State.reset.dev ∧ IdsAreFresh State.reset.dev ∧
  ∀ a, State.reset.dev.byteAt a = 0

/-- Every step keeps DRAM in its canonical form: addresses strictly rising, and no listed byte that reads as an unlisted one. The form is the model's (log entry 4). -/
def Obligations.StepsKeepMemoryCanonical : Prop :=
  ∀ s t : State, Memory.wf s.dev = true → step s = .next t → Memory.wf t.dev = true

/-- Every step keeps the keys of the device's tables rising, which the statements about single entries take as a premise; with them it keeps the
LIVE and FREEING buffers apart (R54), and every id of an incomplete command below the next one (R48). -/
def Obligations.StepsKeepTheTablesInOrder : Prop :=
  ∀ s t : State, TablesRise s.dev → step s = .next t →
    TablesRise t.dev ∧ (BuffersAreApart s.dev → BuffersAreApart t.dev) ∧ (IdsAreFresh s.dev → IdsAreFresh t.dev)
end

