-- ==== Sys2Proof/Laws/State.lean ====
section
/-! SUPPORT. Generated lemma by lemma: what every small update of the state leaves as it was, true by rfl, so that no proof unfolds a
record update. -/

namespace Sys2Proof.Machine

/-! #### `begin` changes out and nothing else -/

@[simp] theorem Dev.begin_fuses (d : Dev) : (d.begin).fuses = d.fuses := rfl
@[simp] theorem Dev.begin_link (d : Dev) : (d.begin).link = d.link := rfl
@[simp] theorem Dev.begin_host (d : Dev) : (d.begin).host = d.host := rfl
@[simp] theorem Dev.begin_xfer (d : Dev) : (d.begin).xfer = d.xfer := rfl
@[simp] theorem Dev.begin_ring (d : Dev) : (d.begin).ring = d.ring := rfl
@[simp] theorem Dev.begin_qs (d : Dev) : (d.begin).qs = d.qs := rfl
@[simp] theorem Dev.begin_intake (d : Dev) : (d.begin).intake = d.intake := rfl
@[simp] theorem Dev.begin_comp (d : Dev) : (d.begin).comp = d.comp := rfl
@[simp] theorem Dev.begin_tack (d : Dev) : (d.begin).tack = d.tack := rfl
@[simp] theorem Dev.begin_push (d : Dev) : (d.begin).push = d.push := rfl
@[simp] theorem Dev.begin_draws (d : Dev) : (d.begin).draws = d.draws := rfl
@[simp] theorem Dev.begin_dram (d : Dev) : (d.begin).dram = d.dram := rfl
@[simp] theorem Dev.begin_memlog (d : Dev) : (d.begin).memlog = d.memlog := rfl
@[simp] theorem Dev.begin_dict (d : Dev) : (d.begin).dict = d.dict := rfl
@[simp] theorem Dev.begin_pw (d : Dev) : (d.begin).pw = d.pw := rfl
@[simp] theorem Dev.begin_fw (d : Dev) : (d.begin).fw = d.fw := rfl
@[simp] theorem Dev.begin_th (d : Dev) : (d.begin).th = d.th := rfl
@[simp] theorem Dev.begin_trim (d : Dev) : (d.begin).trim = d.trim := rfl
@[simp] theorem Dev.begin_ledger (d : Dev) : (d.begin).ledger = d.ledger := rfl
@[simp] theorem Dev.begin_flt (d : Dev) : (d.begin).flt = d.flt := rfl
@[simp] theorem Dev.begin_lines (d : Dev) : (d.begin).lines = d.lines := rfl
@[simp] theorem Dev.begin_now (d : Dev) : (d.begin).now = d.now := rfl
@[simp] theorem Dev.begin_free (d : Dev) : (d.begin).free = d.free := rfl
@[simp] theorem Dev.begin_queue (d : Dev) (q : QueueId) : (d.begin).queue q = d.queue q := rfl
@[simp] theorem Dev.begin_buf (d : Dev) (h : U16) : (d.begin).buf h = d.buf h := rfl
@[simp] theorem Dev.begin_slot (d : Dev) (n : Nat) : (d.begin).slot n = d.slot n := rfl
@[simp] theorem Dev.begin_feed (d : Dev) (f : FeedId) : (d.begin).feed f = d.feed f := rfl
@[simp] theorem Dev.begin_thresher (d : Dev) (i : ThresherId) : (d.begin).thresher i = d.thresher i := rfl
@[simp] theorem Dev.begin_vslot (d : Dev) (n : Nat) : (d.begin).vslot n = d.vslot n := rfl
@[simp] theorem Dev.begin_sail (d : Dev) (i : SailId) : (d.begin).sail i = d.sail i := rfl
@[simp] theorem Dev.begin_mast (d : Dev) (i : MastId) : (d.begin).mast i = d.mast i := rfl
@[simp] theorem Dev.begin_cluster (d : Dev) (i : ClusterId) : (d.begin).cluster i = d.cluster i := rfl
@[simp] theorem Dev.begin_chan (d : Dev) (n : Nat) : (d.begin).chan n = d.chan n := rfl
@[simp] theorem Dev.begin_sensor (d : Dev) (n : Nat) : (d.begin).sensor n = d.sensor n := rfl
@[simp] theorem Dev.begin_partn (d : Dev) (n : Nat) : (d.begin).partn n = d.partn n := rfl
@[simp] theorem Dev.begin_ap (d : Dev) (n : Nat) : (d.begin).ap n = d.ap n := rfl
@[simp] theorem Dev.begin_val (d : Dev) (k : Nat) : (d.begin).val k = d.val k := rfl
@[simp] theorem Dev.begin_tval (d : Dev) (k : Nat) : (d.begin).tval k = d.tval k := rfl
@[simp] theorem Dev.begin_openTack (d : Dev) : (d.begin).openTack = d.openTack := rfl
@[simp] theorem Dev.begin_powered (d : Dev) : (d.begin).powered = d.powered := rfl
@[simp] theorem Dev.begin_up (d : Dev) : (d.begin).up = d.up := rfl
@[simp] theorem Dev.begin_live (d : Dev) (r : BufRef) : (d.begin).live r = d.live r := rfl
@[simp] theorem Dev.begin_sizeOf (d : Dev) (r : BufRef) : (d.begin).sizeOf r = d.sizeOf r := rfl
@[simp] theorem Dev.begin_byteAt (d : Dev) (a : Nat) : (d.begin).byteAt a = d.byteAt a := rfl
@[simp] theorem Dev.begin_sailExists (d : Dev) (n : Nat) : (d.begin).sailExists n = d.sailExists n := rfl
@[simp] theorem Dev.begin_mastList (d : Dev) : (d.begin).mastList = d.mastList := rfl
@[simp] theorem Dev.begin_freeAt (d : Dev) (n : Nat) : (d.begin).freeAt n = d.freeAt n := rfl

/-! #### `setQueue` changes qs.queues and nothing else -/

@[simp] theorem Dev.setQueue_fuses (d : Dev) (q0 : QueueId) (x : Queue) : (d.setQueue q0 x).fuses = d.fuses := rfl
@[simp] theorem Dev.setQueue_link (d : Dev) (q0 : QueueId) (x : Queue) : (d.setQueue q0 x).link = d.link := rfl
@[simp] theorem Dev.setQueue_host (d : Dev) (q0 : QueueId) (x : Queue) : (d.setQueue q0 x).host = d.host := rfl
@[simp] theorem Dev.setQueue_xfer (d : Dev) (q0 : QueueId) (x : Queue) : (d.setQueue q0 x).xfer = d.xfer := rfl
@[simp] theorem Dev.setQueue_ring (d : Dev) (q0 : QueueId) (x : Queue) : (d.setQueue q0 x).ring = d.ring := rfl
@[simp] theorem Dev.setQueue_qs_lastGrant (d : Dev) (q0 : QueueId) (x : Queue) : (d.setQueue q0 x).qs.lastGrant = d.qs.lastGrant := rfl
@[simp] theorem Dev.setQueue_qs_nextId (d : Dev) (q0 : QueueId) (x : Queue) : (d.setQueue q0 x).qs.nextId = d.qs.nextId := rfl
@[simp] theorem Dev.setQueue_qs_cmds (d : Dev) (q0 : QueueId) (x : Queue) : (d.setQueue q0 x).qs.cmds = d.qs.cmds := rfl
@[simp] theorem Dev.setQueue_qs_bufs (d : Dev) (q0 : QueueId) (x : Queue) : (d.setQueue q0 x).qs.bufs = d.qs.bufs := rfl
@[simp] theorem Dev.setQueue_qs_fresh (d : Dev) (q0 : QueueId) (x : Queue) : (d.setQueue q0 x).qs.fresh = d.qs.fresh := rfl
@[simp] theorem Dev.setQueue_qs_freed (d : Dev) (q0 : QueueId) (x : Queue) : (d.setQueue q0 x).qs.freed = d.qs.freed := rfl
@[simp] theorem Dev.setQueue_qs_slots (d : Dev) (q0 : QueueId) (x : Queue) : (d.setQueue q0 x).qs.slots = d.qs.slots := rfl
@[simp] theorem Dev.setQueue_qs_fences (d : Dev) (q0 : QueueId) (x : Queue) : (d.setQueue q0 x).qs.fences = d.qs.fences := rfl
@[simp] theorem Dev.setQueue_qs_holds (d : Dev) (q0 : QueueId) (x : Queue) : (d.setQueue q0 x).qs.holds = d.qs.holds := rfl
@[simp] theorem Dev.setQueue_qs_dmas (d : Dev) (q0 : QueueId) (x : Queue) : (d.setQueue q0 x).qs.dmas = d.qs.dmas := rfl
@[simp] theorem Dev.setQueue_intake (d : Dev) (q0 : QueueId) (x : Queue) : (d.setQueue q0 x).intake = d.intake := rfl
@[simp] theorem Dev.setQueue_comp (d : Dev) (q0 : QueueId) (x : Queue) : (d.setQueue q0 x).comp = d.comp := rfl
@[simp] theorem Dev.setQueue_tack (d : Dev) (q0 : QueueId) (x : Queue) : (d.setQueue q0 x).tack = d.tack := rfl
@[simp] theorem Dev.setQueue_push (d : Dev) (q0 : QueueId) (x : Queue) : (d.setQueue q0 x).push = d.push := rfl
@[simp] theorem Dev.setQueue_draws (d : Dev) (q0 : QueueId) (x : Queue) : (d.setQueue q0 x).draws = d.draws := rfl
@[simp] theorem Dev.setQueue_dram (d : Dev) (q0 : QueueId) (x : Queue) : (d.setQueue q0 x).dram = d.dram := rfl
@[simp] theorem Dev.setQueue_memlog (d : Dev) (q0 : QueueId) (x : Queue) : (d.setQueue q0 x).memlog = d.memlog := rfl
@[simp] theorem Dev.setQueue_dict (d : Dev) (q0 : QueueId) (x : Queue) : (d.setQueue q0 x).dict = d.dict := rfl
@[simp] theorem Dev.setQueue_pw (d : Dev) (q0 : QueueId) (x : Queue) : (d.setQueue q0 x).pw = d.pw := rfl
@[simp] theorem Dev.setQueue_fw (d : Dev) (q0 : QueueId) (x : Queue) : (d.setQueue q0 x).fw = d.fw := rfl
@[simp] theorem Dev.setQueue_th (d : Dev) (q0 : QueueId) (x : Queue) : (d.setQueue q0 x).th = d.th := rfl
@[simp] theorem Dev.setQueue_trim (d : Dev) (q0 : QueueId) (x : Queue) : (d.setQueue q0 x).trim = d.trim := rfl
@[simp] theorem Dev.setQueue_ledger (d : Dev) (q0 : QueueId) (x : Queue) : (d.setQueue q0 x).ledger = d.ledger := rfl
@[simp] theorem Dev.setQueue_flt (d : Dev) (q0 : QueueId) (x : Queue) : (d.setQueue q0 x).flt = d.flt := rfl
@[simp] theorem Dev.setQueue_lines (d : Dev) (q0 : QueueId) (x : Queue) : (d.setQueue q0 x).lines = d.lines := rfl
@[simp] theorem Dev.setQueue_now (d : Dev) (q0 : QueueId) (x : Queue) : (d.setQueue q0 x).now = d.now := rfl
@[simp] theorem Dev.setQueue_free (d : Dev) (q0 : QueueId) (x : Queue) : (d.setQueue q0 x).free = d.free := rfl
@[simp] theorem Dev.setQueue_out (d : Dev) (q0 : QueueId) (x : Queue) : (d.setQueue q0 x).out = d.out := rfl
@[simp] theorem Dev.setQueue_buf (d : Dev) (q0 : QueueId) (x : Queue) (h : U16) : (d.setQueue q0 x).buf h = d.buf h := rfl
@[simp] theorem Dev.setQueue_slot (d : Dev) (q0 : QueueId) (x : Queue) (n : Nat) : (d.setQueue q0 x).slot n = d.slot n := rfl
@[simp] theorem Dev.setQueue_feed (d : Dev) (q0 : QueueId) (x : Queue) (f : FeedId) : (d.setQueue q0 x).feed f = d.feed f := rfl
@[simp] theorem Dev.setQueue_thresher (d : Dev) (q0 : QueueId) (x : Queue) (i : ThresherId) : (d.setQueue q0 x).thresher i = d.thresher i := rfl
@[simp] theorem Dev.setQueue_vslot (d : Dev) (q0 : QueueId) (x : Queue) (n : Nat) : (d.setQueue q0 x).vslot n = d.vslot n := rfl
@[simp] theorem Dev.setQueue_sail (d : Dev) (q0 : QueueId) (x : Queue) (i : SailId) : (d.setQueue q0 x).sail i = d.sail i := rfl
@[simp] theorem Dev.setQueue_mast (d : Dev) (q0 : QueueId) (x : Queue) (i : MastId) : (d.setQueue q0 x).mast i = d.mast i := rfl
@[simp] theorem Dev.setQueue_cluster (d : Dev) (q0 : QueueId) (x : Queue) (i : ClusterId) : (d.setQueue q0 x).cluster i = d.cluster i := rfl
@[simp] theorem Dev.setQueue_chan (d : Dev) (q0 : QueueId) (x : Queue) (n : Nat) : (d.setQueue q0 x).chan n = d.chan n := rfl
@[simp] theorem Dev.setQueue_sensor (d : Dev) (q0 : QueueId) (x : Queue) (n : Nat) : (d.setQueue q0 x).sensor n = d.sensor n := rfl
@[simp] theorem Dev.setQueue_partn (d : Dev) (q0 : QueueId) (x : Queue) (n : Nat) : (d.setQueue q0 x).partn n = d.partn n := rfl
@[simp] theorem Dev.setQueue_ap (d : Dev) (q0 : QueueId) (x : Queue) (n : Nat) : (d.setQueue q0 x).ap n = d.ap n := rfl
@[simp] theorem Dev.setQueue_val (d : Dev) (q0 : QueueId) (x : Queue) (k : Nat) : (d.setQueue q0 x).val k = d.val k := rfl
@[simp] theorem Dev.setQueue_tval (d : Dev) (q0 : QueueId) (x : Queue) (k : Nat) : (d.setQueue q0 x).tval k = d.tval k := rfl
@[simp] theorem Dev.setQueue_openTack (d : Dev) (q0 : QueueId) (x : Queue) : (d.setQueue q0 x).openTack = d.openTack := rfl
@[simp] theorem Dev.setQueue_powered (d : Dev) (q0 : QueueId) (x : Queue) : (d.setQueue q0 x).powered = d.powered := rfl
@[simp] theorem Dev.setQueue_up (d : Dev) (q0 : QueueId) (x : Queue) : (d.setQueue q0 x).up = d.up := rfl
@[simp] theorem Dev.setQueue_live (d : Dev) (q0 : QueueId) (x : Queue) (r : BufRef) : (d.setQueue q0 x).live r = d.live r := rfl
@[simp] theorem Dev.setQueue_sizeOf (d : Dev) (q0 : QueueId) (x : Queue) (r : BufRef) : (d.setQueue q0 x).sizeOf r = d.sizeOf r := rfl
@[simp] theorem Dev.setQueue_byteAt (d : Dev) (q0 : QueueId) (x : Queue) (a : Nat) : (d.setQueue q0 x).byteAt a = d.byteAt a := rfl
@[simp] theorem Dev.setQueue_sailExists (d : Dev) (q0 : QueueId) (x : Queue) (n : Nat) : (d.setQueue q0 x).sailExists n = d.sailExists n := rfl
@[simp] theorem Dev.setQueue_mastList (d : Dev) (q0 : QueueId) (x : Queue) : (d.setQueue q0 x).mastList = d.mastList := rfl
@[simp] theorem Dev.setQueue_freeAt (d : Dev) (q0 : QueueId) (x : Queue) (n : Nat) : (d.setQueue q0 x).freeAt n = d.freeAt n := rfl

/-! #### `hold` changes qs.queues and nothing else -/

@[simp] theorem Dev.hold_fuses (d : Dev) (q0 : QueueId) (x : Hold) : (d.hold q0 x).fuses = d.fuses := rfl
@[simp] theorem Dev.hold_link (d : Dev) (q0 : QueueId) (x : Hold) : (d.hold q0 x).link = d.link := rfl
@[simp] theorem Dev.hold_host (d : Dev) (q0 : QueueId) (x : Hold) : (d.hold q0 x).host = d.host := rfl
@[simp] theorem Dev.hold_xfer (d : Dev) (q0 : QueueId) (x : Hold) : (d.hold q0 x).xfer = d.xfer := rfl
@[simp] theorem Dev.hold_ring (d : Dev) (q0 : QueueId) (x : Hold) : (d.hold q0 x).ring = d.ring := rfl
@[simp] theorem Dev.hold_qs_lastGrant (d : Dev) (q0 : QueueId) (x : Hold) : (d.hold q0 x).qs.lastGrant = d.qs.lastGrant := rfl
@[simp] theorem Dev.hold_qs_nextId (d : Dev) (q0 : QueueId) (x : Hold) : (d.hold q0 x).qs.nextId = d.qs.nextId := rfl
@[simp] theorem Dev.hold_qs_cmds (d : Dev) (q0 : QueueId) (x : Hold) : (d.hold q0 x).qs.cmds = d.qs.cmds := rfl
@[simp] theorem Dev.hold_qs_bufs (d : Dev) (q0 : QueueId) (x : Hold) : (d.hold q0 x).qs.bufs = d.qs.bufs := rfl
@[simp] theorem Dev.hold_qs_fresh (d : Dev) (q0 : QueueId) (x : Hold) : (d.hold q0 x).qs.fresh = d.qs.fresh := rfl
@[simp] theorem Dev.hold_qs_freed (d : Dev) (q0 : QueueId) (x : Hold) : (d.hold q0 x).qs.freed = d.qs.freed := rfl
@[simp] theorem Dev.hold_qs_slots (d : Dev) (q0 : QueueId) (x : Hold) : (d.hold q0 x).qs.slots = d.qs.slots := rfl
@[simp] theorem Dev.hold_qs_fences (d : Dev) (q0 : QueueId) (x : Hold) : (d.hold q0 x).qs.fences = d.qs.fences := rfl
@[simp] theorem Dev.hold_qs_holds (d : Dev) (q0 : QueueId) (x : Hold) : (d.hold q0 x).qs.holds = d.qs.holds := rfl
@[simp] theorem Dev.hold_qs_dmas (d : Dev) (q0 : QueueId) (x : Hold) : (d.hold q0 x).qs.dmas = d.qs.dmas := rfl
@[simp] theorem Dev.hold_intake (d : Dev) (q0 : QueueId) (x : Hold) : (d.hold q0 x).intake = d.intake := rfl
@[simp] theorem Dev.hold_comp (d : Dev) (q0 : QueueId) (x : Hold) : (d.hold q0 x).comp = d.comp := rfl
@[simp] theorem Dev.hold_tack (d : Dev) (q0 : QueueId) (x : Hold) : (d.hold q0 x).tack = d.tack := rfl
@[simp] theorem Dev.hold_push (d : Dev) (q0 : QueueId) (x : Hold) : (d.hold q0 x).push = d.push := rfl
@[simp] theorem Dev.hold_draws (d : Dev) (q0 : QueueId) (x : Hold) : (d.hold q0 x).draws = d.draws := rfl
@[simp] theorem Dev.hold_dram (d : Dev) (q0 : QueueId) (x : Hold) : (d.hold q0 x).dram = d.dram := rfl
@[simp] theorem Dev.hold_memlog (d : Dev) (q0 : QueueId) (x : Hold) : (d.hold q0 x).memlog = d.memlog := rfl
@[simp] theorem Dev.hold_dict (d : Dev) (q0 : QueueId) (x : Hold) : (d.hold q0 x).dict = d.dict := rfl
@[simp] theorem Dev.hold_pw (d : Dev) (q0 : QueueId) (x : Hold) : (d.hold q0 x).pw = d.pw := rfl
@[simp] theorem Dev.hold_fw (d : Dev) (q0 : QueueId) (x : Hold) : (d.hold q0 x).fw = d.fw := rfl
@[simp] theorem Dev.hold_th (d : Dev) (q0 : QueueId) (x : Hold) : (d.hold q0 x).th = d.th := rfl
@[simp] theorem Dev.hold_trim (d : Dev) (q0 : QueueId) (x : Hold) : (d.hold q0 x).trim = d.trim := rfl
@[simp] theorem Dev.hold_ledger (d : Dev) (q0 : QueueId) (x : Hold) : (d.hold q0 x).ledger = d.ledger := rfl
@[simp] theorem Dev.hold_flt (d : Dev) (q0 : QueueId) (x : Hold) : (d.hold q0 x).flt = d.flt := rfl
@[simp] theorem Dev.hold_lines (d : Dev) (q0 : QueueId) (x : Hold) : (d.hold q0 x).lines = d.lines := rfl
@[simp] theorem Dev.hold_now (d : Dev) (q0 : QueueId) (x : Hold) : (d.hold q0 x).now = d.now := rfl
@[simp] theorem Dev.hold_free (d : Dev) (q0 : QueueId) (x : Hold) : (d.hold q0 x).free = d.free := rfl
@[simp] theorem Dev.hold_out (d : Dev) (q0 : QueueId) (x : Hold) : (d.hold q0 x).out = d.out := rfl
@[simp] theorem Dev.hold_buf (d : Dev) (q0 : QueueId) (x : Hold) (h : U16) : (d.hold q0 x).buf h = d.buf h := rfl
@[simp] theorem Dev.hold_slot (d : Dev) (q0 : QueueId) (x : Hold) (n : Nat) : (d.hold q0 x).slot n = d.slot n := rfl
@[simp] theorem Dev.hold_feed (d : Dev) (q0 : QueueId) (x : Hold) (f : FeedId) : (d.hold q0 x).feed f = d.feed f := rfl
@[simp] theorem Dev.hold_thresher (d : Dev) (q0 : QueueId) (x : Hold) (i : ThresherId) : (d.hold q0 x).thresher i = d.thresher i := rfl
@[simp] theorem Dev.hold_vslot (d : Dev) (q0 : QueueId) (x : Hold) (n : Nat) : (d.hold q0 x).vslot n = d.vslot n := rfl
@[simp] theorem Dev.hold_sail (d : Dev) (q0 : QueueId) (x : Hold) (i : SailId) : (d.hold q0 x).sail i = d.sail i := rfl
@[simp] theorem Dev.hold_mast (d : Dev) (q0 : QueueId) (x : Hold) (i : MastId) : (d.hold q0 x).mast i = d.mast i := rfl
@[simp] theorem Dev.hold_cluster (d : Dev) (q0 : QueueId) (x : Hold) (i : ClusterId) : (d.hold q0 x).cluster i = d.cluster i := rfl
@[simp] theorem Dev.hold_chan (d : Dev) (q0 : QueueId) (x : Hold) (n : Nat) : (d.hold q0 x).chan n = d.chan n := rfl
@[simp] theorem Dev.hold_sensor (d : Dev) (q0 : QueueId) (x : Hold) (n : Nat) : (d.hold q0 x).sensor n = d.sensor n := rfl
@[simp] theorem Dev.hold_partn (d : Dev) (q0 : QueueId) (x : Hold) (n : Nat) : (d.hold q0 x).partn n = d.partn n := rfl
@[simp] theorem Dev.hold_ap (d : Dev) (q0 : QueueId) (x : Hold) (n : Nat) : (d.hold q0 x).ap n = d.ap n := rfl
@[simp] theorem Dev.hold_val (d : Dev) (q0 : QueueId) (x : Hold) (k : Nat) : (d.hold q0 x).val k = d.val k := rfl
@[simp] theorem Dev.hold_tval (d : Dev) (q0 : QueueId) (x : Hold) (k : Nat) : (d.hold q0 x).tval k = d.tval k := rfl
@[simp] theorem Dev.hold_openTack (d : Dev) (q0 : QueueId) (x : Hold) : (d.hold q0 x).openTack = d.openTack := rfl
@[simp] theorem Dev.hold_powered (d : Dev) (q0 : QueueId) (x : Hold) : (d.hold q0 x).powered = d.powered := rfl
@[simp] theorem Dev.hold_up (d : Dev) (q0 : QueueId) (x : Hold) : (d.hold q0 x).up = d.up := rfl
@[simp] theorem Dev.hold_live (d : Dev) (q0 : QueueId) (x : Hold) (r : BufRef) : (d.hold q0 x).live r = d.live r := rfl
@[simp] theorem Dev.hold_sizeOf (d : Dev) (q0 : QueueId) (x : Hold) (r : BufRef) : (d.hold q0 x).sizeOf r = d.sizeOf r := rfl
@[simp] theorem Dev.hold_byteAt (d : Dev) (q0 : QueueId) (x : Hold) (a : Nat) : (d.hold q0 x).byteAt a = d.byteAt a := rfl
@[simp] theorem Dev.hold_sailExists (d : Dev) (q0 : QueueId) (x : Hold) (n : Nat) : (d.hold q0 x).sailExists n = d.sailExists n := rfl
@[simp] theorem Dev.hold_mastList (d : Dev) (q0 : QueueId) (x : Hold) : (d.hold q0 x).mastList = d.mastList := rfl
@[simp] theorem Dev.hold_freeAt (d : Dev) (q0 : QueueId) (x : Hold) (n : Nat) : (d.hold q0 x).freeAt n = d.freeAt n := rfl

/-! #### `setBuf` changes qs.bufs and nothing else -/

@[simp] theorem Dev.setBuf_fuses (d : Dev) (h0 : U16) (x : Buf) : (d.setBuf h0 x).fuses = d.fuses := rfl
@[simp] theorem Dev.setBuf_link (d : Dev) (h0 : U16) (x : Buf) : (d.setBuf h0 x).link = d.link := rfl
@[simp] theorem Dev.setBuf_host (d : Dev) (h0 : U16) (x : Buf) : (d.setBuf h0 x).host = d.host := rfl
@[simp] theorem Dev.setBuf_xfer (d : Dev) (h0 : U16) (x : Buf) : (d.setBuf h0 x).xfer = d.xfer := rfl
@[simp] theorem Dev.setBuf_ring (d : Dev) (h0 : U16) (x : Buf) : (d.setBuf h0 x).ring = d.ring := rfl
@[simp] theorem Dev.setBuf_qs_queues (d : Dev) (h0 : U16) (x : Buf) : (d.setBuf h0 x).qs.queues = d.qs.queues := rfl
@[simp] theorem Dev.setBuf_qs_lastGrant (d : Dev) (h0 : U16) (x : Buf) : (d.setBuf h0 x).qs.lastGrant = d.qs.lastGrant := rfl
@[simp] theorem Dev.setBuf_qs_nextId (d : Dev) (h0 : U16) (x : Buf) : (d.setBuf h0 x).qs.nextId = d.qs.nextId := rfl
@[simp] theorem Dev.setBuf_qs_cmds (d : Dev) (h0 : U16) (x : Buf) : (d.setBuf h0 x).qs.cmds = d.qs.cmds := rfl
@[simp] theorem Dev.setBuf_qs_fresh (d : Dev) (h0 : U16) (x : Buf) : (d.setBuf h0 x).qs.fresh = d.qs.fresh := rfl
@[simp] theorem Dev.setBuf_qs_freed (d : Dev) (h0 : U16) (x : Buf) : (d.setBuf h0 x).qs.freed = d.qs.freed := rfl
@[simp] theorem Dev.setBuf_qs_slots (d : Dev) (h0 : U16) (x : Buf) : (d.setBuf h0 x).qs.slots = d.qs.slots := rfl
@[simp] theorem Dev.setBuf_qs_fences (d : Dev) (h0 : U16) (x : Buf) : (d.setBuf h0 x).qs.fences = d.qs.fences := rfl
@[simp] theorem Dev.setBuf_qs_holds (d : Dev) (h0 : U16) (x : Buf) : (d.setBuf h0 x).qs.holds = d.qs.holds := rfl
@[simp] theorem Dev.setBuf_qs_dmas (d : Dev) (h0 : U16) (x : Buf) : (d.setBuf h0 x).qs.dmas = d.qs.dmas := rfl
@[simp] theorem Dev.setBuf_intake (d : Dev) (h0 : U16) (x : Buf) : (d.setBuf h0 x).intake = d.intake := rfl
@[simp] theorem Dev.setBuf_comp (d : Dev) (h0 : U16) (x : Buf) : (d.setBuf h0 x).comp = d.comp := rfl
@[simp] theorem Dev.setBuf_tack (d : Dev) (h0 : U16) (x : Buf) : (d.setBuf h0 x).tack = d.tack := rfl
@[simp] theorem Dev.setBuf_push (d : Dev) (h0 : U16) (x : Buf) : (d.setBuf h0 x).push = d.push := rfl
@[simp] theorem Dev.setBuf_draws (d : Dev) (h0 : U16) (x : Buf) : (d.setBuf h0 x).draws = d.draws := rfl
@[simp] theorem Dev.setBuf_dram (d : Dev) (h0 : U16) (x : Buf) : (d.setBuf h0 x).dram = d.dram := rfl
@[simp] theorem Dev.setBuf_memlog (d : Dev) (h0 : U16) (x : Buf) : (d.setBuf h0 x).memlog = d.memlog := rfl
@[simp] theorem Dev.setBuf_dict (d : Dev) (h0 : U16) (x : Buf) : (d.setBuf h0 x).dict = d.dict := rfl
@[simp] theorem Dev.setBuf_pw (d : Dev) (h0 : U16) (x : Buf) : (d.setBuf h0 x).pw = d.pw := rfl
@[simp] theorem Dev.setBuf_fw (d : Dev) (h0 : U16) (x : Buf) : (d.setBuf h0 x).fw = d.fw := rfl
@[simp] theorem Dev.setBuf_th (d : Dev) (h0 : U16) (x : Buf) : (d.setBuf h0 x).th = d.th := rfl
@[simp] theorem Dev.setBuf_trim (d : Dev) (h0 : U16) (x : Buf) : (d.setBuf h0 x).trim = d.trim := rfl
@[simp] theorem Dev.setBuf_ledger (d : Dev) (h0 : U16) (x : Buf) : (d.setBuf h0 x).ledger = d.ledger := rfl
@[simp] theorem Dev.setBuf_flt (d : Dev) (h0 : U16) (x : Buf) : (d.setBuf h0 x).flt = d.flt := rfl
@[simp] theorem Dev.setBuf_lines (d : Dev) (h0 : U16) (x : Buf) : (d.setBuf h0 x).lines = d.lines := rfl
@[simp] theorem Dev.setBuf_now (d : Dev) (h0 : U16) (x : Buf) : (d.setBuf h0 x).now = d.now := rfl
@[simp] theorem Dev.setBuf_free (d : Dev) (h0 : U16) (x : Buf) : (d.setBuf h0 x).free = d.free := rfl
@[simp] theorem Dev.setBuf_out (d : Dev) (h0 : U16) (x : Buf) : (d.setBuf h0 x).out = d.out := rfl
@[simp] theorem Dev.setBuf_queue (d : Dev) (h0 : U16) (x : Buf) (q : QueueId) : (d.setBuf h0 x).queue q = d.queue q := rfl
@[simp] theorem Dev.setBuf_slot (d : Dev) (h0 : U16) (x : Buf) (n : Nat) : (d.setBuf h0 x).slot n = d.slot n := rfl
@[simp] theorem Dev.setBuf_feed (d : Dev) (h0 : U16) (x : Buf) (f : FeedId) : (d.setBuf h0 x).feed f = d.feed f := rfl
@[simp] theorem Dev.setBuf_thresher (d : Dev) (h0 : U16) (x : Buf) (i : ThresherId) : (d.setBuf h0 x).thresher i = d.thresher i := rfl
@[simp] theorem Dev.setBuf_vslot (d : Dev) (h0 : U16) (x : Buf) (n : Nat) : (d.setBuf h0 x).vslot n = d.vslot n := rfl
@[simp] theorem Dev.setBuf_sail (d : Dev) (h0 : U16) (x : Buf) (i : SailId) : (d.setBuf h0 x).sail i = d.sail i := rfl
@[simp] theorem Dev.setBuf_mast (d : Dev) (h0 : U16) (x : Buf) (i : MastId) : (d.setBuf h0 x).mast i = d.mast i := rfl
@[simp] theorem Dev.setBuf_cluster (d : Dev) (h0 : U16) (x : Buf) (i : ClusterId) : (d.setBuf h0 x).cluster i = d.cluster i := rfl
@[simp] theorem Dev.setBuf_chan (d : Dev) (h0 : U16) (x : Buf) (n : Nat) : (d.setBuf h0 x).chan n = d.chan n := rfl
@[simp] theorem Dev.setBuf_sensor (d : Dev) (h0 : U16) (x : Buf) (n : Nat) : (d.setBuf h0 x).sensor n = d.sensor n := rfl
@[simp] theorem Dev.setBuf_partn (d : Dev) (h0 : U16) (x : Buf) (n : Nat) : (d.setBuf h0 x).partn n = d.partn n := rfl
@[simp] theorem Dev.setBuf_ap (d : Dev) (h0 : U16) (x : Buf) (n : Nat) : (d.setBuf h0 x).ap n = d.ap n := rfl
@[simp] theorem Dev.setBuf_val (d : Dev) (h0 : U16) (x : Buf) (k : Nat) : (d.setBuf h0 x).val k = d.val k := rfl
@[simp] theorem Dev.setBuf_tval (d : Dev) (h0 : U16) (x : Buf) (k : Nat) : (d.setBuf h0 x).tval k = d.tval k := rfl
@[simp] theorem Dev.setBuf_openTack (d : Dev) (h0 : U16) (x : Buf) : (d.setBuf h0 x).openTack = d.openTack := rfl
@[simp] theorem Dev.setBuf_powered (d : Dev) (h0 : U16) (x : Buf) : (d.setBuf h0 x).powered = d.powered := rfl
@[simp] theorem Dev.setBuf_up (d : Dev) (h0 : U16) (x : Buf) : (d.setBuf h0 x).up = d.up := rfl
@[simp] theorem Dev.setBuf_byteAt (d : Dev) (h0 : U16) (x : Buf) (a : Nat) : (d.setBuf h0 x).byteAt a = d.byteAt a := rfl
@[simp] theorem Dev.setBuf_sailExists (d : Dev) (h0 : U16) (x : Buf) (n : Nat) : (d.setBuf h0 x).sailExists n = d.sailExists n := rfl
@[simp] theorem Dev.setBuf_mastList (d : Dev) (h0 : U16) (x : Buf) : (d.setBuf h0 x).mastList = d.mastList := rfl
@[simp] theorem Dev.setBuf_freeAt (d : Dev) (h0 : U16) (x : Buf) (n : Nat) : (d.setBuf h0 x).freeAt n = d.freeAt n := rfl

/-! #### `setFeed` changes intake.feeds and nothing else -/

@[simp] theorem Dev.setFeed_fuses (d : Dev) (f0 : FeedId) (x : Feed) : (d.setFeed f0 x).fuses = d.fuses := rfl
@[simp] theorem Dev.setFeed_link (d : Dev) (f0 : FeedId) (x : Feed) : (d.setFeed f0 x).link = d.link := rfl
@[simp] theorem Dev.setFeed_host (d : Dev) (f0 : FeedId) (x : Feed) : (d.setFeed f0 x).host = d.host := rfl
@[simp] theorem Dev.setFeed_xfer (d : Dev) (f0 : FeedId) (x : Feed) : (d.setFeed f0 x).xfer = d.xfer := rfl
@[simp] theorem Dev.setFeed_ring (d : Dev) (f0 : FeedId) (x : Feed) : (d.setFeed f0 x).ring = d.ring := rfl
@[simp] theorem Dev.setFeed_qs (d : Dev) (f0 : FeedId) (x : Feed) : (d.setFeed f0 x).qs = d.qs := rfl
@[simp] theorem Dev.setFeed_intake_threshers (d : Dev) (f0 : FeedId) (x : Feed) : (d.setFeed f0 x).intake.threshers = d.intake.threshers := rfl
@[simp] theorem Dev.setFeed_intake_waiting (d : Dev) (f0 : FeedId) (x : Feed) : (d.setFeed f0 x).intake.waiting = d.intake.waiting := rfl
@[simp] theorem Dev.setFeed_intake_lastFault (d : Dev) (f0 : FeedId) (x : Feed) : (d.setFeed f0 x).intake.lastFault = d.intake.lastFault := rfl
@[simp] theorem Dev.setFeed_intake_slots (d : Dev) (f0 : FeedId) (x : Feed) : (d.setFeed f0 x).intake.slots = d.intake.slots := rfl
@[simp] theorem Dev.setFeed_intake_dropSelect (d : Dev) (f0 : FeedId) (x : Feed) : (d.setFeed f0 x).intake.dropSelect = d.intake.dropSelect := rfl
@[simp] theorem Dev.setFeed_intake_races (d : Dev) (f0 : FeedId) (x : Feed) : (d.setFeed f0 x).intake.races = d.intake.races := rfl
@[simp] theorem Dev.setFeed_comp (d : Dev) (f0 : FeedId) (x : Feed) : (d.setFeed f0 x).comp = d.comp := rfl
@[simp] theorem Dev.setFeed_tack (d : Dev) (f0 : FeedId) (x : Feed) : (d.setFeed f0 x).tack = d.tack := rfl
@[simp] theorem Dev.setFeed_push (d : Dev) (f0 : FeedId) (x : Feed) : (d.setFeed f0 x).push = d.push := rfl
@[simp] theorem Dev.setFeed_draws (d : Dev) (f0 : FeedId) (x : Feed) : (d.setFeed f0 x).draws = d.draws := rfl
@[simp] theorem Dev.setFeed_dram (d : Dev) (f0 : FeedId) (x : Feed) : (d.setFeed f0 x).dram = d.dram := rfl
@[simp] theorem Dev.setFeed_memlog (d : Dev) (f0 : FeedId) (x : Feed) : (d.setFeed f0 x).memlog = d.memlog := rfl
@[simp] theorem Dev.setFeed_dict (d : Dev) (f0 : FeedId) (x : Feed) : (d.setFeed f0 x).dict = d.dict := rfl
@[simp] theorem Dev.setFeed_pw (d : Dev) (f0 : FeedId) (x : Feed) : (d.setFeed f0 x).pw = d.pw := rfl
@[simp] theorem Dev.setFeed_fw (d : Dev) (f0 : FeedId) (x : Feed) : (d.setFeed f0 x).fw = d.fw := rfl
@[simp] theorem Dev.setFeed_th (d : Dev) (f0 : FeedId) (x : Feed) : (d.setFeed f0 x).th = d.th := rfl
@[simp] theorem Dev.setFeed_trim (d : Dev) (f0 : FeedId) (x : Feed) : (d.setFeed f0 x).trim = d.trim := rfl
@[simp] theorem Dev.setFeed_ledger (d : Dev) (f0 : FeedId) (x : Feed) : (d.setFeed f0 x).ledger = d.ledger := rfl
@[simp] theorem Dev.setFeed_flt (d : Dev) (f0 : FeedId) (x : Feed) : (d.setFeed f0 x).flt = d.flt := rfl
@[simp] theorem Dev.setFeed_lines (d : Dev) (f0 : FeedId) (x : Feed) : (d.setFeed f0 x).lines = d.lines := rfl
@[simp] theorem Dev.setFeed_now (d : Dev) (f0 : FeedId) (x : Feed) : (d.setFeed f0 x).now = d.now := rfl
@[simp] theorem Dev.setFeed_free (d : Dev) (f0 : FeedId) (x : Feed) : (d.setFeed f0 x).free = d.free := rfl
@[simp] theorem Dev.setFeed_out (d : Dev) (f0 : FeedId) (x : Feed) : (d.setFeed f0 x).out = d.out := rfl
@[simp] theorem Dev.setFeed_queue (d : Dev) (f0 : FeedId) (x : Feed) (q : QueueId) : (d.setFeed f0 x).queue q = d.queue q := rfl
@[simp] theorem Dev.setFeed_buf (d : Dev) (f0 : FeedId) (x : Feed) (h : U16) : (d.setFeed f0 x).buf h = d.buf h := rfl
@[simp] theorem Dev.setFeed_slot (d : Dev) (f0 : FeedId) (x : Feed) (n : Nat) : (d.setFeed f0 x).slot n = d.slot n := rfl
@[simp] theorem Dev.setFeed_thresher (d : Dev) (f0 : FeedId) (x : Feed) (i : ThresherId) : (d.setFeed f0 x).thresher i = d.thresher i := rfl
@[simp] theorem Dev.setFeed_vslot (d : Dev) (f0 : FeedId) (x : Feed) (n : Nat) : (d.setFeed f0 x).vslot n = d.vslot n := rfl
@[simp] theorem Dev.setFeed_sail (d : Dev) (f0 : FeedId) (x : Feed) (i : SailId) : (d.setFeed f0 x).sail i = d.sail i := rfl
@[simp] theorem Dev.setFeed_mast (d : Dev) (f0 : FeedId) (x : Feed) (i : MastId) : (d.setFeed f0 x).mast i = d.mast i := rfl
@[simp] theorem Dev.setFeed_cluster (d : Dev) (f0 : FeedId) (x : Feed) (i : ClusterId) : (d.setFeed f0 x).cluster i = d.cluster i := rfl
@[simp] theorem Dev.setFeed_chan (d : Dev) (f0 : FeedId) (x : Feed) (n : Nat) : (d.setFeed f0 x).chan n = d.chan n := rfl
@[simp] theorem Dev.setFeed_sensor (d : Dev) (f0 : FeedId) (x : Feed) (n : Nat) : (d.setFeed f0 x).sensor n = d.sensor n := rfl
@[simp] theorem Dev.setFeed_partn (d : Dev) (f0 : FeedId) (x : Feed) (n : Nat) : (d.setFeed f0 x).partn n = d.partn n := rfl
@[simp] theorem Dev.setFeed_ap (d : Dev) (f0 : FeedId) (x : Feed) (n : Nat) : (d.setFeed f0 x).ap n = d.ap n := rfl
@[simp] theorem Dev.setFeed_val (d : Dev) (f0 : FeedId) (x : Feed) (k : Nat) : (d.setFeed f0 x).val k = d.val k := rfl
@[simp] theorem Dev.setFeed_tval (d : Dev) (f0 : FeedId) (x : Feed) (k : Nat) : (d.setFeed f0 x).tval k = d.tval k := rfl
@[simp] theorem Dev.setFeed_openTack (d : Dev) (f0 : FeedId) (x : Feed) : (d.setFeed f0 x).openTack = d.openTack := rfl
@[simp] theorem Dev.setFeed_powered (d : Dev) (f0 : FeedId) (x : Feed) : (d.setFeed f0 x).powered = d.powered := rfl
@[simp] theorem Dev.setFeed_up (d : Dev) (f0 : FeedId) (x : Feed) : (d.setFeed f0 x).up = d.up := rfl
@[simp] theorem Dev.setFeed_live (d : Dev) (f0 : FeedId) (x : Feed) (r : BufRef) : (d.setFeed f0 x).live r = d.live r := rfl
@[simp] theorem Dev.setFeed_sizeOf (d : Dev) (f0 : FeedId) (x : Feed) (r : BufRef) : (d.setFeed f0 x).sizeOf r = d.sizeOf r := rfl
@[simp] theorem Dev.setFeed_byteAt (d : Dev) (f0 : FeedId) (x : Feed) (a : Nat) : (d.setFeed f0 x).byteAt a = d.byteAt a := rfl
@[simp] theorem Dev.setFeed_sailExists (d : Dev) (f0 : FeedId) (x : Feed) (n : Nat) : (d.setFeed f0 x).sailExists n = d.sailExists n := rfl
@[simp] theorem Dev.setFeed_mastList (d : Dev) (f0 : FeedId) (x : Feed) : (d.setFeed f0 x).mastList = d.mastList := rfl
@[simp] theorem Dev.setFeed_freeAt (d : Dev) (f0 : FeedId) (x : Feed) (n : Nat) : (d.setFeed f0 x).freeAt n = d.freeAt n := rfl

/-! #### `setThresher` changes intake.threshers and nothing else -/

@[simp] theorem Dev.setThresher_fuses (d : Dev) (t0 : ThresherId) (x : Thresher) : (d.setThresher t0 x).fuses = d.fuses := rfl
@[simp] theorem Dev.setThresher_link (d : Dev) (t0 : ThresherId) (x : Thresher) : (d.setThresher t0 x).link = d.link := rfl
@[simp] theorem Dev.setThresher_host (d : Dev) (t0 : ThresherId) (x : Thresher) : (d.setThresher t0 x).host = d.host := rfl
@[simp] theorem Dev.setThresher_xfer (d : Dev) (t0 : ThresherId) (x : Thresher) : (d.setThresher t0 x).xfer = d.xfer := rfl
@[simp] theorem Dev.setThresher_ring (d : Dev) (t0 : ThresherId) (x : Thresher) : (d.setThresher t0 x).ring = d.ring := rfl
@[simp] theorem Dev.setThresher_qs (d : Dev) (t0 : ThresherId) (x : Thresher) : (d.setThresher t0 x).qs = d.qs := rfl
@[simp] theorem Dev.setThresher_intake_feeds (d : Dev) (t0 : ThresherId) (x : Thresher) : (d.setThresher t0 x).intake.feeds = d.intake.feeds := rfl
@[simp] theorem Dev.setThresher_intake_waiting (d : Dev) (t0 : ThresherId) (x : Thresher) : (d.setThresher t0 x).intake.waiting = d.intake.waiting := rfl
@[simp] theorem Dev.setThresher_intake_lastFault (d : Dev) (t0 : ThresherId) (x : Thresher) : (d.setThresher t0 x).intake.lastFault = d.intake.lastFault := rfl
@[simp] theorem Dev.setThresher_intake_slots (d : Dev) (t0 : ThresherId) (x : Thresher) : (d.setThresher t0 x).intake.slots = d.intake.slots := rfl
@[simp] theorem Dev.setThresher_intake_dropSelect (d : Dev) (t0 : ThresherId) (x : Thresher) : (d.setThresher t0 x).intake.dropSelect = d.intake.dropSelect := rfl
@[simp] theorem Dev.setThresher_intake_races (d : Dev) (t0 : ThresherId) (x : Thresher) : (d.setThresher t0 x).intake.races = d.intake.races := rfl
@[simp] theorem Dev.setThresher_comp (d : Dev) (t0 : ThresherId) (x : Thresher) : (d.setThresher t0 x).comp = d.comp := rfl
@[simp] theorem Dev.setThresher_tack (d : Dev) (t0 : ThresherId) (x : Thresher) : (d.setThresher t0 x).tack = d.tack := rfl
@[simp] theorem Dev.setThresher_push (d : Dev) (t0 : ThresherId) (x : Thresher) : (d.setThresher t0 x).push = d.push := rfl
@[simp] theorem Dev.setThresher_draws (d : Dev) (t0 : ThresherId) (x : Thresher) : (d.setThresher t0 x).draws = d.draws := rfl
@[simp] theorem Dev.setThresher_dram (d : Dev) (t0 : ThresherId) (x : Thresher) : (d.setThresher t0 x).dram = d.dram := rfl
@[simp] theorem Dev.setThresher_memlog (d : Dev) (t0 : ThresherId) (x : Thresher) : (d.setThresher t0 x).memlog = d.memlog := rfl
@[simp] theorem Dev.setThresher_dict (d : Dev) (t0 : ThresherId) (x : Thresher) : (d.setThresher t0 x).dict = d.dict := rfl
@[simp] theorem Dev.setThresher_pw (d : Dev) (t0 : ThresherId) (x : Thresher) : (d.setThresher t0 x).pw = d.pw := rfl
@[simp] theorem Dev.setThresher_fw (d : Dev) (t0 : ThresherId) (x : Thresher) : (d.setThresher t0 x).fw = d.fw := rfl
@[simp] theorem Dev.setThresher_th (d : Dev) (t0 : ThresherId) (x : Thresher) : (d.setThresher t0 x).th = d.th := rfl
@[simp] theorem Dev.setThresher_trim (d : Dev) (t0 : ThresherId) (x : Thresher) : (d.setThresher t0 x).trim = d.trim := rfl
@[simp] theorem Dev.setThresher_ledger (d : Dev) (t0 : ThresherId) (x : Thresher) : (d.setThresher t0 x).ledger = d.ledger := rfl
@[simp] theorem Dev.setThresher_flt (d : Dev) (t0 : ThresherId) (x : Thresher) : (d.setThresher t0 x).flt = d.flt := rfl
@[simp] theorem Dev.setThresher_lines (d : Dev) (t0 : ThresherId) (x : Thresher) : (d.setThresher t0 x).lines = d.lines := rfl
@[simp] theorem Dev.setThresher_now (d : Dev) (t0 : ThresherId) (x : Thresher) : (d.setThresher t0 x).now = d.now := rfl
@[simp] theorem Dev.setThresher_free (d : Dev) (t0 : ThresherId) (x : Thresher) : (d.setThresher t0 x).free = d.free := rfl
@[simp] theorem Dev.setThresher_out (d : Dev) (t0 : ThresherId) (x : Thresher) : (d.setThresher t0 x).out = d.out := rfl
@[simp] theorem Dev.setThresher_queue (d : Dev) (t0 : ThresherId) (x : Thresher) (q : QueueId) : (d.setThresher t0 x).queue q = d.queue q := rfl
@[simp] theorem Dev.setThresher_buf (d : Dev) (t0 : ThresherId) (x : Thresher) (h : U16) : (d.setThresher t0 x).buf h = d.buf h := rfl
@[simp] theorem Dev.setThresher_slot (d : Dev) (t0 : ThresherId) (x : Thresher) (n : Nat) : (d.setThresher t0 x).slot n = d.slot n := rfl
@[simp] theorem Dev.setThresher_feed (d : Dev) (t0 : ThresherId) (x : Thresher) (f : FeedId) : (d.setThresher t0 x).feed f = d.feed f := rfl
@[simp] theorem Dev.setThresher_vslot (d : Dev) (t0 : ThresherId) (x : Thresher) (n : Nat) : (d.setThresher t0 x).vslot n = d.vslot n := rfl
@[simp] theorem Dev.setThresher_sail (d : Dev) (t0 : ThresherId) (x : Thresher) (i : SailId) : (d.setThresher t0 x).sail i = d.sail i := rfl
@[simp] theorem Dev.setThresher_mast (d : Dev) (t0 : ThresherId) (x : Thresher) (i : MastId) : (d.setThresher t0 x).mast i = d.mast i := rfl
@[simp] theorem Dev.setThresher_cluster (d : Dev) (t0 : ThresherId) (x : Thresher) (i : ClusterId) : (d.setThresher t0 x).cluster i = d.cluster i := rfl
@[simp] theorem Dev.setThresher_chan (d : Dev) (t0 : ThresherId) (x : Thresher) (n : Nat) : (d.setThresher t0 x).chan n = d.chan n := rfl
@[simp] theorem Dev.setThresher_sensor (d : Dev) (t0 : ThresherId) (x : Thresher) (n : Nat) : (d.setThresher t0 x).sensor n = d.sensor n := rfl
@[simp] theorem Dev.setThresher_partn (d : Dev) (t0 : ThresherId) (x : Thresher) (n : Nat) : (d.setThresher t0 x).partn n = d.partn n := rfl
@[simp] theorem Dev.setThresher_ap (d : Dev) (t0 : ThresherId) (x : Thresher) (n : Nat) : (d.setThresher t0 x).ap n = d.ap n := rfl
@[simp] theorem Dev.setThresher_val (d : Dev) (t0 : ThresherId) (x : Thresher) (k : Nat) : (d.setThresher t0 x).val k = d.val k := rfl
@[simp] theorem Dev.setThresher_tval (d : Dev) (t0 : ThresherId) (x : Thresher) (k : Nat) : (d.setThresher t0 x).tval k = d.tval k := rfl
@[simp] theorem Dev.setThresher_openTack (d : Dev) (t0 : ThresherId) (x : Thresher) : (d.setThresher t0 x).openTack = d.openTack := rfl
@[simp] theorem Dev.setThresher_powered (d : Dev) (t0 : ThresherId) (x : Thresher) : (d.setThresher t0 x).powered = d.powered := rfl
@[simp] theorem Dev.setThresher_up (d : Dev) (t0 : ThresherId) (x : Thresher) : (d.setThresher t0 x).up = d.up := rfl
@[simp] theorem Dev.setThresher_live (d : Dev) (t0 : ThresherId) (x : Thresher) (r : BufRef) : (d.setThresher t0 x).live r = d.live r := rfl
@[simp] theorem Dev.setThresher_sizeOf (d : Dev) (t0 : ThresherId) (x : Thresher) (r : BufRef) : (d.setThresher t0 x).sizeOf r = d.sizeOf r := rfl
@[simp] theorem Dev.setThresher_byteAt (d : Dev) (t0 : ThresherId) (x : Thresher) (a : Nat) : (d.setThresher t0 x).byteAt a = d.byteAt a := rfl
@[simp] theorem Dev.setThresher_sailExists (d : Dev) (t0 : ThresherId) (x : Thresher) (n : Nat) : (d.setThresher t0 x).sailExists n = d.sailExists n := rfl
@[simp] theorem Dev.setThresher_mastList (d : Dev) (t0 : ThresherId) (x : Thresher) : (d.setThresher t0 x).mastList = d.mastList := rfl
@[simp] theorem Dev.setThresher_freeAt (d : Dev) (t0 : ThresherId) (x : Thresher) (n : Nat) : (d.setThresher t0 x).freeAt n = d.freeAt n := rfl

/-! #### `setVslot` changes intake.slots and nothing else -/

@[simp] theorem Dev.setVslot_fuses (d : Dev) (n0 : Nat) (x : Slot) : (d.setVslot n0 x).fuses = d.fuses := rfl
@[simp] theorem Dev.setVslot_link (d : Dev) (n0 : Nat) (x : Slot) : (d.setVslot n0 x).link = d.link := rfl
@[simp] theorem Dev.setVslot_host (d : Dev) (n0 : Nat) (x : Slot) : (d.setVslot n0 x).host = d.host := rfl
@[simp] theorem Dev.setVslot_xfer (d : Dev) (n0 : Nat) (x : Slot) : (d.setVslot n0 x).xfer = d.xfer := rfl
@[simp] theorem Dev.setVslot_ring (d : Dev) (n0 : Nat) (x : Slot) : (d.setVslot n0 x).ring = d.ring := rfl
@[simp] theorem Dev.setVslot_qs (d : Dev) (n0 : Nat) (x : Slot) : (d.setVslot n0 x).qs = d.qs := rfl
@[simp] theorem Dev.setVslot_intake_threshers (d : Dev) (n0 : Nat) (x : Slot) : (d.setVslot n0 x).intake.threshers = d.intake.threshers := rfl
@[simp] theorem Dev.setVslot_intake_feeds (d : Dev) (n0 : Nat) (x : Slot) : (d.setVslot n0 x).intake.feeds = d.intake.feeds := rfl
@[simp] theorem Dev.setVslot_intake_waiting (d : Dev) (n0 : Nat) (x : Slot) : (d.setVslot n0 x).intake.waiting = d.intake.waiting := rfl
@[simp] theorem Dev.setVslot_intake_lastFault (d : Dev) (n0 : Nat) (x : Slot) : (d.setVslot n0 x).intake.lastFault = d.intake.lastFault := rfl
@[simp] theorem Dev.setVslot_intake_dropSelect (d : Dev) (n0 : Nat) (x : Slot) : (d.setVslot n0 x).intake.dropSelect = d.intake.dropSelect := rfl
@[simp] theorem Dev.setVslot_intake_races (d : Dev) (n0 : Nat) (x : Slot) : (d.setVslot n0 x).intake.races = d.intake.races := rfl
@[simp] theorem Dev.setVslot_comp (d : Dev) (n0 : Nat) (x : Slot) : (d.setVslot n0 x).comp = d.comp := rfl
@[simp] theorem Dev.setVslot_tack (d : Dev) (n0 : Nat) (x : Slot) : (d.setVslot n0 x).tack = d.tack := rfl
@[simp] theorem Dev.setVslot_push (d : Dev) (n0 : Nat) (x : Slot) : (d.setVslot n0 x).push = d.push := rfl
@[simp] theorem Dev.setVslot_draws (d : Dev) (n0 : Nat) (x : Slot) : (d.setVslot n0 x).draws = d.draws := rfl
@[simp] theorem Dev.setVslot_dram (d : Dev) (n0 : Nat) (x : Slot) : (d.setVslot n0 x).dram = d.dram := rfl
@[simp] theorem Dev.setVslot_memlog (d : Dev) (n0 : Nat) (x : Slot) : (d.setVslot n0 x).memlog = d.memlog := rfl
@[simp] theorem Dev.setVslot_dict (d : Dev) (n0 : Nat) (x : Slot) : (d.setVslot n0 x).dict = d.dict := rfl
@[simp] theorem Dev.setVslot_pw (d : Dev) (n0 : Nat) (x : Slot) : (d.setVslot n0 x).pw = d.pw := rfl
@[simp] theorem Dev.setVslot_fw (d : Dev) (n0 : Nat) (x : Slot) : (d.setVslot n0 x).fw = d.fw := rfl
@[simp] theorem Dev.setVslot_th (d : Dev) (n0 : Nat) (x : Slot) : (d.setVslot n0 x).th = d.th := rfl
@[simp] theorem Dev.setVslot_trim (d : Dev) (n0 : Nat) (x : Slot) : (d.setVslot n0 x).trim = d.trim := rfl
@[simp] theorem Dev.setVslot_ledger (d : Dev) (n0 : Nat) (x : Slot) : (d.setVslot n0 x).ledger = d.ledger := rfl
@[simp] theorem Dev.setVslot_flt (d : Dev) (n0 : Nat) (x : Slot) : (d.setVslot n0 x).flt = d.flt := rfl
@[simp] theorem Dev.setVslot_lines (d : Dev) (n0 : Nat) (x : Slot) : (d.setVslot n0 x).lines = d.lines := rfl
@[simp] theorem Dev.setVslot_now (d : Dev) (n0 : Nat) (x : Slot) : (d.setVslot n0 x).now = d.now := rfl
@[simp] theorem Dev.setVslot_free (d : Dev) (n0 : Nat) (x : Slot) : (d.setVslot n0 x).free = d.free := rfl
@[simp] theorem Dev.setVslot_out (d : Dev) (n0 : Nat) (x : Slot) : (d.setVslot n0 x).out = d.out := rfl
@[simp] theorem Dev.setVslot_queue (d : Dev) (n0 : Nat) (x : Slot) (q : QueueId) : (d.setVslot n0 x).queue q = d.queue q := rfl
@[simp] theorem Dev.setVslot_buf (d : Dev) (n0 : Nat) (x : Slot) (h : U16) : (d.setVslot n0 x).buf h = d.buf h := rfl
@[simp] theorem Dev.setVslot_slot (d : Dev) (n0 : Nat) (x : Slot) (n : Nat) : (d.setVslot n0 x).slot n = d.slot n := rfl
@[simp] theorem Dev.setVslot_feed (d : Dev) (n0 : Nat) (x : Slot) (f : FeedId) : (d.setVslot n0 x).feed f = d.feed f := rfl
@[simp] theorem Dev.setVslot_thresher (d : Dev) (n0 : Nat) (x : Slot) (i : ThresherId) : (d.setVslot n0 x).thresher i = d.thresher i := rfl
@[simp] theorem Dev.setVslot_sail (d : Dev) (n0 : Nat) (x : Slot) (i : SailId) : (d.setVslot n0 x).sail i = d.sail i := rfl
@[simp] theorem Dev.setVslot_mast (d : Dev) (n0 : Nat) (x : Slot) (i : MastId) : (d.setVslot n0 x).mast i = d.mast i := rfl
@[simp] theorem Dev.setVslot_cluster (d : Dev) (n0 : Nat) (x : Slot) (i : ClusterId) : (d.setVslot n0 x).cluster i = d.cluster i := rfl
@[simp] theorem Dev.setVslot_chan (d : Dev) (n0 : Nat) (x : Slot) (n : Nat) : (d.setVslot n0 x).chan n = d.chan n := rfl
@[simp] theorem Dev.setVslot_sensor (d : Dev) (n0 : Nat) (x : Slot) (n : Nat) : (d.setVslot n0 x).sensor n = d.sensor n := rfl
@[simp] theorem Dev.setVslot_partn (d : Dev) (n0 : Nat) (x : Slot) (n : Nat) : (d.setVslot n0 x).partn n = d.partn n := rfl
@[simp] theorem Dev.setVslot_ap (d : Dev) (n0 : Nat) (x : Slot) (n : Nat) : (d.setVslot n0 x).ap n = d.ap n := rfl
@[simp] theorem Dev.setVslot_val (d : Dev) (n0 : Nat) (x : Slot) (k : Nat) : (d.setVslot n0 x).val k = d.val k := rfl
@[simp] theorem Dev.setVslot_tval (d : Dev) (n0 : Nat) (x : Slot) (k : Nat) : (d.setVslot n0 x).tval k = d.tval k := rfl
@[simp] theorem Dev.setVslot_openTack (d : Dev) (n0 : Nat) (x : Slot) : (d.setVslot n0 x).openTack = d.openTack := rfl
@[simp] theorem Dev.setVslot_powered (d : Dev) (n0 : Nat) (x : Slot) : (d.setVslot n0 x).powered = d.powered := rfl
@[simp] theorem Dev.setVslot_up (d : Dev) (n0 : Nat) (x : Slot) : (d.setVslot n0 x).up = d.up := rfl
@[simp] theorem Dev.setVslot_live (d : Dev) (n0 : Nat) (x : Slot) (r : BufRef) : (d.setVslot n0 x).live r = d.live r := rfl
@[simp] theorem Dev.setVslot_sizeOf (d : Dev) (n0 : Nat) (x : Slot) (r : BufRef) : (d.setVslot n0 x).sizeOf r = d.sizeOf r := rfl
@[simp] theorem Dev.setVslot_byteAt (d : Dev) (n0 : Nat) (x : Slot) (a : Nat) : (d.setVslot n0 x).byteAt a = d.byteAt a := rfl
@[simp] theorem Dev.setVslot_sailExists (d : Dev) (n0 : Nat) (x : Slot) (n : Nat) : (d.setVslot n0 x).sailExists n = d.sailExists n := rfl
@[simp] theorem Dev.setVslot_mastList (d : Dev) (n0 : Nat) (x : Slot) : (d.setVslot n0 x).mastList = d.mastList := rfl
@[simp] theorem Dev.setVslot_freeAt (d : Dev) (n0 : Nat) (x : Slot) (n : Nat) : (d.setVslot n0 x).freeAt n = d.freeAt n := rfl

/-! #### `setSail` changes push.sails and nothing else -/

@[simp] theorem Dev.setSail_fuses (d : Dev) (s0 : SailId) (x : Sail) : (d.setSail s0 x).fuses = d.fuses := rfl
@[simp] theorem Dev.setSail_link (d : Dev) (s0 : SailId) (x : Sail) : (d.setSail s0 x).link = d.link := rfl
@[simp] theorem Dev.setSail_host (d : Dev) (s0 : SailId) (x : Sail) : (d.setSail s0 x).host = d.host := rfl
@[simp] theorem Dev.setSail_xfer (d : Dev) (s0 : SailId) (x : Sail) : (d.setSail s0 x).xfer = d.xfer := rfl
@[simp] theorem Dev.setSail_ring (d : Dev) (s0 : SailId) (x : Sail) : (d.setSail s0 x).ring = d.ring := rfl
@[simp] theorem Dev.setSail_qs (d : Dev) (s0 : SailId) (x : Sail) : (d.setSail s0 x).qs = d.qs := rfl
@[simp] theorem Dev.setSail_intake (d : Dev) (s0 : SailId) (x : Sail) : (d.setSail s0 x).intake = d.intake := rfl
@[simp] theorem Dev.setSail_comp (d : Dev) (s0 : SailId) (x : Sail) : (d.setSail s0 x).comp = d.comp := rfl
@[simp] theorem Dev.setSail_tack (d : Dev) (s0 : SailId) (x : Sail) : (d.setSail s0 x).tack = d.tack := rfl
@[simp] theorem Dev.setSail_push_plots (d : Dev) (s0 : SailId) (x : Sail) : (d.setSail s0 x).push.plots = d.push.plots := rfl
@[simp] theorem Dev.setSail_push_clusters (d : Dev) (s0 : SailId) (x : Sail) : (d.setSail s0 x).push.clusters = d.push.clusters := rfl
@[simp] theorem Dev.setSail_push_masts (d : Dev) (s0 : SailId) (x : Sail) : (d.setSail s0 x).push.masts = d.push.masts := rfl
@[simp] theorem Dev.setSail_push_rrA (d : Dev) (s0 : SailId) (x : Sail) : (d.setSail s0 x).push.rrA = d.push.rrA := rfl
@[simp] theorem Dev.setSail_push_rrB (d : Dev) (s0 : SailId) (x : Sail) : (d.setSail s0 x).push.rrB = d.push.rrB := rfl
@[simp] theorem Dev.setSail_push_rrC (d : Dev) (s0 : SailId) (x : Sail) : (d.setSail s0 x).push.rrC = d.push.rrC := rfl
@[simp] theorem Dev.setSail_push_lastFence (d : Dev) (s0 : SailId) (x : Sail) : (d.setSail s0 x).push.lastFence = d.push.lastFence := rfl
@[simp] theorem Dev.setSail_draws (d : Dev) (s0 : SailId) (x : Sail) : (d.setSail s0 x).draws = d.draws := rfl
@[simp] theorem Dev.setSail_dram (d : Dev) (s0 : SailId) (x : Sail) : (d.setSail s0 x).dram = d.dram := rfl
@[simp] theorem Dev.setSail_memlog (d : Dev) (s0 : SailId) (x : Sail) : (d.setSail s0 x).memlog = d.memlog := rfl
@[simp] theorem Dev.setSail_dict (d : Dev) (s0 : SailId) (x : Sail) : (d.setSail s0 x).dict = d.dict := rfl
@[simp] theorem Dev.setSail_pw (d : Dev) (s0 : SailId) (x : Sail) : (d.setSail s0 x).pw = d.pw := rfl
@[simp] theorem Dev.setSail_fw (d : Dev) (s0 : SailId) (x : Sail) : (d.setSail s0 x).fw = d.fw := rfl
@[simp] theorem Dev.setSail_th (d : Dev) (s0 : SailId) (x : Sail) : (d.setSail s0 x).th = d.th := rfl
@[simp] theorem Dev.setSail_trim (d : Dev) (s0 : SailId) (x : Sail) : (d.setSail s0 x).trim = d.trim := rfl
@[simp] theorem Dev.setSail_ledger (d : Dev) (s0 : SailId) (x : Sail) : (d.setSail s0 x).ledger = d.ledger := rfl
@[simp] theorem Dev.setSail_flt (d : Dev) (s0 : SailId) (x : Sail) : (d.setSail s0 x).flt = d.flt := rfl
@[simp] theorem Dev.setSail_lines (d : Dev) (s0 : SailId) (x : Sail) : (d.setSail s0 x).lines = d.lines := rfl
@[simp] theorem Dev.setSail_now (d : Dev) (s0 : SailId) (x : Sail) : (d.setSail s0 x).now = d.now := rfl
@[simp] theorem Dev.setSail_free (d : Dev) (s0 : SailId) (x : Sail) : (d.setSail s0 x).free = d.free := rfl
@[simp] theorem Dev.setSail_out (d : Dev) (s0 : SailId) (x : Sail) : (d.setSail s0 x).out = d.out := rfl
@[simp] theorem Dev.setSail_queue (d : Dev) (s0 : SailId) (x : Sail) (q : QueueId) : (d.setSail s0 x).queue q = d.queue q := rfl
@[simp] theorem Dev.setSail_buf (d : Dev) (s0 : SailId) (x : Sail) (h : U16) : (d.setSail s0 x).buf h = d.buf h := rfl
@[simp] theorem Dev.setSail_slot (d : Dev) (s0 : SailId) (x : Sail) (n : Nat) : (d.setSail s0 x).slot n = d.slot n := rfl
@[simp] theorem Dev.setSail_feed (d : Dev) (s0 : SailId) (x : Sail) (f : FeedId) : (d.setSail s0 x).feed f = d.feed f := rfl
@[simp] theorem Dev.setSail_thresher (d : Dev) (s0 : SailId) (x : Sail) (i : ThresherId) : (d.setSail s0 x).thresher i = d.thresher i := rfl
@[simp] theorem Dev.setSail_vslot (d : Dev) (s0 : SailId) (x : Sail) (n : Nat) : (d.setSail s0 x).vslot n = d.vslot n := rfl
@[simp] theorem Dev.setSail_mast (d : Dev) (s0 : SailId) (x : Sail) (i : MastId) : (d.setSail s0 x).mast i = d.mast i := rfl
@[simp] theorem Dev.setSail_cluster (d : Dev) (s0 : SailId) (x : Sail) (i : ClusterId) : (d.setSail s0 x).cluster i = d.cluster i := rfl
@[simp] theorem Dev.setSail_chan (d : Dev) (s0 : SailId) (x : Sail) (n : Nat) : (d.setSail s0 x).chan n = d.chan n := rfl
@[simp] theorem Dev.setSail_sensor (d : Dev) (s0 : SailId) (x : Sail) (n : Nat) : (d.setSail s0 x).sensor n = d.sensor n := rfl
@[simp] theorem Dev.setSail_partn (d : Dev) (s0 : SailId) (x : Sail) (n : Nat) : (d.setSail s0 x).partn n = d.partn n := rfl
@[simp] theorem Dev.setSail_ap (d : Dev) (s0 : SailId) (x : Sail) (n : Nat) : (d.setSail s0 x).ap n = d.ap n := rfl
@[simp] theorem Dev.setSail_val (d : Dev) (s0 : SailId) (x : Sail) (k : Nat) : (d.setSail s0 x).val k = d.val k := rfl
@[simp] theorem Dev.setSail_tval (d : Dev) (s0 : SailId) (x : Sail) (k : Nat) : (d.setSail s0 x).tval k = d.tval k := rfl
@[simp] theorem Dev.setSail_openTack (d : Dev) (s0 : SailId) (x : Sail) : (d.setSail s0 x).openTack = d.openTack := rfl
@[simp] theorem Dev.setSail_powered (d : Dev) (s0 : SailId) (x : Sail) : (d.setSail s0 x).powered = d.powered := rfl
@[simp] theorem Dev.setSail_up (d : Dev) (s0 : SailId) (x : Sail) : (d.setSail s0 x).up = d.up := rfl
@[simp] theorem Dev.setSail_live (d : Dev) (s0 : SailId) (x : Sail) (r : BufRef) : (d.setSail s0 x).live r = d.live r := rfl
@[simp] theorem Dev.setSail_sizeOf (d : Dev) (s0 : SailId) (x : Sail) (r : BufRef) : (d.setSail s0 x).sizeOf r = d.sizeOf r := rfl
@[simp] theorem Dev.setSail_byteAt (d : Dev) (s0 : SailId) (x : Sail) (a : Nat) : (d.setSail s0 x).byteAt a = d.byteAt a := rfl
@[simp] theorem Dev.setSail_sailExists (d : Dev) (s0 : SailId) (x : Sail) (n : Nat) : (d.setSail s0 x).sailExists n = d.sailExists n := rfl
@[simp] theorem Dev.setSail_mastList (d : Dev) (s0 : SailId) (x : Sail) : (d.setSail s0 x).mastList = d.mastList := rfl
@[simp] theorem Dev.setSail_freeAt (d : Dev) (s0 : SailId) (x : Sail) (n : Nat) : (d.setSail s0 x).freeAt n = d.freeAt n := rfl

/-! #### `setMast` changes push.masts and nothing else -/

@[simp] theorem Dev.setMast_fuses (d : Dev) (m0 : MastId) (x : Mast) : (d.setMast m0 x).fuses = d.fuses := rfl
@[simp] theorem Dev.setMast_link (d : Dev) (m0 : MastId) (x : Mast) : (d.setMast m0 x).link = d.link := rfl
@[simp] theorem Dev.setMast_host (d : Dev) (m0 : MastId) (x : Mast) : (d.setMast m0 x).host = d.host := rfl
@[simp] theorem Dev.setMast_xfer (d : Dev) (m0 : MastId) (x : Mast) : (d.setMast m0 x).xfer = d.xfer := rfl
@[simp] theorem Dev.setMast_ring (d : Dev) (m0 : MastId) (x : Mast) : (d.setMast m0 x).ring = d.ring := rfl
@[simp] theorem Dev.setMast_qs (d : Dev) (m0 : MastId) (x : Mast) : (d.setMast m0 x).qs = d.qs := rfl
@[simp] theorem Dev.setMast_intake (d : Dev) (m0 : MastId) (x : Mast) : (d.setMast m0 x).intake = d.intake := rfl
@[simp] theorem Dev.setMast_comp (d : Dev) (m0 : MastId) (x : Mast) : (d.setMast m0 x).comp = d.comp := rfl
@[simp] theorem Dev.setMast_tack (d : Dev) (m0 : MastId) (x : Mast) : (d.setMast m0 x).tack = d.tack := rfl
@[simp] theorem Dev.setMast_push_plots (d : Dev) (m0 : MastId) (x : Mast) : (d.setMast m0 x).push.plots = d.push.plots := rfl
@[simp] theorem Dev.setMast_push_clusters (d : Dev) (m0 : MastId) (x : Mast) : (d.setMast m0 x).push.clusters = d.push.clusters := rfl
@[simp] theorem Dev.setMast_push_sails (d : Dev) (m0 : MastId) (x : Mast) : (d.setMast m0 x).push.sails = d.push.sails := rfl
@[simp] theorem Dev.setMast_push_rrA (d : Dev) (m0 : MastId) (x : Mast) : (d.setMast m0 x).push.rrA = d.push.rrA := rfl
@[simp] theorem Dev.setMast_push_rrB (d : Dev) (m0 : MastId) (x : Mast) : (d.setMast m0 x).push.rrB = d.push.rrB := rfl
@[simp] theorem Dev.setMast_push_rrC (d : Dev) (m0 : MastId) (x : Mast) : (d.setMast m0 x).push.rrC = d.push.rrC := rfl
@[simp] theorem Dev.setMast_push_lastFence (d : Dev) (m0 : MastId) (x : Mast) : (d.setMast m0 x).push.lastFence = d.push.lastFence := rfl
@[simp] theorem Dev.setMast_draws (d : Dev) (m0 : MastId) (x : Mast) : (d.setMast m0 x).draws = d.draws := rfl
@[simp] theorem Dev.setMast_dram (d : Dev) (m0 : MastId) (x : Mast) : (d.setMast m0 x).dram = d.dram := rfl
@[simp] theorem Dev.setMast_memlog (d : Dev) (m0 : MastId) (x : Mast) : (d.setMast m0 x).memlog = d.memlog := rfl
@[simp] theorem Dev.setMast_dict (d : Dev) (m0 : MastId) (x : Mast) : (d.setMast m0 x).dict = d.dict := rfl
@[simp] theorem Dev.setMast_pw (d : Dev) (m0 : MastId) (x : Mast) : (d.setMast m0 x).pw = d.pw := rfl
@[simp] theorem Dev.setMast_fw (d : Dev) (m0 : MastId) (x : Mast) : (d.setMast m0 x).fw = d.fw := rfl
@[simp] theorem Dev.setMast_th (d : Dev) (m0 : MastId) (x : Mast) : (d.setMast m0 x).th = d.th := rfl
@[simp] theorem Dev.setMast_trim (d : Dev) (m0 : MastId) (x : Mast) : (d.setMast m0 x).trim = d.trim := rfl
@[simp] theorem Dev.setMast_ledger (d : Dev) (m0 : MastId) (x : Mast) : (d.setMast m0 x).ledger = d.ledger := rfl
@[simp] theorem Dev.setMast_flt (d : Dev) (m0 : MastId) (x : Mast) : (d.setMast m0 x).flt = d.flt := rfl
@[simp] theorem Dev.setMast_lines (d : Dev) (m0 : MastId) (x : Mast) : (d.setMast m0 x).lines = d.lines := rfl
@[simp] theorem Dev.setMast_now (d : Dev) (m0 : MastId) (x : Mast) : (d.setMast m0 x).now = d.now := rfl
@[simp] theorem Dev.setMast_free (d : Dev) (m0 : MastId) (x : Mast) : (d.setMast m0 x).free = d.free := rfl
@[simp] theorem Dev.setMast_out (d : Dev) (m0 : MastId) (x : Mast) : (d.setMast m0 x).out = d.out := rfl
@[simp] theorem Dev.setMast_queue (d : Dev) (m0 : MastId) (x : Mast) (q : QueueId) : (d.setMast m0 x).queue q = d.queue q := rfl
@[simp] theorem Dev.setMast_buf (d : Dev) (m0 : MastId) (x : Mast) (h : U16) : (d.setMast m0 x).buf h = d.buf h := rfl
@[simp] theorem Dev.setMast_slot (d : Dev) (m0 : MastId) (x : Mast) (n : Nat) : (d.setMast m0 x).slot n = d.slot n := rfl
@[simp] theorem Dev.setMast_feed (d : Dev) (m0 : MastId) (x : Mast) (f : FeedId) : (d.setMast m0 x).feed f = d.feed f := rfl
@[simp] theorem Dev.setMast_thresher (d : Dev) (m0 : MastId) (x : Mast) (i : ThresherId) : (d.setMast m0 x).thresher i = d.thresher i := rfl
@[simp] theorem Dev.setMast_vslot (d : Dev) (m0 : MastId) (x : Mast) (n : Nat) : (d.setMast m0 x).vslot n = d.vslot n := rfl
@[simp] theorem Dev.setMast_sail (d : Dev) (m0 : MastId) (x : Mast) (i : SailId) : (d.setMast m0 x).sail i = d.sail i := rfl
@[simp] theorem Dev.setMast_cluster (d : Dev) (m0 : MastId) (x : Mast) (i : ClusterId) : (d.setMast m0 x).cluster i = d.cluster i := rfl
@[simp] theorem Dev.setMast_chan (d : Dev) (m0 : MastId) (x : Mast) (n : Nat) : (d.setMast m0 x).chan n = d.chan n := rfl
@[simp] theorem Dev.setMast_sensor (d : Dev) (m0 : MastId) (x : Mast) (n : Nat) : (d.setMast m0 x).sensor n = d.sensor n := rfl
@[simp] theorem Dev.setMast_partn (d : Dev) (m0 : MastId) (x : Mast) (n : Nat) : (d.setMast m0 x).partn n = d.partn n := rfl
@[simp] theorem Dev.setMast_ap (d : Dev) (m0 : MastId) (x : Mast) (n : Nat) : (d.setMast m0 x).ap n = d.ap n := rfl
@[simp] theorem Dev.setMast_val (d : Dev) (m0 : MastId) (x : Mast) (k : Nat) : (d.setMast m0 x).val k = d.val k := rfl
@[simp] theorem Dev.setMast_tval (d : Dev) (m0 : MastId) (x : Mast) (k : Nat) : (d.setMast m0 x).tval k = d.tval k := rfl
@[simp] theorem Dev.setMast_openTack (d : Dev) (m0 : MastId) (x : Mast) : (d.setMast m0 x).openTack = d.openTack := rfl
@[simp] theorem Dev.setMast_powered (d : Dev) (m0 : MastId) (x : Mast) : (d.setMast m0 x).powered = d.powered := rfl
@[simp] theorem Dev.setMast_up (d : Dev) (m0 : MastId) (x : Mast) : (d.setMast m0 x).up = d.up := rfl
@[simp] theorem Dev.setMast_live (d : Dev) (m0 : MastId) (x : Mast) (r : BufRef) : (d.setMast m0 x).live r = d.live r := rfl
@[simp] theorem Dev.setMast_sizeOf (d : Dev) (m0 : MastId) (x : Mast) (r : BufRef) : (d.setMast m0 x).sizeOf r = d.sizeOf r := rfl
@[simp] theorem Dev.setMast_byteAt (d : Dev) (m0 : MastId) (x : Mast) (a : Nat) : (d.setMast m0 x).byteAt a = d.byteAt a := rfl
@[simp] theorem Dev.setMast_sailExists (d : Dev) (m0 : MastId) (x : Mast) (n : Nat) : (d.setMast m0 x).sailExists n = d.sailExists n := rfl
@[simp] theorem Dev.setMast_mastList (d : Dev) (m0 : MastId) (x : Mast) : (d.setMast m0 x).mastList = d.mastList := rfl
@[simp] theorem Dev.setMast_freeAt (d : Dev) (m0 : MastId) (x : Mast) (n : Nat) : (d.setMast m0 x).freeAt n = d.freeAt n := rfl

/-! #### `setCluster` changes push.clusters and nothing else -/

@[simp] theorem Dev.setCluster_fuses (d : Dev) (c0 : ClusterId) (x : Cluster) : (d.setCluster c0 x).fuses = d.fuses := rfl
@[simp] theorem Dev.setCluster_link (d : Dev) (c0 : ClusterId) (x : Cluster) : (d.setCluster c0 x).link = d.link := rfl
@[simp] theorem Dev.setCluster_host (d : Dev) (c0 : ClusterId) (x : Cluster) : (d.setCluster c0 x).host = d.host := rfl
@[simp] theorem Dev.setCluster_xfer (d : Dev) (c0 : ClusterId) (x : Cluster) : (d.setCluster c0 x).xfer = d.xfer := rfl
@[simp] theorem Dev.setCluster_ring (d : Dev) (c0 : ClusterId) (x : Cluster) : (d.setCluster c0 x).ring = d.ring := rfl
@[simp] theorem Dev.setCluster_qs (d : Dev) (c0 : ClusterId) (x : Cluster) : (d.setCluster c0 x).qs = d.qs := rfl
@[simp] theorem Dev.setCluster_intake (d : Dev) (c0 : ClusterId) (x : Cluster) : (d.setCluster c0 x).intake = d.intake := rfl
@[simp] theorem Dev.setCluster_comp (d : Dev) (c0 : ClusterId) (x : Cluster) : (d.setCluster c0 x).comp = d.comp := rfl
@[simp] theorem Dev.setCluster_tack (d : Dev) (c0 : ClusterId) (x : Cluster) : (d.setCluster c0 x).tack = d.tack := rfl
@[simp] theorem Dev.setCluster_push_plots (d : Dev) (c0 : ClusterId) (x : Cluster) : (d.setCluster c0 x).push.plots = d.push.plots := rfl
@[simp] theorem Dev.setCluster_push_sails (d : Dev) (c0 : ClusterId) (x : Cluster) : (d.setCluster c0 x).push.sails = d.push.sails := rfl
@[simp] theorem Dev.setCluster_push_masts (d : Dev) (c0 : ClusterId) (x : Cluster) : (d.setCluster c0 x).push.masts = d.push.masts := rfl
@[simp] theorem Dev.setCluster_push_rrA (d : Dev) (c0 : ClusterId) (x : Cluster) : (d.setCluster c0 x).push.rrA = d.push.rrA := rfl
@[simp] theorem Dev.setCluster_push_rrB (d : Dev) (c0 : ClusterId) (x : Cluster) : (d.setCluster c0 x).push.rrB = d.push.rrB := rfl
@[simp] theorem Dev.setCluster_push_rrC (d : Dev) (c0 : ClusterId) (x : Cluster) : (d.setCluster c0 x).push.rrC = d.push.rrC := rfl
@[simp] theorem Dev.setCluster_push_lastFence (d : Dev) (c0 : ClusterId) (x : Cluster) : (d.setCluster c0 x).push.lastFence = d.push.lastFence := rfl
@[simp] theorem Dev.setCluster_draws (d : Dev) (c0 : ClusterId) (x : Cluster) : (d.setCluster c0 x).draws = d.draws := rfl
@[simp] theorem Dev.setCluster_dram (d : Dev) (c0 : ClusterId) (x : Cluster) : (d.setCluster c0 x).dram = d.dram := rfl
@[simp] theorem Dev.setCluster_memlog (d : Dev) (c0 : ClusterId) (x : Cluster) : (d.setCluster c0 x).memlog = d.memlog := rfl
@[simp] theorem Dev.setCluster_dict (d : Dev) (c0 : ClusterId) (x : Cluster) : (d.setCluster c0 x).dict = d.dict := rfl
@[simp] theorem Dev.setCluster_pw (d : Dev) (c0 : ClusterId) (x : Cluster) : (d.setCluster c0 x).pw = d.pw := rfl
@[simp] theorem Dev.setCluster_fw (d : Dev) (c0 : ClusterId) (x : Cluster) : (d.setCluster c0 x).fw = d.fw := rfl
@[simp] theorem Dev.setCluster_th (d : Dev) (c0 : ClusterId) (x : Cluster) : (d.setCluster c0 x).th = d.th := rfl
@[simp] theorem Dev.setCluster_trim (d : Dev) (c0 : ClusterId) (x : Cluster) : (d.setCluster c0 x).trim = d.trim := rfl
@[simp] theorem Dev.setCluster_ledger (d : Dev) (c0 : ClusterId) (x : Cluster) : (d.setCluster c0 x).ledger = d.ledger := rfl
@[simp] theorem Dev.setCluster_flt (d : Dev) (c0 : ClusterId) (x : Cluster) : (d.setCluster c0 x).flt = d.flt := rfl
@[simp] theorem Dev.setCluster_lines (d : Dev) (c0 : ClusterId) (x : Cluster) : (d.setCluster c0 x).lines = d.lines := rfl
@[simp] theorem Dev.setCluster_now (d : Dev) (c0 : ClusterId) (x : Cluster) : (d.setCluster c0 x).now = d.now := rfl
@[simp] theorem Dev.setCluster_free (d : Dev) (c0 : ClusterId) (x : Cluster) : (d.setCluster c0 x).free = d.free := rfl
@[simp] theorem Dev.setCluster_out (d : Dev) (c0 : ClusterId) (x : Cluster) : (d.setCluster c0 x).out = d.out := rfl
@[simp] theorem Dev.setCluster_queue (d : Dev) (c0 : ClusterId) (x : Cluster) (q : QueueId) : (d.setCluster c0 x).queue q = d.queue q := rfl
@[simp] theorem Dev.setCluster_buf (d : Dev) (c0 : ClusterId) (x : Cluster) (h : U16) : (d.setCluster c0 x).buf h = d.buf h := rfl
@[simp] theorem Dev.setCluster_slot (d : Dev) (c0 : ClusterId) (x : Cluster) (n : Nat) : (d.setCluster c0 x).slot n = d.slot n := rfl
@[simp] theorem Dev.setCluster_feed (d : Dev) (c0 : ClusterId) (x : Cluster) (f : FeedId) : (d.setCluster c0 x).feed f = d.feed f := rfl
@[simp] theorem Dev.setCluster_thresher (d : Dev) (c0 : ClusterId) (x : Cluster) (i : ThresherId) : (d.setCluster c0 x).thresher i = d.thresher i := rfl
@[simp] theorem Dev.setCluster_vslot (d : Dev) (c0 : ClusterId) (x : Cluster) (n : Nat) : (d.setCluster c0 x).vslot n = d.vslot n := rfl
@[simp] theorem Dev.setCluster_sail (d : Dev) (c0 : ClusterId) (x : Cluster) (i : SailId) : (d.setCluster c0 x).sail i = d.sail i := rfl
@[simp] theorem Dev.setCluster_mast (d : Dev) (c0 : ClusterId) (x : Cluster) (i : MastId) : (d.setCluster c0 x).mast i = d.mast i := rfl
@[simp] theorem Dev.setCluster_chan (d : Dev) (c0 : ClusterId) (x : Cluster) (n : Nat) : (d.setCluster c0 x).chan n = d.chan n := rfl
@[simp] theorem Dev.setCluster_sensor (d : Dev) (c0 : ClusterId) (x : Cluster) (n : Nat) : (d.setCluster c0 x).sensor n = d.sensor n := rfl
@[simp] theorem Dev.setCluster_partn (d : Dev) (c0 : ClusterId) (x : Cluster) (n : Nat) : (d.setCluster c0 x).partn n = d.partn n := rfl
@[simp] theorem Dev.setCluster_ap (d : Dev) (c0 : ClusterId) (x : Cluster) (n : Nat) : (d.setCluster c0 x).ap n = d.ap n := rfl
@[simp] theorem Dev.setCluster_val (d : Dev) (c0 : ClusterId) (x : Cluster) (k : Nat) : (d.setCluster c0 x).val k = d.val k := rfl
@[simp] theorem Dev.setCluster_tval (d : Dev) (c0 : ClusterId) (x : Cluster) (k : Nat) : (d.setCluster c0 x).tval k = d.tval k := rfl
@[simp] theorem Dev.setCluster_openTack (d : Dev) (c0 : ClusterId) (x : Cluster) : (d.setCluster c0 x).openTack = d.openTack := rfl
@[simp] theorem Dev.setCluster_powered (d : Dev) (c0 : ClusterId) (x : Cluster) : (d.setCluster c0 x).powered = d.powered := rfl
@[simp] theorem Dev.setCluster_up (d : Dev) (c0 : ClusterId) (x : Cluster) : (d.setCluster c0 x).up = d.up := rfl
@[simp] theorem Dev.setCluster_live (d : Dev) (c0 : ClusterId) (x : Cluster) (r : BufRef) : (d.setCluster c0 x).live r = d.live r := rfl
@[simp] theorem Dev.setCluster_sizeOf (d : Dev) (c0 : ClusterId) (x : Cluster) (r : BufRef) : (d.setCluster c0 x).sizeOf r = d.sizeOf r := rfl
@[simp] theorem Dev.setCluster_byteAt (d : Dev) (c0 : ClusterId) (x : Cluster) (a : Nat) : (d.setCluster c0 x).byteAt a = d.byteAt a := rfl
@[simp] theorem Dev.setCluster_sailExists (d : Dev) (c0 : ClusterId) (x : Cluster) (n : Nat) : (d.setCluster c0 x).sailExists n = d.sailExists n := rfl
@[simp] theorem Dev.setCluster_mastList (d : Dev) (c0 : ClusterId) (x : Cluster) : (d.setCluster c0 x).mastList = d.mastList := rfl
@[simp] theorem Dev.setCluster_freeAt (d : Dev) (c0 : ClusterId) (x : Cluster) (n : Nat) : (d.setCluster c0 x).freeAt n = d.freeAt n := rfl

/-! #### `setChan` changes dram.chans and nothing else -/

@[simp] theorem Dev.setChan_fuses (d : Dev) (n0 : Nat) (x : Channel) : (d.setChan n0 x).fuses = d.fuses := rfl
@[simp] theorem Dev.setChan_link (d : Dev) (n0 : Nat) (x : Channel) : (d.setChan n0 x).link = d.link := rfl
@[simp] theorem Dev.setChan_host (d : Dev) (n0 : Nat) (x : Channel) : (d.setChan n0 x).host = d.host := rfl
@[simp] theorem Dev.setChan_xfer (d : Dev) (n0 : Nat) (x : Channel) : (d.setChan n0 x).xfer = d.xfer := rfl
@[simp] theorem Dev.setChan_ring (d : Dev) (n0 : Nat) (x : Channel) : (d.setChan n0 x).ring = d.ring := rfl
@[simp] theorem Dev.setChan_qs (d : Dev) (n0 : Nat) (x : Channel) : (d.setChan n0 x).qs = d.qs := rfl
@[simp] theorem Dev.setChan_intake (d : Dev) (n0 : Nat) (x : Channel) : (d.setChan n0 x).intake = d.intake := rfl
@[simp] theorem Dev.setChan_comp (d : Dev) (n0 : Nat) (x : Channel) : (d.setChan n0 x).comp = d.comp := rfl
@[simp] theorem Dev.setChan_tack (d : Dev) (n0 : Nat) (x : Channel) : (d.setChan n0 x).tack = d.tack := rfl
@[simp] theorem Dev.setChan_push (d : Dev) (n0 : Nat) (x : Channel) : (d.setChan n0 x).push = d.push := rfl
@[simp] theorem Dev.setChan_draws (d : Dev) (n0 : Nat) (x : Channel) : (d.setChan n0 x).draws = d.draws := rfl
@[simp] theorem Dev.setChan_dram_data (d : Dev) (n0 : Nat) (x : Channel) : (d.setChan n0 x).dram.data = d.dram.data := rfl
@[simp] theorem Dev.setChan_dram_old (d : Dev) (n0 : Nat) (x : Channel) : (d.setChan n0 x).dram.old = d.dram.old := rfl
@[simp] theorem Dev.setChan_dram_issued (d : Dev) (n0 : Nat) (x : Channel) : (d.setChan n0 x).dram.issued = d.dram.issued := rfl
@[simp] theorem Dev.setChan_dram_asked (d : Dev) (n0 : Nat) (x : Channel) : (d.setChan n0 x).dram.asked = d.dram.asked := rfl
@[simp] theorem Dev.setChan_dram_caches (d : Dev) (n0 : Nat) (x : Channel) : (d.setChan n0 x).dram.caches = d.dram.caches := rfl
@[simp] theorem Dev.setChan_dram_picks (d : Dev) (n0 : Nat) (x : Channel) : (d.setChan n0 x).dram.picks = d.dram.picks := rfl
@[simp] theorem Dev.setChan_dram_upsets (d : Dev) (n0 : Nat) (x : Channel) : (d.setChan n0 x).dram.upsets = d.dram.upsets := rfl
@[simp] theorem Dev.setChan_dram_capGiB (d : Dev) (n0 : Nat) (x : Channel) : (d.setChan n0 x).dram.capGiB = d.dram.capGiB := rfl
@[simp] theorem Dev.setChan_dram_ranks (d : Dev) (n0 : Nat) (x : Channel) : (d.setChan n0 x).dram.ranks = d.dram.ranks := rfl
@[simp] theorem Dev.setChan_dram_lp5x (d : Dev) (n0 : Nat) (x : Channel) : (d.setChan n0 x).dram.lp5x = d.dram.lp5x := rfl
@[simp] theorem Dev.setChan_dram_ident (d : Dev) (n0 : Nat) (x : Channel) : (d.setChan n0 x).dram.ident = d.dram.ident := rfl
@[simp] theorem Dev.setChan_dram_up (d : Dev) (n0 : Nat) (x : Channel) : (d.setChan n0 x).dram.up = d.dram.up := rfl
@[simp] theorem Dev.setChan_dram_selfRefresh (d : Dev) (n0 : Nat) (x : Channel) : (d.setChan n0 x).dram.selfRefresh = d.dram.selfRefresh := rfl
@[simp] theorem Dev.setChan_dram_rate (d : Dev) (n0 : Nat) (x : Channel) : (d.setChan n0 x).dram.rate = d.dram.rate := rfl
@[simp] theorem Dev.setChan_dram_points (d : Dev) (n0 : Nat) (x : Channel) : (d.setChan n0 x).dram.points = d.dram.points := rfl
@[simp] theorem Dev.setChan_dram_eccGiB (d : Dev) (n0 : Nat) (x : Channel) : (d.setChan n0 x).dram.eccGiB = d.dram.eccGiB := rfl
@[simp] theorem Dev.setChan_dram_map (d : Dev) (n0 : Nat) (x : Channel) : (d.setChan n0 x).dram.map = d.dram.map := rfl
@[simp] theorem Dev.setChan_dram_lost (d : Dev) (n0 : Nat) (x : Channel) : (d.setChan n0 x).dram.lost = d.dram.lost := rfl
@[simp] theorem Dev.setChan_dram_gone (d : Dev) (n0 : Nat) (x : Channel) : (d.setChan n0 x).dram.gone = d.dram.gone := rfl
@[simp] theorem Dev.setChan_dram_band (d : Dev) (n0 : Nat) (x : Channel) : (d.setChan n0 x).dram.band = d.dram.band := rfl
@[simp] theorem Dev.setChan_dram_tempMax (d : Dev) (n0 : Nat) (x : Channel) : (d.setChan n0 x).dram.tempMax = d.dram.tempMax := rfl
@[simp] theorem Dev.setChan_dram_hotSince (d : Dev) (n0 : Nat) (x : Channel) : (d.setChan n0 x).dram.hotSince = d.dram.hotSince := rfl
@[simp] theorem Dev.setChan_dram_coolSince (d : Dev) (n0 : Nat) (x : Channel) : (d.setChan n0 x).dram.coolSince = d.dram.coolSince := rfl
@[simp] theorem Dev.setChan_dram_switchTo (d : Dev) (n0 : Nat) (x : Channel) : (d.setChan n0 x).dram.switchTo = d.dram.switchTo := rfl
@[simp] theorem Dev.setChan_dram_forced (d : Dev) (n0 : Nat) (x : Channel) : (d.setChan n0 x).dram.forced = d.dram.forced := rfl
@[simp] theorem Dev.setChan_dram_stepped (d : Dev) (n0 : Nat) (x : Channel) : (d.setChan n0 x).dram.stepped = d.dram.stepped := rfl
@[simp] theorem Dev.setChan_dram_trainLast (d : Dev) (n0 : Nat) (x : Channel) : (d.setChan n0 x).dram.trainLast = d.dram.trainLast := rfl
@[simp] theorem Dev.setChan_memlog (d : Dev) (n0 : Nat) (x : Channel) : (d.setChan n0 x).memlog = d.memlog := rfl
@[simp] theorem Dev.setChan_dict (d : Dev) (n0 : Nat) (x : Channel) : (d.setChan n0 x).dict = d.dict := rfl
@[simp] theorem Dev.setChan_pw (d : Dev) (n0 : Nat) (x : Channel) : (d.setChan n0 x).pw = d.pw := rfl
@[simp] theorem Dev.setChan_fw (d : Dev) (n0 : Nat) (x : Channel) : (d.setChan n0 x).fw = d.fw := rfl
@[simp] theorem Dev.setChan_th (d : Dev) (n0 : Nat) (x : Channel) : (d.setChan n0 x).th = d.th := rfl
@[simp] theorem Dev.setChan_trim (d : Dev) (n0 : Nat) (x : Channel) : (d.setChan n0 x).trim = d.trim := rfl
@[simp] theorem Dev.setChan_ledger (d : Dev) (n0 : Nat) (x : Channel) : (d.setChan n0 x).ledger = d.ledger := rfl
@[simp] theorem Dev.setChan_flt (d : Dev) (n0 : Nat) (x : Channel) : (d.setChan n0 x).flt = d.flt := rfl
@[simp] theorem Dev.setChan_lines (d : Dev) (n0 : Nat) (x : Channel) : (d.setChan n0 x).lines = d.lines := rfl
@[simp] theorem Dev.setChan_now (d : Dev) (n0 : Nat) (x : Channel) : (d.setChan n0 x).now = d.now := rfl
@[simp] theorem Dev.setChan_free (d : Dev) (n0 : Nat) (x : Channel) : (d.setChan n0 x).free = d.free := rfl
@[simp] theorem Dev.setChan_out (d : Dev) (n0 : Nat) (x : Channel) : (d.setChan n0 x).out = d.out := rfl
@[simp] theorem Dev.setChan_queue (d : Dev) (n0 : Nat) (x : Channel) (q : QueueId) : (d.setChan n0 x).queue q = d.queue q := rfl
@[simp] theorem Dev.setChan_buf (d : Dev) (n0 : Nat) (x : Channel) (h : U16) : (d.setChan n0 x).buf h = d.buf h := rfl
@[simp] theorem Dev.setChan_slot (d : Dev) (n0 : Nat) (x : Channel) (n : Nat) : (d.setChan n0 x).slot n = d.slot n := rfl
@[simp] theorem Dev.setChan_feed (d : Dev) (n0 : Nat) (x : Channel) (f : FeedId) : (d.setChan n0 x).feed f = d.feed f := rfl
@[simp] theorem Dev.setChan_thresher (d : Dev) (n0 : Nat) (x : Channel) (i : ThresherId) : (d.setChan n0 x).thresher i = d.thresher i := rfl
@[simp] theorem Dev.setChan_vslot (d : Dev) (n0 : Nat) (x : Channel) (n : Nat) : (d.setChan n0 x).vslot n = d.vslot n := rfl
@[simp] theorem Dev.setChan_sail (d : Dev) (n0 : Nat) (x : Channel) (i : SailId) : (d.setChan n0 x).sail i = d.sail i := rfl
@[simp] theorem Dev.setChan_mast (d : Dev) (n0 : Nat) (x : Channel) (i : MastId) : (d.setChan n0 x).mast i = d.mast i := rfl
@[simp] theorem Dev.setChan_cluster (d : Dev) (n0 : Nat) (x : Channel) (i : ClusterId) : (d.setChan n0 x).cluster i = d.cluster i := rfl
@[simp] theorem Dev.setChan_sensor (d : Dev) (n0 : Nat) (x : Channel) (n : Nat) : (d.setChan n0 x).sensor n = d.sensor n := rfl
@[simp] theorem Dev.setChan_partn (d : Dev) (n0 : Nat) (x : Channel) (n : Nat) : (d.setChan n0 x).partn n = d.partn n := rfl
@[simp] theorem Dev.setChan_ap (d : Dev) (n0 : Nat) (x : Channel) (n : Nat) : (d.setChan n0 x).ap n = d.ap n := rfl
@[simp] theorem Dev.setChan_val (d : Dev) (n0 : Nat) (x : Channel) (k : Nat) : (d.setChan n0 x).val k = d.val k := rfl
@[simp] theorem Dev.setChan_tval (d : Dev) (n0 : Nat) (x : Channel) (k : Nat) : (d.setChan n0 x).tval k = d.tval k := rfl
@[simp] theorem Dev.setChan_openTack (d : Dev) (n0 : Nat) (x : Channel) : (d.setChan n0 x).openTack = d.openTack := rfl
@[simp] theorem Dev.setChan_powered (d : Dev) (n0 : Nat) (x : Channel) : (d.setChan n0 x).powered = d.powered := rfl
@[simp] theorem Dev.setChan_up (d : Dev) (n0 : Nat) (x : Channel) : (d.setChan n0 x).up = d.up := rfl
@[simp] theorem Dev.setChan_live (d : Dev) (n0 : Nat) (x : Channel) (r : BufRef) : (d.setChan n0 x).live r = d.live r := rfl
@[simp] theorem Dev.setChan_sizeOf (d : Dev) (n0 : Nat) (x : Channel) (r : BufRef) : (d.setChan n0 x).sizeOf r = d.sizeOf r := rfl
@[simp] theorem Dev.setChan_byteAt (d : Dev) (n0 : Nat) (x : Channel) (a : Nat) : (d.setChan n0 x).byteAt a = d.byteAt a := rfl
@[simp] theorem Dev.setChan_sailExists (d : Dev) (n0 : Nat) (x : Channel) (n : Nat) : (d.setChan n0 x).sailExists n = d.sailExists n := rfl
@[simp] theorem Dev.setChan_mastList (d : Dev) (n0 : Nat) (x : Channel) : (d.setChan n0 x).mastList = d.mastList := rfl
@[simp] theorem Dev.setChan_freeAt (d : Dev) (n0 : Nat) (x : Channel) (n : Nat) : (d.setChan n0 x).freeAt n = d.freeAt n := rfl

/-! #### `setSensor` changes th.sensors and nothing else -/

@[simp] theorem Dev.setSensor_fuses (d : Dev) (n0 : Nat) (x : Sensor) : (d.setSensor n0 x).fuses = d.fuses := rfl
@[simp] theorem Dev.setSensor_link (d : Dev) (n0 : Nat) (x : Sensor) : (d.setSensor n0 x).link = d.link := rfl
@[simp] theorem Dev.setSensor_host (d : Dev) (n0 : Nat) (x : Sensor) : (d.setSensor n0 x).host = d.host := rfl
@[simp] theorem Dev.setSensor_xfer (d : Dev) (n0 : Nat) (x : Sensor) : (d.setSensor n0 x).xfer = d.xfer := rfl
@[simp] theorem Dev.setSensor_ring (d : Dev) (n0 : Nat) (x : Sensor) : (d.setSensor n0 x).ring = d.ring := rfl
@[simp] theorem Dev.setSensor_qs (d : Dev) (n0 : Nat) (x : Sensor) : (d.setSensor n0 x).qs = d.qs := rfl
@[simp] theorem Dev.setSensor_intake (d : Dev) (n0 : Nat) (x : Sensor) : (d.setSensor n0 x).intake = d.intake := rfl
@[simp] theorem Dev.setSensor_comp (d : Dev) (n0 : Nat) (x : Sensor) : (d.setSensor n0 x).comp = d.comp := rfl
@[simp] theorem Dev.setSensor_tack (d : Dev) (n0 : Nat) (x : Sensor) : (d.setSensor n0 x).tack = d.tack := rfl
@[simp] theorem Dev.setSensor_push (d : Dev) (n0 : Nat) (x : Sensor) : (d.setSensor n0 x).push = d.push := rfl
@[simp] theorem Dev.setSensor_draws (d : Dev) (n0 : Nat) (x : Sensor) : (d.setSensor n0 x).draws = d.draws := rfl
@[simp] theorem Dev.setSensor_dram (d : Dev) (n0 : Nat) (x : Sensor) : (d.setSensor n0 x).dram = d.dram := rfl
@[simp] theorem Dev.setSensor_memlog (d : Dev) (n0 : Nat) (x : Sensor) : (d.setSensor n0 x).memlog = d.memlog := rfl
@[simp] theorem Dev.setSensor_dict (d : Dev) (n0 : Nat) (x : Sensor) : (d.setSensor n0 x).dict = d.dict := rfl
@[simp] theorem Dev.setSensor_pw (d : Dev) (n0 : Nat) (x : Sensor) : (d.setSensor n0 x).pw = d.pw := rfl
@[simp] theorem Dev.setSensor_fw (d : Dev) (n0 : Nat) (x : Sensor) : (d.setSensor n0 x).fw = d.fw := rfl
@[simp] theorem Dev.setSensor_th_tj (d : Dev) (n0 : Nat) (x : Sensor) : (d.setSensor n0 x).th.tj = d.th.tj := rfl
@[simp] theorem Dev.setSensor_th_tjSensor (d : Dev) (n0 : Nat) (x : Sensor) : (d.setSensor n0 x).th.tjSensor = d.th.tjSensor := rfl
@[simp] theorem Dev.setSensor_th_peak (d : Dev) (n0 : Nat) (x : Sensor) : (d.setSensor n0 x).th.peak = d.th.peak := rfl
@[simp] theorem Dev.setSensor_th_warned (d : Dev) (n0 : Nat) (x : Sensor) : (d.setSensor n0 x).th.warned = d.th.warned := rfl
@[simp] theorem Dev.setSensor_th_k (d : Dev) (n0 : Nat) (x : Sensor) : (d.setSensor n0 x).th.k = d.th.k := rfl
@[simp] theorem Dev.setSensor_th_b (d : Dev) (n0 : Nat) (x : Sensor) : (d.setSensor n0 x).th.b = d.th.b := rfl
@[simp] theorem Dev.setSensor_th_below102 (d : Dev) (n0 : Nat) (x : Sensor) : (d.setSensor n0 x).th.below102 = d.th.below102 := rfl
@[simp] theorem Dev.setSensor_th_above110 (d : Dev) (n0 : Nat) (x : Sensor) : (d.setSensor n0 x).th.above110 = d.th.above110 := rfl
@[simp] theorem Dev.setSensor_th_below107 (d : Dev) (n0 : Nat) (x : Sensor) : (d.setSensor n0 x).th.below107 = d.th.below107 := rfl
@[simp] theorem Dev.setSensor_th_below110 (d : Dev) (n0 : Nat) (x : Sensor) : (d.setSensor n0 x).th.below110 = d.th.below110 := rfl
@[simp] theorem Dev.setSensor_th_cls (d : Dev) (n0 : Nat) (x : Sensor) : (d.setSensor n0 x).th.cls = d.th.cls := rfl
@[simp] theorem Dev.setSensor_trim (d : Dev) (n0 : Nat) (x : Sensor) : (d.setSensor n0 x).trim = d.trim := rfl
@[simp] theorem Dev.setSensor_ledger (d : Dev) (n0 : Nat) (x : Sensor) : (d.setSensor n0 x).ledger = d.ledger := rfl
@[simp] theorem Dev.setSensor_flt (d : Dev) (n0 : Nat) (x : Sensor) : (d.setSensor n0 x).flt = d.flt := rfl
@[simp] theorem Dev.setSensor_lines (d : Dev) (n0 : Nat) (x : Sensor) : (d.setSensor n0 x).lines = d.lines := rfl
@[simp] theorem Dev.setSensor_now (d : Dev) (n0 : Nat) (x : Sensor) : (d.setSensor n0 x).now = d.now := rfl
@[simp] theorem Dev.setSensor_free (d : Dev) (n0 : Nat) (x : Sensor) : (d.setSensor n0 x).free = d.free := rfl
@[simp] theorem Dev.setSensor_out (d : Dev) (n0 : Nat) (x : Sensor) : (d.setSensor n0 x).out = d.out := rfl
@[simp] theorem Dev.setSensor_queue (d : Dev) (n0 : Nat) (x : Sensor) (q : QueueId) : (d.setSensor n0 x).queue q = d.queue q := rfl
@[simp] theorem Dev.setSensor_buf (d : Dev) (n0 : Nat) (x : Sensor) (h : U16) : (d.setSensor n0 x).buf h = d.buf h := rfl
@[simp] theorem Dev.setSensor_slot (d : Dev) (n0 : Nat) (x : Sensor) (n : Nat) : (d.setSensor n0 x).slot n = d.slot n := rfl
@[simp] theorem Dev.setSensor_feed (d : Dev) (n0 : Nat) (x : Sensor) (f : FeedId) : (d.setSensor n0 x).feed f = d.feed f := rfl
@[simp] theorem Dev.setSensor_thresher (d : Dev) (n0 : Nat) (x : Sensor) (i : ThresherId) : (d.setSensor n0 x).thresher i = d.thresher i := rfl
@[simp] theorem Dev.setSensor_vslot (d : Dev) (n0 : Nat) (x : Sensor) (n : Nat) : (d.setSensor n0 x).vslot n = d.vslot n := rfl
@[simp] theorem Dev.setSensor_sail (d : Dev) (n0 : Nat) (x : Sensor) (i : SailId) : (d.setSensor n0 x).sail i = d.sail i := rfl
@[simp] theorem Dev.setSensor_mast (d : Dev) (n0 : Nat) (x : Sensor) (i : MastId) : (d.setSensor n0 x).mast i = d.mast i := rfl
@[simp] theorem Dev.setSensor_cluster (d : Dev) (n0 : Nat) (x : Sensor) (i : ClusterId) : (d.setSensor n0 x).cluster i = d.cluster i := rfl
@[simp] theorem Dev.setSensor_chan (d : Dev) (n0 : Nat) (x : Sensor) (n : Nat) : (d.setSensor n0 x).chan n = d.chan n := rfl
@[simp] theorem Dev.setSensor_partn (d : Dev) (n0 : Nat) (x : Sensor) (n : Nat) : (d.setSensor n0 x).partn n = d.partn n := rfl
@[simp] theorem Dev.setSensor_ap (d : Dev) (n0 : Nat) (x : Sensor) (n : Nat) : (d.setSensor n0 x).ap n = d.ap n := rfl
@[simp] theorem Dev.setSensor_val (d : Dev) (n0 : Nat) (x : Sensor) (k : Nat) : (d.setSensor n0 x).val k = d.val k := rfl
@[simp] theorem Dev.setSensor_tval (d : Dev) (n0 : Nat) (x : Sensor) (k : Nat) : (d.setSensor n0 x).tval k = d.tval k := rfl
@[simp] theorem Dev.setSensor_openTack (d : Dev) (n0 : Nat) (x : Sensor) : (d.setSensor n0 x).openTack = d.openTack := rfl
@[simp] theorem Dev.setSensor_powered (d : Dev) (n0 : Nat) (x : Sensor) : (d.setSensor n0 x).powered = d.powered := rfl
@[simp] theorem Dev.setSensor_up (d : Dev) (n0 : Nat) (x : Sensor) : (d.setSensor n0 x).up = d.up := rfl
@[simp] theorem Dev.setSensor_live (d : Dev) (n0 : Nat) (x : Sensor) (r : BufRef) : (d.setSensor n0 x).live r = d.live r := rfl
@[simp] theorem Dev.setSensor_sizeOf (d : Dev) (n0 : Nat) (x : Sensor) (r : BufRef) : (d.setSensor n0 x).sizeOf r = d.sizeOf r := rfl
@[simp] theorem Dev.setSensor_byteAt (d : Dev) (n0 : Nat) (x : Sensor) (a : Nat) : (d.setSensor n0 x).byteAt a = d.byteAt a := rfl
@[simp] theorem Dev.setSensor_sailExists (d : Dev) (n0 : Nat) (x : Sensor) (n : Nat) : (d.setSensor n0 x).sailExists n = d.sailExists n := rfl
@[simp] theorem Dev.setSensor_mastList (d : Dev) (n0 : Nat) (x : Sensor) : (d.setSensor n0 x).mastList = d.mastList := rfl
@[simp] theorem Dev.setSensor_freeAt (d : Dev) (n0 : Nat) (x : Sensor) (n : Nat) : (d.setSensor n0 x).freeAt n = d.freeAt n := rfl

/-! #### `setPartn` changes flt.parts and nothing else -/

@[simp] theorem Dev.setPartn_fuses (d : Dev) (n0 : Nat) (x : Partition) : (d.setPartn n0 x).fuses = d.fuses := rfl
@[simp] theorem Dev.setPartn_link (d : Dev) (n0 : Nat) (x : Partition) : (d.setPartn n0 x).link = d.link := rfl
@[simp] theorem Dev.setPartn_host (d : Dev) (n0 : Nat) (x : Partition) : (d.setPartn n0 x).host = d.host := rfl
@[simp] theorem Dev.setPartn_xfer (d : Dev) (n0 : Nat) (x : Partition) : (d.setPartn n0 x).xfer = d.xfer := rfl
@[simp] theorem Dev.setPartn_ring (d : Dev) (n0 : Nat) (x : Partition) : (d.setPartn n0 x).ring = d.ring := rfl
@[simp] theorem Dev.setPartn_qs (d : Dev) (n0 : Nat) (x : Partition) : (d.setPartn n0 x).qs = d.qs := rfl
@[simp] theorem Dev.setPartn_intake (d : Dev) (n0 : Nat) (x : Partition) : (d.setPartn n0 x).intake = d.intake := rfl
@[simp] theorem Dev.setPartn_comp (d : Dev) (n0 : Nat) (x : Partition) : (d.setPartn n0 x).comp = d.comp := rfl
@[simp] theorem Dev.setPartn_tack (d : Dev) (n0 : Nat) (x : Partition) : (d.setPartn n0 x).tack = d.tack := rfl
@[simp] theorem Dev.setPartn_push (d : Dev) (n0 : Nat) (x : Partition) : (d.setPartn n0 x).push = d.push := rfl
@[simp] theorem Dev.setPartn_draws (d : Dev) (n0 : Nat) (x : Partition) : (d.setPartn n0 x).draws = d.draws := rfl
@[simp] theorem Dev.setPartn_dram (d : Dev) (n0 : Nat) (x : Partition) : (d.setPartn n0 x).dram = d.dram := rfl
@[simp] theorem Dev.setPartn_memlog (d : Dev) (n0 : Nat) (x : Partition) : (d.setPartn n0 x).memlog = d.memlog := rfl
@[simp] theorem Dev.setPartn_dict (d : Dev) (n0 : Nat) (x : Partition) : (d.setPartn n0 x).dict = d.dict := rfl
@[simp] theorem Dev.setPartn_pw (d : Dev) (n0 : Nat) (x : Partition) : (d.setPartn n0 x).pw = d.pw := rfl
@[simp] theorem Dev.setPartn_fw (d : Dev) (n0 : Nat) (x : Partition) : (d.setPartn n0 x).fw = d.fw := rfl
@[simp] theorem Dev.setPartn_th (d : Dev) (n0 : Nat) (x : Partition) : (d.setPartn n0 x).th = d.th := rfl
@[simp] theorem Dev.setPartn_trim (d : Dev) (n0 : Nat) (x : Partition) : (d.setPartn n0 x).trim = d.trim := rfl
@[simp] theorem Dev.setPartn_ledger (d : Dev) (n0 : Nat) (x : Partition) : (d.setPartn n0 x).ledger = d.ledger := rfl
@[simp] theorem Dev.setPartn_flt_next (d : Dev) (n0 : Nat) (x : Partition) : (d.setPartn n0 x).flt.next = d.flt.next := rfl
@[simp] theorem Dev.setPartn_flt_recs (d : Dev) (n0 : Nat) (x : Partition) : (d.setPartn n0 x).flt.recs = d.flt.recs := rfl
@[simp] theorem Dev.setPartn_flt_reqs (d : Dev) (n0 : Nat) (x : Partition) : (d.setPartn n0 x).flt.reqs = d.flt.reqs := rfl
@[simp] theorem Dev.setPartn_flt_queue (d : Dev) (n0 : Nat) (x : Partition) : (d.setPartn n0 x).flt.queue = d.flt.queue := rfl
@[simp] theorem Dev.setPartn_flt_scan (d : Dev) (n0 : Nat) (x : Partition) : (d.setPartn n0 x).flt.scan = d.flt.scan := rfl
@[simp] theorem Dev.setPartn_flt_authOk (d : Dev) (n0 : Nat) (x : Partition) : (d.setPartn n0 x).flt.authOk = d.flt.authOk := rfl
@[simp] theorem Dev.setPartn_flt_extest (d : Dev) (n0 : Nat) (x : Partition) : (d.setPartn n0 x).flt.extest = d.flt.extest := rfl
@[simp] theorem Dev.setPartn_flt_ir (d : Dev) (n0 : Nat) (x : Partition) : (d.setPartn n0 x).flt.ir = d.flt.ir := rfl
@[simp] theorem Dev.setPartn_flt_engines (d : Dev) (n0 : Nat) (x : Partition) : (d.setPartn n0 x).flt.engines = d.flt.engines := rfl
@[simp] theorem Dev.setPartn_lines (d : Dev) (n0 : Nat) (x : Partition) : (d.setPartn n0 x).lines = d.lines := rfl
@[simp] theorem Dev.setPartn_now (d : Dev) (n0 : Nat) (x : Partition) : (d.setPartn n0 x).now = d.now := rfl
@[simp] theorem Dev.setPartn_free (d : Dev) (n0 : Nat) (x : Partition) : (d.setPartn n0 x).free = d.free := rfl
@[simp] theorem Dev.setPartn_out (d : Dev) (n0 : Nat) (x : Partition) : (d.setPartn n0 x).out = d.out := rfl
@[simp] theorem Dev.setPartn_queue (d : Dev) (n0 : Nat) (x : Partition) (q : QueueId) : (d.setPartn n0 x).queue q = d.queue q := rfl
@[simp] theorem Dev.setPartn_buf (d : Dev) (n0 : Nat) (x : Partition) (h : U16) : (d.setPartn n0 x).buf h = d.buf h := rfl
@[simp] theorem Dev.setPartn_slot (d : Dev) (n0 : Nat) (x : Partition) (n : Nat) : (d.setPartn n0 x).slot n = d.slot n := rfl
@[simp] theorem Dev.setPartn_feed (d : Dev) (n0 : Nat) (x : Partition) (f : FeedId) : (d.setPartn n0 x).feed f = d.feed f := rfl
@[simp] theorem Dev.setPartn_thresher (d : Dev) (n0 : Nat) (x : Partition) (i : ThresherId) : (d.setPartn n0 x).thresher i = d.thresher i := rfl
@[simp] theorem Dev.setPartn_vslot (d : Dev) (n0 : Nat) (x : Partition) (n : Nat) : (d.setPartn n0 x).vslot n = d.vslot n := rfl
@[simp] theorem Dev.setPartn_sail (d : Dev) (n0 : Nat) (x : Partition) (i : SailId) : (d.setPartn n0 x).sail i = d.sail i := rfl
@[simp] theorem Dev.setPartn_mast (d : Dev) (n0 : Nat) (x : Partition) (i : MastId) : (d.setPartn n0 x).mast i = d.mast i := rfl
@[simp] theorem Dev.setPartn_cluster (d : Dev) (n0 : Nat) (x : Partition) (i : ClusterId) : (d.setPartn n0 x).cluster i = d.cluster i := rfl
@[simp] theorem Dev.setPartn_chan (d : Dev) (n0 : Nat) (x : Partition) (n : Nat) : (d.setPartn n0 x).chan n = d.chan n := rfl
@[simp] theorem Dev.setPartn_sensor (d : Dev) (n0 : Nat) (x : Partition) (n : Nat) : (d.setPartn n0 x).sensor n = d.sensor n := rfl
@[simp] theorem Dev.setPartn_ap (d : Dev) (n0 : Nat) (x : Partition) (n : Nat) : (d.setPartn n0 x).ap n = d.ap n := rfl
@[simp] theorem Dev.setPartn_val (d : Dev) (n0 : Nat) (x : Partition) (k : Nat) : (d.setPartn n0 x).val k = d.val k := rfl
@[simp] theorem Dev.setPartn_tval (d : Dev) (n0 : Nat) (x : Partition) (k : Nat) : (d.setPartn n0 x).tval k = d.tval k := rfl
@[simp] theorem Dev.setPartn_openTack (d : Dev) (n0 : Nat) (x : Partition) : (d.setPartn n0 x).openTack = d.openTack := rfl
@[simp] theorem Dev.setPartn_powered (d : Dev) (n0 : Nat) (x : Partition) : (d.setPartn n0 x).powered = d.powered := rfl
@[simp] theorem Dev.setPartn_up (d : Dev) (n0 : Nat) (x : Partition) : (d.setPartn n0 x).up = d.up := rfl
@[simp] theorem Dev.setPartn_live (d : Dev) (n0 : Nat) (x : Partition) (r : BufRef) : (d.setPartn n0 x).live r = d.live r := rfl
@[simp] theorem Dev.setPartn_sizeOf (d : Dev) (n0 : Nat) (x : Partition) (r : BufRef) : (d.setPartn n0 x).sizeOf r = d.sizeOf r := rfl
@[simp] theorem Dev.setPartn_byteAt (d : Dev) (n0 : Nat) (x : Partition) (a : Nat) : (d.setPartn n0 x).byteAt a = d.byteAt a := rfl
@[simp] theorem Dev.setPartn_sailExists (d : Dev) (n0 : Nat) (x : Partition) (n : Nat) : (d.setPartn n0 x).sailExists n = d.sailExists n := rfl
@[simp] theorem Dev.setPartn_mastList (d : Dev) (n0 : Nat) (x : Partition) : (d.setPartn n0 x).mastList = d.mastList := rfl
@[simp] theorem Dev.setPartn_freeAt (d : Dev) (n0 : Nat) (x : Partition) (n : Nat) : (d.setPartn n0 x).freeAt n = d.freeAt n := rfl

/-! #### `setAp` changes host.aps and nothing else -/

@[simp] theorem Dev.setAp_fuses (d : Dev) (n0 : Nat) (x : Ap) : (d.setAp n0 x).fuses = d.fuses := rfl
@[simp] theorem Dev.setAp_link (d : Dev) (n0 : Nat) (x : Ap) : (d.setAp n0 x).link = d.link := rfl
@[simp] theorem Dev.setAp_host_owner (d : Dev) (n0 : Nat) (x : Ap) : (d.setAp n0 x).host.owner = d.host.owner := rfl
@[simp] theorem Dev.setAp_host_sessionCtr (d : Dev) (n0 : Nat) (x : Ap) : (d.setAp n0 x).host.sessionCtr = d.host.sessionCtr := rfl
@[simp] theorem Dev.setAp_host_viol (d : Dev) (n0 : Nat) (x : Ap) : (d.setAp n0 x).host.viol = d.host.viol := rfl
@[simp] theorem Dev.setAp_host_intMod (d : Dev) (n0 : Nat) (x : Ap) : (d.setAp n0 x).host.intMod = d.host.intMod := rfl
@[simp] theorem Dev.setAp_host_unsignalled (d : Dev) (n0 : Nat) (x : Ap) : (d.setAp n0 x).host.unsignalled = d.host.unsignalled := rfl
@[simp] theorem Dev.setAp_host_timerOn (d : Dev) (n0 : Nat) (x : Ap) : (d.setAp n0 x).host.timerOn = d.host.timerOn := rfl
@[simp] theorem Dev.setAp_host_msix (d : Dev) (n0 : Nat) (x : Ap) : (d.setAp n0 x).host.msix = d.host.msix := rfl
@[simp] theorem Dev.setAp_host_pba (d : Dev) (n0 : Nat) (x : Ap) : (d.setAp n0 x).host.pba = d.host.pba := rfl
@[simp] theorem Dev.setAp_host_violSource (d : Dev) (n0 : Nat) (x : Ap) : (d.setAp n0 x).host.violSource = d.host.violSource := rfl
@[simp] theorem Dev.setAp_host_violAddr (d : Dev) (n0 : Nat) (x : Ap) : (d.setAp n0 x).host.violAddr = d.host.violAddr := rfl
@[simp] theorem Dev.setAp_host_violHandle (d : Dev) (n0 : Nat) (x : Ap) : (d.setAp n0 x).host.violHandle = d.host.violHandle := rfl
@[simp] theorem Dev.setAp_host_violTack (d : Dev) (n0 : Nat) (x : Ap) : (d.setAp n0 x).host.violTack = d.host.violTack := rfl
@[simp] theorem Dev.setAp_host_violSince (d : Dev) (n0 : Nat) (x : Ap) : (d.setAp n0 x).host.violSince = d.host.violSince := rfl
@[simp] theorem Dev.setAp_host_violAt (d : Dev) (n0 : Nat) (x : Ap) : (d.setAp n0 x).host.violAt = d.host.violAt := rfl
@[simp] theorem Dev.setAp_xfer (d : Dev) (n0 : Nat) (x : Ap) : (d.setAp n0 x).xfer = d.xfer := rfl
@[simp] theorem Dev.setAp_ring (d : Dev) (n0 : Nat) (x : Ap) : (d.setAp n0 x).ring = d.ring := rfl
@[simp] theorem Dev.setAp_qs (d : Dev) (n0 : Nat) (x : Ap) : (d.setAp n0 x).qs = d.qs := rfl
@[simp] theorem Dev.setAp_intake (d : Dev) (n0 : Nat) (x : Ap) : (d.setAp n0 x).intake = d.intake := rfl
@[simp] theorem Dev.setAp_comp (d : Dev) (n0 : Nat) (x : Ap) : (d.setAp n0 x).comp = d.comp := rfl
@[simp] theorem Dev.setAp_tack (d : Dev) (n0 : Nat) (x : Ap) : (d.setAp n0 x).tack = d.tack := rfl
@[simp] theorem Dev.setAp_push (d : Dev) (n0 : Nat) (x : Ap) : (d.setAp n0 x).push = d.push := rfl
@[simp] theorem Dev.setAp_draws (d : Dev) (n0 : Nat) (x : Ap) : (d.setAp n0 x).draws = d.draws := rfl
@[simp] theorem Dev.setAp_dram (d : Dev) (n0 : Nat) (x : Ap) : (d.setAp n0 x).dram = d.dram := rfl
@[simp] theorem Dev.setAp_memlog (d : Dev) (n0 : Nat) (x : Ap) : (d.setAp n0 x).memlog = d.memlog := rfl
@[simp] theorem Dev.setAp_dict (d : Dev) (n0 : Nat) (x : Ap) : (d.setAp n0 x).dict = d.dict := rfl
@[simp] theorem Dev.setAp_pw (d : Dev) (n0 : Nat) (x : Ap) : (d.setAp n0 x).pw = d.pw := rfl
@[simp] theorem Dev.setAp_fw (d : Dev) (n0 : Nat) (x : Ap) : (d.setAp n0 x).fw = d.fw := rfl
@[simp] theorem Dev.setAp_th (d : Dev) (n0 : Nat) (x : Ap) : (d.setAp n0 x).th = d.th := rfl
@[simp] theorem Dev.setAp_trim (d : Dev) (n0 : Nat) (x : Ap) : (d.setAp n0 x).trim = d.trim := rfl
@[simp] theorem Dev.setAp_ledger (d : Dev) (n0 : Nat) (x : Ap) : (d.setAp n0 x).ledger = d.ledger := rfl
@[simp] theorem Dev.setAp_flt (d : Dev) (n0 : Nat) (x : Ap) : (d.setAp n0 x).flt = d.flt := rfl
@[simp] theorem Dev.setAp_lines (d : Dev) (n0 : Nat) (x : Ap) : (d.setAp n0 x).lines = d.lines := rfl
@[simp] theorem Dev.setAp_now (d : Dev) (n0 : Nat) (x : Ap) : (d.setAp n0 x).now = d.now := rfl
@[simp] theorem Dev.setAp_free (d : Dev) (n0 : Nat) (x : Ap) : (d.setAp n0 x).free = d.free := rfl
@[simp] theorem Dev.setAp_out (d : Dev) (n0 : Nat) (x : Ap) : (d.setAp n0 x).out = d.out := rfl
@[simp] theorem Dev.setAp_queue (d : Dev) (n0 : Nat) (x : Ap) (q : QueueId) : (d.setAp n0 x).queue q = d.queue q := rfl
@[simp] theorem Dev.setAp_buf (d : Dev) (n0 : Nat) (x : Ap) (h : U16) : (d.setAp n0 x).buf h = d.buf h := rfl
@[simp] theorem Dev.setAp_slot (d : Dev) (n0 : Nat) (x : Ap) (n : Nat) : (d.setAp n0 x).slot n = d.slot n := rfl
@[simp] theorem Dev.setAp_feed (d : Dev) (n0 : Nat) (x : Ap) (f : FeedId) : (d.setAp n0 x).feed f = d.feed f := rfl
@[simp] theorem Dev.setAp_thresher (d : Dev) (n0 : Nat) (x : Ap) (i : ThresherId) : (d.setAp n0 x).thresher i = d.thresher i := rfl
@[simp] theorem Dev.setAp_vslot (d : Dev) (n0 : Nat) (x : Ap) (n : Nat) : (d.setAp n0 x).vslot n = d.vslot n := rfl
@[simp] theorem Dev.setAp_sail (d : Dev) (n0 : Nat) (x : Ap) (i : SailId) : (d.setAp n0 x).sail i = d.sail i := rfl
@[simp] theorem Dev.setAp_mast (d : Dev) (n0 : Nat) (x : Ap) (i : MastId) : (d.setAp n0 x).mast i = d.mast i := rfl
@[simp] theorem Dev.setAp_cluster (d : Dev) (n0 : Nat) (x : Ap) (i : ClusterId) : (d.setAp n0 x).cluster i = d.cluster i := rfl
@[simp] theorem Dev.setAp_chan (d : Dev) (n0 : Nat) (x : Ap) (n : Nat) : (d.setAp n0 x).chan n = d.chan n := rfl
@[simp] theorem Dev.setAp_sensor (d : Dev) (n0 : Nat) (x : Ap) (n : Nat) : (d.setAp n0 x).sensor n = d.sensor n := rfl
@[simp] theorem Dev.setAp_partn (d : Dev) (n0 : Nat) (x : Ap) (n : Nat) : (d.setAp n0 x).partn n = d.partn n := rfl
@[simp] theorem Dev.setAp_val (d : Dev) (n0 : Nat) (x : Ap) (k : Nat) : (d.setAp n0 x).val k = d.val k := rfl
@[simp] theorem Dev.setAp_tval (d : Dev) (n0 : Nat) (x : Ap) (k : Nat) : (d.setAp n0 x).tval k = d.tval k := rfl
@[simp] theorem Dev.setAp_openTack (d : Dev) (n0 : Nat) (x : Ap) : (d.setAp n0 x).openTack = d.openTack := rfl
@[simp] theorem Dev.setAp_powered (d : Dev) (n0 : Nat) (x : Ap) : (d.setAp n0 x).powered = d.powered := rfl
@[simp] theorem Dev.setAp_up (d : Dev) (n0 : Nat) (x : Ap) : (d.setAp n0 x).up = d.up := rfl
@[simp] theorem Dev.setAp_live (d : Dev) (n0 : Nat) (x : Ap) (r : BufRef) : (d.setAp n0 x).live r = d.live r := rfl
@[simp] theorem Dev.setAp_sizeOf (d : Dev) (n0 : Nat) (x : Ap) (r : BufRef) : (d.setAp n0 x).sizeOf r = d.sizeOf r := rfl
@[simp] theorem Dev.setAp_byteAt (d : Dev) (n0 : Nat) (x : Ap) (a : Nat) : (d.setAp n0 x).byteAt a = d.byteAt a := rfl
@[simp] theorem Dev.setAp_sailExists (d : Dev) (n0 : Nat) (x : Ap) (n : Nat) : (d.setAp n0 x).sailExists n = d.sailExists n := rfl
@[simp] theorem Dev.setAp_mastList (d : Dev) (n0 : Nat) (x : Ap) : (d.setAp n0 x).mastList = d.mastList := rfl
@[simp] theorem Dev.setAp_freeAt (d : Dev) (n0 : Nat) (x : Ap) (n : Nat) : (d.setAp n0 x).freeAt n = d.freeAt n := rfl

/-! #### `setVal` changes dict.vals and nothing else -/

@[simp] theorem Dev.setVal_fuses (d : Dev) (k0 v : Nat) : (d.setVal k0 v).fuses = d.fuses := rfl
@[simp] theorem Dev.setVal_link (d : Dev) (k0 v : Nat) : (d.setVal k0 v).link = d.link := rfl
@[simp] theorem Dev.setVal_host (d : Dev) (k0 v : Nat) : (d.setVal k0 v).host = d.host := rfl
@[simp] theorem Dev.setVal_xfer (d : Dev) (k0 v : Nat) : (d.setVal k0 v).xfer = d.xfer := rfl
@[simp] theorem Dev.setVal_ring (d : Dev) (k0 v : Nat) : (d.setVal k0 v).ring = d.ring := rfl
@[simp] theorem Dev.setVal_qs (d : Dev) (k0 v : Nat) : (d.setVal k0 v).qs = d.qs := rfl
@[simp] theorem Dev.setVal_intake (d : Dev) (k0 v : Nat) : (d.setVal k0 v).intake = d.intake := rfl
@[simp] theorem Dev.setVal_comp (d : Dev) (k0 v : Nat) : (d.setVal k0 v).comp = d.comp := rfl
@[simp] theorem Dev.setVal_tack (d : Dev) (k0 v : Nat) : (d.setVal k0 v).tack = d.tack := rfl
@[simp] theorem Dev.setVal_push (d : Dev) (k0 v : Nat) : (d.setVal k0 v).push = d.push := rfl
@[simp] theorem Dev.setVal_draws (d : Dev) (k0 v : Nat) : (d.setVal k0 v).draws = d.draws := rfl
@[simp] theorem Dev.setVal_dram (d : Dev) (k0 v : Nat) : (d.setVal k0 v).dram = d.dram := rfl
@[simp] theorem Dev.setVal_memlog (d : Dev) (k0 v : Nat) : (d.setVal k0 v).memlog = d.memlog := rfl
@[simp] theorem Dev.setVal_dict_locks (d : Dev) (k0 v : Nat) : (d.setVal k0 v).dict.locks = d.dict.locks := rfl
@[simp] theorem Dev.setVal_dict_claims (d : Dev) (k0 v : Nat) : (d.setVal k0 v).dict.claims = d.dict.claims := rfl
@[simp] theorem Dev.setVal_dict_subs (d : Dev) (k0 v : Nat) : (d.setVal k0 v).dict.subs = d.dict.subs := rfl
@[simp] theorem Dev.setVal_dict_writers (d : Dev) (k0 v : Nat) : (d.setVal k0 v).dict.writers = d.dict.writers := rfl
@[simp] theorem Dev.setVal_dict_arbs (d : Dev) (k0 v : Nat) : (d.setVal k0 v).dict.arbs = d.dict.arbs := rfl
@[simp] theorem Dev.setVal_dict_waiting (d : Dev) (k0 v : Nat) : (d.setVal k0 v).dict.waiting = d.dict.waiting := rfl
@[simp] theorem Dev.setVal_dict_clients (d : Dev) (k0 v : Nat) : (d.setVal k0 v).dict.clients = d.dict.clients := rfl
@[simp] theorem Dev.setVal_dict_confNext (d : Dev) (k0 v : Nat) : (d.setVal k0 v).dict.confNext = d.dict.confNext := rfl
@[simp] theorem Dev.setVal_dict_conf (d : Dev) (k0 v : Nat) : (d.setVal k0 v).dict.conf = d.dict.conf := rfl
@[simp] theorem Dev.setVal_dict_lastStatus (d : Dev) (k0 v : Nat) : (d.setVal k0 v).dict.lastStatus = d.dict.lastStatus := rfl
@[simp] theorem Dev.setVal_dict_lastEntry (d : Dev) (k0 v : Nat) : (d.setVal k0 v).dict.lastEntry = d.dict.lastEntry := rfl
@[simp] theorem Dev.setVal_dict_lastMaster (d : Dev) (k0 v : Nat) : (d.setVal k0 v).dict.lastMaster = d.dict.lastMaster := rfl
@[simp] theorem Dev.setVal_dict_lastTack (d : Dev) (k0 v : Nat) : (d.setVal k0 v).dict.lastTack = d.dict.lastTack := rfl
@[simp] theorem Dev.setVal_dict_comm (d : Dev) (k0 v : Nat) : (d.setVal k0 v).dict.comm = d.dict.comm := rfl
@[simp] theorem Dev.setVal_dict_commDue (d : Dev) (k0 v : Nat) : (d.setVal k0 v).dict.commDue = d.dict.commDue := rfl
@[simp] theorem Dev.setVal_pw (d : Dev) (k0 v : Nat) : (d.setVal k0 v).pw = d.pw := rfl
@[simp] theorem Dev.setVal_fw (d : Dev) (k0 v : Nat) : (d.setVal k0 v).fw = d.fw := rfl
@[simp] theorem Dev.setVal_th (d : Dev) (k0 v : Nat) : (d.setVal k0 v).th = d.th := rfl
@[simp] theorem Dev.setVal_trim (d : Dev) (k0 v : Nat) : (d.setVal k0 v).trim = d.trim := rfl
@[simp] theorem Dev.setVal_ledger (d : Dev) (k0 v : Nat) : (d.setVal k0 v).ledger = d.ledger := rfl
@[simp] theorem Dev.setVal_flt (d : Dev) (k0 v : Nat) : (d.setVal k0 v).flt = d.flt := rfl
@[simp] theorem Dev.setVal_lines (d : Dev) (k0 v : Nat) : (d.setVal k0 v).lines = d.lines := rfl
@[simp] theorem Dev.setVal_now (d : Dev) (k0 v : Nat) : (d.setVal k0 v).now = d.now := rfl
@[simp] theorem Dev.setVal_free (d : Dev) (k0 v : Nat) : (d.setVal k0 v).free = d.free := rfl
@[simp] theorem Dev.setVal_out (d : Dev) (k0 v : Nat) : (d.setVal k0 v).out = d.out := rfl
@[simp] theorem Dev.setVal_queue (d : Dev) (k0 v : Nat) (q : QueueId) : (d.setVal k0 v).queue q = d.queue q := rfl
@[simp] theorem Dev.setVal_buf (d : Dev) (k0 v : Nat) (h : U16) : (d.setVal k0 v).buf h = d.buf h := rfl
@[simp] theorem Dev.setVal_slot (d : Dev) (k0 v : Nat) (n : Nat) : (d.setVal k0 v).slot n = d.slot n := rfl
@[simp] theorem Dev.setVal_feed (d : Dev) (k0 v : Nat) (f : FeedId) : (d.setVal k0 v).feed f = d.feed f := rfl
@[simp] theorem Dev.setVal_thresher (d : Dev) (k0 v : Nat) (i : ThresherId) : (d.setVal k0 v).thresher i = d.thresher i := rfl
@[simp] theorem Dev.setVal_vslot (d : Dev) (k0 v : Nat) (n : Nat) : (d.setVal k0 v).vslot n = d.vslot n := rfl
@[simp] theorem Dev.setVal_sail (d : Dev) (k0 v : Nat) (i : SailId) : (d.setVal k0 v).sail i = d.sail i := rfl
@[simp] theorem Dev.setVal_mast (d : Dev) (k0 v : Nat) (i : MastId) : (d.setVal k0 v).mast i = d.mast i := rfl
@[simp] theorem Dev.setVal_cluster (d : Dev) (k0 v : Nat) (i : ClusterId) : (d.setVal k0 v).cluster i = d.cluster i := rfl
@[simp] theorem Dev.setVal_chan (d : Dev) (k0 v : Nat) (n : Nat) : (d.setVal k0 v).chan n = d.chan n := rfl
@[simp] theorem Dev.setVal_sensor (d : Dev) (k0 v : Nat) (n : Nat) : (d.setVal k0 v).sensor n = d.sensor n := rfl
@[simp] theorem Dev.setVal_partn (d : Dev) (k0 v : Nat) (n : Nat) : (d.setVal k0 v).partn n = d.partn n := rfl
@[simp] theorem Dev.setVal_ap (d : Dev) (k0 v : Nat) (n : Nat) : (d.setVal k0 v).ap n = d.ap n := rfl
@[simp] theorem Dev.setVal_tval (d : Dev) (k0 v : Nat) (k : Nat) : (d.setVal k0 v).tval k = d.tval k := rfl
@[simp] theorem Dev.setVal_openTack (d : Dev) (k0 v : Nat) : (d.setVal k0 v).openTack = d.openTack := rfl
@[simp] theorem Dev.setVal_powered (d : Dev) (k0 v : Nat) : (d.setVal k0 v).powered = d.powered := rfl
@[simp] theorem Dev.setVal_up (d : Dev) (k0 v : Nat) : (d.setVal k0 v).up = d.up := rfl
@[simp] theorem Dev.setVal_live (d : Dev) (k0 v : Nat) (r : BufRef) : (d.setVal k0 v).live r = d.live r := rfl
@[simp] theorem Dev.setVal_sizeOf (d : Dev) (k0 v : Nat) (r : BufRef) : (d.setVal k0 v).sizeOf r = d.sizeOf r := rfl
@[simp] theorem Dev.setVal_byteAt (d : Dev) (k0 v : Nat) (a : Nat) : (d.setVal k0 v).byteAt a = d.byteAt a := rfl
@[simp] theorem Dev.setVal_sailExists (d : Dev) (k0 v : Nat) (n : Nat) : (d.setVal k0 v).sailExists n = d.sailExists n := rfl
@[simp] theorem Dev.setVal_mastList (d : Dev) (k0 v : Nat) : (d.setVal k0 v).mastList = d.mastList := rfl
@[simp] theorem Dev.setVal_freeAt (d : Dev) (k0 v : Nat) (n : Nat) : (d.setVal k0 v).freeAt n = d.freeAt n := rfl

/-! #### `bumpN` changes dict.vals and nothing else -/

@[simp] theorem Dev.bumpN_fuses (d : Dev) (k0 v : Nat) : (d.bumpN k0 v).fuses = d.fuses := rfl
@[simp] theorem Dev.bumpN_link (d : Dev) (k0 v : Nat) : (d.bumpN k0 v).link = d.link := rfl
@[simp] theorem Dev.bumpN_host (d : Dev) (k0 v : Nat) : (d.bumpN k0 v).host = d.host := rfl
@[simp] theorem Dev.bumpN_xfer (d : Dev) (k0 v : Nat) : (d.bumpN k0 v).xfer = d.xfer := rfl
@[simp] theorem Dev.bumpN_ring (d : Dev) (k0 v : Nat) : (d.bumpN k0 v).ring = d.ring := rfl
@[simp] theorem Dev.bumpN_qs (d : Dev) (k0 v : Nat) : (d.bumpN k0 v).qs = d.qs := rfl
@[simp] theorem Dev.bumpN_intake (d : Dev) (k0 v : Nat) : (d.bumpN k0 v).intake = d.intake := rfl
@[simp] theorem Dev.bumpN_comp (d : Dev) (k0 v : Nat) : (d.bumpN k0 v).comp = d.comp := rfl
@[simp] theorem Dev.bumpN_tack (d : Dev) (k0 v : Nat) : (d.bumpN k0 v).tack = d.tack := rfl
@[simp] theorem Dev.bumpN_push (d : Dev) (k0 v : Nat) : (d.bumpN k0 v).push = d.push := rfl
@[simp] theorem Dev.bumpN_draws (d : Dev) (k0 v : Nat) : (d.bumpN k0 v).draws = d.draws := rfl
@[simp] theorem Dev.bumpN_dram (d : Dev) (k0 v : Nat) : (d.bumpN k0 v).dram = d.dram := rfl
@[simp] theorem Dev.bumpN_memlog (d : Dev) (k0 v : Nat) : (d.bumpN k0 v).memlog = d.memlog := rfl
@[simp] theorem Dev.bumpN_dict_locks (d : Dev) (k0 v : Nat) : (d.bumpN k0 v).dict.locks = d.dict.locks := rfl
@[simp] theorem Dev.bumpN_dict_claims (d : Dev) (k0 v : Nat) : (d.bumpN k0 v).dict.claims = d.dict.claims := rfl
@[simp] theorem Dev.bumpN_dict_subs (d : Dev) (k0 v : Nat) : (d.bumpN k0 v).dict.subs = d.dict.subs := rfl
@[simp] theorem Dev.bumpN_dict_writers (d : Dev) (k0 v : Nat) : (d.bumpN k0 v).dict.writers = d.dict.writers := rfl
@[simp] theorem Dev.bumpN_dict_arbs (d : Dev) (k0 v : Nat) : (d.bumpN k0 v).dict.arbs = d.dict.arbs := rfl
@[simp] theorem Dev.bumpN_dict_waiting (d : Dev) (k0 v : Nat) : (d.bumpN k0 v).dict.waiting = d.dict.waiting := rfl
@[simp] theorem Dev.bumpN_dict_clients (d : Dev) (k0 v : Nat) : (d.bumpN k0 v).dict.clients = d.dict.clients := rfl
@[simp] theorem Dev.bumpN_dict_confNext (d : Dev) (k0 v : Nat) : (d.bumpN k0 v).dict.confNext = d.dict.confNext := rfl
@[simp] theorem Dev.bumpN_dict_conf (d : Dev) (k0 v : Nat) : (d.bumpN k0 v).dict.conf = d.dict.conf := rfl
@[simp] theorem Dev.bumpN_dict_lastStatus (d : Dev) (k0 v : Nat) : (d.bumpN k0 v).dict.lastStatus = d.dict.lastStatus := rfl
@[simp] theorem Dev.bumpN_dict_lastEntry (d : Dev) (k0 v : Nat) : (d.bumpN k0 v).dict.lastEntry = d.dict.lastEntry := rfl
@[simp] theorem Dev.bumpN_dict_lastMaster (d : Dev) (k0 v : Nat) : (d.bumpN k0 v).dict.lastMaster = d.dict.lastMaster := rfl
@[simp] theorem Dev.bumpN_dict_lastTack (d : Dev) (k0 v : Nat) : (d.bumpN k0 v).dict.lastTack = d.dict.lastTack := rfl
@[simp] theorem Dev.bumpN_dict_comm (d : Dev) (k0 v : Nat) : (d.bumpN k0 v).dict.comm = d.dict.comm := rfl
@[simp] theorem Dev.bumpN_dict_commDue (d : Dev) (k0 v : Nat) : (d.bumpN k0 v).dict.commDue = d.dict.commDue := rfl
@[simp] theorem Dev.bumpN_pw (d : Dev) (k0 v : Nat) : (d.bumpN k0 v).pw = d.pw := rfl
@[simp] theorem Dev.bumpN_fw (d : Dev) (k0 v : Nat) : (d.bumpN k0 v).fw = d.fw := rfl
@[simp] theorem Dev.bumpN_th (d : Dev) (k0 v : Nat) : (d.bumpN k0 v).th = d.th := rfl
@[simp] theorem Dev.bumpN_trim (d : Dev) (k0 v : Nat) : (d.bumpN k0 v).trim = d.trim := rfl
@[simp] theorem Dev.bumpN_ledger (d : Dev) (k0 v : Nat) : (d.bumpN k0 v).ledger = d.ledger := rfl
@[simp] theorem Dev.bumpN_flt (d : Dev) (k0 v : Nat) : (d.bumpN k0 v).flt = d.flt := rfl
@[simp] theorem Dev.bumpN_lines (d : Dev) (k0 v : Nat) : (d.bumpN k0 v).lines = d.lines := rfl
@[simp] theorem Dev.bumpN_now (d : Dev) (k0 v : Nat) : (d.bumpN k0 v).now = d.now := rfl
@[simp] theorem Dev.bumpN_free (d : Dev) (k0 v : Nat) : (d.bumpN k0 v).free = d.free := rfl
@[simp] theorem Dev.bumpN_out (d : Dev) (k0 v : Nat) : (d.bumpN k0 v).out = d.out := rfl
@[simp] theorem Dev.bumpN_queue (d : Dev) (k0 v : Nat) (q : QueueId) : (d.bumpN k0 v).queue q = d.queue q := rfl
@[simp] theorem Dev.bumpN_buf (d : Dev) (k0 v : Nat) (h : U16) : (d.bumpN k0 v).buf h = d.buf h := rfl
@[simp] theorem Dev.bumpN_slot (d : Dev) (k0 v : Nat) (n : Nat) : (d.bumpN k0 v).slot n = d.slot n := rfl
@[simp] theorem Dev.bumpN_feed (d : Dev) (k0 v : Nat) (f : FeedId) : (d.bumpN k0 v).feed f = d.feed f := rfl
@[simp] theorem Dev.bumpN_thresher (d : Dev) (k0 v : Nat) (i : ThresherId) : (d.bumpN k0 v).thresher i = d.thresher i := rfl
@[simp] theorem Dev.bumpN_vslot (d : Dev) (k0 v : Nat) (n : Nat) : (d.bumpN k0 v).vslot n = d.vslot n := rfl
@[simp] theorem Dev.bumpN_sail (d : Dev) (k0 v : Nat) (i : SailId) : (d.bumpN k0 v).sail i = d.sail i := rfl
@[simp] theorem Dev.bumpN_mast (d : Dev) (k0 v : Nat) (i : MastId) : (d.bumpN k0 v).mast i = d.mast i := rfl
@[simp] theorem Dev.bumpN_cluster (d : Dev) (k0 v : Nat) (i : ClusterId) : (d.bumpN k0 v).cluster i = d.cluster i := rfl
@[simp] theorem Dev.bumpN_chan (d : Dev) (k0 v : Nat) (n : Nat) : (d.bumpN k0 v).chan n = d.chan n := rfl
@[simp] theorem Dev.bumpN_sensor (d : Dev) (k0 v : Nat) (n : Nat) : (d.bumpN k0 v).sensor n = d.sensor n := rfl
@[simp] theorem Dev.bumpN_partn (d : Dev) (k0 v : Nat) (n : Nat) : (d.bumpN k0 v).partn n = d.partn n := rfl
@[simp] theorem Dev.bumpN_ap (d : Dev) (k0 v : Nat) (n : Nat) : (d.bumpN k0 v).ap n = d.ap n := rfl
@[simp] theorem Dev.bumpN_tval (d : Dev) (k0 v : Nat) (k : Nat) : (d.bumpN k0 v).tval k = d.tval k := rfl
@[simp] theorem Dev.bumpN_openTack (d : Dev) (k0 v : Nat) : (d.bumpN k0 v).openTack = d.openTack := rfl
@[simp] theorem Dev.bumpN_powered (d : Dev) (k0 v : Nat) : (d.bumpN k0 v).powered = d.powered := rfl
@[simp] theorem Dev.bumpN_up (d : Dev) (k0 v : Nat) : (d.bumpN k0 v).up = d.up := rfl
@[simp] theorem Dev.bumpN_live (d : Dev) (k0 v : Nat) (r : BufRef) : (d.bumpN k0 v).live r = d.live r := rfl
@[simp] theorem Dev.bumpN_sizeOf (d : Dev) (k0 v : Nat) (r : BufRef) : (d.bumpN k0 v).sizeOf r = d.sizeOf r := rfl
@[simp] theorem Dev.bumpN_byteAt (d : Dev) (k0 v : Nat) (a : Nat) : (d.bumpN k0 v).byteAt a = d.byteAt a := rfl
@[simp] theorem Dev.bumpN_sailExists (d : Dev) (k0 v : Nat) (n : Nat) : (d.bumpN k0 v).sailExists n = d.sailExists n := rfl
@[simp] theorem Dev.bumpN_mastList (d : Dev) (k0 v : Nat) : (d.bumpN k0 v).mastList = d.mastList := rfl
@[simp] theorem Dev.bumpN_freeAt (d : Dev) (k0 v : Nat) (n : Nat) : (d.bumpN k0 v).freeAt n = d.freeAt n := rfl

/-! #### `bump` changes dict.vals and nothing else -/

@[simp] theorem Dev.bump_fuses (d : Dev) (k0 : Nat) : (d.bump k0).fuses = d.fuses := rfl
@[simp] theorem Dev.bump_link (d : Dev) (k0 : Nat) : (d.bump k0).link = d.link := rfl
@[simp] theorem Dev.bump_host (d : Dev) (k0 : Nat) : (d.bump k0).host = d.host := rfl
@[simp] theorem Dev.bump_xfer (d : Dev) (k0 : Nat) : (d.bump k0).xfer = d.xfer := rfl
@[simp] theorem Dev.bump_ring (d : Dev) (k0 : Nat) : (d.bump k0).ring = d.ring := rfl
@[simp] theorem Dev.bump_qs (d : Dev) (k0 : Nat) : (d.bump k0).qs = d.qs := rfl
@[simp] theorem Dev.bump_intake (d : Dev) (k0 : Nat) : (d.bump k0).intake = d.intake := rfl
@[simp] theorem Dev.bump_comp (d : Dev) (k0 : Nat) : (d.bump k0).comp = d.comp := rfl
@[simp] theorem Dev.bump_tack (d : Dev) (k0 : Nat) : (d.bump k0).tack = d.tack := rfl
@[simp] theorem Dev.bump_push (d : Dev) (k0 : Nat) : (d.bump k0).push = d.push := rfl
@[simp] theorem Dev.bump_draws (d : Dev) (k0 : Nat) : (d.bump k0).draws = d.draws := rfl
@[simp] theorem Dev.bump_dram (d : Dev) (k0 : Nat) : (d.bump k0).dram = d.dram := rfl
@[simp] theorem Dev.bump_memlog (d : Dev) (k0 : Nat) : (d.bump k0).memlog = d.memlog := rfl
@[simp] theorem Dev.bump_dict_locks (d : Dev) (k0 : Nat) : (d.bump k0).dict.locks = d.dict.locks := rfl
@[simp] theorem Dev.bump_dict_claims (d : Dev) (k0 : Nat) : (d.bump k0).dict.claims = d.dict.claims := rfl
@[simp] theorem Dev.bump_dict_subs (d : Dev) (k0 : Nat) : (d.bump k0).dict.subs = d.dict.subs := rfl
@[simp] theorem Dev.bump_dict_writers (d : Dev) (k0 : Nat) : (d.bump k0).dict.writers = d.dict.writers := rfl
@[simp] theorem Dev.bump_dict_arbs (d : Dev) (k0 : Nat) : (d.bump k0).dict.arbs = d.dict.arbs := rfl
@[simp] theorem Dev.bump_dict_waiting (d : Dev) (k0 : Nat) : (d.bump k0).dict.waiting = d.dict.waiting := rfl
@[simp] theorem Dev.bump_dict_clients (d : Dev) (k0 : Nat) : (d.bump k0).dict.clients = d.dict.clients := rfl
@[simp] theorem Dev.bump_dict_confNext (d : Dev) (k0 : Nat) : (d.bump k0).dict.confNext = d.dict.confNext := rfl
@[simp] theorem Dev.bump_dict_conf (d : Dev) (k0 : Nat) : (d.bump k0).dict.conf = d.dict.conf := rfl
@[simp] theorem Dev.bump_dict_lastStatus (d : Dev) (k0 : Nat) : (d.bump k0).dict.lastStatus = d.dict.lastStatus := rfl
@[simp] theorem Dev.bump_dict_lastEntry (d : Dev) (k0 : Nat) : (d.bump k0).dict.lastEntry = d.dict.lastEntry := rfl
@[simp] theorem Dev.bump_dict_lastMaster (d : Dev) (k0 : Nat) : (d.bump k0).dict.lastMaster = d.dict.lastMaster := rfl
@[simp] theorem Dev.bump_dict_lastTack (d : Dev) (k0 : Nat) : (d.bump k0).dict.lastTack = d.dict.lastTack := rfl
@[simp] theorem Dev.bump_dict_comm (d : Dev) (k0 : Nat) : (d.bump k0).dict.comm = d.dict.comm := rfl
@[simp] theorem Dev.bump_dict_commDue (d : Dev) (k0 : Nat) : (d.bump k0).dict.commDue = d.dict.commDue := rfl
@[simp] theorem Dev.bump_pw (d : Dev) (k0 : Nat) : (d.bump k0).pw = d.pw := rfl
@[simp] theorem Dev.bump_fw (d : Dev) (k0 : Nat) : (d.bump k0).fw = d.fw := rfl
@[simp] theorem Dev.bump_th (d : Dev) (k0 : Nat) : (d.bump k0).th = d.th := rfl
@[simp] theorem Dev.bump_trim (d : Dev) (k0 : Nat) : (d.bump k0).trim = d.trim := rfl
@[simp] theorem Dev.bump_ledger (d : Dev) (k0 : Nat) : (d.bump k0).ledger = d.ledger := rfl
@[simp] theorem Dev.bump_flt (d : Dev) (k0 : Nat) : (d.bump k0).flt = d.flt := rfl
@[simp] theorem Dev.bump_lines (d : Dev) (k0 : Nat) : (d.bump k0).lines = d.lines := rfl
@[simp] theorem Dev.bump_now (d : Dev) (k0 : Nat) : (d.bump k0).now = d.now := rfl
@[simp] theorem Dev.bump_free (d : Dev) (k0 : Nat) : (d.bump k0).free = d.free := rfl
@[simp] theorem Dev.bump_out (d : Dev) (k0 : Nat) : (d.bump k0).out = d.out := rfl
@[simp] theorem Dev.bump_queue (d : Dev) (k0 : Nat) (q : QueueId) : (d.bump k0).queue q = d.queue q := rfl
@[simp] theorem Dev.bump_buf (d : Dev) (k0 : Nat) (h : U16) : (d.bump k0).buf h = d.buf h := rfl
@[simp] theorem Dev.bump_slot (d : Dev) (k0 : Nat) (n : Nat) : (d.bump k0).slot n = d.slot n := rfl
@[simp] theorem Dev.bump_feed (d : Dev) (k0 : Nat) (f : FeedId) : (d.bump k0).feed f = d.feed f := rfl
@[simp] theorem Dev.bump_thresher (d : Dev) (k0 : Nat) (i : ThresherId) : (d.bump k0).thresher i = d.thresher i := rfl
@[simp] theorem Dev.bump_vslot (d : Dev) (k0 : Nat) (n : Nat) : (d.bump k0).vslot n = d.vslot n := rfl
@[simp] theorem Dev.bump_sail (d : Dev) (k0 : Nat) (i : SailId) : (d.bump k0).sail i = d.sail i := rfl
@[simp] theorem Dev.bump_mast (d : Dev) (k0 : Nat) (i : MastId) : (d.bump k0).mast i = d.mast i := rfl
@[simp] theorem Dev.bump_cluster (d : Dev) (k0 : Nat) (i : ClusterId) : (d.bump k0).cluster i = d.cluster i := rfl
@[simp] theorem Dev.bump_chan (d : Dev) (k0 : Nat) (n : Nat) : (d.bump k0).chan n = d.chan n := rfl
@[simp] theorem Dev.bump_sensor (d : Dev) (k0 : Nat) (n : Nat) : (d.bump k0).sensor n = d.sensor n := rfl
@[simp] theorem Dev.bump_partn (d : Dev) (k0 : Nat) (n : Nat) : (d.bump k0).partn n = d.partn n := rfl
@[simp] theorem Dev.bump_ap (d : Dev) (k0 : Nat) (n : Nat) : (d.bump k0).ap n = d.ap n := rfl
@[simp] theorem Dev.bump_tval (d : Dev) (k0 : Nat) (k : Nat) : (d.bump k0).tval k = d.tval k := rfl
@[simp] theorem Dev.bump_openTack (d : Dev) (k0 : Nat) : (d.bump k0).openTack = d.openTack := rfl
@[simp] theorem Dev.bump_powered (d : Dev) (k0 : Nat) : (d.bump k0).powered = d.powered := rfl
@[simp] theorem Dev.bump_up (d : Dev) (k0 : Nat) : (d.bump k0).up = d.up := rfl
@[simp] theorem Dev.bump_live (d : Dev) (k0 : Nat) (r : BufRef) : (d.bump k0).live r = d.live r := rfl
@[simp] theorem Dev.bump_sizeOf (d : Dev) (k0 : Nat) (r : BufRef) : (d.bump k0).sizeOf r = d.sizeOf r := rfl
@[simp] theorem Dev.bump_byteAt (d : Dev) (k0 : Nat) (a : Nat) : (d.bump k0).byteAt a = d.byteAt a := rfl
@[simp] theorem Dev.bump_sailExists (d : Dev) (k0 : Nat) (n : Nat) : (d.bump k0).sailExists n = d.sailExists n := rfl
@[simp] theorem Dev.bump_mastList (d : Dev) (k0 : Nat) : (d.bump k0).mastList = d.mastList := rfl
@[simp] theorem Dev.bump_freeAt (d : Dev) (k0 : Nat) (n : Nat) : (d.bump k0).freeAt n = d.freeAt n := rfl

/-! #### `occur` changes ledger.rings and nothing else -/

@[simp] theorem Dev.occur_fuses (d : Dev) (c0 v : Nat) : (d.occur c0 v).fuses = d.fuses := rfl
@[simp] theorem Dev.occur_link (d : Dev) (c0 v : Nat) : (d.occur c0 v).link = d.link := rfl
@[simp] theorem Dev.occur_host (d : Dev) (c0 v : Nat) : (d.occur c0 v).host = d.host := rfl
@[simp] theorem Dev.occur_xfer (d : Dev) (c0 v : Nat) : (d.occur c0 v).xfer = d.xfer := rfl
@[simp] theorem Dev.occur_ring (d : Dev) (c0 v : Nat) : (d.occur c0 v).ring = d.ring := rfl
@[simp] theorem Dev.occur_qs (d : Dev) (c0 v : Nat) : (d.occur c0 v).qs = d.qs := rfl
@[simp] theorem Dev.occur_intake (d : Dev) (c0 v : Nat) : (d.occur c0 v).intake = d.intake := rfl
@[simp] theorem Dev.occur_comp (d : Dev) (c0 v : Nat) : (d.occur c0 v).comp = d.comp := rfl
@[simp] theorem Dev.occur_tack (d : Dev) (c0 v : Nat) : (d.occur c0 v).tack = d.tack := rfl
@[simp] theorem Dev.occur_push (d : Dev) (c0 v : Nat) : (d.occur c0 v).push = d.push := rfl
@[simp] theorem Dev.occur_draws (d : Dev) (c0 v : Nat) : (d.occur c0 v).draws = d.draws := rfl
@[simp] theorem Dev.occur_dram (d : Dev) (c0 v : Nat) : (d.occur c0 v).dram = d.dram := rfl
@[simp] theorem Dev.occur_memlog (d : Dev) (c0 v : Nat) : (d.occur c0 v).memlog = d.memlog := rfl
@[simp] theorem Dev.occur_dict (d : Dev) (c0 v : Nat) : (d.occur c0 v).dict = d.dict := rfl
@[simp] theorem Dev.occur_pw (d : Dev) (c0 v : Nat) : (d.occur c0 v).pw = d.pw := rfl
@[simp] theorem Dev.occur_fw (d : Dev) (c0 v : Nat) : (d.occur c0 v).fw = d.fw := rfl
@[simp] theorem Dev.occur_th (d : Dev) (c0 v : Nat) : (d.occur c0 v).th = d.th := rfl
@[simp] theorem Dev.occur_trim (d : Dev) (c0 v : Nat) : (d.occur c0 v).trim = d.trim := rfl
@[simp] theorem Dev.occur_ledger_sectors (d : Dev) (c0 v : Nat) : (d.occur c0 v).ledger.sectors = d.ledger.sectors := rfl
@[simp] theorem Dev.occur_ledger_spares (d : Dev) (c0 v : Nat) : (d.occur c0 v).ledger.spares = d.ledger.spares := rfl
@[simp] theorem Dev.occur_ledger_queue (d : Dev) (c0 v : Nat) : (d.occur c0 v).ledger.queue = d.ledger.queue := rfl
@[simp] theorem Dev.occur_ledger_writing (d : Dev) (c0 v : Nat) : (d.occur c0 v).ledger.writing = d.ledger.writing := rfl
@[simp] theorem Dev.occur_ledger_counting (d : Dev) (c0 v : Nat) : (d.occur c0 v).ledger.counting = d.ledger.counting := rfl
@[simp] theorem Dev.occur_ledger_repair (d : Dev) (c0 v : Nat) : (d.occur c0 v).ledger.repair = d.ledger.repair := rfl
@[simp] theorem Dev.occur_ledger_scan (d : Dev) (c0 v : Nat) : (d.occur c0 v).ledger.scan = d.ledger.scan := rfl
@[simp] theorem Dev.occur_ledger_pw (d : Dev) (c0 v : Nat) : (d.occur c0 v).ledger.pw = d.ledger.pw := rfl
@[simp] theorem Dev.occur_flt (d : Dev) (c0 v : Nat) : (d.occur c0 v).flt = d.flt := rfl
@[simp] theorem Dev.occur_lines (d : Dev) (c0 v : Nat) : (d.occur c0 v).lines = d.lines := rfl
@[simp] theorem Dev.occur_now (d : Dev) (c0 v : Nat) : (d.occur c0 v).now = d.now := rfl
@[simp] theorem Dev.occur_free (d : Dev) (c0 v : Nat) : (d.occur c0 v).free = d.free := rfl
@[simp] theorem Dev.occur_out (d : Dev) (c0 v : Nat) : (d.occur c0 v).out = d.out := rfl
@[simp] theorem Dev.occur_queue (d : Dev) (c0 v : Nat) (q : QueueId) : (d.occur c0 v).queue q = d.queue q := rfl
@[simp] theorem Dev.occur_buf (d : Dev) (c0 v : Nat) (h : U16) : (d.occur c0 v).buf h = d.buf h := rfl
@[simp] theorem Dev.occur_slot (d : Dev) (c0 v : Nat) (n : Nat) : (d.occur c0 v).slot n = d.slot n := rfl
@[simp] theorem Dev.occur_feed (d : Dev) (c0 v : Nat) (f : FeedId) : (d.occur c0 v).feed f = d.feed f := rfl
@[simp] theorem Dev.occur_thresher (d : Dev) (c0 v : Nat) (i : ThresherId) : (d.occur c0 v).thresher i = d.thresher i := rfl
@[simp] theorem Dev.occur_vslot (d : Dev) (c0 v : Nat) (n : Nat) : (d.occur c0 v).vslot n = d.vslot n := rfl
@[simp] theorem Dev.occur_sail (d : Dev) (c0 v : Nat) (i : SailId) : (d.occur c0 v).sail i = d.sail i := rfl
@[simp] theorem Dev.occur_mast (d : Dev) (c0 v : Nat) (i : MastId) : (d.occur c0 v).mast i = d.mast i := rfl
@[simp] theorem Dev.occur_cluster (d : Dev) (c0 v : Nat) (i : ClusterId) : (d.occur c0 v).cluster i = d.cluster i := rfl
@[simp] theorem Dev.occur_chan (d : Dev) (c0 v : Nat) (n : Nat) : (d.occur c0 v).chan n = d.chan n := rfl
@[simp] theorem Dev.occur_sensor (d : Dev) (c0 v : Nat) (n : Nat) : (d.occur c0 v).sensor n = d.sensor n := rfl
@[simp] theorem Dev.occur_partn (d : Dev) (c0 v : Nat) (n : Nat) : (d.occur c0 v).partn n = d.partn n := rfl
@[simp] theorem Dev.occur_ap (d : Dev) (c0 v : Nat) (n : Nat) : (d.occur c0 v).ap n = d.ap n := rfl
@[simp] theorem Dev.occur_val (d : Dev) (c0 v : Nat) (k : Nat) : (d.occur c0 v).val k = d.val k := rfl
@[simp] theorem Dev.occur_tval (d : Dev) (c0 v : Nat) (k : Nat) : (d.occur c0 v).tval k = d.tval k := rfl
@[simp] theorem Dev.occur_openTack (d : Dev) (c0 v : Nat) : (d.occur c0 v).openTack = d.openTack := rfl
@[simp] theorem Dev.occur_powered (d : Dev) (c0 v : Nat) : (d.occur c0 v).powered = d.powered := rfl
@[simp] theorem Dev.occur_up (d : Dev) (c0 v : Nat) : (d.occur c0 v).up = d.up := rfl
@[simp] theorem Dev.occur_live (d : Dev) (c0 v : Nat) (r : BufRef) : (d.occur c0 v).live r = d.live r := rfl
@[simp] theorem Dev.occur_sizeOf (d : Dev) (c0 v : Nat) (r : BufRef) : (d.occur c0 v).sizeOf r = d.sizeOf r := rfl
@[simp] theorem Dev.occur_byteAt (d : Dev) (c0 v : Nat) (a : Nat) : (d.occur c0 v).byteAt a = d.byteAt a := rfl
@[simp] theorem Dev.occur_sailExists (d : Dev) (c0 v : Nat) (n : Nat) : (d.occur c0 v).sailExists n = d.sailExists n := rfl
@[simp] theorem Dev.occur_mastList (d : Dev) (c0 v : Nat) : (d.occur c0 v).mastList = d.mastList := rfl
@[simp] theorem Dev.occur_freeAt (d : Dev) (c0 v : Nat) (n : Nat) : (d.occur c0 v).freeAt n = d.freeAt n := rfl

/-! #### `useFree` changes free and nothing else -/

@[simp] theorem Dev.useFree_fuses (d : Dev) : (d.useFree).fuses = d.fuses := rfl
@[simp] theorem Dev.useFree_link (d : Dev) : (d.useFree).link = d.link := rfl
@[simp] theorem Dev.useFree_host (d : Dev) : (d.useFree).host = d.host := rfl
@[simp] theorem Dev.useFree_xfer (d : Dev) : (d.useFree).xfer = d.xfer := rfl
@[simp] theorem Dev.useFree_ring (d : Dev) : (d.useFree).ring = d.ring := rfl
@[simp] theorem Dev.useFree_qs (d : Dev) : (d.useFree).qs = d.qs := rfl
@[simp] theorem Dev.useFree_intake (d : Dev) : (d.useFree).intake = d.intake := rfl
@[simp] theorem Dev.useFree_comp (d : Dev) : (d.useFree).comp = d.comp := rfl
@[simp] theorem Dev.useFree_tack (d : Dev) : (d.useFree).tack = d.tack := rfl
@[simp] theorem Dev.useFree_push (d : Dev) : (d.useFree).push = d.push := rfl
@[simp] theorem Dev.useFree_draws (d : Dev) : (d.useFree).draws = d.draws := rfl
@[simp] theorem Dev.useFree_dram (d : Dev) : (d.useFree).dram = d.dram := rfl
@[simp] theorem Dev.useFree_memlog (d : Dev) : (d.useFree).memlog = d.memlog := rfl
@[simp] theorem Dev.useFree_dict (d : Dev) : (d.useFree).dict = d.dict := rfl
@[simp] theorem Dev.useFree_pw (d : Dev) : (d.useFree).pw = d.pw := rfl
@[simp] theorem Dev.useFree_fw (d : Dev) : (d.useFree).fw = d.fw := rfl
@[simp] theorem Dev.useFree_th (d : Dev) : (d.useFree).th = d.th := rfl
@[simp] theorem Dev.useFree_trim (d : Dev) : (d.useFree).trim = d.trim := rfl
@[simp] theorem Dev.useFree_ledger (d : Dev) : (d.useFree).ledger = d.ledger := rfl
@[simp] theorem Dev.useFree_flt (d : Dev) : (d.useFree).flt = d.flt := rfl
@[simp] theorem Dev.useFree_lines (d : Dev) : (d.useFree).lines = d.lines := rfl
@[simp] theorem Dev.useFree_now (d : Dev) : (d.useFree).now = d.now := rfl
@[simp] theorem Dev.useFree_out (d : Dev) : (d.useFree).out = d.out := rfl
@[simp] theorem Dev.useFree_queue (d : Dev) (q : QueueId) : (d.useFree).queue q = d.queue q := rfl
@[simp] theorem Dev.useFree_buf (d : Dev) (h : U16) : (d.useFree).buf h = d.buf h := rfl
@[simp] theorem Dev.useFree_slot (d : Dev) (n : Nat) : (d.useFree).slot n = d.slot n := rfl
@[simp] theorem Dev.useFree_feed (d : Dev) (f : FeedId) : (d.useFree).feed f = d.feed f := rfl
@[simp] theorem Dev.useFree_thresher (d : Dev) (i : ThresherId) : (d.useFree).thresher i = d.thresher i := rfl
@[simp] theorem Dev.useFree_vslot (d : Dev) (n : Nat) : (d.useFree).vslot n = d.vslot n := rfl
@[simp] theorem Dev.useFree_sail (d : Dev) (i : SailId) : (d.useFree).sail i = d.sail i := rfl
@[simp] theorem Dev.useFree_mast (d : Dev) (i : MastId) : (d.useFree).mast i = d.mast i := rfl
@[simp] theorem Dev.useFree_cluster (d : Dev) (i : ClusterId) : (d.useFree).cluster i = d.cluster i := rfl
@[simp] theorem Dev.useFree_chan (d : Dev) (n : Nat) : (d.useFree).chan n = d.chan n := rfl
@[simp] theorem Dev.useFree_sensor (d : Dev) (n : Nat) : (d.useFree).sensor n = d.sensor n := rfl
@[simp] theorem Dev.useFree_partn (d : Dev) (n : Nat) : (d.useFree).partn n = d.partn n := rfl
@[simp] theorem Dev.useFree_ap (d : Dev) (n : Nat) : (d.useFree).ap n = d.ap n := rfl
@[simp] theorem Dev.useFree_val (d : Dev) (k : Nat) : (d.useFree).val k = d.val k := rfl
@[simp] theorem Dev.useFree_tval (d : Dev) (k : Nat) : (d.useFree).tval k = d.tval k := rfl
@[simp] theorem Dev.useFree_openTack (d : Dev) : (d.useFree).openTack = d.openTack := rfl
@[simp] theorem Dev.useFree_powered (d : Dev) : (d.useFree).powered = d.powered := rfl
@[simp] theorem Dev.useFree_up (d : Dev) : (d.useFree).up = d.up := rfl
@[simp] theorem Dev.useFree_live (d : Dev) (r : BufRef) : (d.useFree).live r = d.live r := rfl
@[simp] theorem Dev.useFree_sizeOf (d : Dev) (r : BufRef) : (d.useFree).sizeOf r = d.sizeOf r := rfl
@[simp] theorem Dev.useFree_byteAt (d : Dev) (a : Nat) : (d.useFree).byteAt a = d.byteAt a := rfl
@[simp] theorem Dev.useFree_sailExists (d : Dev) (n : Nat) : (d.useFree).sailExists n = d.sailExists n := rfl
@[simp] theorem Dev.useFree_mastList (d : Dev) : (d.useFree).mastList = d.mastList := rfl

/-! #### `send` changes out and nothing else -/

@[simp] theorem Dev.send_fuses (d : Dev) (o : Out) : (d.send o).fuses = d.fuses := rfl
@[simp] theorem Dev.send_link (d : Dev) (o : Out) : (d.send o).link = d.link := rfl
@[simp] theorem Dev.send_host (d : Dev) (o : Out) : (d.send o).host = d.host := rfl
@[simp] theorem Dev.send_xfer (d : Dev) (o : Out) : (d.send o).xfer = d.xfer := rfl
@[simp] theorem Dev.send_ring (d : Dev) (o : Out) : (d.send o).ring = d.ring := rfl
@[simp] theorem Dev.send_qs (d : Dev) (o : Out) : (d.send o).qs = d.qs := rfl
@[simp] theorem Dev.send_intake (d : Dev) (o : Out) : (d.send o).intake = d.intake := rfl
@[simp] theorem Dev.send_comp (d : Dev) (o : Out) : (d.send o).comp = d.comp := rfl
@[simp] theorem Dev.send_tack (d : Dev) (o : Out) : (d.send o).tack = d.tack := rfl
@[simp] theorem Dev.send_push (d : Dev) (o : Out) : (d.send o).push = d.push := rfl
@[simp] theorem Dev.send_draws (d : Dev) (o : Out) : (d.send o).draws = d.draws := rfl
@[simp] theorem Dev.send_dram (d : Dev) (o : Out) : (d.send o).dram = d.dram := rfl
@[simp] theorem Dev.send_memlog (d : Dev) (o : Out) : (d.send o).memlog = d.memlog := rfl
@[simp] theorem Dev.send_dict (d : Dev) (o : Out) : (d.send o).dict = d.dict := rfl
@[simp] theorem Dev.send_pw (d : Dev) (o : Out) : (d.send o).pw = d.pw := rfl
@[simp] theorem Dev.send_fw (d : Dev) (o : Out) : (d.send o).fw = d.fw := rfl
@[simp] theorem Dev.send_th (d : Dev) (o : Out) : (d.send o).th = d.th := rfl
@[simp] theorem Dev.send_trim (d : Dev) (o : Out) : (d.send o).trim = d.trim := rfl
@[simp] theorem Dev.send_ledger (d : Dev) (o : Out) : (d.send o).ledger = d.ledger := rfl
@[simp] theorem Dev.send_flt (d : Dev) (o : Out) : (d.send o).flt = d.flt := rfl
@[simp] theorem Dev.send_lines (d : Dev) (o : Out) : (d.send o).lines = d.lines := rfl
@[simp] theorem Dev.send_now (d : Dev) (o : Out) : (d.send o).now = d.now := rfl
@[simp] theorem Dev.send_free (d : Dev) (o : Out) : (d.send o).free = d.free := rfl
@[simp] theorem Dev.send_queue (d : Dev) (o : Out) (q : QueueId) : (d.send o).queue q = d.queue q := rfl
@[simp] theorem Dev.send_buf (d : Dev) (o : Out) (h : U16) : (d.send o).buf h = d.buf h := rfl
@[simp] theorem Dev.send_slot (d : Dev) (o : Out) (n : Nat) : (d.send o).slot n = d.slot n := rfl
@[simp] theorem Dev.send_feed (d : Dev) (o : Out) (f : FeedId) : (d.send o).feed f = d.feed f := rfl
@[simp] theorem Dev.send_thresher (d : Dev) (o : Out) (i : ThresherId) : (d.send o).thresher i = d.thresher i := rfl
@[simp] theorem Dev.send_vslot (d : Dev) (o : Out) (n : Nat) : (d.send o).vslot n = d.vslot n := rfl
@[simp] theorem Dev.send_sail (d : Dev) (o : Out) (i : SailId) : (d.send o).sail i = d.sail i := rfl
@[simp] theorem Dev.send_mast (d : Dev) (o : Out) (i : MastId) : (d.send o).mast i = d.mast i := rfl
@[simp] theorem Dev.send_cluster (d : Dev) (o : Out) (i : ClusterId) : (d.send o).cluster i = d.cluster i := rfl
@[simp] theorem Dev.send_chan (d : Dev) (o : Out) (n : Nat) : (d.send o).chan n = d.chan n := rfl
@[simp] theorem Dev.send_sensor (d : Dev) (o : Out) (n : Nat) : (d.send o).sensor n = d.sensor n := rfl
@[simp] theorem Dev.send_partn (d : Dev) (o : Out) (n : Nat) : (d.send o).partn n = d.partn n := rfl
@[simp] theorem Dev.send_ap (d : Dev) (o : Out) (n : Nat) : (d.send o).ap n = d.ap n := rfl
@[simp] theorem Dev.send_val (d : Dev) (o : Out) (k : Nat) : (d.send o).val k = d.val k := rfl
@[simp] theorem Dev.send_tval (d : Dev) (o : Out) (k : Nat) : (d.send o).tval k = d.tval k := rfl
@[simp] theorem Dev.send_openTack (d : Dev) (o : Out) : (d.send o).openTack = d.openTack := rfl
@[simp] theorem Dev.send_powered (d : Dev) (o : Out) : (d.send o).powered = d.powered := rfl
@[simp] theorem Dev.send_up (d : Dev) (o : Out) : (d.send o).up = d.up := rfl
@[simp] theorem Dev.send_live (d : Dev) (o : Out) (r : BufRef) : (d.send o).live r = d.live r := rfl
@[simp] theorem Dev.send_sizeOf (d : Dev) (o : Out) (r : BufRef) : (d.send o).sizeOf r = d.sizeOf r := rfl
@[simp] theorem Dev.send_byteAt (d : Dev) (o : Out) (a : Nat) : (d.send o).byteAt a = d.byteAt a := rfl
@[simp] theorem Dev.send_sailExists (d : Dev) (o : Out) (n : Nat) : (d.send o).sailExists n = d.sailExists n := rfl
@[simp] theorem Dev.send_mastList (d : Dev) (o : Out) : (d.send o).mastList = d.mastList := rfl
@[simp] theorem Dev.send_freeAt (d : Dev) (o : Out) (n : Nat) : (d.send o).freeAt n = d.freeAt n := rfl

/-! #### `setLine` changes lines and nothing else -/

@[simp] theorem Dev.setLine_fuses (d : Dev) (m0 : MastId) (x : Line) : (d.setLine m0 x).fuses = d.fuses := rfl
@[simp] theorem Dev.setLine_link (d : Dev) (m0 : MastId) (x : Line) : (d.setLine m0 x).link = d.link := rfl
@[simp] theorem Dev.setLine_host (d : Dev) (m0 : MastId) (x : Line) : (d.setLine m0 x).host = d.host := rfl
@[simp] theorem Dev.setLine_xfer (d : Dev) (m0 : MastId) (x : Line) : (d.setLine m0 x).xfer = d.xfer := rfl
@[simp] theorem Dev.setLine_ring (d : Dev) (m0 : MastId) (x : Line) : (d.setLine m0 x).ring = d.ring := rfl
@[simp] theorem Dev.setLine_qs (d : Dev) (m0 : MastId) (x : Line) : (d.setLine m0 x).qs = d.qs := rfl
@[simp] theorem Dev.setLine_intake (d : Dev) (m0 : MastId) (x : Line) : (d.setLine m0 x).intake = d.intake := rfl
@[simp] theorem Dev.setLine_comp (d : Dev) (m0 : MastId) (x : Line) : (d.setLine m0 x).comp = d.comp := rfl
@[simp] theorem Dev.setLine_tack (d : Dev) (m0 : MastId) (x : Line) : (d.setLine m0 x).tack = d.tack := rfl
@[simp] theorem Dev.setLine_push (d : Dev) (m0 : MastId) (x : Line) : (d.setLine m0 x).push = d.push := rfl
@[simp] theorem Dev.setLine_draws (d : Dev) (m0 : MastId) (x : Line) : (d.setLine m0 x).draws = d.draws := rfl
@[simp] theorem Dev.setLine_dram (d : Dev) (m0 : MastId) (x : Line) : (d.setLine m0 x).dram = d.dram := rfl
@[simp] theorem Dev.setLine_memlog (d : Dev) (m0 : MastId) (x : Line) : (d.setLine m0 x).memlog = d.memlog := rfl
@[simp] theorem Dev.setLine_dict (d : Dev) (m0 : MastId) (x : Line) : (d.setLine m0 x).dict = d.dict := rfl
@[simp] theorem Dev.setLine_pw (d : Dev) (m0 : MastId) (x : Line) : (d.setLine m0 x).pw = d.pw := rfl
@[simp] theorem Dev.setLine_fw (d : Dev) (m0 : MastId) (x : Line) : (d.setLine m0 x).fw = d.fw := rfl
@[simp] theorem Dev.setLine_th (d : Dev) (m0 : MastId) (x : Line) : (d.setLine m0 x).th = d.th := rfl
@[simp] theorem Dev.setLine_trim (d : Dev) (m0 : MastId) (x : Line) : (d.setLine m0 x).trim = d.trim := rfl
@[simp] theorem Dev.setLine_ledger (d : Dev) (m0 : MastId) (x : Line) : (d.setLine m0 x).ledger = d.ledger := rfl
@[simp] theorem Dev.setLine_flt (d : Dev) (m0 : MastId) (x : Line) : (d.setLine m0 x).flt = d.flt := rfl
@[simp] theorem Dev.setLine_now (d : Dev) (m0 : MastId) (x : Line) : (d.setLine m0 x).now = d.now := rfl
@[simp] theorem Dev.setLine_free (d : Dev) (m0 : MastId) (x : Line) : (d.setLine m0 x).free = d.free := rfl
@[simp] theorem Dev.setLine_out (d : Dev) (m0 : MastId) (x : Line) : (d.setLine m0 x).out = d.out := rfl
@[simp] theorem Dev.setLine_queue (d : Dev) (m0 : MastId) (x : Line) (q : QueueId) : (d.setLine m0 x).queue q = d.queue q := rfl
@[simp] theorem Dev.setLine_buf (d : Dev) (m0 : MastId) (x : Line) (h : U16) : (d.setLine m0 x).buf h = d.buf h := rfl
@[simp] theorem Dev.setLine_slot (d : Dev) (m0 : MastId) (x : Line) (n : Nat) : (d.setLine m0 x).slot n = d.slot n := rfl
@[simp] theorem Dev.setLine_feed (d : Dev) (m0 : MastId) (x : Line) (f : FeedId) : (d.setLine m0 x).feed f = d.feed f := rfl
@[simp] theorem Dev.setLine_thresher (d : Dev) (m0 : MastId) (x : Line) (i : ThresherId) : (d.setLine m0 x).thresher i = d.thresher i := rfl
@[simp] theorem Dev.setLine_vslot (d : Dev) (m0 : MastId) (x : Line) (n : Nat) : (d.setLine m0 x).vslot n = d.vslot n := rfl
@[simp] theorem Dev.setLine_sail (d : Dev) (m0 : MastId) (x : Line) (i : SailId) : (d.setLine m0 x).sail i = d.sail i := rfl
@[simp] theorem Dev.setLine_mast (d : Dev) (m0 : MastId) (x : Line) (i : MastId) : (d.setLine m0 x).mast i = d.mast i := rfl
@[simp] theorem Dev.setLine_cluster (d : Dev) (m0 : MastId) (x : Line) (i : ClusterId) : (d.setLine m0 x).cluster i = d.cluster i := rfl
@[simp] theorem Dev.setLine_chan (d : Dev) (m0 : MastId) (x : Line) (n : Nat) : (d.setLine m0 x).chan n = d.chan n := rfl
@[simp] theorem Dev.setLine_sensor (d : Dev) (m0 : MastId) (x : Line) (n : Nat) : (d.setLine m0 x).sensor n = d.sensor n := rfl
@[simp] theorem Dev.setLine_partn (d : Dev) (m0 : MastId) (x : Line) (n : Nat) : (d.setLine m0 x).partn n = d.partn n := rfl
@[simp] theorem Dev.setLine_ap (d : Dev) (m0 : MastId) (x : Line) (n : Nat) : (d.setLine m0 x).ap n = d.ap n := rfl
@[simp] theorem Dev.setLine_val (d : Dev) (m0 : MastId) (x : Line) (k : Nat) : (d.setLine m0 x).val k = d.val k := rfl
@[simp] theorem Dev.setLine_tval (d : Dev) (m0 : MastId) (x : Line) (k : Nat) : (d.setLine m0 x).tval k = d.tval k := rfl
@[simp] theorem Dev.setLine_openTack (d : Dev) (m0 : MastId) (x : Line) : (d.setLine m0 x).openTack = d.openTack := rfl
@[simp] theorem Dev.setLine_powered (d : Dev) (m0 : MastId) (x : Line) : (d.setLine m0 x).powered = d.powered := rfl
@[simp] theorem Dev.setLine_up (d : Dev) (m0 : MastId) (x : Line) : (d.setLine m0 x).up = d.up := rfl
@[simp] theorem Dev.setLine_live (d : Dev) (m0 : MastId) (x : Line) (r : BufRef) : (d.setLine m0 x).live r = d.live r := rfl
@[simp] theorem Dev.setLine_sizeOf (d : Dev) (m0 : MastId) (x : Line) (r : BufRef) : (d.setLine m0 x).sizeOf r = d.sizeOf r := rfl
@[simp] theorem Dev.setLine_byteAt (d : Dev) (m0 : MastId) (x : Line) (a : Nat) : (d.setLine m0 x).byteAt a = d.byteAt a := rfl
@[simp] theorem Dev.setLine_sailExists (d : Dev) (m0 : MastId) (x : Line) (n : Nat) : (d.setLine m0 x).sailExists n = d.sailExists n := rfl
@[simp] theorem Dev.setLine_mastList (d : Dev) (m0 : MastId) (x : Line) : (d.setLine m0 x).mastList = d.mastList := rfl
@[simp] theorem Dev.setLine_freeAt (d : Dev) (m0 : MastId) (x : Line) (n : Nat) : (d.setLine m0 x).freeAt n = d.freeAt n := rfl

/-! #### `setTrimNow` changes trim.inForce and nothing else -/

@[simp] theorem Dev.setTrimNow_fuses (d : Dev) (k0 : Nat) (x : Byte) : (d.setTrimNow k0 x).fuses = d.fuses := rfl
@[simp] theorem Dev.setTrimNow_link (d : Dev) (k0 : Nat) (x : Byte) : (d.setTrimNow k0 x).link = d.link := rfl
@[simp] theorem Dev.setTrimNow_host (d : Dev) (k0 : Nat) (x : Byte) : (d.setTrimNow k0 x).host = d.host := rfl
@[simp] theorem Dev.setTrimNow_xfer (d : Dev) (k0 : Nat) (x : Byte) : (d.setTrimNow k0 x).xfer = d.xfer := rfl
@[simp] theorem Dev.setTrimNow_ring (d : Dev) (k0 : Nat) (x : Byte) : (d.setTrimNow k0 x).ring = d.ring := rfl
@[simp] theorem Dev.setTrimNow_qs (d : Dev) (k0 : Nat) (x : Byte) : (d.setTrimNow k0 x).qs = d.qs := rfl
@[simp] theorem Dev.setTrimNow_intake (d : Dev) (k0 : Nat) (x : Byte) : (d.setTrimNow k0 x).intake = d.intake := rfl
@[simp] theorem Dev.setTrimNow_comp (d : Dev) (k0 : Nat) (x : Byte) : (d.setTrimNow k0 x).comp = d.comp := rfl
@[simp] theorem Dev.setTrimNow_tack (d : Dev) (k0 : Nat) (x : Byte) : (d.setTrimNow k0 x).tack = d.tack := rfl
@[simp] theorem Dev.setTrimNow_push (d : Dev) (k0 : Nat) (x : Byte) : (d.setTrimNow k0 x).push = d.push := rfl
@[simp] theorem Dev.setTrimNow_draws (d : Dev) (k0 : Nat) (x : Byte) : (d.setTrimNow k0 x).draws = d.draws := rfl
@[simp] theorem Dev.setTrimNow_dram (d : Dev) (k0 : Nat) (x : Byte) : (d.setTrimNow k0 x).dram = d.dram := rfl
@[simp] theorem Dev.setTrimNow_memlog (d : Dev) (k0 : Nat) (x : Byte) : (d.setTrimNow k0 x).memlog = d.memlog := rfl
@[simp] theorem Dev.setTrimNow_dict (d : Dev) (k0 : Nat) (x : Byte) : (d.setTrimNow k0 x).dict = d.dict := rfl
@[simp] theorem Dev.setTrimNow_pw (d : Dev) (k0 : Nat) (x : Byte) : (d.setTrimNow k0 x).pw = d.pw := rfl
@[simp] theorem Dev.setTrimNow_fw (d : Dev) (k0 : Nat) (x : Byte) : (d.setTrimNow k0 x).fw = d.fw := rfl
@[simp] theorem Dev.setTrimNow_th (d : Dev) (k0 : Nat) (x : Byte) : (d.setTrimNow k0 x).th = d.th := rfl
@[simp] theorem Dev.setTrimNow_trim_sets (d : Dev) (k0 : Nat) (x : Byte) : (d.setTrimNow k0 x).trim.sets = d.trim.sets := rfl
@[simp] theorem Dev.setTrimNow_trim_lastTemp (d : Dev) (k0 : Nat) (x : Byte) : (d.setTrimNow k0 x).trim.lastTemp = d.trim.lastTemp := rfl
@[simp] theorem Dev.setTrimNow_trim_rcal (d : Dev) (k0 : Nat) (x : Byte) : (d.setTrimNow k0 x).trim.rcal = d.trim.rcal := rfl
@[simp] theorem Dev.setTrimNow_trim_codes (d : Dev) (k0 : Nat) (x : Byte) : (d.setTrimNow k0 x).trim.codes = d.trim.codes := rfl
@[simp] theorem Dev.setTrimNow_trim_run (d : Dev) (k0 : Nat) (x : Byte) : (d.setTrimNow k0 x).trim.run = d.trim.run := rfl
@[simp] theorem Dev.setTrimNow_trim_due (d : Dev) (k0 : Nat) (x : Byte) : (d.setTrimNow k0 x).trim.due = d.trim.due := rfl
@[simp] theorem Dev.setTrimNow_ledger (d : Dev) (k0 : Nat) (x : Byte) : (d.setTrimNow k0 x).ledger = d.ledger := rfl
@[simp] theorem Dev.setTrimNow_flt (d : Dev) (k0 : Nat) (x : Byte) : (d.setTrimNow k0 x).flt = d.flt := rfl
@[simp] theorem Dev.setTrimNow_lines (d : Dev) (k0 : Nat) (x : Byte) : (d.setTrimNow k0 x).lines = d.lines := rfl
@[simp] theorem Dev.setTrimNow_now (d : Dev) (k0 : Nat) (x : Byte) : (d.setTrimNow k0 x).now = d.now := rfl
@[simp] theorem Dev.setTrimNow_free (d : Dev) (k0 : Nat) (x : Byte) : (d.setTrimNow k0 x).free = d.free := rfl
@[simp] theorem Dev.setTrimNow_out (d : Dev) (k0 : Nat) (x : Byte) : (d.setTrimNow k0 x).out = d.out := rfl
@[simp] theorem Dev.setTrimNow_queue (d : Dev) (k0 : Nat) (x : Byte) (q : QueueId) : (d.setTrimNow k0 x).queue q = d.queue q := rfl
@[simp] theorem Dev.setTrimNow_buf (d : Dev) (k0 : Nat) (x : Byte) (h : U16) : (d.setTrimNow k0 x).buf h = d.buf h := rfl
@[simp] theorem Dev.setTrimNow_slot (d : Dev) (k0 : Nat) (x : Byte) (n : Nat) : (d.setTrimNow k0 x).slot n = d.slot n := rfl
@[simp] theorem Dev.setTrimNow_feed (d : Dev) (k0 : Nat) (x : Byte) (f : FeedId) : (d.setTrimNow k0 x).feed f = d.feed f := rfl
@[simp] theorem Dev.setTrimNow_thresher (d : Dev) (k0 : Nat) (x : Byte) (i : ThresherId) : (d.setTrimNow k0 x).thresher i = d.thresher i := rfl
@[simp] theorem Dev.setTrimNow_vslot (d : Dev) (k0 : Nat) (x : Byte) (n : Nat) : (d.setTrimNow k0 x).vslot n = d.vslot n := rfl
@[simp] theorem Dev.setTrimNow_sail (d : Dev) (k0 : Nat) (x : Byte) (i : SailId) : (d.setTrimNow k0 x).sail i = d.sail i := rfl
@[simp] theorem Dev.setTrimNow_mast (d : Dev) (k0 : Nat) (x : Byte) (i : MastId) : (d.setTrimNow k0 x).mast i = d.mast i := rfl
@[simp] theorem Dev.setTrimNow_cluster (d : Dev) (k0 : Nat) (x : Byte) (i : ClusterId) : (d.setTrimNow k0 x).cluster i = d.cluster i := rfl
@[simp] theorem Dev.setTrimNow_chan (d : Dev) (k0 : Nat) (x : Byte) (n : Nat) : (d.setTrimNow k0 x).chan n = d.chan n := rfl
@[simp] theorem Dev.setTrimNow_sensor (d : Dev) (k0 : Nat) (x : Byte) (n : Nat) : (d.setTrimNow k0 x).sensor n = d.sensor n := rfl
@[simp] theorem Dev.setTrimNow_partn (d : Dev) (k0 : Nat) (x : Byte) (n : Nat) : (d.setTrimNow k0 x).partn n = d.partn n := rfl
@[simp] theorem Dev.setTrimNow_ap (d : Dev) (k0 : Nat) (x : Byte) (n : Nat) : (d.setTrimNow k0 x).ap n = d.ap n := rfl
@[simp] theorem Dev.setTrimNow_val (d : Dev) (k0 : Nat) (x : Byte) (k : Nat) : (d.setTrimNow k0 x).val k = d.val k := rfl
@[simp] theorem Dev.setTrimNow_tval (d : Dev) (k0 : Nat) (x : Byte) (k : Nat) : (d.setTrimNow k0 x).tval k = d.tval k := rfl
@[simp] theorem Dev.setTrimNow_openTack (d : Dev) (k0 : Nat) (x : Byte) : (d.setTrimNow k0 x).openTack = d.openTack := rfl
@[simp] theorem Dev.setTrimNow_powered (d : Dev) (k0 : Nat) (x : Byte) : (d.setTrimNow k0 x).powered = d.powered := rfl
@[simp] theorem Dev.setTrimNow_up (d : Dev) (k0 : Nat) (x : Byte) : (d.setTrimNow k0 x).up = d.up := rfl
@[simp] theorem Dev.setTrimNow_live (d : Dev) (k0 : Nat) (x : Byte) (r : BufRef) : (d.setTrimNow k0 x).live r = d.live r := rfl
@[simp] theorem Dev.setTrimNow_sizeOf (d : Dev) (k0 : Nat) (x : Byte) (r : BufRef) : (d.setTrimNow k0 x).sizeOf r = d.sizeOf r := rfl
@[simp] theorem Dev.setTrimNow_byteAt (d : Dev) (k0 : Nat) (x : Byte) (a : Nat) : (d.setTrimNow k0 x).byteAt a = d.byteAt a := rfl
@[simp] theorem Dev.setTrimNow_sailExists (d : Dev) (k0 : Nat) (x : Byte) (n : Nat) : (d.setTrimNow k0 x).sailExists n = d.sailExists n := rfl
@[simp] theorem Dev.setTrimNow_mastList (d : Dev) (k0 : Nat) (x : Byte) : (d.setTrimNow k0 x).mastList = d.mastList := rfl
@[simp] theorem Dev.setTrimNow_freeAt (d : Dev) (k0 : Nat) (x : Byte) (n : Nat) : (d.setTrimNow k0 x).freeAt n = d.freeAt n := rfl

/-! #### `retireCmd` changes qs.cmds, intake.races and nothing else -/

@[simp] theorem Dev.retireCmd_fuses (d : Dev) (i0 : Nat) : (d.retireCmd i0).fuses = d.fuses := rfl
@[simp] theorem Dev.retireCmd_link (d : Dev) (i0 : Nat) : (d.retireCmd i0).link = d.link := rfl
@[simp] theorem Dev.retireCmd_host (d : Dev) (i0 : Nat) : (d.retireCmd i0).host = d.host := rfl
@[simp] theorem Dev.retireCmd_xfer (d : Dev) (i0 : Nat) : (d.retireCmd i0).xfer = d.xfer := rfl
@[simp] theorem Dev.retireCmd_ring (d : Dev) (i0 : Nat) : (d.retireCmd i0).ring = d.ring := rfl
@[simp] theorem Dev.retireCmd_qs_queues (d : Dev) (i0 : Nat) : (d.retireCmd i0).qs.queues = d.qs.queues := rfl
@[simp] theorem Dev.retireCmd_qs_lastGrant (d : Dev) (i0 : Nat) : (d.retireCmd i0).qs.lastGrant = d.qs.lastGrant := rfl
@[simp] theorem Dev.retireCmd_qs_nextId (d : Dev) (i0 : Nat) : (d.retireCmd i0).qs.nextId = d.qs.nextId := rfl
@[simp] theorem Dev.retireCmd_qs_bufs (d : Dev) (i0 : Nat) : (d.retireCmd i0).qs.bufs = d.qs.bufs := rfl
@[simp] theorem Dev.retireCmd_qs_fresh (d : Dev) (i0 : Nat) : (d.retireCmd i0).qs.fresh = d.qs.fresh := rfl
@[simp] theorem Dev.retireCmd_qs_freed (d : Dev) (i0 : Nat) : (d.retireCmd i0).qs.freed = d.qs.freed := rfl
@[simp] theorem Dev.retireCmd_qs_slots (d : Dev) (i0 : Nat) : (d.retireCmd i0).qs.slots = d.qs.slots := rfl
@[simp] theorem Dev.retireCmd_qs_fences (d : Dev) (i0 : Nat) : (d.retireCmd i0).qs.fences = d.qs.fences := rfl
@[simp] theorem Dev.retireCmd_qs_holds (d : Dev) (i0 : Nat) : (d.retireCmd i0).qs.holds = d.qs.holds := rfl
@[simp] theorem Dev.retireCmd_qs_dmas (d : Dev) (i0 : Nat) : (d.retireCmd i0).qs.dmas = d.qs.dmas := rfl
@[simp] theorem Dev.retireCmd_intake_threshers (d : Dev) (i0 : Nat) : (d.retireCmd i0).intake.threshers = d.intake.threshers := rfl
@[simp] theorem Dev.retireCmd_intake_feeds (d : Dev) (i0 : Nat) : (d.retireCmd i0).intake.feeds = d.intake.feeds := rfl
@[simp] theorem Dev.retireCmd_intake_waiting (d : Dev) (i0 : Nat) : (d.retireCmd i0).intake.waiting = d.intake.waiting := rfl
@[simp] theorem Dev.retireCmd_intake_lastFault (d : Dev) (i0 : Nat) : (d.retireCmd i0).intake.lastFault = d.intake.lastFault := rfl
@[simp] theorem Dev.retireCmd_intake_slots (d : Dev) (i0 : Nat) : (d.retireCmd i0).intake.slots = d.intake.slots := rfl
@[simp] theorem Dev.retireCmd_intake_dropSelect (d : Dev) (i0 : Nat) : (d.retireCmd i0).intake.dropSelect = d.intake.dropSelect := rfl
@[simp] theorem Dev.retireCmd_comp (d : Dev) (i0 : Nat) : (d.retireCmd i0).comp = d.comp := rfl
@[simp] theorem Dev.retireCmd_tack (d : Dev) (i0 : Nat) : (d.retireCmd i0).tack = d.tack := rfl
@[simp] theorem Dev.retireCmd_push (d : Dev) (i0 : Nat) : (d.retireCmd i0).push = d.push := rfl
@[simp] theorem Dev.retireCmd_draws (d : Dev) (i0 : Nat) : (d.retireCmd i0).draws = d.draws := rfl
@[simp] theorem Dev.retireCmd_dram (d : Dev) (i0 : Nat) : (d.retireCmd i0).dram = d.dram := rfl
@[simp] theorem Dev.retireCmd_memlog (d : Dev) (i0 : Nat) : (d.retireCmd i0).memlog = d.memlog := rfl
@[simp] theorem Dev.retireCmd_dict (d : Dev) (i0 : Nat) : (d.retireCmd i0).dict = d.dict := rfl
@[simp] theorem Dev.retireCmd_pw (d : Dev) (i0 : Nat) : (d.retireCmd i0).pw = d.pw := rfl
@[simp] theorem Dev.retireCmd_fw (d : Dev) (i0 : Nat) : (d.retireCmd i0).fw = d.fw := rfl
@[simp] theorem Dev.retireCmd_th (d : Dev) (i0 : Nat) : (d.retireCmd i0).th = d.th := rfl
@[simp] theorem Dev.retireCmd_trim (d : Dev) (i0 : Nat) : (d.retireCmd i0).trim = d.trim := rfl
@[simp] theorem Dev.retireCmd_ledger (d : Dev) (i0 : Nat) : (d.retireCmd i0).ledger = d.ledger := rfl
@[simp] theorem Dev.retireCmd_flt (d : Dev) (i0 : Nat) : (d.retireCmd i0).flt = d.flt := rfl
@[simp] theorem Dev.retireCmd_lines (d : Dev) (i0 : Nat) : (d.retireCmd i0).lines = d.lines := rfl
@[simp] theorem Dev.retireCmd_now (d : Dev) (i0 : Nat) : (d.retireCmd i0).now = d.now := rfl
@[simp] theorem Dev.retireCmd_free (d : Dev) (i0 : Nat) : (d.retireCmd i0).free = d.free := rfl
@[simp] theorem Dev.retireCmd_out (d : Dev) (i0 : Nat) : (d.retireCmd i0).out = d.out := rfl
@[simp] theorem Dev.retireCmd_queue (d : Dev) (i0 : Nat) (q : QueueId) : (d.retireCmd i0).queue q = d.queue q := rfl
@[simp] theorem Dev.retireCmd_buf (d : Dev) (i0 : Nat) (h : U16) : (d.retireCmd i0).buf h = d.buf h := rfl
@[simp] theorem Dev.retireCmd_slot (d : Dev) (i0 : Nat) (n : Nat) : (d.retireCmd i0).slot n = d.slot n := rfl
@[simp] theorem Dev.retireCmd_feed (d : Dev) (i0 : Nat) (f : FeedId) : (d.retireCmd i0).feed f = d.feed f := rfl
@[simp] theorem Dev.retireCmd_thresher (d : Dev) (i0 : Nat) (i : ThresherId) : (d.retireCmd i0).thresher i = d.thresher i := rfl
@[simp] theorem Dev.retireCmd_vslot (d : Dev) (i0 : Nat) (n : Nat) : (d.retireCmd i0).vslot n = d.vslot n := rfl
@[simp] theorem Dev.retireCmd_sail (d : Dev) (i0 : Nat) (i : SailId) : (d.retireCmd i0).sail i = d.sail i := rfl
@[simp] theorem Dev.retireCmd_mast (d : Dev) (i0 : Nat) (i : MastId) : (d.retireCmd i0).mast i = d.mast i := rfl
@[simp] theorem Dev.retireCmd_cluster (d : Dev) (i0 : Nat) (i : ClusterId) : (d.retireCmd i0).cluster i = d.cluster i := rfl
@[simp] theorem Dev.retireCmd_chan (d : Dev) (i0 : Nat) (n : Nat) : (d.retireCmd i0).chan n = d.chan n := rfl
@[simp] theorem Dev.retireCmd_sensor (d : Dev) (i0 : Nat) (n : Nat) : (d.retireCmd i0).sensor n = d.sensor n := rfl
@[simp] theorem Dev.retireCmd_partn (d : Dev) (i0 : Nat) (n : Nat) : (d.retireCmd i0).partn n = d.partn n := rfl
@[simp] theorem Dev.retireCmd_ap (d : Dev) (i0 : Nat) (n : Nat) : (d.retireCmd i0).ap n = d.ap n := rfl
@[simp] theorem Dev.retireCmd_val (d : Dev) (i0 : Nat) (k : Nat) : (d.retireCmd i0).val k = d.val k := rfl
@[simp] theorem Dev.retireCmd_tval (d : Dev) (i0 : Nat) (k : Nat) : (d.retireCmd i0).tval k = d.tval k := rfl
@[simp] theorem Dev.retireCmd_openTack (d : Dev) (i0 : Nat) : (d.retireCmd i0).openTack = d.openTack := rfl
@[simp] theorem Dev.retireCmd_powered (d : Dev) (i0 : Nat) : (d.retireCmd i0).powered = d.powered := rfl
@[simp] theorem Dev.retireCmd_up (d : Dev) (i0 : Nat) : (d.retireCmd i0).up = d.up := rfl
@[simp] theorem Dev.retireCmd_live (d : Dev) (i0 : Nat) (r : BufRef) : (d.retireCmd i0).live r = d.live r := rfl
@[simp] theorem Dev.retireCmd_sizeOf (d : Dev) (i0 : Nat) (r : BufRef) : (d.retireCmd i0).sizeOf r = d.sizeOf r := rfl
@[simp] theorem Dev.retireCmd_byteAt (d : Dev) (i0 : Nat) (a : Nat) : (d.retireCmd i0).byteAt a = d.byteAt a := rfl
@[simp] theorem Dev.retireCmd_sailExists (d : Dev) (i0 : Nat) (n : Nat) : (d.retireCmd i0).sailExists n = d.sailExists n := rfl
@[simp] theorem Dev.retireCmd_mastList (d : Dev) (i0 : Nat) : (d.retireCmd i0).mastList = d.mastList := rfl
@[simp] theorem Dev.retireCmd_freeAt (d : Dev) (i0 : Nat) (n : Nat) : (d.retireCmd i0).freeAt n = d.freeAt n := rfl

/-! #### `dispatch` changes qs.nextId, qs.cmds and nothing else -/

@[simp] theorem Dev.dispatch_fuses (d : Dev) (q0 : QueueId) (h0 : Hdr) (op : Nat) (refs : List BufRef) : (d.dispatch q0 h0 op refs).fuses = d.fuses := rfl
@[simp] theorem Dev.dispatch_link (d : Dev) (q0 : QueueId) (h0 : Hdr) (op : Nat) (refs : List BufRef) : (d.dispatch q0 h0 op refs).link = d.link := rfl
@[simp] theorem Dev.dispatch_host (d : Dev) (q0 : QueueId) (h0 : Hdr) (op : Nat) (refs : List BufRef) : (d.dispatch q0 h0 op refs).host = d.host := rfl
@[simp] theorem Dev.dispatch_xfer (d : Dev) (q0 : QueueId) (h0 : Hdr) (op : Nat) (refs : List BufRef) : (d.dispatch q0 h0 op refs).xfer = d.xfer := rfl
@[simp] theorem Dev.dispatch_ring (d : Dev) (q0 : QueueId) (h0 : Hdr) (op : Nat) (refs : List BufRef) : (d.dispatch q0 h0 op refs).ring = d.ring := rfl
@[simp] theorem Dev.dispatch_qs_queues (d : Dev) (q0 : QueueId) (h0 : Hdr) (op : Nat) (refs : List BufRef) : (d.dispatch q0 h0 op refs).qs.queues = d.qs.queues := rfl
@[simp] theorem Dev.dispatch_qs_lastGrant (d : Dev) (q0 : QueueId) (h0 : Hdr) (op : Nat) (refs : List BufRef) : (d.dispatch q0 h0 op refs).qs.lastGrant = d.qs.lastGrant := rfl
@[simp] theorem Dev.dispatch_qs_bufs (d : Dev) (q0 : QueueId) (h0 : Hdr) (op : Nat) (refs : List BufRef) : (d.dispatch q0 h0 op refs).qs.bufs = d.qs.bufs := rfl
@[simp] theorem Dev.dispatch_qs_fresh (d : Dev) (q0 : QueueId) (h0 : Hdr) (op : Nat) (refs : List BufRef) : (d.dispatch q0 h0 op refs).qs.fresh = d.qs.fresh := rfl
@[simp] theorem Dev.dispatch_qs_freed (d : Dev) (q0 : QueueId) (h0 : Hdr) (op : Nat) (refs : List BufRef) : (d.dispatch q0 h0 op refs).qs.freed = d.qs.freed := rfl
@[simp] theorem Dev.dispatch_qs_slots (d : Dev) (q0 : QueueId) (h0 : Hdr) (op : Nat) (refs : List BufRef) : (d.dispatch q0 h0 op refs).qs.slots = d.qs.slots := rfl
@[simp] theorem Dev.dispatch_qs_fences (d : Dev) (q0 : QueueId) (h0 : Hdr) (op : Nat) (refs : List BufRef) : (d.dispatch q0 h0 op refs).qs.fences = d.qs.fences := rfl
@[simp] theorem Dev.dispatch_qs_holds (d : Dev) (q0 : QueueId) (h0 : Hdr) (op : Nat) (refs : List BufRef) : (d.dispatch q0 h0 op refs).qs.holds = d.qs.holds := rfl
@[simp] theorem Dev.dispatch_qs_dmas (d : Dev) (q0 : QueueId) (h0 : Hdr) (op : Nat) (refs : List BufRef) : (d.dispatch q0 h0 op refs).qs.dmas = d.qs.dmas := rfl
@[simp] theorem Dev.dispatch_intake (d : Dev) (q0 : QueueId) (h0 : Hdr) (op : Nat) (refs : List BufRef) : (d.dispatch q0 h0 op refs).intake = d.intake := rfl
@[simp] theorem Dev.dispatch_comp (d : Dev) (q0 : QueueId) (h0 : Hdr) (op : Nat) (refs : List BufRef) : (d.dispatch q0 h0 op refs).comp = d.comp := rfl
@[simp] theorem Dev.dispatch_tack (d : Dev) (q0 : QueueId) (h0 : Hdr) (op : Nat) (refs : List BufRef) : (d.dispatch q0 h0 op refs).tack = d.tack := rfl
@[simp] theorem Dev.dispatch_push (d : Dev) (q0 : QueueId) (h0 : Hdr) (op : Nat) (refs : List BufRef) : (d.dispatch q0 h0 op refs).push = d.push := rfl
@[simp] theorem Dev.dispatch_draws (d : Dev) (q0 : QueueId) (h0 : Hdr) (op : Nat) (refs : List BufRef) : (d.dispatch q0 h0 op refs).draws = d.draws := rfl
@[simp] theorem Dev.dispatch_dram (d : Dev) (q0 : QueueId) (h0 : Hdr) (op : Nat) (refs : List BufRef) : (d.dispatch q0 h0 op refs).dram = d.dram := rfl
@[simp] theorem Dev.dispatch_memlog (d : Dev) (q0 : QueueId) (h0 : Hdr) (op : Nat) (refs : List BufRef) : (d.dispatch q0 h0 op refs).memlog = d.memlog := rfl
@[simp] theorem Dev.dispatch_dict (d : Dev) (q0 : QueueId) (h0 : Hdr) (op : Nat) (refs : List BufRef) : (d.dispatch q0 h0 op refs).dict = d.dict := rfl
@[simp] theorem Dev.dispatch_pw (d : Dev) (q0 : QueueId) (h0 : Hdr) (op : Nat) (refs : List BufRef) : (d.dispatch q0 h0 op refs).pw = d.pw := rfl
@[simp] theorem Dev.dispatch_fw (d : Dev) (q0 : QueueId) (h0 : Hdr) (op : Nat) (refs : List BufRef) : (d.dispatch q0 h0 op refs).fw = d.fw := rfl
@[simp] theorem Dev.dispatch_th (d : Dev) (q0 : QueueId) (h0 : Hdr) (op : Nat) (refs : List BufRef) : (d.dispatch q0 h0 op refs).th = d.th := rfl
@[simp] theorem Dev.dispatch_trim (d : Dev) (q0 : QueueId) (h0 : Hdr) (op : Nat) (refs : List BufRef) : (d.dispatch q0 h0 op refs).trim = d.trim := rfl
@[simp] theorem Dev.dispatch_ledger (d : Dev) (q0 : QueueId) (h0 : Hdr) (op : Nat) (refs : List BufRef) : (d.dispatch q0 h0 op refs).ledger = d.ledger := rfl
@[simp] theorem Dev.dispatch_flt (d : Dev) (q0 : QueueId) (h0 : Hdr) (op : Nat) (refs : List BufRef) : (d.dispatch q0 h0 op refs).flt = d.flt := rfl
@[simp] theorem Dev.dispatch_lines (d : Dev) (q0 : QueueId) (h0 : Hdr) (op : Nat) (refs : List BufRef) : (d.dispatch q0 h0 op refs).lines = d.lines := rfl
@[simp] theorem Dev.dispatch_now (d : Dev) (q0 : QueueId) (h0 : Hdr) (op : Nat) (refs : List BufRef) : (d.dispatch q0 h0 op refs).now = d.now := rfl
@[simp] theorem Dev.dispatch_free (d : Dev) (q0 : QueueId) (h0 : Hdr) (op : Nat) (refs : List BufRef) : (d.dispatch q0 h0 op refs).free = d.free := rfl
@[simp] theorem Dev.dispatch_out (d : Dev) (q0 : QueueId) (h0 : Hdr) (op : Nat) (refs : List BufRef) : (d.dispatch q0 h0 op refs).out = d.out := rfl
@[simp] theorem Dev.dispatch_queue (d : Dev) (q0 : QueueId) (h0 : Hdr) (op : Nat) (refs : List BufRef) (q : QueueId) : (d.dispatch q0 h0 op refs).queue q = d.queue q := rfl
@[simp] theorem Dev.dispatch_buf (d : Dev) (q0 : QueueId) (h0 : Hdr) (op : Nat) (refs : List BufRef) (h : U16) : (d.dispatch q0 h0 op refs).buf h = d.buf h := rfl
@[simp] theorem Dev.dispatch_slot (d : Dev) (q0 : QueueId) (h0 : Hdr) (op : Nat) (refs : List BufRef) (n : Nat) : (d.dispatch q0 h0 op refs).slot n = d.slot n := rfl
@[simp] theorem Dev.dispatch_feed (d : Dev) (q0 : QueueId) (h0 : Hdr) (op : Nat) (refs : List BufRef) (f : FeedId) : (d.dispatch q0 h0 op refs).feed f = d.feed f := rfl
@[simp] theorem Dev.dispatch_thresher (d : Dev) (q0 : QueueId) (h0 : Hdr) (op : Nat) (refs : List BufRef) (i : ThresherId) : (d.dispatch q0 h0 op refs).thresher i = d.thresher i := rfl
@[simp] theorem Dev.dispatch_vslot (d : Dev) (q0 : QueueId) (h0 : Hdr) (op : Nat) (refs : List BufRef) (n : Nat) : (d.dispatch q0 h0 op refs).vslot n = d.vslot n := rfl
@[simp] theorem Dev.dispatch_sail (d : Dev) (q0 : QueueId) (h0 : Hdr) (op : Nat) (refs : List BufRef) (i : SailId) : (d.dispatch q0 h0 op refs).sail i = d.sail i := rfl
@[simp] theorem Dev.dispatch_mast (d : Dev) (q0 : QueueId) (h0 : Hdr) (op : Nat) (refs : List BufRef) (i : MastId) : (d.dispatch q0 h0 op refs).mast i = d.mast i := rfl
@[simp] theorem Dev.dispatch_cluster (d : Dev) (q0 : QueueId) (h0 : Hdr) (op : Nat) (refs : List BufRef) (i : ClusterId) : (d.dispatch q0 h0 op refs).cluster i = d.cluster i := rfl
@[simp] theorem Dev.dispatch_chan (d : Dev) (q0 : QueueId) (h0 : Hdr) (op : Nat) (refs : List BufRef) (n : Nat) : (d.dispatch q0 h0 op refs).chan n = d.chan n := rfl
@[simp] theorem Dev.dispatch_sensor (d : Dev) (q0 : QueueId) (h0 : Hdr) (op : Nat) (refs : List BufRef) (n : Nat) : (d.dispatch q0 h0 op refs).sensor n = d.sensor n := rfl
@[simp] theorem Dev.dispatch_partn (d : Dev) (q0 : QueueId) (h0 : Hdr) (op : Nat) (refs : List BufRef) (n : Nat) : (d.dispatch q0 h0 op refs).partn n = d.partn n := rfl
@[simp] theorem Dev.dispatch_ap (d : Dev) (q0 : QueueId) (h0 : Hdr) (op : Nat) (refs : List BufRef) (n : Nat) : (d.dispatch q0 h0 op refs).ap n = d.ap n := rfl
@[simp] theorem Dev.dispatch_val (d : Dev) (q0 : QueueId) (h0 : Hdr) (op : Nat) (refs : List BufRef) (k : Nat) : (d.dispatch q0 h0 op refs).val k = d.val k := rfl
@[simp] theorem Dev.dispatch_tval (d : Dev) (q0 : QueueId) (h0 : Hdr) (op : Nat) (refs : List BufRef) (k : Nat) : (d.dispatch q0 h0 op refs).tval k = d.tval k := rfl
@[simp] theorem Dev.dispatch_openTack (d : Dev) (q0 : QueueId) (h0 : Hdr) (op : Nat) (refs : List BufRef) : (d.dispatch q0 h0 op refs).openTack = d.openTack := rfl
@[simp] theorem Dev.dispatch_powered (d : Dev) (q0 : QueueId) (h0 : Hdr) (op : Nat) (refs : List BufRef) : (d.dispatch q0 h0 op refs).powered = d.powered := rfl
@[simp] theorem Dev.dispatch_up (d : Dev) (q0 : QueueId) (h0 : Hdr) (op : Nat) (refs : List BufRef) : (d.dispatch q0 h0 op refs).up = d.up := rfl
@[simp] theorem Dev.dispatch_live (d : Dev) (q0 : QueueId) (h0 : Hdr) (op : Nat) (refs : List BufRef) (r : BufRef) : (d.dispatch q0 h0 op refs).live r = d.live r := rfl
@[simp] theorem Dev.dispatch_sizeOf (d : Dev) (q0 : QueueId) (h0 : Hdr) (op : Nat) (refs : List BufRef) (r : BufRef) : (d.dispatch q0 h0 op refs).sizeOf r = d.sizeOf r := rfl
@[simp] theorem Dev.dispatch_byteAt (d : Dev) (q0 : QueueId) (h0 : Hdr) (op : Nat) (refs : List BufRef) (a : Nat) : (d.dispatch q0 h0 op refs).byteAt a = d.byteAt a := rfl
@[simp] theorem Dev.dispatch_sailExists (d : Dev) (q0 : QueueId) (h0 : Hdr) (op : Nat) (refs : List BufRef) (n : Nat) : (d.dispatch q0 h0 op refs).sailExists n = d.sailExists n := rfl
@[simp] theorem Dev.dispatch_mastList (d : Dev) (q0 : QueueId) (h0 : Hdr) (op : Nat) (refs : List BufRef) : (d.dispatch q0 h0 op refs).mastList = d.mastList := rfl
@[simp] theorem Dev.dispatch_freeAt (d : Dev) (q0 : QueueId) (h0 : Hdr) (op : Nat) (refs : List BufRef) (n : Nat) : (d.dispatch q0 h0 op refs).freeAt n = d.freeAt n := rfl

/-! #### `writeMem` changes dram.data, dram.old, intake.races and nothing else -/

@[simp] theorem Dev.writeMem_fuses (d : Dev) (a0 : Nat) (bs : List Byte) : (d.writeMem a0 bs).fuses = d.fuses := rfl
@[simp] theorem Dev.writeMem_link (d : Dev) (a0 : Nat) (bs : List Byte) : (d.writeMem a0 bs).link = d.link := rfl
@[simp] theorem Dev.writeMem_host (d : Dev) (a0 : Nat) (bs : List Byte) : (d.writeMem a0 bs).host = d.host := rfl
@[simp] theorem Dev.writeMem_xfer (d : Dev) (a0 : Nat) (bs : List Byte) : (d.writeMem a0 bs).xfer = d.xfer := rfl
@[simp] theorem Dev.writeMem_ring (d : Dev) (a0 : Nat) (bs : List Byte) : (d.writeMem a0 bs).ring = d.ring := rfl
@[simp] theorem Dev.writeMem_qs (d : Dev) (a0 : Nat) (bs : List Byte) : (d.writeMem a0 bs).qs = d.qs := rfl
@[simp] theorem Dev.writeMem_intake_threshers (d : Dev) (a0 : Nat) (bs : List Byte) : (d.writeMem a0 bs).intake.threshers = d.intake.threshers := rfl
@[simp] theorem Dev.writeMem_intake_feeds (d : Dev) (a0 : Nat) (bs : List Byte) : (d.writeMem a0 bs).intake.feeds = d.intake.feeds := rfl
@[simp] theorem Dev.writeMem_intake_waiting (d : Dev) (a0 : Nat) (bs : List Byte) : (d.writeMem a0 bs).intake.waiting = d.intake.waiting := rfl
@[simp] theorem Dev.writeMem_intake_lastFault (d : Dev) (a0 : Nat) (bs : List Byte) : (d.writeMem a0 bs).intake.lastFault = d.intake.lastFault := rfl
@[simp] theorem Dev.writeMem_intake_slots (d : Dev) (a0 : Nat) (bs : List Byte) : (d.writeMem a0 bs).intake.slots = d.intake.slots := rfl
@[simp] theorem Dev.writeMem_intake_dropSelect (d : Dev) (a0 : Nat) (bs : List Byte) : (d.writeMem a0 bs).intake.dropSelect = d.intake.dropSelect := rfl
@[simp] theorem Dev.writeMem_comp (d : Dev) (a0 : Nat) (bs : List Byte) : (d.writeMem a0 bs).comp = d.comp := rfl
@[simp] theorem Dev.writeMem_tack (d : Dev) (a0 : Nat) (bs : List Byte) : (d.writeMem a0 bs).tack = d.tack := rfl
@[simp] theorem Dev.writeMem_push (d : Dev) (a0 : Nat) (bs : List Byte) : (d.writeMem a0 bs).push = d.push := rfl
@[simp] theorem Dev.writeMem_draws (d : Dev) (a0 : Nat) (bs : List Byte) : (d.writeMem a0 bs).draws = d.draws := rfl
@[simp] theorem Dev.writeMem_dram_issued (d : Dev) (a0 : Nat) (bs : List Byte) : (d.writeMem a0 bs).dram.issued = d.dram.issued := rfl
@[simp] theorem Dev.writeMem_dram_asked (d : Dev) (a0 : Nat) (bs : List Byte) : (d.writeMem a0 bs).dram.asked = d.dram.asked := rfl
@[simp] theorem Dev.writeMem_dram_caches (d : Dev) (a0 : Nat) (bs : List Byte) : (d.writeMem a0 bs).dram.caches = d.dram.caches := rfl
@[simp] theorem Dev.writeMem_dram_picks (d : Dev) (a0 : Nat) (bs : List Byte) : (d.writeMem a0 bs).dram.picks = d.dram.picks := rfl
@[simp] theorem Dev.writeMem_dram_upsets (d : Dev) (a0 : Nat) (bs : List Byte) : (d.writeMem a0 bs).dram.upsets = d.dram.upsets := rfl
@[simp] theorem Dev.writeMem_dram_capGiB (d : Dev) (a0 : Nat) (bs : List Byte) : (d.writeMem a0 bs).dram.capGiB = d.dram.capGiB := rfl
@[simp] theorem Dev.writeMem_dram_ranks (d : Dev) (a0 : Nat) (bs : List Byte) : (d.writeMem a0 bs).dram.ranks = d.dram.ranks := rfl
@[simp] theorem Dev.writeMem_dram_lp5x (d : Dev) (a0 : Nat) (bs : List Byte) : (d.writeMem a0 bs).dram.lp5x = d.dram.lp5x := rfl
@[simp] theorem Dev.writeMem_dram_ident (d : Dev) (a0 : Nat) (bs : List Byte) : (d.writeMem a0 bs).dram.ident = d.dram.ident := rfl
@[simp] theorem Dev.writeMem_dram_up (d : Dev) (a0 : Nat) (bs : List Byte) : (d.writeMem a0 bs).dram.up = d.dram.up := rfl
@[simp] theorem Dev.writeMem_dram_selfRefresh (d : Dev) (a0 : Nat) (bs : List Byte) : (d.writeMem a0 bs).dram.selfRefresh = d.dram.selfRefresh := rfl
@[simp] theorem Dev.writeMem_dram_rate (d : Dev) (a0 : Nat) (bs : List Byte) : (d.writeMem a0 bs).dram.rate = d.dram.rate := rfl
@[simp] theorem Dev.writeMem_dram_points (d : Dev) (a0 : Nat) (bs : List Byte) : (d.writeMem a0 bs).dram.points = d.dram.points := rfl
@[simp] theorem Dev.writeMem_dram_eccGiB (d : Dev) (a0 : Nat) (bs : List Byte) : (d.writeMem a0 bs).dram.eccGiB = d.dram.eccGiB := rfl
@[simp] theorem Dev.writeMem_dram_map (d : Dev) (a0 : Nat) (bs : List Byte) : (d.writeMem a0 bs).dram.map = d.dram.map := rfl
@[simp] theorem Dev.writeMem_dram_lost (d : Dev) (a0 : Nat) (bs : List Byte) : (d.writeMem a0 bs).dram.lost = d.dram.lost := rfl
@[simp] theorem Dev.writeMem_dram_gone (d : Dev) (a0 : Nat) (bs : List Byte) : (d.writeMem a0 bs).dram.gone = d.dram.gone := rfl
@[simp] theorem Dev.writeMem_dram_band (d : Dev) (a0 : Nat) (bs : List Byte) : (d.writeMem a0 bs).dram.band = d.dram.band := rfl
@[simp] theorem Dev.writeMem_dram_tempMax (d : Dev) (a0 : Nat) (bs : List Byte) : (d.writeMem a0 bs).dram.tempMax = d.dram.tempMax := rfl
@[simp] theorem Dev.writeMem_dram_hotSince (d : Dev) (a0 : Nat) (bs : List Byte) : (d.writeMem a0 bs).dram.hotSince = d.dram.hotSince := rfl
@[simp] theorem Dev.writeMem_dram_coolSince (d : Dev) (a0 : Nat) (bs : List Byte) : (d.writeMem a0 bs).dram.coolSince = d.dram.coolSince := rfl
@[simp] theorem Dev.writeMem_dram_switchTo (d : Dev) (a0 : Nat) (bs : List Byte) : (d.writeMem a0 bs).dram.switchTo = d.dram.switchTo := rfl
@[simp] theorem Dev.writeMem_dram_forced (d : Dev) (a0 : Nat) (bs : List Byte) : (d.writeMem a0 bs).dram.forced = d.dram.forced := rfl
@[simp] theorem Dev.writeMem_dram_stepped (d : Dev) (a0 : Nat) (bs : List Byte) : (d.writeMem a0 bs).dram.stepped = d.dram.stepped := rfl
@[simp] theorem Dev.writeMem_dram_trainLast (d : Dev) (a0 : Nat) (bs : List Byte) : (d.writeMem a0 bs).dram.trainLast = d.dram.trainLast := rfl
@[simp] theorem Dev.writeMem_dram_chans (d : Dev) (a0 : Nat) (bs : List Byte) : (d.writeMem a0 bs).dram.chans = d.dram.chans := rfl
@[simp] theorem Dev.writeMem_memlog (d : Dev) (a0 : Nat) (bs : List Byte) : (d.writeMem a0 bs).memlog = d.memlog := rfl
@[simp] theorem Dev.writeMem_dict (d : Dev) (a0 : Nat) (bs : List Byte) : (d.writeMem a0 bs).dict = d.dict := rfl
@[simp] theorem Dev.writeMem_pw (d : Dev) (a0 : Nat) (bs : List Byte) : (d.writeMem a0 bs).pw = d.pw := rfl
@[simp] theorem Dev.writeMem_fw (d : Dev) (a0 : Nat) (bs : List Byte) : (d.writeMem a0 bs).fw = d.fw := rfl
@[simp] theorem Dev.writeMem_th (d : Dev) (a0 : Nat) (bs : List Byte) : (d.writeMem a0 bs).th = d.th := rfl
@[simp] theorem Dev.writeMem_trim (d : Dev) (a0 : Nat) (bs : List Byte) : (d.writeMem a0 bs).trim = d.trim := rfl
@[simp] theorem Dev.writeMem_ledger (d : Dev) (a0 : Nat) (bs : List Byte) : (d.writeMem a0 bs).ledger = d.ledger := rfl
@[simp] theorem Dev.writeMem_flt (d : Dev) (a0 : Nat) (bs : List Byte) : (d.writeMem a0 bs).flt = d.flt := rfl
@[simp] theorem Dev.writeMem_lines (d : Dev) (a0 : Nat) (bs : List Byte) : (d.writeMem a0 bs).lines = d.lines := rfl
@[simp] theorem Dev.writeMem_now (d : Dev) (a0 : Nat) (bs : List Byte) : (d.writeMem a0 bs).now = d.now := rfl
@[simp] theorem Dev.writeMem_free (d : Dev) (a0 : Nat) (bs : List Byte) : (d.writeMem a0 bs).free = d.free := rfl
@[simp] theorem Dev.writeMem_out (d : Dev) (a0 : Nat) (bs : List Byte) : (d.writeMem a0 bs).out = d.out := rfl
@[simp] theorem Dev.writeMem_queue (d : Dev) (a0 : Nat) (bs : List Byte) (q : QueueId) : (d.writeMem a0 bs).queue q = d.queue q := rfl
@[simp] theorem Dev.writeMem_buf (d : Dev) (a0 : Nat) (bs : List Byte) (h : U16) : (d.writeMem a0 bs).buf h = d.buf h := rfl
@[simp] theorem Dev.writeMem_slot (d : Dev) (a0 : Nat) (bs : List Byte) (n : Nat) : (d.writeMem a0 bs).slot n = d.slot n := rfl
@[simp] theorem Dev.writeMem_feed (d : Dev) (a0 : Nat) (bs : List Byte) (f : FeedId) : (d.writeMem a0 bs).feed f = d.feed f := rfl
@[simp] theorem Dev.writeMem_thresher (d : Dev) (a0 : Nat) (bs : List Byte) (i : ThresherId) : (d.writeMem a0 bs).thresher i = d.thresher i := rfl
@[simp] theorem Dev.writeMem_vslot (d : Dev) (a0 : Nat) (bs : List Byte) (n : Nat) : (d.writeMem a0 bs).vslot n = d.vslot n := rfl
@[simp] theorem Dev.writeMem_sail (d : Dev) (a0 : Nat) (bs : List Byte) (i : SailId) : (d.writeMem a0 bs).sail i = d.sail i := rfl
@[simp] theorem Dev.writeMem_mast (d : Dev) (a0 : Nat) (bs : List Byte) (i : MastId) : (d.writeMem a0 bs).mast i = d.mast i := rfl
@[simp] theorem Dev.writeMem_cluster (d : Dev) (a0 : Nat) (bs : List Byte) (i : ClusterId) : (d.writeMem a0 bs).cluster i = d.cluster i := rfl
@[simp] theorem Dev.writeMem_chan (d : Dev) (a0 : Nat) (bs : List Byte) (n : Nat) : (d.writeMem a0 bs).chan n = d.chan n := rfl
@[simp] theorem Dev.writeMem_sensor (d : Dev) (a0 : Nat) (bs : List Byte) (n : Nat) : (d.writeMem a0 bs).sensor n = d.sensor n := rfl
@[simp] theorem Dev.writeMem_partn (d : Dev) (a0 : Nat) (bs : List Byte) (n : Nat) : (d.writeMem a0 bs).partn n = d.partn n := rfl
@[simp] theorem Dev.writeMem_ap (d : Dev) (a0 : Nat) (bs : List Byte) (n : Nat) : (d.writeMem a0 bs).ap n = d.ap n := rfl
@[simp] theorem Dev.writeMem_val (d : Dev) (a0 : Nat) (bs : List Byte) (k : Nat) : (d.writeMem a0 bs).val k = d.val k := rfl
@[simp] theorem Dev.writeMem_tval (d : Dev) (a0 : Nat) (bs : List Byte) (k : Nat) : (d.writeMem a0 bs).tval k = d.tval k := rfl
@[simp] theorem Dev.writeMem_openTack (d : Dev) (a0 : Nat) (bs : List Byte) : (d.writeMem a0 bs).openTack = d.openTack := rfl
@[simp] theorem Dev.writeMem_powered (d : Dev) (a0 : Nat) (bs : List Byte) : (d.writeMem a0 bs).powered = d.powered := rfl
@[simp] theorem Dev.writeMem_up (d : Dev) (a0 : Nat) (bs : List Byte) : (d.writeMem a0 bs).up = d.up := rfl
@[simp] theorem Dev.writeMem_live (d : Dev) (a0 : Nat) (bs : List Byte) (r : BufRef) : (d.writeMem a0 bs).live r = d.live r := rfl
@[simp] theorem Dev.writeMem_sizeOf (d : Dev) (a0 : Nat) (bs : List Byte) (r : BufRef) : (d.writeMem a0 bs).sizeOf r = d.sizeOf r := rfl
@[simp] theorem Dev.writeMem_sailExists (d : Dev) (a0 : Nat) (bs : List Byte) (n : Nat) : (d.writeMem a0 bs).sailExists n = d.sailExists n := rfl
@[simp] theorem Dev.writeMem_mastList (d : Dev) (a0 : Nat) (bs : List Byte) : (d.writeMem a0 bs).mastList = d.mastList := rfl
@[simp] theorem Dev.writeMem_freeAt (d : Dev) (a0 : Nat) (bs : List Byte) (n : Nat) : (d.writeMem a0 bs).freeAt n = d.freeAt n := rfl

end Sys2Proof.Machine
end

