-- ==== Sys2Proof/Laws/Ops.lean ====
section
/-! SUPPORT. What each shared operation can do, once: a form that names every field it may change, and its consequence for every other
field. -/

namespace Sys2Proof.Machine

/-- Everything `msix` can do. -/
theorem Dev.msix_form (d : Dev) (v : Nat) : ∃ v_host_pba v_out, d.msix v =
    { d with host := { d.host with pba := v_host_pba }, out := v_out } := by
  unfold Dev.msix
  dsimp only
  split
  · exact ⟨_, _, rfl⟩
  · exact ⟨_, _, rfl⟩

/-! #### `msix` changes host.pba, out and nothing else -/

@[simp] theorem Dev.msix_fuses (d : Dev) (v : Nat) : (d.msix v).fuses = d.fuses := by
 obtain ⟨_, _, h⟩ := Dev.msix_form d v
 rw [h]
@[simp] theorem Dev.msix_link (d : Dev) (v : Nat) : (d.msix v).link = d.link := by
 obtain ⟨_, _, h⟩ := Dev.msix_form d v
 rw [h]
@[simp] theorem Dev.msix_host_owner (d : Dev) (v : Nat) : (d.msix v).host.owner = d.host.owner := by
 obtain ⟨_, _, h⟩ := Dev.msix_form d v
 rw [h]
@[simp] theorem Dev.msix_host_sessionCtr (d : Dev) (v : Nat) : (d.msix v).host.sessionCtr = d.host.sessionCtr := by
 obtain ⟨_, _, h⟩ := Dev.msix_form d v
 rw [h]
@[simp] theorem Dev.msix_host_viol (d : Dev) (v : Nat) : (d.msix v).host.viol = d.host.viol := by
 obtain ⟨_, _, h⟩ := Dev.msix_form d v
 rw [h]
@[simp] theorem Dev.msix_host_intMod (d : Dev) (v : Nat) : (d.msix v).host.intMod = d.host.intMod := by
 obtain ⟨_, _, h⟩ := Dev.msix_form d v
 rw [h]
@[simp] theorem Dev.msix_host_unsignalled (d : Dev) (v : Nat) : (d.msix v).host.unsignalled = d.host.unsignalled := by
 obtain ⟨_, _, h⟩ := Dev.msix_form d v
 rw [h]
@[simp] theorem Dev.msix_host_timerOn (d : Dev) (v : Nat) : (d.msix v).host.timerOn = d.host.timerOn := by
 obtain ⟨_, _, h⟩ := Dev.msix_form d v
 rw [h]
@[simp] theorem Dev.msix_host_aps (d : Dev) (v : Nat) : (d.msix v).host.aps = d.host.aps := by
 obtain ⟨_, _, h⟩ := Dev.msix_form d v
 rw [h]
@[simp] theorem Dev.msix_host_msix (d : Dev) (v : Nat) : (d.msix v).host.msix = d.host.msix := by
 obtain ⟨_, _, h⟩ := Dev.msix_form d v
 rw [h]
@[simp] theorem Dev.msix_host_violSource (d : Dev) (v : Nat) : (d.msix v).host.violSource = d.host.violSource := by
 obtain ⟨_, _, h⟩ := Dev.msix_form d v
 rw [h]
@[simp] theorem Dev.msix_host_violAddr (d : Dev) (v : Nat) : (d.msix v).host.violAddr = d.host.violAddr := by
 obtain ⟨_, _, h⟩ := Dev.msix_form d v
 rw [h]
@[simp] theorem Dev.msix_host_violHandle (d : Dev) (v : Nat) : (d.msix v).host.violHandle = d.host.violHandle := by
 obtain ⟨_, _, h⟩ := Dev.msix_form d v
 rw [h]
@[simp] theorem Dev.msix_host_violTack (d : Dev) (v : Nat) : (d.msix v).host.violTack = d.host.violTack := by
 obtain ⟨_, _, h⟩ := Dev.msix_form d v
 rw [h]
@[simp] theorem Dev.msix_host_violSince (d : Dev) (v : Nat) : (d.msix v).host.violSince = d.host.violSince := by
 obtain ⟨_, _, h⟩ := Dev.msix_form d v
 rw [h]
@[simp] theorem Dev.msix_host_violAt (d : Dev) (v : Nat) : (d.msix v).host.violAt = d.host.violAt := by
 obtain ⟨_, _, h⟩ := Dev.msix_form d v
 rw [h]
@[simp] theorem Dev.msix_xfer (d : Dev) (v : Nat) : (d.msix v).xfer = d.xfer := by
 obtain ⟨_, _, h⟩ := Dev.msix_form d v
 rw [h]
@[simp] theorem Dev.msix_ring (d : Dev) (v : Nat) : (d.msix v).ring = d.ring := by
 obtain ⟨_, _, h⟩ := Dev.msix_form d v
 rw [h]
@[simp] theorem Dev.msix_qs (d : Dev) (v : Nat) : (d.msix v).qs = d.qs := by
 obtain ⟨_, _, h⟩ := Dev.msix_form d v
 rw [h]
@[simp] theorem Dev.msix_intake (d : Dev) (v : Nat) : (d.msix v).intake = d.intake := by
 obtain ⟨_, _, h⟩ := Dev.msix_form d v
 rw [h]
@[simp] theorem Dev.msix_comp (d : Dev) (v : Nat) : (d.msix v).comp = d.comp := by
 obtain ⟨_, _, h⟩ := Dev.msix_form d v
 rw [h]
@[simp] theorem Dev.msix_tack (d : Dev) (v : Nat) : (d.msix v).tack = d.tack := by
 obtain ⟨_, _, h⟩ := Dev.msix_form d v
 rw [h]
@[simp] theorem Dev.msix_push (d : Dev) (v : Nat) : (d.msix v).push = d.push := by
 obtain ⟨_, _, h⟩ := Dev.msix_form d v
 rw [h]
@[simp] theorem Dev.msix_draws (d : Dev) (v : Nat) : (d.msix v).draws = d.draws := by
 obtain ⟨_, _, h⟩ := Dev.msix_form d v
 rw [h]
@[simp] theorem Dev.msix_dram (d : Dev) (v : Nat) : (d.msix v).dram = d.dram := by
 obtain ⟨_, _, h⟩ := Dev.msix_form d v
 rw [h]
@[simp] theorem Dev.msix_memlog (d : Dev) (v : Nat) : (d.msix v).memlog = d.memlog := by
 obtain ⟨_, _, h⟩ := Dev.msix_form d v
 rw [h]
@[simp] theorem Dev.msix_dict (d : Dev) (v : Nat) : (d.msix v).dict = d.dict := by
 obtain ⟨_, _, h⟩ := Dev.msix_form d v
 rw [h]
@[simp] theorem Dev.msix_pw (d : Dev) (v : Nat) : (d.msix v).pw = d.pw := by
 obtain ⟨_, _, h⟩ := Dev.msix_form d v
 rw [h]
@[simp] theorem Dev.msix_fw (d : Dev) (v : Nat) : (d.msix v).fw = d.fw := by
 obtain ⟨_, _, h⟩ := Dev.msix_form d v
 rw [h]
@[simp] theorem Dev.msix_th (d : Dev) (v : Nat) : (d.msix v).th = d.th := by
 obtain ⟨_, _, h⟩ := Dev.msix_form d v
 rw [h]
@[simp] theorem Dev.msix_trim (d : Dev) (v : Nat) : (d.msix v).trim = d.trim := by
 obtain ⟨_, _, h⟩ := Dev.msix_form d v
 rw [h]
@[simp] theorem Dev.msix_ledger (d : Dev) (v : Nat) : (d.msix v).ledger = d.ledger := by
 obtain ⟨_, _, h⟩ := Dev.msix_form d v
 rw [h]
@[simp] theorem Dev.msix_flt (d : Dev) (v : Nat) : (d.msix v).flt = d.flt := by
 obtain ⟨_, _, h⟩ := Dev.msix_form d v
 rw [h]
@[simp] theorem Dev.msix_lines (d : Dev) (v : Nat) : (d.msix v).lines = d.lines := by
 obtain ⟨_, _, h⟩ := Dev.msix_form d v
 rw [h]
@[simp] theorem Dev.msix_now (d : Dev) (v : Nat) : (d.msix v).now = d.now := by
 obtain ⟨_, _, h⟩ := Dev.msix_form d v
 rw [h]
@[simp] theorem Dev.msix_free (d : Dev) (v : Nat) : (d.msix v).free = d.free := by
 obtain ⟨_, _, h⟩ := Dev.msix_form d v
 rw [h]
@[simp] theorem Dev.msix_queue (d : Dev) (v : Nat) (q : QueueId) : (d.msix v).queue q = d.queue q := by simp [Dev.queue]
@[simp] theorem Dev.msix_buf (d : Dev) (v : Nat) (h : U16) : (d.msix v).buf h = d.buf h := by simp [Dev.buf]
@[simp] theorem Dev.msix_slot (d : Dev) (v : Nat) (n : Nat) : (d.msix v).slot n = d.slot n := by simp [Dev.slot]
@[simp] theorem Dev.msix_feed (d : Dev) (v : Nat) (f : FeedId) : (d.msix v).feed f = d.feed f := by simp [Dev.feed]
@[simp] theorem Dev.msix_thresher (d : Dev) (v : Nat) (i : ThresherId) : (d.msix v).thresher i = d.thresher i := by simp [Dev.thresher]
@[simp] theorem Dev.msix_vslot (d : Dev) (v : Nat) (n : Nat) : (d.msix v).vslot n = d.vslot n := by simp [Dev.vslot]
@[simp] theorem Dev.msix_sail (d : Dev) (v : Nat) (i : SailId) : (d.msix v).sail i = d.sail i := by simp [Dev.sail]
@[simp] theorem Dev.msix_mast (d : Dev) (v : Nat) (i : MastId) : (d.msix v).mast i = d.mast i := by simp [Dev.mast]
@[simp] theorem Dev.msix_cluster (d : Dev) (v : Nat) (i : ClusterId) : (d.msix v).cluster i = d.cluster i := by simp [Dev.cluster]
@[simp] theorem Dev.msix_chan (d : Dev) (v : Nat) (n : Nat) : (d.msix v).chan n = d.chan n := by simp [Dev.chan]
@[simp] theorem Dev.msix_sensor (d : Dev) (v : Nat) (n : Nat) : (d.msix v).sensor n = d.sensor n := by simp [Dev.sensor]
@[simp] theorem Dev.msix_partn (d : Dev) (v : Nat) (n : Nat) : (d.msix v).partn n = d.partn n := by simp [Dev.partn]
@[simp] theorem Dev.msix_ap (d : Dev) (v : Nat) (n : Nat) : (d.msix v).ap n = d.ap n := by simp [Dev.ap]
@[simp] theorem Dev.msix_val (d : Dev) (v : Nat) (k : Nat) : (d.msix v).val k = d.val k := by simp [Dev.val]
@[simp] theorem Dev.msix_tval (d : Dev) (v : Nat) (k : Nat) : (d.msix v).tval k = d.tval k := by simp [Dev.tval]
@[simp] theorem Dev.msix_openTack (d : Dev) (v : Nat) : (d.msix v).openTack = d.openTack := by simp [Dev.openTack]
@[simp] theorem Dev.msix_powered (d : Dev) (v : Nat) : (d.msix v).powered = d.powered := by simp [Dev.powered]
@[simp] theorem Dev.msix_up (d : Dev) (v : Nat) : (d.msix v).up = d.up := by simp [Dev.up]
@[simp] theorem Dev.msix_live (d : Dev) (v : Nat) (r : BufRef) : (d.msix v).live r = d.live r := by simp [Dev.live]
@[simp] theorem Dev.msix_sizeOf (d : Dev) (v : Nat) (r : BufRef) : (d.msix v).sizeOf r = d.sizeOf r := by simp [Dev.sizeOf]
@[simp] theorem Dev.msix_byteAt (d : Dev) (v : Nat) (a : Nat) : (d.msix v).byteAt a = d.byteAt a := by simp [Dev.byteAt]
@[simp] theorem Dev.msix_sailExists (d : Dev) (v : Nat) (n : Nat) : (d.msix v).sailExists n = d.sailExists n := by simp [Dev.sailExists]
@[simp] theorem Dev.msix_mastList (d : Dev) (v : Nat) : (d.msix v).mastList = d.mastList := by simp [Dev.mastList]
@[simp] theorem Dev.msix_freeAt (d : Dev) (v : Nat) (n : Nat) : (d.msix v).freeAt n = d.freeAt n := by simp [Dev.freeAt]

/-- Everything `record` can do. -/
theorem Dev.record_form (d : Dev) (e : Event) : ∃ v_ring v_host_unsignalled v_host_timerOn v_host_pba v_link_wake v_dict_vals v_out, d.record e =
    { d with ring := v_ring, host := { d.host with unsignalled := v_host_unsignalled, timerOn := v_host_timerOn, pba := v_host_pba }, link := { d.link with wake := v_link_wake }, dict := { d.dict with vals := v_dict_vals }, out := v_out } := by
  unfold Dev.record
  split
  · exact ⟨_, _, _, _, _, _, _, rfl⟩
  · split
    · exact ⟨_, _, _, _, _, _, _, rfl⟩
    · split
      · exact ⟨_, _, _, _, _, _, _, rfl⟩
      · have hp : ∃ r o, d.putRecord e = { d with ring := r, out := o } := by
          unfold Dev.putRecord
          dsimp only
          split
          · exact ⟨_, _, rfl⟩
          · exact ⟨_, _, rfl⟩
        obtain ⟨r, o, hp⟩ := hp
        rw [hp]
        unfold Dev.signal0
        dsimp only
        split
        · split
          · obtain ⟨_, _, h⟩ := Dev.msix_form ({ d with ring := r, out := o, host := { d.host with unsignalled := 0, timerOn := false } }) 0
            exact ⟨_, _, _, _, _, _, _, h⟩
          · exact ⟨_, _, _, _, _, _, _, rfl⟩
        · split
          · exact ⟨_, _, _, _, _, _, _, rfl⟩
          · split
            · exact ⟨_, _, _, _, _, _, _, rfl⟩
            · exact ⟨_, _, _, _, _, _, _, rfl⟩

/-! #### `record` changes ring, host.unsignalled, host.timerOn, host.pba, link.wake, dict.vals, out and nothing else -/

@[simp] theorem Dev.record_fuses (d : Dev) (e : Event) : (d.record e).fuses = d.fuses := by
 obtain ⟨_, _, _, _, _, _, _, h⟩ := Dev.record_form d e
 rw [h]
@[simp] theorem Dev.record_link_vbus (d : Dev) (e : Event) : (d.record e).link.vbus = d.link.vbus := by
 obtain ⟨_, _, _, _, _, _, _, h⟩ := Dev.record_form d e
 rw [h]
@[simp] theorem Dev.record_link_usb4 (d : Dev) (e : Event) : (d.record e).link.usb4 = d.link.usb4 := by
 obtain ⟨_, _, _, _, _, _, _, h⟩ := Dev.record_form d e
 rw [h]
@[simp] theorem Dev.record_link_ss (d : Dev) (e : Event) : (d.record e).link.ss = d.link.ss := by
 obtain ⟨_, _, _, _, _, _, _, h⟩ := Dev.record_form d e
 rw [h]
@[simp] theorem Dev.record_link_hs (d : Dev) (e : Event) : (d.record e).link.hs = d.link.hs := by
 obtain ⟨_, _, _, _, _, _, _, h⟩ := Dev.record_form d e
 rw [h]
@[simp] theorem Dev.record_link_bme (d : Dev) (e : Event) : (d.record e).link.bme = d.link.bme := by
 obtain ⟨_, _, _, _, _, _, _, h⟩ := Dev.record_form d e
 rw [h]
@[simp] theorem Dev.record_link_d3hot (d : Dev) (e : Event) : (d.record e).link.d3hot = d.link.d3hot := by
 obtain ⟨_, _, _, _, _, _, _, h⟩ := Dev.record_form d e
 rw [h]
@[simp] theorem Dev.record_link_msixEnable (d : Dev) (e : Event) : (d.record e).link.msixEnable = d.link.msixEnable := by
 obtain ⟨_, _, _, _, _, _, _, h⟩ := Dev.record_form d e
 rw [h]
@[simp] theorem Dev.record_link_msixMask (d : Dev) (e : Event) : (d.record e).link.msixMask = d.link.msixMask := by
 obtain ⟨_, _, _, _, _, _, _, h⟩ := Dev.record_form d e
 rw [h]
@[simp] theorem Dev.record_link_maxPayload (d : Dev) (e : Event) : (d.record e).link.maxPayload = d.link.maxPayload := by
 obtain ⟨_, _, _, _, _, _, _, h⟩ := Dev.record_form d e
 rw [h]
@[simp] theorem Dev.record_link_maxRead (d : Dev) (e : Event) : (d.record e).link.maxRead = d.link.maxRead := by
 obtain ⟨_, _, _, _, _, _, _, h⟩ := Dev.record_form d e
 rw [h]
@[simp] theorem Dev.record_link_bars (d : Dev) (e : Event) : (d.record e).link.bars = d.link.bars := by
 obtain ⟨_, _, _, _, _, _, _, h⟩ := Dev.record_form d e
 rw [h]
@[simp] theorem Dev.record_link_bar2Log2 (d : Dev) (e : Event) : (d.record e).link.bar2Log2 = d.link.bar2Log2 := by
 obtain ⟨_, _, _, _, _, _, _, h⟩ := Dev.record_form d e
 rw [h]
@[simp] theorem Dev.record_link_pathEnable (d : Dev) (e : Event) : (d.record e).link.pathEnable = d.link.pathEnable := by
 obtain ⟨_, _, _, _, _, _, _, h⟩ := Dev.record_form d e
 rw [h]
@[simp] theorem Dev.record_link_subsysVendor (d : Dev) (e : Event) : (d.record e).link.subsysVendor = d.link.subsysVendor := by
 obtain ⟨_, _, _, _, _, _, _, h⟩ := Dev.record_form d e
 rw [h]
@[simp] theorem Dev.record_link_subsysId (d : Dev) (e : Event) : (d.record e).link.subsysId = d.link.subsysId := by
 obtain ⟨_, _, _, _, _, _, _, h⟩ := Dev.record_form d e
 rw [h]
@[simp] theorem Dev.record_link_susp3 (d : Dev) (e : Event) : (d.record e).link.susp3 = d.link.susp3 := by
 obtain ⟨_, _, _, _, _, _, _, h⟩ := Dev.record_form d e
 rw [h]
@[simp] theorem Dev.record_link_susp2 (d : Dev) (e : Event) : (d.record e).link.susp2 = d.link.susp2 := by
 obtain ⟨_, _, _, _, _, _, _, h⟩ := Dev.record_form d e
 rw [h]
@[simp] theorem Dev.record_link_fs (d : Dev) (e : Event) : (d.record e).link.fs = d.link.fs := by
 obtain ⟨_, _, _, _, _, _, _, h⟩ := Dev.record_form d e
 rw [h]
@[simp] theorem Dev.record_link_low (d : Dev) (e : Event) : (d.record e).link.low = d.link.low := by
 obtain ⟨_, _, _, _, _, _, _, h⟩ := Dev.record_form d e
 rw [h]
@[simp] theorem Dev.record_host_owner (d : Dev) (e : Event) : (d.record e).host.owner = d.host.owner := by
 obtain ⟨_, _, _, _, _, _, _, h⟩ := Dev.record_form d e
 rw [h]
@[simp] theorem Dev.record_host_sessionCtr (d : Dev) (e : Event) : (d.record e).host.sessionCtr = d.host.sessionCtr := by
 obtain ⟨_, _, _, _, _, _, _, h⟩ := Dev.record_form d e
 rw [h]
@[simp] theorem Dev.record_host_viol (d : Dev) (e : Event) : (d.record e).host.viol = d.host.viol := by
 obtain ⟨_, _, _, _, _, _, _, h⟩ := Dev.record_form d e
 rw [h]
@[simp] theorem Dev.record_host_intMod (d : Dev) (e : Event) : (d.record e).host.intMod = d.host.intMod := by
 obtain ⟨_, _, _, _, _, _, _, h⟩ := Dev.record_form d e
 rw [h]
@[simp] theorem Dev.record_host_aps (d : Dev) (e : Event) : (d.record e).host.aps = d.host.aps := by
 obtain ⟨_, _, _, _, _, _, _, h⟩ := Dev.record_form d e
 rw [h]
@[simp] theorem Dev.record_host_msix (d : Dev) (e : Event) : (d.record e).host.msix = d.host.msix := by
 obtain ⟨_, _, _, _, _, _, _, h⟩ := Dev.record_form d e
 rw [h]
@[simp] theorem Dev.record_host_violSource (d : Dev) (e : Event) : (d.record e).host.violSource = d.host.violSource := by
 obtain ⟨_, _, _, _, _, _, _, h⟩ := Dev.record_form d e
 rw [h]
@[simp] theorem Dev.record_host_violAddr (d : Dev) (e : Event) : (d.record e).host.violAddr = d.host.violAddr := by
 obtain ⟨_, _, _, _, _, _, _, h⟩ := Dev.record_form d e
 rw [h]
@[simp] theorem Dev.record_host_violHandle (d : Dev) (e : Event) : (d.record e).host.violHandle = d.host.violHandle := by
 obtain ⟨_, _, _, _, _, _, _, h⟩ := Dev.record_form d e
 rw [h]
@[simp] theorem Dev.record_host_violTack (d : Dev) (e : Event) : (d.record e).host.violTack = d.host.violTack := by
 obtain ⟨_, _, _, _, _, _, _, h⟩ := Dev.record_form d e
 rw [h]
@[simp] theorem Dev.record_host_violSince (d : Dev) (e : Event) : (d.record e).host.violSince = d.host.violSince := by
 obtain ⟨_, _, _, _, _, _, _, h⟩ := Dev.record_form d e
 rw [h]
@[simp] theorem Dev.record_host_violAt (d : Dev) (e : Event) : (d.record e).host.violAt = d.host.violAt := by
 obtain ⟨_, _, _, _, _, _, _, h⟩ := Dev.record_form d e
 rw [h]
@[simp] theorem Dev.record_xfer (d : Dev) (e : Event) : (d.record e).xfer = d.xfer := by
 obtain ⟨_, _, _, _, _, _, _, h⟩ := Dev.record_form d e
 rw [h]
@[simp] theorem Dev.record_qs (d : Dev) (e : Event) : (d.record e).qs = d.qs := by
 obtain ⟨_, _, _, _, _, _, _, h⟩ := Dev.record_form d e
 rw [h]
@[simp] theorem Dev.record_intake (d : Dev) (e : Event) : (d.record e).intake = d.intake := by
 obtain ⟨_, _, _, _, _, _, _, h⟩ := Dev.record_form d e
 rw [h]
@[simp] theorem Dev.record_comp (d : Dev) (e : Event) : (d.record e).comp = d.comp := by
 obtain ⟨_, _, _, _, _, _, _, h⟩ := Dev.record_form d e
 rw [h]
@[simp] theorem Dev.record_tack (d : Dev) (e : Event) : (d.record e).tack = d.tack := by
 obtain ⟨_, _, _, _, _, _, _, h⟩ := Dev.record_form d e
 rw [h]
@[simp] theorem Dev.record_push (d : Dev) (e : Event) : (d.record e).push = d.push := by
 obtain ⟨_, _, _, _, _, _, _, h⟩ := Dev.record_form d e
 rw [h]
@[simp] theorem Dev.record_draws (d : Dev) (e : Event) : (d.record e).draws = d.draws := by
 obtain ⟨_, _, _, _, _, _, _, h⟩ := Dev.record_form d e
 rw [h]
@[simp] theorem Dev.record_dram (d : Dev) (e : Event) : (d.record e).dram = d.dram := by
 obtain ⟨_, _, _, _, _, _, _, h⟩ := Dev.record_form d e
 rw [h]
@[simp] theorem Dev.record_memlog (d : Dev) (e : Event) : (d.record e).memlog = d.memlog := by
 obtain ⟨_, _, _, _, _, _, _, h⟩ := Dev.record_form d e
 rw [h]
@[simp] theorem Dev.record_dict_locks (d : Dev) (e : Event) : (d.record e).dict.locks = d.dict.locks := by
 obtain ⟨_, _, _, _, _, _, _, h⟩ := Dev.record_form d e
 rw [h]
@[simp] theorem Dev.record_dict_claims (d : Dev) (e : Event) : (d.record e).dict.claims = d.dict.claims := by
 obtain ⟨_, _, _, _, _, _, _, h⟩ := Dev.record_form d e
 rw [h]
@[simp] theorem Dev.record_dict_subs (d : Dev) (e : Event) : (d.record e).dict.subs = d.dict.subs := by
 obtain ⟨_, _, _, _, _, _, _, h⟩ := Dev.record_form d e
 rw [h]
@[simp] theorem Dev.record_dict_writers (d : Dev) (e : Event) : (d.record e).dict.writers = d.dict.writers := by
 obtain ⟨_, _, _, _, _, _, _, h⟩ := Dev.record_form d e
 rw [h]
@[simp] theorem Dev.record_dict_arbs (d : Dev) (e : Event) : (d.record e).dict.arbs = d.dict.arbs := by
 obtain ⟨_, _, _, _, _, _, _, h⟩ := Dev.record_form d e
 rw [h]
@[simp] theorem Dev.record_dict_waiting (d : Dev) (e : Event) : (d.record e).dict.waiting = d.dict.waiting := by
 obtain ⟨_, _, _, _, _, _, _, h⟩ := Dev.record_form d e
 rw [h]
@[simp] theorem Dev.record_dict_clients (d : Dev) (e : Event) : (d.record e).dict.clients = d.dict.clients := by
 obtain ⟨_, _, _, _, _, _, _, h⟩ := Dev.record_form d e
 rw [h]
@[simp] theorem Dev.record_dict_confNext (d : Dev) (e : Event) : (d.record e).dict.confNext = d.dict.confNext := by
 obtain ⟨_, _, _, _, _, _, _, h⟩ := Dev.record_form d e
 rw [h]
@[simp] theorem Dev.record_dict_conf (d : Dev) (e : Event) : (d.record e).dict.conf = d.dict.conf := by
 obtain ⟨_, _, _, _, _, _, _, h⟩ := Dev.record_form d e
 rw [h]
@[simp] theorem Dev.record_dict_lastStatus (d : Dev) (e : Event) : (d.record e).dict.lastStatus = d.dict.lastStatus := by
 obtain ⟨_, _, _, _, _, _, _, h⟩ := Dev.record_form d e
 rw [h]
@[simp] theorem Dev.record_dict_lastEntry (d : Dev) (e : Event) : (d.record e).dict.lastEntry = d.dict.lastEntry := by
 obtain ⟨_, _, _, _, _, _, _, h⟩ := Dev.record_form d e
 rw [h]
@[simp] theorem Dev.record_dict_lastMaster (d : Dev) (e : Event) : (d.record e).dict.lastMaster = d.dict.lastMaster := by
 obtain ⟨_, _, _, _, _, _, _, h⟩ := Dev.record_form d e
 rw [h]
@[simp] theorem Dev.record_dict_lastTack (d : Dev) (e : Event) : (d.record e).dict.lastTack = d.dict.lastTack := by
 obtain ⟨_, _, _, _, _, _, _, h⟩ := Dev.record_form d e
 rw [h]
@[simp] theorem Dev.record_dict_comm (d : Dev) (e : Event) : (d.record e).dict.comm = d.dict.comm := by
 obtain ⟨_, _, _, _, _, _, _, h⟩ := Dev.record_form d e
 rw [h]
@[simp] theorem Dev.record_dict_commDue (d : Dev) (e : Event) : (d.record e).dict.commDue = d.dict.commDue := by
 obtain ⟨_, _, _, _, _, _, _, h⟩ := Dev.record_form d e
 rw [h]
@[simp] theorem Dev.record_pw (d : Dev) (e : Event) : (d.record e).pw = d.pw := by
 obtain ⟨_, _, _, _, _, _, _, h⟩ := Dev.record_form d e
 rw [h]
@[simp] theorem Dev.record_fw (d : Dev) (e : Event) : (d.record e).fw = d.fw := by
 obtain ⟨_, _, _, _, _, _, _, h⟩ := Dev.record_form d e
 rw [h]
@[simp] theorem Dev.record_th (d : Dev) (e : Event) : (d.record e).th = d.th := by
 obtain ⟨_, _, _, _, _, _, _, h⟩ := Dev.record_form d e
 rw [h]
@[simp] theorem Dev.record_trim (d : Dev) (e : Event) : (d.record e).trim = d.trim := by
 obtain ⟨_, _, _, _, _, _, _, h⟩ := Dev.record_form d e
 rw [h]
@[simp] theorem Dev.record_ledger (d : Dev) (e : Event) : (d.record e).ledger = d.ledger := by
 obtain ⟨_, _, _, _, _, _, _, h⟩ := Dev.record_form d e
 rw [h]
@[simp] theorem Dev.record_flt (d : Dev) (e : Event) : (d.record e).flt = d.flt := by
 obtain ⟨_, _, _, _, _, _, _, h⟩ := Dev.record_form d e
 rw [h]
@[simp] theorem Dev.record_lines (d : Dev) (e : Event) : (d.record e).lines = d.lines := by
 obtain ⟨_, _, _, _, _, _, _, h⟩ := Dev.record_form d e
 rw [h]
@[simp] theorem Dev.record_now (d : Dev) (e : Event) : (d.record e).now = d.now := by
 obtain ⟨_, _, _, _, _, _, _, h⟩ := Dev.record_form d e
 rw [h]
@[simp] theorem Dev.record_free (d : Dev) (e : Event) : (d.record e).free = d.free := by
 obtain ⟨_, _, _, _, _, _, _, h⟩ := Dev.record_form d e
 rw [h]
@[simp] theorem Dev.record_queue (d : Dev) (e : Event) (q : QueueId) : (d.record e).queue q = d.queue q := by simp [Dev.queue]
@[simp] theorem Dev.record_buf (d : Dev) (e : Event) (h : U16) : (d.record e).buf h = d.buf h := by simp [Dev.buf]
@[simp] theorem Dev.record_slot (d : Dev) (e : Event) (n : Nat) : (d.record e).slot n = d.slot n := by simp [Dev.slot]
@[simp] theorem Dev.record_feed (d : Dev) (e : Event) (f : FeedId) : (d.record e).feed f = d.feed f := by simp [Dev.feed]
@[simp] theorem Dev.record_thresher (d : Dev) (e : Event) (i : ThresherId) : (d.record e).thresher i = d.thresher i := by simp [Dev.thresher]
@[simp] theorem Dev.record_vslot (d : Dev) (e : Event) (n : Nat) : (d.record e).vslot n = d.vslot n := by simp [Dev.vslot]
@[simp] theorem Dev.record_sail (d : Dev) (e : Event) (i : SailId) : (d.record e).sail i = d.sail i := by simp [Dev.sail]
@[simp] theorem Dev.record_mast (d : Dev) (e : Event) (i : MastId) : (d.record e).mast i = d.mast i := by simp [Dev.mast]
@[simp] theorem Dev.record_cluster (d : Dev) (e : Event) (i : ClusterId) : (d.record e).cluster i = d.cluster i := by simp [Dev.cluster]
@[simp] theorem Dev.record_chan (d : Dev) (e : Event) (n : Nat) : (d.record e).chan n = d.chan n := by simp [Dev.chan]
@[simp] theorem Dev.record_sensor (d : Dev) (e : Event) (n : Nat) : (d.record e).sensor n = d.sensor n := by simp [Dev.sensor]
@[simp] theorem Dev.record_partn (d : Dev) (e : Event) (n : Nat) : (d.record e).partn n = d.partn n := by simp [Dev.partn]
@[simp] theorem Dev.record_ap (d : Dev) (e : Event) (n : Nat) : (d.record e).ap n = d.ap n := by simp [Dev.ap]
@[simp] theorem Dev.record_tval (d : Dev) (e : Event) (k : Nat) : (d.record e).tval k = d.tval k := by simp [Dev.tval]
@[simp] theorem Dev.record_openTack (d : Dev) (e : Event) : (d.record e).openTack = d.openTack := by simp [Dev.openTack]
@[simp] theorem Dev.record_powered (d : Dev) (e : Event) : (d.record e).powered = d.powered := by simp [Dev.powered]
@[simp] theorem Dev.record_up (d : Dev) (e : Event) : (d.record e).up = d.up := by simp [Dev.up]
@[simp] theorem Dev.record_live (d : Dev) (e : Event) (r : BufRef) : (d.record e).live r = d.live r := by simp [Dev.live]
@[simp] theorem Dev.record_sizeOf (d : Dev) (e : Event) (r : BufRef) : (d.record e).sizeOf r = d.sizeOf r := by simp [Dev.sizeOf]
@[simp] theorem Dev.record_byteAt (d : Dev) (e : Event) (a : Nat) : (d.record e).byteAt a = d.byteAt a := by simp [Dev.byteAt]
@[simp] theorem Dev.record_sailExists (d : Dev) (e : Event) (n : Nat) : (d.record e).sailExists n = d.sailExists n := by simp [Dev.sailExists]
@[simp] theorem Dev.record_mastList (d : Dev) (e : Event) : (d.record e).mastList = d.mastList := by simp [Dev.mastList]
@[simp] theorem Dev.record_freeAt (d : Dev) (e : Event) (n : Nat) : (d.record e).freeAt n = d.freeAt n := by simp [Dev.freeAt]

/-- Everything `event` can do. -/
theorem Dev.event_form (d : Dev) (ty src x : Nat) : ∃ v_ring v_host_unsignalled v_host_timerOn v_host_pba v_link_wake v_dict_vals v_out, d.event ty src x =
    { d with ring := v_ring, host := { d.host with unsignalled := v_host_unsignalled, timerOn := v_host_timerOn, pba := v_host_pba }, link := { d.link with wake := v_link_wake }, dict := { d.dict with vals := v_dict_vals }, out := v_out } := by
  exact Dev.record_form d _

/-! #### `event` changes ring, host.unsignalled, host.timerOn, host.pba, link.wake, dict.vals, out and nothing else -/

@[simp] theorem Dev.event_fuses (d : Dev) (ty src x : Nat) : (d.event ty src x).fuses = d.fuses := by
 obtain ⟨_, _, _, _, _, _, _, h⟩ := Dev.event_form d ty src x
 rw [h]
@[simp] theorem Dev.event_link_vbus (d : Dev) (ty src x : Nat) : (d.event ty src x).link.vbus = d.link.vbus := by
 obtain ⟨_, _, _, _, _, _, _, h⟩ := Dev.event_form d ty src x
 rw [h]
@[simp] theorem Dev.event_link_usb4 (d : Dev) (ty src x : Nat) : (d.event ty src x).link.usb4 = d.link.usb4 := by
 obtain ⟨_, _, _, _, _, _, _, h⟩ := Dev.event_form d ty src x
 rw [h]
@[simp] theorem Dev.event_link_ss (d : Dev) (ty src x : Nat) : (d.event ty src x).link.ss = d.link.ss := by
 obtain ⟨_, _, _, _, _, _, _, h⟩ := Dev.event_form d ty src x
 rw [h]
@[simp] theorem Dev.event_link_hs (d : Dev) (ty src x : Nat) : (d.event ty src x).link.hs = d.link.hs := by
 obtain ⟨_, _, _, _, _, _, _, h⟩ := Dev.event_form d ty src x
 rw [h]
@[simp] theorem Dev.event_link_bme (d : Dev) (ty src x : Nat) : (d.event ty src x).link.bme = d.link.bme := by
 obtain ⟨_, _, _, _, _, _, _, h⟩ := Dev.event_form d ty src x
 rw [h]
@[simp] theorem Dev.event_link_d3hot (d : Dev) (ty src x : Nat) : (d.event ty src x).link.d3hot = d.link.d3hot := by
 obtain ⟨_, _, _, _, _, _, _, h⟩ := Dev.event_form d ty src x
 rw [h]
@[simp] theorem Dev.event_link_msixEnable (d : Dev) (ty src x : Nat) : (d.event ty src x).link.msixEnable = d.link.msixEnable := by
 obtain ⟨_, _, _, _, _, _, _, h⟩ := Dev.event_form d ty src x
 rw [h]
@[simp] theorem Dev.event_link_msixMask (d : Dev) (ty src x : Nat) : (d.event ty src x).link.msixMask = d.link.msixMask := by
 obtain ⟨_, _, _, _, _, _, _, h⟩ := Dev.event_form d ty src x
 rw [h]
@[simp] theorem Dev.event_link_maxPayload (d : Dev) (ty src x : Nat) : (d.event ty src x).link.maxPayload = d.link.maxPayload := by
 obtain ⟨_, _, _, _, _, _, _, h⟩ := Dev.event_form d ty src x
 rw [h]
@[simp] theorem Dev.event_link_maxRead (d : Dev) (ty src x : Nat) : (d.event ty src x).link.maxRead = d.link.maxRead := by
 obtain ⟨_, _, _, _, _, _, _, h⟩ := Dev.event_form d ty src x
 rw [h]
@[simp] theorem Dev.event_link_bars (d : Dev) (ty src x : Nat) : (d.event ty src x).link.bars = d.link.bars := by
 obtain ⟨_, _, _, _, _, _, _, h⟩ := Dev.event_form d ty src x
 rw [h]
@[simp] theorem Dev.event_link_bar2Log2 (d : Dev) (ty src x : Nat) : (d.event ty src x).link.bar2Log2 = d.link.bar2Log2 := by
 obtain ⟨_, _, _, _, _, _, _, h⟩ := Dev.event_form d ty src x
 rw [h]
@[simp] theorem Dev.event_link_pathEnable (d : Dev) (ty src x : Nat) : (d.event ty src x).link.pathEnable = d.link.pathEnable := by
 obtain ⟨_, _, _, _, _, _, _, h⟩ := Dev.event_form d ty src x
 rw [h]
@[simp] theorem Dev.event_link_subsysVendor (d : Dev) (ty src x : Nat) : (d.event ty src x).link.subsysVendor = d.link.subsysVendor := by
 obtain ⟨_, _, _, _, _, _, _, h⟩ := Dev.event_form d ty src x
 rw [h]
@[simp] theorem Dev.event_link_subsysId (d : Dev) (ty src x : Nat) : (d.event ty src x).link.subsysId = d.link.subsysId := by
 obtain ⟨_, _, _, _, _, _, _, h⟩ := Dev.event_form d ty src x
 rw [h]
@[simp] theorem Dev.event_link_susp3 (d : Dev) (ty src x : Nat) : (d.event ty src x).link.susp3 = d.link.susp3 := by
 obtain ⟨_, _, _, _, _, _, _, h⟩ := Dev.event_form d ty src x
 rw [h]
@[simp] theorem Dev.event_link_susp2 (d : Dev) (ty src x : Nat) : (d.event ty src x).link.susp2 = d.link.susp2 := by
 obtain ⟨_, _, _, _, _, _, _, h⟩ := Dev.event_form d ty src x
 rw [h]
@[simp] theorem Dev.event_link_fs (d : Dev) (ty src x : Nat) : (d.event ty src x).link.fs = d.link.fs := by
 obtain ⟨_, _, _, _, _, _, _, h⟩ := Dev.event_form d ty src x
 rw [h]
@[simp] theorem Dev.event_link_low (d : Dev) (ty src x : Nat) : (d.event ty src x).link.low = d.link.low := by
 obtain ⟨_, _, _, _, _, _, _, h⟩ := Dev.event_form d ty src x
 rw [h]
@[simp] theorem Dev.event_host_owner (d : Dev) (ty src x : Nat) : (d.event ty src x).host.owner = d.host.owner := by
 obtain ⟨_, _, _, _, _, _, _, h⟩ := Dev.event_form d ty src x
 rw [h]
@[simp] theorem Dev.event_host_sessionCtr (d : Dev) (ty src x : Nat) : (d.event ty src x).host.sessionCtr = d.host.sessionCtr := by
 obtain ⟨_, _, _, _, _, _, _, h⟩ := Dev.event_form d ty src x
 rw [h]
@[simp] theorem Dev.event_host_viol (d : Dev) (ty src x : Nat) : (d.event ty src x).host.viol = d.host.viol := by
 obtain ⟨_, _, _, _, _, _, _, h⟩ := Dev.event_form d ty src x
 rw [h]
@[simp] theorem Dev.event_host_intMod (d : Dev) (ty src x : Nat) : (d.event ty src x).host.intMod = d.host.intMod := by
 obtain ⟨_, _, _, _, _, _, _, h⟩ := Dev.event_form d ty src x
 rw [h]
@[simp] theorem Dev.event_host_aps (d : Dev) (ty src x : Nat) : (d.event ty src x).host.aps = d.host.aps := by
 obtain ⟨_, _, _, _, _, _, _, h⟩ := Dev.event_form d ty src x
 rw [h]
@[simp] theorem Dev.event_host_msix (d : Dev) (ty src x : Nat) : (d.event ty src x).host.msix = d.host.msix := by
 obtain ⟨_, _, _, _, _, _, _, h⟩ := Dev.event_form d ty src x
 rw [h]
@[simp] theorem Dev.event_host_violSource (d : Dev) (ty src x : Nat) : (d.event ty src x).host.violSource = d.host.violSource := by
 obtain ⟨_, _, _, _, _, _, _, h⟩ := Dev.event_form d ty src x
 rw [h]
@[simp] theorem Dev.event_host_violAddr (d : Dev) (ty src x : Nat) : (d.event ty src x).host.violAddr = d.host.violAddr := by
 obtain ⟨_, _, _, _, _, _, _, h⟩ := Dev.event_form d ty src x
 rw [h]
@[simp] theorem Dev.event_host_violHandle (d : Dev) (ty src x : Nat) : (d.event ty src x).host.violHandle = d.host.violHandle := by
 obtain ⟨_, _, _, _, _, _, _, h⟩ := Dev.event_form d ty src x
 rw [h]
@[simp] theorem Dev.event_host_violTack (d : Dev) (ty src x : Nat) : (d.event ty src x).host.violTack = d.host.violTack := by
 obtain ⟨_, _, _, _, _, _, _, h⟩ := Dev.event_form d ty src x
 rw [h]
@[simp] theorem Dev.event_host_violSince (d : Dev) (ty src x : Nat) : (d.event ty src x).host.violSince = d.host.violSince := by
 obtain ⟨_, _, _, _, _, _, _, h⟩ := Dev.event_form d ty src x
 rw [h]
@[simp] theorem Dev.event_host_violAt (d : Dev) (ty src x : Nat) : (d.event ty src x).host.violAt = d.host.violAt := by
 obtain ⟨_, _, _, _, _, _, _, h⟩ := Dev.event_form d ty src x
 rw [h]
@[simp] theorem Dev.event_xfer (d : Dev) (ty src x : Nat) : (d.event ty src x).xfer = d.xfer := by
 obtain ⟨_, _, _, _, _, _, _, h⟩ := Dev.event_form d ty src x
 rw [h]
@[simp] theorem Dev.event_qs (d : Dev) (ty src x : Nat) : (d.event ty src x).qs = d.qs := by
 obtain ⟨_, _, _, _, _, _, _, h⟩ := Dev.event_form d ty src x
 rw [h]
@[simp] theorem Dev.event_intake (d : Dev) (ty src x : Nat) : (d.event ty src x).intake = d.intake := by
 obtain ⟨_, _, _, _, _, _, _, h⟩ := Dev.event_form d ty src x
 rw [h]
@[simp] theorem Dev.event_comp (d : Dev) (ty src x : Nat) : (d.event ty src x).comp = d.comp := by
 obtain ⟨_, _, _, _, _, _, _, h⟩ := Dev.event_form d ty src x
 rw [h]
@[simp] theorem Dev.event_tack (d : Dev) (ty src x : Nat) : (d.event ty src x).tack = d.tack := by
 obtain ⟨_, _, _, _, _, _, _, h⟩ := Dev.event_form d ty src x
 rw [h]
@[simp] theorem Dev.event_push (d : Dev) (ty src x : Nat) : (d.event ty src x).push = d.push := by
 obtain ⟨_, _, _, _, _, _, _, h⟩ := Dev.event_form d ty src x
 rw [h]
@[simp] theorem Dev.event_draws (d : Dev) (ty src x : Nat) : (d.event ty src x).draws = d.draws := by
 obtain ⟨_, _, _, _, _, _, _, h⟩ := Dev.event_form d ty src x
 rw [h]
@[simp] theorem Dev.event_dram (d : Dev) (ty src x : Nat) : (d.event ty src x).dram = d.dram := by
 obtain ⟨_, _, _, _, _, _, _, h⟩ := Dev.event_form d ty src x
 rw [h]
@[simp] theorem Dev.event_memlog (d : Dev) (ty src x : Nat) : (d.event ty src x).memlog = d.memlog := by
 obtain ⟨_, _, _, _, _, _, _, h⟩ := Dev.event_form d ty src x
 rw [h]
@[simp] theorem Dev.event_dict_locks (d : Dev) (ty src x : Nat) : (d.event ty src x).dict.locks = d.dict.locks := by
 obtain ⟨_, _, _, _, _, _, _, h⟩ := Dev.event_form d ty src x
 rw [h]
@[simp] theorem Dev.event_dict_claims (d : Dev) (ty src x : Nat) : (d.event ty src x).dict.claims = d.dict.claims := by
 obtain ⟨_, _, _, _, _, _, _, h⟩ := Dev.event_form d ty src x
 rw [h]
@[simp] theorem Dev.event_dict_subs (d : Dev) (ty src x : Nat) : (d.event ty src x).dict.subs = d.dict.subs := by
 obtain ⟨_, _, _, _, _, _, _, h⟩ := Dev.event_form d ty src x
 rw [h]
@[simp] theorem Dev.event_dict_writers (d : Dev) (ty src x : Nat) : (d.event ty src x).dict.writers = d.dict.writers := by
 obtain ⟨_, _, _, _, _, _, _, h⟩ := Dev.event_form d ty src x
 rw [h]
@[simp] theorem Dev.event_dict_arbs (d : Dev) (ty src x : Nat) : (d.event ty src x).dict.arbs = d.dict.arbs := by
 obtain ⟨_, _, _, _, _, _, _, h⟩ := Dev.event_form d ty src x
 rw [h]
@[simp] theorem Dev.event_dict_waiting (d : Dev) (ty src x : Nat) : (d.event ty src x).dict.waiting = d.dict.waiting := by
 obtain ⟨_, _, _, _, _, _, _, h⟩ := Dev.event_form d ty src x
 rw [h]
@[simp] theorem Dev.event_dict_clients (d : Dev) (ty src x : Nat) : (d.event ty src x).dict.clients = d.dict.clients := by
 obtain ⟨_, _, _, _, _, _, _, h⟩ := Dev.event_form d ty src x
 rw [h]
@[simp] theorem Dev.event_dict_confNext (d : Dev) (ty src x : Nat) : (d.event ty src x).dict.confNext = d.dict.confNext := by
 obtain ⟨_, _, _, _, _, _, _, h⟩ := Dev.event_form d ty src x
 rw [h]
@[simp] theorem Dev.event_dict_conf (d : Dev) (ty src x : Nat) : (d.event ty src x).dict.conf = d.dict.conf := by
 obtain ⟨_, _, _, _, _, _, _, h⟩ := Dev.event_form d ty src x
 rw [h]
@[simp] theorem Dev.event_dict_lastStatus (d : Dev) (ty src x : Nat) : (d.event ty src x).dict.lastStatus = d.dict.lastStatus := by
 obtain ⟨_, _, _, _, _, _, _, h⟩ := Dev.event_form d ty src x
 rw [h]
@[simp] theorem Dev.event_dict_lastEntry (d : Dev) (ty src x : Nat) : (d.event ty src x).dict.lastEntry = d.dict.lastEntry := by
 obtain ⟨_, _, _, _, _, _, _, h⟩ := Dev.event_form d ty src x
 rw [h]
@[simp] theorem Dev.event_dict_lastMaster (d : Dev) (ty src x : Nat) : (d.event ty src x).dict.lastMaster = d.dict.lastMaster := by
 obtain ⟨_, _, _, _, _, _, _, h⟩ := Dev.event_form d ty src x
 rw [h]
@[simp] theorem Dev.event_dict_lastTack (d : Dev) (ty src x : Nat) : (d.event ty src x).dict.lastTack = d.dict.lastTack := by
 obtain ⟨_, _, _, _, _, _, _, h⟩ := Dev.event_form d ty src x
 rw [h]
@[simp] theorem Dev.event_dict_comm (d : Dev) (ty src x : Nat) : (d.event ty src x).dict.comm = d.dict.comm := by
 obtain ⟨_, _, _, _, _, _, _, h⟩ := Dev.event_form d ty src x
 rw [h]
@[simp] theorem Dev.event_dict_commDue (d : Dev) (ty src x : Nat) : (d.event ty src x).dict.commDue = d.dict.commDue := by
 obtain ⟨_, _, _, _, _, _, _, h⟩ := Dev.event_form d ty src x
 rw [h]
@[simp] theorem Dev.event_pw (d : Dev) (ty src x : Nat) : (d.event ty src x).pw = d.pw := by
 obtain ⟨_, _, _, _, _, _, _, h⟩ := Dev.event_form d ty src x
 rw [h]
@[simp] theorem Dev.event_fw (d : Dev) (ty src x : Nat) : (d.event ty src x).fw = d.fw := by
 obtain ⟨_, _, _, _, _, _, _, h⟩ := Dev.event_form d ty src x
 rw [h]
@[simp] theorem Dev.event_th (d : Dev) (ty src x : Nat) : (d.event ty src x).th = d.th := by
 obtain ⟨_, _, _, _, _, _, _, h⟩ := Dev.event_form d ty src x
 rw [h]
@[simp] theorem Dev.event_trim (d : Dev) (ty src x : Nat) : (d.event ty src x).trim = d.trim := by
 obtain ⟨_, _, _, _, _, _, _, h⟩ := Dev.event_form d ty src x
 rw [h]
@[simp] theorem Dev.event_ledger (d : Dev) (ty src x : Nat) : (d.event ty src x).ledger = d.ledger := by
 obtain ⟨_, _, _, _, _, _, _, h⟩ := Dev.event_form d ty src x
 rw [h]
@[simp] theorem Dev.event_flt (d : Dev) (ty src x : Nat) : (d.event ty src x).flt = d.flt := by
 obtain ⟨_, _, _, _, _, _, _, h⟩ := Dev.event_form d ty src x
 rw [h]
@[simp] theorem Dev.event_lines (d : Dev) (ty src x : Nat) : (d.event ty src x).lines = d.lines := by
 obtain ⟨_, _, _, _, _, _, _, h⟩ := Dev.event_form d ty src x
 rw [h]
@[simp] theorem Dev.event_now (d : Dev) (ty src x : Nat) : (d.event ty src x).now = d.now := by
 obtain ⟨_, _, _, _, _, _, _, h⟩ := Dev.event_form d ty src x
 rw [h]
@[simp] theorem Dev.event_free (d : Dev) (ty src x : Nat) : (d.event ty src x).free = d.free := by
 obtain ⟨_, _, _, _, _, _, _, h⟩ := Dev.event_form d ty src x
 rw [h]
@[simp] theorem Dev.event_queue (d : Dev) (ty src x : Nat) (q : QueueId) : (d.event ty src x).queue q = d.queue q := by simp [Dev.queue]
@[simp] theorem Dev.event_buf (d : Dev) (ty src x : Nat) (h : U16) : (d.event ty src x).buf h = d.buf h := by simp [Dev.buf]
@[simp] theorem Dev.event_slot (d : Dev) (ty src x : Nat) (n : Nat) : (d.event ty src x).slot n = d.slot n := by simp [Dev.slot]
@[simp] theorem Dev.event_feed (d : Dev) (ty src x : Nat) (f : FeedId) : (d.event ty src x).feed f = d.feed f := by simp [Dev.feed]
@[simp] theorem Dev.event_thresher (d : Dev) (ty src x : Nat) (i : ThresherId) : (d.event ty src x).thresher i = d.thresher i := by simp [Dev.thresher]
@[simp] theorem Dev.event_vslot (d : Dev) (ty src x : Nat) (n : Nat) : (d.event ty src x).vslot n = d.vslot n := by simp [Dev.vslot]
@[simp] theorem Dev.event_sail (d : Dev) (ty src x : Nat) (i : SailId) : (d.event ty src x).sail i = d.sail i := by simp [Dev.sail]
@[simp] theorem Dev.event_mast (d : Dev) (ty src x : Nat) (i : MastId) : (d.event ty src x).mast i = d.mast i := by simp [Dev.mast]
@[simp] theorem Dev.event_cluster (d : Dev) (ty src x : Nat) (i : ClusterId) : (d.event ty src x).cluster i = d.cluster i := by simp [Dev.cluster]
@[simp] theorem Dev.event_chan (d : Dev) (ty src x : Nat) (n : Nat) : (d.event ty src x).chan n = d.chan n := by simp [Dev.chan]
@[simp] theorem Dev.event_sensor (d : Dev) (ty src x : Nat) (n : Nat) : (d.event ty src x).sensor n = d.sensor n := by simp [Dev.sensor]
@[simp] theorem Dev.event_partn (d : Dev) (ty src x : Nat) (n : Nat) : (d.event ty src x).partn n = d.partn n := by simp [Dev.partn]
@[simp] theorem Dev.event_ap (d : Dev) (ty src x : Nat) (n : Nat) : (d.event ty src x).ap n = d.ap n := by simp [Dev.ap]
@[simp] theorem Dev.event_tval (d : Dev) (ty src x : Nat) (k : Nat) : (d.event ty src x).tval k = d.tval k := by simp [Dev.tval]
@[simp] theorem Dev.event_openTack (d : Dev) (ty src x : Nat) : (d.event ty src x).openTack = d.openTack := by simp [Dev.openTack]
@[simp] theorem Dev.event_powered (d : Dev) (ty src x : Nat) : (d.event ty src x).powered = d.powered := by simp [Dev.powered]
@[simp] theorem Dev.event_up (d : Dev) (ty src x : Nat) : (d.event ty src x).up = d.up := by simp [Dev.up]
@[simp] theorem Dev.event_live (d : Dev) (ty src x : Nat) (r : BufRef) : (d.event ty src x).live r = d.live r := by simp [Dev.live]
@[simp] theorem Dev.event_sizeOf (d : Dev) (ty src x : Nat) (r : BufRef) : (d.event ty src x).sizeOf r = d.sizeOf r := by simp [Dev.sizeOf]
@[simp] theorem Dev.event_byteAt (d : Dev) (ty src x : Nat) (a : Nat) : (d.event ty src x).byteAt a = d.byteAt a := by simp [Dev.byteAt]
@[simp] theorem Dev.event_sailExists (d : Dev) (ty src x : Nat) (n : Nat) : (d.event ty src x).sailExists n = d.sailExists n := by simp [Dev.sailExists]
@[simp] theorem Dev.event_mastList (d : Dev) (ty src x : Nat) : (d.event ty src x).mastList = d.mastList := by simp [Dev.mastList]
@[simp] theorem Dev.event_freeAt (d : Dev) (ty src x : Nat) (n : Nat) : (d.event ty src x).freeAt n = d.freeAt n := by simp [Dev.freeAt]

/-- Everything `event3` can do. -/
theorem Dev.event3_form (d : Dev) (ty src x : Nat) : ∃ v_ring v_host_unsignalled v_host_timerOn v_host_pba v_link_wake v_dict_vals v_out, d.event3 ty src x =
    { d with ring := v_ring, host := { d.host with unsignalled := v_host_unsignalled, timerOn := v_host_timerOn, pba := v_host_pba }, link := { d.link with wake := v_link_wake }, dict := { d.dict with vals := v_dict_vals }, out := v_out } := by
  obtain ⟨_, _, _, _, _, _, _, h⟩ := Dev.event_form d ty src x
  unfold Dev.event3
  rw [h]
  obtain ⟨_, _, h⟩ := Dev.msix_form _ 3
  rw [h]
  exact ⟨_, _, _, _, _, _, _, rfl⟩

/-! #### `event3` changes ring, host.unsignalled, host.timerOn, host.pba, link.wake, dict.vals, out and nothing else -/

@[simp] theorem Dev.event3_fuses (d : Dev) (ty src x : Nat) : (d.event3 ty src x).fuses = d.fuses := by
 obtain ⟨_, _, _, _, _, _, _, h⟩ := Dev.event3_form d ty src x
 rw [h]
@[simp] theorem Dev.event3_link_vbus (d : Dev) (ty src x : Nat) : (d.event3 ty src x).link.vbus = d.link.vbus := by
 obtain ⟨_, _, _, _, _, _, _, h⟩ := Dev.event3_form d ty src x
 rw [h]
@[simp] theorem Dev.event3_link_usb4 (d : Dev) (ty src x : Nat) : (d.event3 ty src x).link.usb4 = d.link.usb4 := by
 obtain ⟨_, _, _, _, _, _, _, h⟩ := Dev.event3_form d ty src x
 rw [h]
@[simp] theorem Dev.event3_link_ss (d : Dev) (ty src x : Nat) : (d.event3 ty src x).link.ss = d.link.ss := by
 obtain ⟨_, _, _, _, _, _, _, h⟩ := Dev.event3_form d ty src x
 rw [h]
@[simp] theorem Dev.event3_link_hs (d : Dev) (ty src x : Nat) : (d.event3 ty src x).link.hs = d.link.hs := by
 obtain ⟨_, _, _, _, _, _, _, h⟩ := Dev.event3_form d ty src x
 rw [h]
@[simp] theorem Dev.event3_link_bme (d : Dev) (ty src x : Nat) : (d.event3 ty src x).link.bme = d.link.bme := by
 obtain ⟨_, _, _, _, _, _, _, h⟩ := Dev.event3_form d ty src x
 rw [h]
@[simp] theorem Dev.event3_link_d3hot (d : Dev) (ty src x : Nat) : (d.event3 ty src x).link.d3hot = d.link.d3hot := by
 obtain ⟨_, _, _, _, _, _, _, h⟩ := Dev.event3_form d ty src x
 rw [h]
@[simp] theorem Dev.event3_link_msixEnable (d : Dev) (ty src x : Nat) : (d.event3 ty src x).link.msixEnable = d.link.msixEnable := by
 obtain ⟨_, _, _, _, _, _, _, h⟩ := Dev.event3_form d ty src x
 rw [h]
@[simp] theorem Dev.event3_link_msixMask (d : Dev) (ty src x : Nat) : (d.event3 ty src x).link.msixMask = d.link.msixMask := by
 obtain ⟨_, _, _, _, _, _, _, h⟩ := Dev.event3_form d ty src x
 rw [h]
@[simp] theorem Dev.event3_link_maxPayload (d : Dev) (ty src x : Nat) : (d.event3 ty src x).link.maxPayload = d.link.maxPayload := by
 obtain ⟨_, _, _, _, _, _, _, h⟩ := Dev.event3_form d ty src x
 rw [h]
@[simp] theorem Dev.event3_link_maxRead (d : Dev) (ty src x : Nat) : (d.event3 ty src x).link.maxRead = d.link.maxRead := by
 obtain ⟨_, _, _, _, _, _, _, h⟩ := Dev.event3_form d ty src x
 rw [h]
@[simp] theorem Dev.event3_link_bars (d : Dev) (ty src x : Nat) : (d.event3 ty src x).link.bars = d.link.bars := by
 obtain ⟨_, _, _, _, _, _, _, h⟩ := Dev.event3_form d ty src x
 rw [h]
@[simp] theorem Dev.event3_link_bar2Log2 (d : Dev) (ty src x : Nat) : (d.event3 ty src x).link.bar2Log2 = d.link.bar2Log2 := by
 obtain ⟨_, _, _, _, _, _, _, h⟩ := Dev.event3_form d ty src x
 rw [h]
@[simp] theorem Dev.event3_link_pathEnable (d : Dev) (ty src x : Nat) : (d.event3 ty src x).link.pathEnable = d.link.pathEnable := by
 obtain ⟨_, _, _, _, _, _, _, h⟩ := Dev.event3_form d ty src x
 rw [h]
@[simp] theorem Dev.event3_link_subsysVendor (d : Dev) (ty src x : Nat) : (d.event3 ty src x).link.subsysVendor = d.link.subsysVendor := by
 obtain ⟨_, _, _, _, _, _, _, h⟩ := Dev.event3_form d ty src x
 rw [h]
@[simp] theorem Dev.event3_link_subsysId (d : Dev) (ty src x : Nat) : (d.event3 ty src x).link.subsysId = d.link.subsysId := by
 obtain ⟨_, _, _, _, _, _, _, h⟩ := Dev.event3_form d ty src x
 rw [h]
@[simp] theorem Dev.event3_link_susp3 (d : Dev) (ty src x : Nat) : (d.event3 ty src x).link.susp3 = d.link.susp3 := by
 obtain ⟨_, _, _, _, _, _, _, h⟩ := Dev.event3_form d ty src x
 rw [h]
@[simp] theorem Dev.event3_link_susp2 (d : Dev) (ty src x : Nat) : (d.event3 ty src x).link.susp2 = d.link.susp2 := by
 obtain ⟨_, _, _, _, _, _, _, h⟩ := Dev.event3_form d ty src x
 rw [h]
@[simp] theorem Dev.event3_link_fs (d : Dev) (ty src x : Nat) : (d.event3 ty src x).link.fs = d.link.fs := by
 obtain ⟨_, _, _, _, _, _, _, h⟩ := Dev.event3_form d ty src x
 rw [h]
@[simp] theorem Dev.event3_link_low (d : Dev) (ty src x : Nat) : (d.event3 ty src x).link.low = d.link.low := by
 obtain ⟨_, _, _, _, _, _, _, h⟩ := Dev.event3_form d ty src x
 rw [h]
@[simp] theorem Dev.event3_host_owner (d : Dev) (ty src x : Nat) : (d.event3 ty src x).host.owner = d.host.owner := by
 obtain ⟨_, _, _, _, _, _, _, h⟩ := Dev.event3_form d ty src x
 rw [h]
@[simp] theorem Dev.event3_host_sessionCtr (d : Dev) (ty src x : Nat) : (d.event3 ty src x).host.sessionCtr = d.host.sessionCtr := by
 obtain ⟨_, _, _, _, _, _, _, h⟩ := Dev.event3_form d ty src x
 rw [h]
@[simp] theorem Dev.event3_host_viol (d : Dev) (ty src x : Nat) : (d.event3 ty src x).host.viol = d.host.viol := by
 obtain ⟨_, _, _, _, _, _, _, h⟩ := Dev.event3_form d ty src x
 rw [h]
@[simp] theorem Dev.event3_host_intMod (d : Dev) (ty src x : Nat) : (d.event3 ty src x).host.intMod = d.host.intMod := by
 obtain ⟨_, _, _, _, _, _, _, h⟩ := Dev.event3_form d ty src x
 rw [h]
@[simp] theorem Dev.event3_host_aps (d : Dev) (ty src x : Nat) : (d.event3 ty src x).host.aps = d.host.aps := by
 obtain ⟨_, _, _, _, _, _, _, h⟩ := Dev.event3_form d ty src x
 rw [h]
@[simp] theorem Dev.event3_host_msix (d : Dev) (ty src x : Nat) : (d.event3 ty src x).host.msix = d.host.msix := by
 obtain ⟨_, _, _, _, _, _, _, h⟩ := Dev.event3_form d ty src x
 rw [h]
@[simp] theorem Dev.event3_host_violSource (d : Dev) (ty src x : Nat) : (d.event3 ty src x).host.violSource = d.host.violSource := by
 obtain ⟨_, _, _, _, _, _, _, h⟩ := Dev.event3_form d ty src x
 rw [h]
@[simp] theorem Dev.event3_host_violAddr (d : Dev) (ty src x : Nat) : (d.event3 ty src x).host.violAddr = d.host.violAddr := by
 obtain ⟨_, _, _, _, _, _, _, h⟩ := Dev.event3_form d ty src x
 rw [h]
@[simp] theorem Dev.event3_host_violHandle (d : Dev) (ty src x : Nat) : (d.event3 ty src x).host.violHandle = d.host.violHandle := by
 obtain ⟨_, _, _, _, _, _, _, h⟩ := Dev.event3_form d ty src x
 rw [h]
@[simp] theorem Dev.event3_host_violTack (d : Dev) (ty src x : Nat) : (d.event3 ty src x).host.violTack = d.host.violTack := by
 obtain ⟨_, _, _, _, _, _, _, h⟩ := Dev.event3_form d ty src x
 rw [h]
@[simp] theorem Dev.event3_host_violSince (d : Dev) (ty src x : Nat) : (d.event3 ty src x).host.violSince = d.host.violSince := by
 obtain ⟨_, _, _, _, _, _, _, h⟩ := Dev.event3_form d ty src x
 rw [h]
@[simp] theorem Dev.event3_host_violAt (d : Dev) (ty src x : Nat) : (d.event3 ty src x).host.violAt = d.host.violAt := by
 obtain ⟨_, _, _, _, _, _, _, h⟩ := Dev.event3_form d ty src x
 rw [h]
@[simp] theorem Dev.event3_xfer (d : Dev) (ty src x : Nat) : (d.event3 ty src x).xfer = d.xfer := by
 obtain ⟨_, _, _, _, _, _, _, h⟩ := Dev.event3_form d ty src x
 rw [h]
@[simp] theorem Dev.event3_qs (d : Dev) (ty src x : Nat) : (d.event3 ty src x).qs = d.qs := by
 obtain ⟨_, _, _, _, _, _, _, h⟩ := Dev.event3_form d ty src x
 rw [h]
@[simp] theorem Dev.event3_intake (d : Dev) (ty src x : Nat) : (d.event3 ty src x).intake = d.intake := by
 obtain ⟨_, _, _, _, _, _, _, h⟩ := Dev.event3_form d ty src x
 rw [h]
@[simp] theorem Dev.event3_comp (d : Dev) (ty src x : Nat) : (d.event3 ty src x).comp = d.comp := by
 obtain ⟨_, _, _, _, _, _, _, h⟩ := Dev.event3_form d ty src x
 rw [h]
@[simp] theorem Dev.event3_tack (d : Dev) (ty src x : Nat) : (d.event3 ty src x).tack = d.tack := by
 obtain ⟨_, _, _, _, _, _, _, h⟩ := Dev.event3_form d ty src x
 rw [h]
@[simp] theorem Dev.event3_push (d : Dev) (ty src x : Nat) : (d.event3 ty src x).push = d.push := by
 obtain ⟨_, _, _, _, _, _, _, h⟩ := Dev.event3_form d ty src x
 rw [h]
@[simp] theorem Dev.event3_draws (d : Dev) (ty src x : Nat) : (d.event3 ty src x).draws = d.draws := by
 obtain ⟨_, _, _, _, _, _, _, h⟩ := Dev.event3_form d ty src x
 rw [h]
@[simp] theorem Dev.event3_dram (d : Dev) (ty src x : Nat) : (d.event3 ty src x).dram = d.dram := by
 obtain ⟨_, _, _, _, _, _, _, h⟩ := Dev.event3_form d ty src x
 rw [h]
@[simp] theorem Dev.event3_memlog (d : Dev) (ty src x : Nat) : (d.event3 ty src x).memlog = d.memlog := by
 obtain ⟨_, _, _, _, _, _, _, h⟩ := Dev.event3_form d ty src x
 rw [h]
@[simp] theorem Dev.event3_dict_locks (d : Dev) (ty src x : Nat) : (d.event3 ty src x).dict.locks = d.dict.locks := by
 obtain ⟨_, _, _, _, _, _, _, h⟩ := Dev.event3_form d ty src x
 rw [h]
@[simp] theorem Dev.event3_dict_claims (d : Dev) (ty src x : Nat) : (d.event3 ty src x).dict.claims = d.dict.claims := by
 obtain ⟨_, _, _, _, _, _, _, h⟩ := Dev.event3_form d ty src x
 rw [h]
@[simp] theorem Dev.event3_dict_subs (d : Dev) (ty src x : Nat) : (d.event3 ty src x).dict.subs = d.dict.subs := by
 obtain ⟨_, _, _, _, _, _, _, h⟩ := Dev.event3_form d ty src x
 rw [h]
@[simp] theorem Dev.event3_dict_writers (d : Dev) (ty src x : Nat) : (d.event3 ty src x).dict.writers = d.dict.writers := by
 obtain ⟨_, _, _, _, _, _, _, h⟩ := Dev.event3_form d ty src x
 rw [h]
@[simp] theorem Dev.event3_dict_arbs (d : Dev) (ty src x : Nat) : (d.event3 ty src x).dict.arbs = d.dict.arbs := by
 obtain ⟨_, _, _, _, _, _, _, h⟩ := Dev.event3_form d ty src x
 rw [h]
@[simp] theorem Dev.event3_dict_waiting (d : Dev) (ty src x : Nat) : (d.event3 ty src x).dict.waiting = d.dict.waiting := by
 obtain ⟨_, _, _, _, _, _, _, h⟩ := Dev.event3_form d ty src x
 rw [h]
@[simp] theorem Dev.event3_dict_clients (d : Dev) (ty src x : Nat) : (d.event3 ty src x).dict.clients = d.dict.clients := by
 obtain ⟨_, _, _, _, _, _, _, h⟩ := Dev.event3_form d ty src x
 rw [h]
@[simp] theorem Dev.event3_dict_confNext (d : Dev) (ty src x : Nat) : (d.event3 ty src x).dict.confNext = d.dict.confNext := by
 obtain ⟨_, _, _, _, _, _, _, h⟩ := Dev.event3_form d ty src x
 rw [h]
@[simp] theorem Dev.event3_dict_conf (d : Dev) (ty src x : Nat) : (d.event3 ty src x).dict.conf = d.dict.conf := by
 obtain ⟨_, _, _, _, _, _, _, h⟩ := Dev.event3_form d ty src x
 rw [h]
@[simp] theorem Dev.event3_dict_lastStatus (d : Dev) (ty src x : Nat) : (d.event3 ty src x).dict.lastStatus = d.dict.lastStatus := by
 obtain ⟨_, _, _, _, _, _, _, h⟩ := Dev.event3_form d ty src x
 rw [h]
@[simp] theorem Dev.event3_dict_lastEntry (d : Dev) (ty src x : Nat) : (d.event3 ty src x).dict.lastEntry = d.dict.lastEntry := by
 obtain ⟨_, _, _, _, _, _, _, h⟩ := Dev.event3_form d ty src x
 rw [h]
@[simp] theorem Dev.event3_dict_lastMaster (d : Dev) (ty src x : Nat) : (d.event3 ty src x).dict.lastMaster = d.dict.lastMaster := by
 obtain ⟨_, _, _, _, _, _, _, h⟩ := Dev.event3_form d ty src x
 rw [h]
@[simp] theorem Dev.event3_dict_lastTack (d : Dev) (ty src x : Nat) : (d.event3 ty src x).dict.lastTack = d.dict.lastTack := by
 obtain ⟨_, _, _, _, _, _, _, h⟩ := Dev.event3_form d ty src x
 rw [h]
@[simp] theorem Dev.event3_dict_comm (d : Dev) (ty src x : Nat) : (d.event3 ty src x).dict.comm = d.dict.comm := by
 obtain ⟨_, _, _, _, _, _, _, h⟩ := Dev.event3_form d ty src x
 rw [h]
@[simp] theorem Dev.event3_dict_commDue (d : Dev) (ty src x : Nat) : (d.event3 ty src x).dict.commDue = d.dict.commDue := by
 obtain ⟨_, _, _, _, _, _, _, h⟩ := Dev.event3_form d ty src x
 rw [h]
@[simp] theorem Dev.event3_pw (d : Dev) (ty src x : Nat) : (d.event3 ty src x).pw = d.pw := by
 obtain ⟨_, _, _, _, _, _, _, h⟩ := Dev.event3_form d ty src x
 rw [h]
@[simp] theorem Dev.event3_fw (d : Dev) (ty src x : Nat) : (d.event3 ty src x).fw = d.fw := by
 obtain ⟨_, _, _, _, _, _, _, h⟩ := Dev.event3_form d ty src x
 rw [h]
@[simp] theorem Dev.event3_th (d : Dev) (ty src x : Nat) : (d.event3 ty src x).th = d.th := by
 obtain ⟨_, _, _, _, _, _, _, h⟩ := Dev.event3_form d ty src x
 rw [h]
@[simp] theorem Dev.event3_trim (d : Dev) (ty src x : Nat) : (d.event3 ty src x).trim = d.trim := by
 obtain ⟨_, _, _, _, _, _, _, h⟩ := Dev.event3_form d ty src x
 rw [h]
@[simp] theorem Dev.event3_ledger (d : Dev) (ty src x : Nat) : (d.event3 ty src x).ledger = d.ledger := by
 obtain ⟨_, _, _, _, _, _, _, h⟩ := Dev.event3_form d ty src x
 rw [h]
@[simp] theorem Dev.event3_flt (d : Dev) (ty src x : Nat) : (d.event3 ty src x).flt = d.flt := by
 obtain ⟨_, _, _, _, _, _, _, h⟩ := Dev.event3_form d ty src x
 rw [h]
@[simp] theorem Dev.event3_lines (d : Dev) (ty src x : Nat) : (d.event3 ty src x).lines = d.lines := by
 obtain ⟨_, _, _, _, _, _, _, h⟩ := Dev.event3_form d ty src x
 rw [h]
@[simp] theorem Dev.event3_now (d : Dev) (ty src x : Nat) : (d.event3 ty src x).now = d.now := by
 obtain ⟨_, _, _, _, _, _, _, h⟩ := Dev.event3_form d ty src x
 rw [h]
@[simp] theorem Dev.event3_free (d : Dev) (ty src x : Nat) : (d.event3 ty src x).free = d.free := by
 obtain ⟨_, _, _, _, _, _, _, h⟩ := Dev.event3_form d ty src x
 rw [h]
@[simp] theorem Dev.event3_queue (d : Dev) (ty src x : Nat) (q : QueueId) : (d.event3 ty src x).queue q = d.queue q := by simp [Dev.queue]
@[simp] theorem Dev.event3_buf (d : Dev) (ty src x : Nat) (h : U16) : (d.event3 ty src x).buf h = d.buf h := by simp [Dev.buf]
@[simp] theorem Dev.event3_slot (d : Dev) (ty src x : Nat) (n : Nat) : (d.event3 ty src x).slot n = d.slot n := by simp [Dev.slot]
@[simp] theorem Dev.event3_feed (d : Dev) (ty src x : Nat) (f : FeedId) : (d.event3 ty src x).feed f = d.feed f := by simp [Dev.feed]
@[simp] theorem Dev.event3_thresher (d : Dev) (ty src x : Nat) (i : ThresherId) : (d.event3 ty src x).thresher i = d.thresher i := by simp [Dev.thresher]
@[simp] theorem Dev.event3_vslot (d : Dev) (ty src x : Nat) (n : Nat) : (d.event3 ty src x).vslot n = d.vslot n := by simp [Dev.vslot]
@[simp] theorem Dev.event3_sail (d : Dev) (ty src x : Nat) (i : SailId) : (d.event3 ty src x).sail i = d.sail i := by simp [Dev.sail]
@[simp] theorem Dev.event3_mast (d : Dev) (ty src x : Nat) (i : MastId) : (d.event3 ty src x).mast i = d.mast i := by simp [Dev.mast]
@[simp] theorem Dev.event3_cluster (d : Dev) (ty src x : Nat) (i : ClusterId) : (d.event3 ty src x).cluster i = d.cluster i := by simp [Dev.cluster]
@[simp] theorem Dev.event3_chan (d : Dev) (ty src x : Nat) (n : Nat) : (d.event3 ty src x).chan n = d.chan n := by simp [Dev.chan]
@[simp] theorem Dev.event3_sensor (d : Dev) (ty src x : Nat) (n : Nat) : (d.event3 ty src x).sensor n = d.sensor n := by simp [Dev.sensor]
@[simp] theorem Dev.event3_partn (d : Dev) (ty src x : Nat) (n : Nat) : (d.event3 ty src x).partn n = d.partn n := by simp [Dev.partn]
@[simp] theorem Dev.event3_ap (d : Dev) (ty src x : Nat) (n : Nat) : (d.event3 ty src x).ap n = d.ap n := by simp [Dev.ap]
@[simp] theorem Dev.event3_tval (d : Dev) (ty src x : Nat) (k : Nat) : (d.event3 ty src x).tval k = d.tval k := by simp [Dev.tval]
@[simp] theorem Dev.event3_openTack (d : Dev) (ty src x : Nat) : (d.event3 ty src x).openTack = d.openTack := by simp [Dev.openTack]
@[simp] theorem Dev.event3_powered (d : Dev) (ty src x : Nat) : (d.event3 ty src x).powered = d.powered := by simp [Dev.powered]
@[simp] theorem Dev.event3_up (d : Dev) (ty src x : Nat) : (d.event3 ty src x).up = d.up := by simp [Dev.up]
@[simp] theorem Dev.event3_live (d : Dev) (ty src x : Nat) (r : BufRef) : (d.event3 ty src x).live r = d.live r := by simp [Dev.live]
@[simp] theorem Dev.event3_sizeOf (d : Dev) (ty src x : Nat) (r : BufRef) : (d.event3 ty src x).sizeOf r = d.sizeOf r := by simp [Dev.sizeOf]
@[simp] theorem Dev.event3_byteAt (d : Dev) (ty src x : Nat) (a : Nat) : (d.event3 ty src x).byteAt a = d.byteAt a := by simp [Dev.byteAt]
@[simp] theorem Dev.event3_sailExists (d : Dev) (ty src x : Nat) (n : Nat) : (d.event3 ty src x).sailExists n = d.sailExists n := by simp [Dev.sailExists]
@[simp] theorem Dev.event3_mastList (d : Dev) (ty src x : Nat) : (d.event3 ty src x).mastList = d.mastList := by simp [Dev.mastList]
@[simp] theorem Dev.event3_freeAt (d : Dev) (ty src x : Nat) (n : Nat) : (d.event3 ty src x).freeAt n = d.freeAt n := by simp [Dev.freeAt]

/-- Everything `finish` can do. -/
theorem Dev.finish_form (d : Dev) (i0 : Nat) (v : Nat) : ∃ v_ring v_host_unsignalled v_host_timerOn v_host_pba v_link_wake v_dict_vals v_out v_qs_cmds v_intake_races, d.finish i0 v =
    { d with ring := v_ring, host := { d.host with unsignalled := v_host_unsignalled, timerOn := v_host_timerOn, pba := v_host_pba }, link := { d.link with wake := v_link_wake }, dict := { d.dict with vals := v_dict_vals }, out := v_out, qs := { d.qs with cmds := v_qs_cmds }, intake := { d.intake with races := v_intake_races } } := by
  unfold Dev.finish
  split
  · exact ⟨_, _, _, _, _, _, _, _, _, rfl⟩
  · split
    · obtain ⟨_, _, _, _, _, _, _, h⟩ := Dev.event_form (d.retireCmd i0) 0x0101 _ _
      rw [h]
      exact ⟨_, _, _, _, _, _, _, _, _, rfl⟩
    · exact ⟨_, _, _, _, _, _, _, _, _, rfl⟩

/-! #### `finish` changes ring, host.unsignalled, host.timerOn, host.pba, link.wake, dict.vals, out, qs.cmds, intake.races and nothing else -/

@[simp] theorem Dev.finish_fuses (d : Dev) (i0 : Nat) (v : Nat) : (d.finish i0 v).fuses = d.fuses := by
 obtain ⟨_, _, _, _, _, _, _, _, _, h⟩ := Dev.finish_form d i0 v
 rw [h]
@[simp] theorem Dev.finish_link_vbus (d : Dev) (i0 : Nat) (v : Nat) : (d.finish i0 v).link.vbus = d.link.vbus := by
 obtain ⟨_, _, _, _, _, _, _, _, _, h⟩ := Dev.finish_form d i0 v
 rw [h]
@[simp] theorem Dev.finish_link_usb4 (d : Dev) (i0 : Nat) (v : Nat) : (d.finish i0 v).link.usb4 = d.link.usb4 := by
 obtain ⟨_, _, _, _, _, _, _, _, _, h⟩ := Dev.finish_form d i0 v
 rw [h]
@[simp] theorem Dev.finish_link_ss (d : Dev) (i0 : Nat) (v : Nat) : (d.finish i0 v).link.ss = d.link.ss := by
 obtain ⟨_, _, _, _, _, _, _, _, _, h⟩ := Dev.finish_form d i0 v
 rw [h]
@[simp] theorem Dev.finish_link_hs (d : Dev) (i0 : Nat) (v : Nat) : (d.finish i0 v).link.hs = d.link.hs := by
 obtain ⟨_, _, _, _, _, _, _, _, _, h⟩ := Dev.finish_form d i0 v
 rw [h]
@[simp] theorem Dev.finish_link_bme (d : Dev) (i0 : Nat) (v : Nat) : (d.finish i0 v).link.bme = d.link.bme := by
 obtain ⟨_, _, _, _, _, _, _, _, _, h⟩ := Dev.finish_form d i0 v
 rw [h]
@[simp] theorem Dev.finish_link_d3hot (d : Dev) (i0 : Nat) (v : Nat) : (d.finish i0 v).link.d3hot = d.link.d3hot := by
 obtain ⟨_, _, _, _, _, _, _, _, _, h⟩ := Dev.finish_form d i0 v
 rw [h]
@[simp] theorem Dev.finish_link_msixEnable (d : Dev) (i0 : Nat) (v : Nat) : (d.finish i0 v).link.msixEnable = d.link.msixEnable := by
 obtain ⟨_, _, _, _, _, _, _, _, _, h⟩ := Dev.finish_form d i0 v
 rw [h]
@[simp] theorem Dev.finish_link_msixMask (d : Dev) (i0 : Nat) (v : Nat) : (d.finish i0 v).link.msixMask = d.link.msixMask := by
 obtain ⟨_, _, _, _, _, _, _, _, _, h⟩ := Dev.finish_form d i0 v
 rw [h]
@[simp] theorem Dev.finish_link_maxPayload (d : Dev) (i0 : Nat) (v : Nat) : (d.finish i0 v).link.maxPayload = d.link.maxPayload := by
 obtain ⟨_, _, _, _, _, _, _, _, _, h⟩ := Dev.finish_form d i0 v
 rw [h]
@[simp] theorem Dev.finish_link_maxRead (d : Dev) (i0 : Nat) (v : Nat) : (d.finish i0 v).link.maxRead = d.link.maxRead := by
 obtain ⟨_, _, _, _, _, _, _, _, _, h⟩ := Dev.finish_form d i0 v
 rw [h]
@[simp] theorem Dev.finish_link_bars (d : Dev) (i0 : Nat) (v : Nat) : (d.finish i0 v).link.bars = d.link.bars := by
 obtain ⟨_, _, _, _, _, _, _, _, _, h⟩ := Dev.finish_form d i0 v
 rw [h]
@[simp] theorem Dev.finish_link_bar2Log2 (d : Dev) (i0 : Nat) (v : Nat) : (d.finish i0 v).link.bar2Log2 = d.link.bar2Log2 := by
 obtain ⟨_, _, _, _, _, _, _, _, _, h⟩ := Dev.finish_form d i0 v
 rw [h]
@[simp] theorem Dev.finish_link_pathEnable (d : Dev) (i0 : Nat) (v : Nat) : (d.finish i0 v).link.pathEnable = d.link.pathEnable := by
 obtain ⟨_, _, _, _, _, _, _, _, _, h⟩ := Dev.finish_form d i0 v
 rw [h]
@[simp] theorem Dev.finish_link_subsysVendor (d : Dev) (i0 : Nat) (v : Nat) : (d.finish i0 v).link.subsysVendor = d.link.subsysVendor := by
 obtain ⟨_, _, _, _, _, _, _, _, _, h⟩ := Dev.finish_form d i0 v
 rw [h]
@[simp] theorem Dev.finish_link_subsysId (d : Dev) (i0 : Nat) (v : Nat) : (d.finish i0 v).link.subsysId = d.link.subsysId := by
 obtain ⟨_, _, _, _, _, _, _, _, _, h⟩ := Dev.finish_form d i0 v
 rw [h]
@[simp] theorem Dev.finish_link_susp3 (d : Dev) (i0 : Nat) (v : Nat) : (d.finish i0 v).link.susp3 = d.link.susp3 := by
 obtain ⟨_, _, _, _, _, _, _, _, _, h⟩ := Dev.finish_form d i0 v
 rw [h]
@[simp] theorem Dev.finish_link_susp2 (d : Dev) (i0 : Nat) (v : Nat) : (d.finish i0 v).link.susp2 = d.link.susp2 := by
 obtain ⟨_, _, _, _, _, _, _, _, _, h⟩ := Dev.finish_form d i0 v
 rw [h]
@[simp] theorem Dev.finish_link_fs (d : Dev) (i0 : Nat) (v : Nat) : (d.finish i0 v).link.fs = d.link.fs := by
 obtain ⟨_, _, _, _, _, _, _, _, _, h⟩ := Dev.finish_form d i0 v
 rw [h]
@[simp] theorem Dev.finish_link_low (d : Dev) (i0 : Nat) (v : Nat) : (d.finish i0 v).link.low = d.link.low := by
 obtain ⟨_, _, _, _, _, _, _, _, _, h⟩ := Dev.finish_form d i0 v
 rw [h]
@[simp] theorem Dev.finish_host_owner (d : Dev) (i0 : Nat) (v : Nat) : (d.finish i0 v).host.owner = d.host.owner := by
 obtain ⟨_, _, _, _, _, _, _, _, _, h⟩ := Dev.finish_form d i0 v
 rw [h]
@[simp] theorem Dev.finish_host_sessionCtr (d : Dev) (i0 : Nat) (v : Nat) : (d.finish i0 v).host.sessionCtr = d.host.sessionCtr := by
 obtain ⟨_, _, _, _, _, _, _, _, _, h⟩ := Dev.finish_form d i0 v
 rw [h]
@[simp] theorem Dev.finish_host_viol (d : Dev) (i0 : Nat) (v : Nat) : (d.finish i0 v).host.viol = d.host.viol := by
 obtain ⟨_, _, _, _, _, _, _, _, _, h⟩ := Dev.finish_form d i0 v
 rw [h]
@[simp] theorem Dev.finish_host_intMod (d : Dev) (i0 : Nat) (v : Nat) : (d.finish i0 v).host.intMod = d.host.intMod := by
 obtain ⟨_, _, _, _, _, _, _, _, _, h⟩ := Dev.finish_form d i0 v
 rw [h]
@[simp] theorem Dev.finish_host_aps (d : Dev) (i0 : Nat) (v : Nat) : (d.finish i0 v).host.aps = d.host.aps := by
 obtain ⟨_, _, _, _, _, _, _, _, _, h⟩ := Dev.finish_form d i0 v
 rw [h]
@[simp] theorem Dev.finish_host_msix (d : Dev) (i0 : Nat) (v : Nat) : (d.finish i0 v).host.msix = d.host.msix := by
 obtain ⟨_, _, _, _, _, _, _, _, _, h⟩ := Dev.finish_form d i0 v
 rw [h]
@[simp] theorem Dev.finish_host_violSource (d : Dev) (i0 : Nat) (v : Nat) : (d.finish i0 v).host.violSource = d.host.violSource := by
 obtain ⟨_, _, _, _, _, _, _, _, _, h⟩ := Dev.finish_form d i0 v
 rw [h]
@[simp] theorem Dev.finish_host_violAddr (d : Dev) (i0 : Nat) (v : Nat) : (d.finish i0 v).host.violAddr = d.host.violAddr := by
 obtain ⟨_, _, _, _, _, _, _, _, _, h⟩ := Dev.finish_form d i0 v
 rw [h]
@[simp] theorem Dev.finish_host_violHandle (d : Dev) (i0 : Nat) (v : Nat) : (d.finish i0 v).host.violHandle = d.host.violHandle := by
 obtain ⟨_, _, _, _, _, _, _, _, _, h⟩ := Dev.finish_form d i0 v
 rw [h]
@[simp] theorem Dev.finish_host_violTack (d : Dev) (i0 : Nat) (v : Nat) : (d.finish i0 v).host.violTack = d.host.violTack := by
 obtain ⟨_, _, _, _, _, _, _, _, _, h⟩ := Dev.finish_form d i0 v
 rw [h]
@[simp] theorem Dev.finish_host_violSince (d : Dev) (i0 : Nat) (v : Nat) : (d.finish i0 v).host.violSince = d.host.violSince := by
 obtain ⟨_, _, _, _, _, _, _, _, _, h⟩ := Dev.finish_form d i0 v
 rw [h]
@[simp] theorem Dev.finish_host_violAt (d : Dev) (i0 : Nat) (v : Nat) : (d.finish i0 v).host.violAt = d.host.violAt := by
 obtain ⟨_, _, _, _, _, _, _, _, _, h⟩ := Dev.finish_form d i0 v
 rw [h]
@[simp] theorem Dev.finish_xfer (d : Dev) (i0 : Nat) (v : Nat) : (d.finish i0 v).xfer = d.xfer := by
 obtain ⟨_, _, _, _, _, _, _, _, _, h⟩ := Dev.finish_form d i0 v
 rw [h]
@[simp] theorem Dev.finish_qs_queues (d : Dev) (i0 : Nat) (v : Nat) : (d.finish i0 v).qs.queues = d.qs.queues := by
 obtain ⟨_, _, _, _, _, _, _, _, _, h⟩ := Dev.finish_form d i0 v
 rw [h]
@[simp] theorem Dev.finish_qs_lastGrant (d : Dev) (i0 : Nat) (v : Nat) : (d.finish i0 v).qs.lastGrant = d.qs.lastGrant := by
 obtain ⟨_, _, _, _, _, _, _, _, _, h⟩ := Dev.finish_form d i0 v
 rw [h]
@[simp] theorem Dev.finish_qs_nextId (d : Dev) (i0 : Nat) (v : Nat) : (d.finish i0 v).qs.nextId = d.qs.nextId := by
 obtain ⟨_, _, _, _, _, _, _, _, _, h⟩ := Dev.finish_form d i0 v
 rw [h]
@[simp] theorem Dev.finish_qs_bufs (d : Dev) (i0 : Nat) (v : Nat) : (d.finish i0 v).qs.bufs = d.qs.bufs := by
 obtain ⟨_, _, _, _, _, _, _, _, _, h⟩ := Dev.finish_form d i0 v
 rw [h]
@[simp] theorem Dev.finish_qs_fresh (d : Dev) (i0 : Nat) (v : Nat) : (d.finish i0 v).qs.fresh = d.qs.fresh := by
 obtain ⟨_, _, _, _, _, _, _, _, _, h⟩ := Dev.finish_form d i0 v
 rw [h]
@[simp] theorem Dev.finish_qs_freed (d : Dev) (i0 : Nat) (v : Nat) : (d.finish i0 v).qs.freed = d.qs.freed := by
 obtain ⟨_, _, _, _, _, _, _, _, _, h⟩ := Dev.finish_form d i0 v
 rw [h]
@[simp] theorem Dev.finish_qs_slots (d : Dev) (i0 : Nat) (v : Nat) : (d.finish i0 v).qs.slots = d.qs.slots := by
 obtain ⟨_, _, _, _, _, _, _, _, _, h⟩ := Dev.finish_form d i0 v
 rw [h]
@[simp] theorem Dev.finish_qs_fences (d : Dev) (i0 : Nat) (v : Nat) : (d.finish i0 v).qs.fences = d.qs.fences := by
 obtain ⟨_, _, _, _, _, _, _, _, _, h⟩ := Dev.finish_form d i0 v
 rw [h]
@[simp] theorem Dev.finish_qs_holds (d : Dev) (i0 : Nat) (v : Nat) : (d.finish i0 v).qs.holds = d.qs.holds := by
 obtain ⟨_, _, _, _, _, _, _, _, _, h⟩ := Dev.finish_form d i0 v
 rw [h]
@[simp] theorem Dev.finish_qs_dmas (d : Dev) (i0 : Nat) (v : Nat) : (d.finish i0 v).qs.dmas = d.qs.dmas := by
 obtain ⟨_, _, _, _, _, _, _, _, _, h⟩ := Dev.finish_form d i0 v
 rw [h]
@[simp] theorem Dev.finish_intake_threshers (d : Dev) (i0 : Nat) (v : Nat) : (d.finish i0 v).intake.threshers = d.intake.threshers := by
 obtain ⟨_, _, _, _, _, _, _, _, _, h⟩ := Dev.finish_form d i0 v
 rw [h]
@[simp] theorem Dev.finish_intake_feeds (d : Dev) (i0 : Nat) (v : Nat) : (d.finish i0 v).intake.feeds = d.intake.feeds := by
 obtain ⟨_, _, _, _, _, _, _, _, _, h⟩ := Dev.finish_form d i0 v
 rw [h]
@[simp] theorem Dev.finish_intake_waiting (d : Dev) (i0 : Nat) (v : Nat) : (d.finish i0 v).intake.waiting = d.intake.waiting := by
 obtain ⟨_, _, _, _, _, _, _, _, _, h⟩ := Dev.finish_form d i0 v
 rw [h]
@[simp] theorem Dev.finish_intake_lastFault (d : Dev) (i0 : Nat) (v : Nat) : (d.finish i0 v).intake.lastFault = d.intake.lastFault := by
 obtain ⟨_, _, _, _, _, _, _, _, _, h⟩ := Dev.finish_form d i0 v
 rw [h]
@[simp] theorem Dev.finish_intake_slots (d : Dev) (i0 : Nat) (v : Nat) : (d.finish i0 v).intake.slots = d.intake.slots := by
 obtain ⟨_, _, _, _, _, _, _, _, _, h⟩ := Dev.finish_form d i0 v
 rw [h]
@[simp] theorem Dev.finish_intake_dropSelect (d : Dev) (i0 : Nat) (v : Nat) : (d.finish i0 v).intake.dropSelect = d.intake.dropSelect := by
 obtain ⟨_, _, _, _, _, _, _, _, _, h⟩ := Dev.finish_form d i0 v
 rw [h]
@[simp] theorem Dev.finish_comp (d : Dev) (i0 : Nat) (v : Nat) : (d.finish i0 v).comp = d.comp := by
 obtain ⟨_, _, _, _, _, _, _, _, _, h⟩ := Dev.finish_form d i0 v
 rw [h]
@[simp] theorem Dev.finish_tack (d : Dev) (i0 : Nat) (v : Nat) : (d.finish i0 v).tack = d.tack := by
 obtain ⟨_, _, _, _, _, _, _, _, _, h⟩ := Dev.finish_form d i0 v
 rw [h]
@[simp] theorem Dev.finish_push (d : Dev) (i0 : Nat) (v : Nat) : (d.finish i0 v).push = d.push := by
 obtain ⟨_, _, _, _, _, _, _, _, _, h⟩ := Dev.finish_form d i0 v
 rw [h]
@[simp] theorem Dev.finish_draws (d : Dev) (i0 : Nat) (v : Nat) : (d.finish i0 v).draws = d.draws := by
 obtain ⟨_, _, _, _, _, _, _, _, _, h⟩ := Dev.finish_form d i0 v
 rw [h]
@[simp] theorem Dev.finish_dram (d : Dev) (i0 : Nat) (v : Nat) : (d.finish i0 v).dram = d.dram := by
 obtain ⟨_, _, _, _, _, _, _, _, _, h⟩ := Dev.finish_form d i0 v
 rw [h]
@[simp] theorem Dev.finish_memlog (d : Dev) (i0 : Nat) (v : Nat) : (d.finish i0 v).memlog = d.memlog := by
 obtain ⟨_, _, _, _, _, _, _, _, _, h⟩ := Dev.finish_form d i0 v
 rw [h]
@[simp] theorem Dev.finish_dict_locks (d : Dev) (i0 : Nat) (v : Nat) : (d.finish i0 v).dict.locks = d.dict.locks := by
 obtain ⟨_, _, _, _, _, _, _, _, _, h⟩ := Dev.finish_form d i0 v
 rw [h]
@[simp] theorem Dev.finish_dict_claims (d : Dev) (i0 : Nat) (v : Nat) : (d.finish i0 v).dict.claims = d.dict.claims := by
 obtain ⟨_, _, _, _, _, _, _, _, _, h⟩ := Dev.finish_form d i0 v
 rw [h]
@[simp] theorem Dev.finish_dict_subs (d : Dev) (i0 : Nat) (v : Nat) : (d.finish i0 v).dict.subs = d.dict.subs := by
 obtain ⟨_, _, _, _, _, _, _, _, _, h⟩ := Dev.finish_form d i0 v
 rw [h]
@[simp] theorem Dev.finish_dict_writers (d : Dev) (i0 : Nat) (v : Nat) : (d.finish i0 v).dict.writers = d.dict.writers := by
 obtain ⟨_, _, _, _, _, _, _, _, _, h⟩ := Dev.finish_form d i0 v
 rw [h]
@[simp] theorem Dev.finish_dict_arbs (d : Dev) (i0 : Nat) (v : Nat) : (d.finish i0 v).dict.arbs = d.dict.arbs := by
 obtain ⟨_, _, _, _, _, _, _, _, _, h⟩ := Dev.finish_form d i0 v
 rw [h]
@[simp] theorem Dev.finish_dict_waiting (d : Dev) (i0 : Nat) (v : Nat) : (d.finish i0 v).dict.waiting = d.dict.waiting := by
 obtain ⟨_, _, _, _, _, _, _, _, _, h⟩ := Dev.finish_form d i0 v
 rw [h]
@[simp] theorem Dev.finish_dict_clients (d : Dev) (i0 : Nat) (v : Nat) : (d.finish i0 v).dict.clients = d.dict.clients := by
 obtain ⟨_, _, _, _, _, _, _, _, _, h⟩ := Dev.finish_form d i0 v
 rw [h]
@[simp] theorem Dev.finish_dict_confNext (d : Dev) (i0 : Nat) (v : Nat) : (d.finish i0 v).dict.confNext = d.dict.confNext := by
 obtain ⟨_, _, _, _, _, _, _, _, _, h⟩ := Dev.finish_form d i0 v
 rw [h]
@[simp] theorem Dev.finish_dict_conf (d : Dev) (i0 : Nat) (v : Nat) : (d.finish i0 v).dict.conf = d.dict.conf := by
 obtain ⟨_, _, _, _, _, _, _, _, _, h⟩ := Dev.finish_form d i0 v
 rw [h]
@[simp] theorem Dev.finish_dict_lastStatus (d : Dev) (i0 : Nat) (v : Nat) : (d.finish i0 v).dict.lastStatus = d.dict.lastStatus := by
 obtain ⟨_, _, _, _, _, _, _, _, _, h⟩ := Dev.finish_form d i0 v
 rw [h]
@[simp] theorem Dev.finish_dict_lastEntry (d : Dev) (i0 : Nat) (v : Nat) : (d.finish i0 v).dict.lastEntry = d.dict.lastEntry := by
 obtain ⟨_, _, _, _, _, _, _, _, _, h⟩ := Dev.finish_form d i0 v
 rw [h]
@[simp] theorem Dev.finish_dict_lastMaster (d : Dev) (i0 : Nat) (v : Nat) : (d.finish i0 v).dict.lastMaster = d.dict.lastMaster := by
 obtain ⟨_, _, _, _, _, _, _, _, _, h⟩ := Dev.finish_form d i0 v
 rw [h]
@[simp] theorem Dev.finish_dict_lastTack (d : Dev) (i0 : Nat) (v : Nat) : (d.finish i0 v).dict.lastTack = d.dict.lastTack := by
 obtain ⟨_, _, _, _, _, _, _, _, _, h⟩ := Dev.finish_form d i0 v
 rw [h]
@[simp] theorem Dev.finish_dict_comm (d : Dev) (i0 : Nat) (v : Nat) : (d.finish i0 v).dict.comm = d.dict.comm := by
 obtain ⟨_, _, _, _, _, _, _, _, _, h⟩ := Dev.finish_form d i0 v
 rw [h]
@[simp] theorem Dev.finish_dict_commDue (d : Dev) (i0 : Nat) (v : Nat) : (d.finish i0 v).dict.commDue = d.dict.commDue := by
 obtain ⟨_, _, _, _, _, _, _, _, _, h⟩ := Dev.finish_form d i0 v
 rw [h]
@[simp] theorem Dev.finish_pw (d : Dev) (i0 : Nat) (v : Nat) : (d.finish i0 v).pw = d.pw := by
 obtain ⟨_, _, _, _, _, _, _, _, _, h⟩ := Dev.finish_form d i0 v
 rw [h]
@[simp] theorem Dev.finish_fw (d : Dev) (i0 : Nat) (v : Nat) : (d.finish i0 v).fw = d.fw := by
 obtain ⟨_, _, _, _, _, _, _, _, _, h⟩ := Dev.finish_form d i0 v
 rw [h]
@[simp] theorem Dev.finish_th (d : Dev) (i0 : Nat) (v : Nat) : (d.finish i0 v).th = d.th := by
 obtain ⟨_, _, _, _, _, _, _, _, _, h⟩ := Dev.finish_form d i0 v
 rw [h]
@[simp] theorem Dev.finish_trim (d : Dev) (i0 : Nat) (v : Nat) : (d.finish i0 v).trim = d.trim := by
 obtain ⟨_, _, _, _, _, _, _, _, _, h⟩ := Dev.finish_form d i0 v
 rw [h]
@[simp] theorem Dev.finish_ledger (d : Dev) (i0 : Nat) (v : Nat) : (d.finish i0 v).ledger = d.ledger := by
 obtain ⟨_, _, _, _, _, _, _, _, _, h⟩ := Dev.finish_form d i0 v
 rw [h]
@[simp] theorem Dev.finish_flt (d : Dev) (i0 : Nat) (v : Nat) : (d.finish i0 v).flt = d.flt := by
 obtain ⟨_, _, _, _, _, _, _, _, _, h⟩ := Dev.finish_form d i0 v
 rw [h]
@[simp] theorem Dev.finish_lines (d : Dev) (i0 : Nat) (v : Nat) : (d.finish i0 v).lines = d.lines := by
 obtain ⟨_, _, _, _, _, _, _, _, _, h⟩ := Dev.finish_form d i0 v
 rw [h]
@[simp] theorem Dev.finish_now (d : Dev) (i0 : Nat) (v : Nat) : (d.finish i0 v).now = d.now := by
 obtain ⟨_, _, _, _, _, _, _, _, _, h⟩ := Dev.finish_form d i0 v
 rw [h]
@[simp] theorem Dev.finish_free (d : Dev) (i0 : Nat) (v : Nat) : (d.finish i0 v).free = d.free := by
 obtain ⟨_, _, _, _, _, _, _, _, _, h⟩ := Dev.finish_form d i0 v
 rw [h]
@[simp] theorem Dev.finish_queue (d : Dev) (i0 : Nat) (v : Nat) (q : QueueId) : (d.finish i0 v).queue q = d.queue q := by simp [Dev.queue]
@[simp] theorem Dev.finish_buf (d : Dev) (i0 : Nat) (v : Nat) (h : U16) : (d.finish i0 v).buf h = d.buf h := by simp [Dev.buf]
@[simp] theorem Dev.finish_slot (d : Dev) (i0 : Nat) (v : Nat) (n : Nat) : (d.finish i0 v).slot n = d.slot n := by simp [Dev.slot]
@[simp] theorem Dev.finish_feed (d : Dev) (i0 : Nat) (v : Nat) (f : FeedId) : (d.finish i0 v).feed f = d.feed f := by simp [Dev.feed]
@[simp] theorem Dev.finish_thresher (d : Dev) (i0 : Nat) (v : Nat) (i : ThresherId) : (d.finish i0 v).thresher i = d.thresher i := by simp [Dev.thresher]
@[simp] theorem Dev.finish_vslot (d : Dev) (i0 : Nat) (v : Nat) (n : Nat) : (d.finish i0 v).vslot n = d.vslot n := by simp [Dev.vslot]
@[simp] theorem Dev.finish_sail (d : Dev) (i0 : Nat) (v : Nat) (i : SailId) : (d.finish i0 v).sail i = d.sail i := by simp [Dev.sail]
@[simp] theorem Dev.finish_mast (d : Dev) (i0 : Nat) (v : Nat) (i : MastId) : (d.finish i0 v).mast i = d.mast i := by simp [Dev.mast]
@[simp] theorem Dev.finish_cluster (d : Dev) (i0 : Nat) (v : Nat) (i : ClusterId) : (d.finish i0 v).cluster i = d.cluster i := by simp [Dev.cluster]
@[simp] theorem Dev.finish_chan (d : Dev) (i0 : Nat) (v : Nat) (n : Nat) : (d.finish i0 v).chan n = d.chan n := by simp [Dev.chan]
@[simp] theorem Dev.finish_sensor (d : Dev) (i0 : Nat) (v : Nat) (n : Nat) : (d.finish i0 v).sensor n = d.sensor n := by simp [Dev.sensor]
@[simp] theorem Dev.finish_partn (d : Dev) (i0 : Nat) (v : Nat) (n : Nat) : (d.finish i0 v).partn n = d.partn n := by simp [Dev.partn]
@[simp] theorem Dev.finish_ap (d : Dev) (i0 : Nat) (v : Nat) (n : Nat) : (d.finish i0 v).ap n = d.ap n := by simp [Dev.ap]
@[simp] theorem Dev.finish_tval (d : Dev) (i0 : Nat) (v : Nat) (k : Nat) : (d.finish i0 v).tval k = d.tval k := by simp [Dev.tval]
@[simp] theorem Dev.finish_openTack (d : Dev) (i0 : Nat) (v : Nat) : (d.finish i0 v).openTack = d.openTack := by simp [Dev.openTack]
@[simp] theorem Dev.finish_powered (d : Dev) (i0 : Nat) (v : Nat) : (d.finish i0 v).powered = d.powered := by simp [Dev.powered]
@[simp] theorem Dev.finish_up (d : Dev) (i0 : Nat) (v : Nat) : (d.finish i0 v).up = d.up := by simp [Dev.up]
@[simp] theorem Dev.finish_live (d : Dev) (i0 : Nat) (v : Nat) (r : BufRef) : (d.finish i0 v).live r = d.live r := by simp [Dev.live]
@[simp] theorem Dev.finish_sizeOf (d : Dev) (i0 : Nat) (v : Nat) (r : BufRef) : (d.finish i0 v).sizeOf r = d.sizeOf r := by simp [Dev.sizeOf]
@[simp] theorem Dev.finish_byteAt (d : Dev) (i0 : Nat) (v : Nat) (a : Nat) : (d.finish i0 v).byteAt a = d.byteAt a := by simp [Dev.byteAt]
@[simp] theorem Dev.finish_sailExists (d : Dev) (i0 : Nat) (v : Nat) (n : Nat) : (d.finish i0 v).sailExists n = d.sailExists n := by simp [Dev.sailExists]
@[simp] theorem Dev.finish_mastList (d : Dev) (i0 : Nat) (v : Nat) : (d.finish i0 v).mastList = d.mastList := by simp [Dev.mastList]
@[simp] theorem Dev.finish_freeAt (d : Dev) (i0 : Nat) (v : Nat) (n : Nat) : (d.finish i0 v).freeAt n = d.freeAt n := by simp [Dev.freeAt]

/-- Everything `failCmd` can do. -/
theorem Dev.failCmd_form (d : Dev) (i0 code det : Nat) (more : Option Nat) : ∃ v_ring v_host_unsignalled v_host_timerOn v_host_pba v_link_wake v_dict_vals v_out v_qs_cmds v_qs_queues v_qs_fences v_intake_races, d.failCmd i0 code det more =
    { d with ring := v_ring, host := { d.host with unsignalled := v_host_unsignalled, timerOn := v_host_timerOn, pba := v_host_pba }, link := { d.link with wake := v_link_wake }, dict := { d.dict with vals := v_dict_vals }, out := v_out, qs := { d.qs with cmds := v_qs_cmds, queues := v_qs_queues, fences := v_qs_fences }, intake := { d.intake with races := v_intake_races } } := by
  unfold Dev.failCmd
  split
  · exact ⟨_, _, _, _, _, _, _, _, _, _, _, rfl⟩
  · next c _ =>
    have hp : ∃ qs fs, (d.retireCmd i0).poison c.q i0 c.tag = { d.retireCmd i0 with qs := { (d.retireCmd i0).qs with queues := qs, fences := fs } } := by
      unfold Dev.poison
      split
      · exact ⟨_, _, rfl⟩
      · exact ⟨_, _, rfl⟩
    obtain ⟨_, _, hp⟩ := hp
    rw [hp]
    obtain ⟨_, _, _, _, _, _, _, h⟩ := Dev.event_form _ 0x0102 c.q.toNat (errData c.tag.toNat code c.op.toNat det)
    rw [h]
    dsimp only
    split
    · exact ⟨_, _, _, _, _, _, _, _, _, _, _, rfl⟩
    · next x =>
      obtain ⟨_, _, _, _, _, _, _, h⟩ := Dev.event_form _ 0x0103 c.q.toNat x
      rw [h]
      exact ⟨_, _, _, _, _, _, _, _, _, _, _, rfl⟩

/-! #### `failCmd` changes ring, host.unsignalled, host.timerOn, host.pba, link.wake, dict.vals, out, qs.cmds, qs.queues, qs.fences, intake.races and nothing else -/

@[simp] theorem Dev.failCmd_fuses (d : Dev) (i0 code det : Nat) (more : Option Nat) : (d.failCmd i0 code det more).fuses = d.fuses := by
 obtain ⟨_, _, _, _, _, _, _, _, _, _, _, h⟩ := Dev.failCmd_form d i0 code det more
 rw [h]
@[simp] theorem Dev.failCmd_link_vbus (d : Dev) (i0 code det : Nat) (more : Option Nat) : (d.failCmd i0 code det more).link.vbus = d.link.vbus := by
 obtain ⟨_, _, _, _, _, _, _, _, _, _, _, h⟩ := Dev.failCmd_form d i0 code det more
 rw [h]
@[simp] theorem Dev.failCmd_link_usb4 (d : Dev) (i0 code det : Nat) (more : Option Nat) : (d.failCmd i0 code det more).link.usb4 = d.link.usb4 := by
 obtain ⟨_, _, _, _, _, _, _, _, _, _, _, h⟩ := Dev.failCmd_form d i0 code det more
 rw [h]
@[simp] theorem Dev.failCmd_link_ss (d : Dev) (i0 code det : Nat) (more : Option Nat) : (d.failCmd i0 code det more).link.ss = d.link.ss := by
 obtain ⟨_, _, _, _, _, _, _, _, _, _, _, h⟩ := Dev.failCmd_form d i0 code det more
 rw [h]
@[simp] theorem Dev.failCmd_link_hs (d : Dev) (i0 code det : Nat) (more : Option Nat) : (d.failCmd i0 code det more).link.hs = d.link.hs := by
 obtain ⟨_, _, _, _, _, _, _, _, _, _, _, h⟩ := Dev.failCmd_form d i0 code det more
 rw [h]
@[simp] theorem Dev.failCmd_link_bme (d : Dev) (i0 code det : Nat) (more : Option Nat) : (d.failCmd i0 code det more).link.bme = d.link.bme := by
 obtain ⟨_, _, _, _, _, _, _, _, _, _, _, h⟩ := Dev.failCmd_form d i0 code det more
 rw [h]
@[simp] theorem Dev.failCmd_link_d3hot (d : Dev) (i0 code det : Nat) (more : Option Nat) : (d.failCmd i0 code det more).link.d3hot = d.link.d3hot := by
 obtain ⟨_, _, _, _, _, _, _, _, _, _, _, h⟩ := Dev.failCmd_form d i0 code det more
 rw [h]
@[simp] theorem Dev.failCmd_link_msixEnable (d : Dev) (i0 code det : Nat) (more : Option Nat) : (d.failCmd i0 code det more).link.msixEnable = d.link.msixEnable := by
 obtain ⟨_, _, _, _, _, _, _, _, _, _, _, h⟩ := Dev.failCmd_form d i0 code det more
 rw [h]
@[simp] theorem Dev.failCmd_link_msixMask (d : Dev) (i0 code det : Nat) (more : Option Nat) : (d.failCmd i0 code det more).link.msixMask = d.link.msixMask := by
 obtain ⟨_, _, _, _, _, _, _, _, _, _, _, h⟩ := Dev.failCmd_form d i0 code det more
 rw [h]
@[simp] theorem Dev.failCmd_link_maxPayload (d : Dev) (i0 code det : Nat) (more : Option Nat) : (d.failCmd i0 code det more).link.maxPayload = d.link.maxPayload := by
 obtain ⟨_, _, _, _, _, _, _, _, _, _, _, h⟩ := Dev.failCmd_form d i0 code det more
 rw [h]
@[simp] theorem Dev.failCmd_link_maxRead (d : Dev) (i0 code det : Nat) (more : Option Nat) : (d.failCmd i0 code det more).link.maxRead = d.link.maxRead := by
 obtain ⟨_, _, _, _, _, _, _, _, _, _, _, h⟩ := Dev.failCmd_form d i0 code det more
 rw [h]
@[simp] theorem Dev.failCmd_link_bars (d : Dev) (i0 code det : Nat) (more : Option Nat) : (d.failCmd i0 code det more).link.bars = d.link.bars := by
 obtain ⟨_, _, _, _, _, _, _, _, _, _, _, h⟩ := Dev.failCmd_form d i0 code det more
 rw [h]
@[simp] theorem Dev.failCmd_link_bar2Log2 (d : Dev) (i0 code det : Nat) (more : Option Nat) : (d.failCmd i0 code det more).link.bar2Log2 = d.link.bar2Log2 := by
 obtain ⟨_, _, _, _, _, _, _, _, _, _, _, h⟩ := Dev.failCmd_form d i0 code det more
 rw [h]
@[simp] theorem Dev.failCmd_link_pathEnable (d : Dev) (i0 code det : Nat) (more : Option Nat) : (d.failCmd i0 code det more).link.pathEnable = d.link.pathEnable := by
 obtain ⟨_, _, _, _, _, _, _, _, _, _, _, h⟩ := Dev.failCmd_form d i0 code det more
 rw [h]
@[simp] theorem Dev.failCmd_link_subsysVendor (d : Dev) (i0 code det : Nat) (more : Option Nat) : (d.failCmd i0 code det more).link.subsysVendor = d.link.subsysVendor := by
 obtain ⟨_, _, _, _, _, _, _, _, _, _, _, h⟩ := Dev.failCmd_form d i0 code det more
 rw [h]
@[simp] theorem Dev.failCmd_link_subsysId (d : Dev) (i0 code det : Nat) (more : Option Nat) : (d.failCmd i0 code det more).link.subsysId = d.link.subsysId := by
 obtain ⟨_, _, _, _, _, _, _, _, _, _, _, h⟩ := Dev.failCmd_form d i0 code det more
 rw [h]
@[simp] theorem Dev.failCmd_link_susp3 (d : Dev) (i0 code det : Nat) (more : Option Nat) : (d.failCmd i0 code det more).link.susp3 = d.link.susp3 := by
 obtain ⟨_, _, _, _, _, _, _, _, _, _, _, h⟩ := Dev.failCmd_form d i0 code det more
 rw [h]
@[simp] theorem Dev.failCmd_link_susp2 (d : Dev) (i0 code det : Nat) (more : Option Nat) : (d.failCmd i0 code det more).link.susp2 = d.link.susp2 := by
 obtain ⟨_, _, _, _, _, _, _, _, _, _, _, h⟩ := Dev.failCmd_form d i0 code det more
 rw [h]
@[simp] theorem Dev.failCmd_link_fs (d : Dev) (i0 code det : Nat) (more : Option Nat) : (d.failCmd i0 code det more).link.fs = d.link.fs := by
 obtain ⟨_, _, _, _, _, _, _, _, _, _, _, h⟩ := Dev.failCmd_form d i0 code det more
 rw [h]
@[simp] theorem Dev.failCmd_link_low (d : Dev) (i0 code det : Nat) (more : Option Nat) : (d.failCmd i0 code det more).link.low = d.link.low := by
 obtain ⟨_, _, _, _, _, _, _, _, _, _, _, h⟩ := Dev.failCmd_form d i0 code det more
 rw [h]
@[simp] theorem Dev.failCmd_host_owner (d : Dev) (i0 code det : Nat) (more : Option Nat) : (d.failCmd i0 code det more).host.owner = d.host.owner := by
 obtain ⟨_, _, _, _, _, _, _, _, _, _, _, h⟩ := Dev.failCmd_form d i0 code det more
 rw [h]
@[simp] theorem Dev.failCmd_host_sessionCtr (d : Dev) (i0 code det : Nat) (more : Option Nat) : (d.failCmd i0 code det more).host.sessionCtr = d.host.sessionCtr := by
 obtain ⟨_, _, _, _, _, _, _, _, _, _, _, h⟩ := Dev.failCmd_form d i0 code det more
 rw [h]
@[simp] theorem Dev.failCmd_host_viol (d : Dev) (i0 code det : Nat) (more : Option Nat) : (d.failCmd i0 code det more).host.viol = d.host.viol := by
 obtain ⟨_, _, _, _, _, _, _, _, _, _, _, h⟩ := Dev.failCmd_form d i0 code det more
 rw [h]
@[simp] theorem Dev.failCmd_host_intMod (d : Dev) (i0 code det : Nat) (more : Option Nat) : (d.failCmd i0 code det more).host.intMod = d.host.intMod := by
 obtain ⟨_, _, _, _, _, _, _, _, _, _, _, h⟩ := Dev.failCmd_form d i0 code det more
 rw [h]
@[simp] theorem Dev.failCmd_host_aps (d : Dev) (i0 code det : Nat) (more : Option Nat) : (d.failCmd i0 code det more).host.aps = d.host.aps := by
 obtain ⟨_, _, _, _, _, _, _, _, _, _, _, h⟩ := Dev.failCmd_form d i0 code det more
 rw [h]
@[simp] theorem Dev.failCmd_host_msix (d : Dev) (i0 code det : Nat) (more : Option Nat) : (d.failCmd i0 code det more).host.msix = d.host.msix := by
 obtain ⟨_, _, _, _, _, _, _, _, _, _, _, h⟩ := Dev.failCmd_form d i0 code det more
 rw [h]
@[simp] theorem Dev.failCmd_host_violSource (d : Dev) (i0 code det : Nat) (more : Option Nat) : (d.failCmd i0 code det more).host.violSource = d.host.violSource := by
 obtain ⟨_, _, _, _, _, _, _, _, _, _, _, h⟩ := Dev.failCmd_form d i0 code det more
 rw [h]
@[simp] theorem Dev.failCmd_host_violAddr (d : Dev) (i0 code det : Nat) (more : Option Nat) : (d.failCmd i0 code det more).host.violAddr = d.host.violAddr := by
 obtain ⟨_, _, _, _, _, _, _, _, _, _, _, h⟩ := Dev.failCmd_form d i0 code det more
 rw [h]
@[simp] theorem Dev.failCmd_host_violHandle (d : Dev) (i0 code det : Nat) (more : Option Nat) : (d.failCmd i0 code det more).host.violHandle = d.host.violHandle := by
 obtain ⟨_, _, _, _, _, _, _, _, _, _, _, h⟩ := Dev.failCmd_form d i0 code det more
 rw [h]
@[simp] theorem Dev.failCmd_host_violTack (d : Dev) (i0 code det : Nat) (more : Option Nat) : (d.failCmd i0 code det more).host.violTack = d.host.violTack := by
 obtain ⟨_, _, _, _, _, _, _, _, _, _, _, h⟩ := Dev.failCmd_form d i0 code det more
 rw [h]
@[simp] theorem Dev.failCmd_host_violSince (d : Dev) (i0 code det : Nat) (more : Option Nat) : (d.failCmd i0 code det more).host.violSince = d.host.violSince := by
 obtain ⟨_, _, _, _, _, _, _, _, _, _, _, h⟩ := Dev.failCmd_form d i0 code det more
 rw [h]
@[simp] theorem Dev.failCmd_host_violAt (d : Dev) (i0 code det : Nat) (more : Option Nat) : (d.failCmd i0 code det more).host.violAt = d.host.violAt := by
 obtain ⟨_, _, _, _, _, _, _, _, _, _, _, h⟩ := Dev.failCmd_form d i0 code det more
 rw [h]
@[simp] theorem Dev.failCmd_xfer (d : Dev) (i0 code det : Nat) (more : Option Nat) : (d.failCmd i0 code det more).xfer = d.xfer := by
 obtain ⟨_, _, _, _, _, _, _, _, _, _, _, h⟩ := Dev.failCmd_form d i0 code det more
 rw [h]
@[simp] theorem Dev.failCmd_qs_lastGrant (d : Dev) (i0 code det : Nat) (more : Option Nat) : (d.failCmd i0 code det more).qs.lastGrant = d.qs.lastGrant := by
 obtain ⟨_, _, _, _, _, _, _, _, _, _, _, h⟩ := Dev.failCmd_form d i0 code det more
 rw [h]
@[simp] theorem Dev.failCmd_qs_nextId (d : Dev) (i0 code det : Nat) (more : Option Nat) : (d.failCmd i0 code det more).qs.nextId = d.qs.nextId := by
 obtain ⟨_, _, _, _, _, _, _, _, _, _, _, h⟩ := Dev.failCmd_form d i0 code det more
 rw [h]
@[simp] theorem Dev.failCmd_qs_bufs (d : Dev) (i0 code det : Nat) (more : Option Nat) : (d.failCmd i0 code det more).qs.bufs = d.qs.bufs := by
 obtain ⟨_, _, _, _, _, _, _, _, _, _, _, h⟩ := Dev.failCmd_form d i0 code det more
 rw [h]
@[simp] theorem Dev.failCmd_qs_fresh (d : Dev) (i0 code det : Nat) (more : Option Nat) : (d.failCmd i0 code det more).qs.fresh = d.qs.fresh := by
 obtain ⟨_, _, _, _, _, _, _, _, _, _, _, h⟩ := Dev.failCmd_form d i0 code det more
 rw [h]
@[simp] theorem Dev.failCmd_qs_freed (d : Dev) (i0 code det : Nat) (more : Option Nat) : (d.failCmd i0 code det more).qs.freed = d.qs.freed := by
 obtain ⟨_, _, _, _, _, _, _, _, _, _, _, h⟩ := Dev.failCmd_form d i0 code det more
 rw [h]
@[simp] theorem Dev.failCmd_qs_slots (d : Dev) (i0 code det : Nat) (more : Option Nat) : (d.failCmd i0 code det more).qs.slots = d.qs.slots := by
 obtain ⟨_, _, _, _, _, _, _, _, _, _, _, h⟩ := Dev.failCmd_form d i0 code det more
 rw [h]
@[simp] theorem Dev.failCmd_qs_holds (d : Dev) (i0 code det : Nat) (more : Option Nat) : (d.failCmd i0 code det more).qs.holds = d.qs.holds := by
 obtain ⟨_, _, _, _, _, _, _, _, _, _, _, h⟩ := Dev.failCmd_form d i0 code det more
 rw [h]
@[simp] theorem Dev.failCmd_qs_dmas (d : Dev) (i0 code det : Nat) (more : Option Nat) : (d.failCmd i0 code det more).qs.dmas = d.qs.dmas := by
 obtain ⟨_, _, _, _, _, _, _, _, _, _, _, h⟩ := Dev.failCmd_form d i0 code det more
 rw [h]
@[simp] theorem Dev.failCmd_intake_threshers (d : Dev) (i0 code det : Nat) (more : Option Nat) : (d.failCmd i0 code det more).intake.threshers = d.intake.threshers := by
 obtain ⟨_, _, _, _, _, _, _, _, _, _, _, h⟩ := Dev.failCmd_form d i0 code det more
 rw [h]
@[simp] theorem Dev.failCmd_intake_feeds (d : Dev) (i0 code det : Nat) (more : Option Nat) : (d.failCmd i0 code det more).intake.feeds = d.intake.feeds := by
 obtain ⟨_, _, _, _, _, _, _, _, _, _, _, h⟩ := Dev.failCmd_form d i0 code det more
 rw [h]
@[simp] theorem Dev.failCmd_intake_waiting (d : Dev) (i0 code det : Nat) (more : Option Nat) : (d.failCmd i0 code det more).intake.waiting = d.intake.waiting := by
 obtain ⟨_, _, _, _, _, _, _, _, _, _, _, h⟩ := Dev.failCmd_form d i0 code det more
 rw [h]
@[simp] theorem Dev.failCmd_intake_lastFault (d : Dev) (i0 code det : Nat) (more : Option Nat) : (d.failCmd i0 code det more).intake.lastFault = d.intake.lastFault := by
 obtain ⟨_, _, _, _, _, _, _, _, _, _, _, h⟩ := Dev.failCmd_form d i0 code det more
 rw [h]
@[simp] theorem Dev.failCmd_intake_slots (d : Dev) (i0 code det : Nat) (more : Option Nat) : (d.failCmd i0 code det more).intake.slots = d.intake.slots := by
 obtain ⟨_, _, _, _, _, _, _, _, _, _, _, h⟩ := Dev.failCmd_form d i0 code det more
 rw [h]
@[simp] theorem Dev.failCmd_intake_dropSelect (d : Dev) (i0 code det : Nat) (more : Option Nat) : (d.failCmd i0 code det more).intake.dropSelect = d.intake.dropSelect := by
 obtain ⟨_, _, _, _, _, _, _, _, _, _, _, h⟩ := Dev.failCmd_form d i0 code det more
 rw [h]
@[simp] theorem Dev.failCmd_comp (d : Dev) (i0 code det : Nat) (more : Option Nat) : (d.failCmd i0 code det more).comp = d.comp := by
 obtain ⟨_, _, _, _, _, _, _, _, _, _, _, h⟩ := Dev.failCmd_form d i0 code det more
 rw [h]
@[simp] theorem Dev.failCmd_tack (d : Dev) (i0 code det : Nat) (more : Option Nat) : (d.failCmd i0 code det more).tack = d.tack := by
 obtain ⟨_, _, _, _, _, _, _, _, _, _, _, h⟩ := Dev.failCmd_form d i0 code det more
 rw [h]
@[simp] theorem Dev.failCmd_push (d : Dev) (i0 code det : Nat) (more : Option Nat) : (d.failCmd i0 code det more).push = d.push := by
 obtain ⟨_, _, _, _, _, _, _, _, _, _, _, h⟩ := Dev.failCmd_form d i0 code det more
 rw [h]
@[simp] theorem Dev.failCmd_draws (d : Dev) (i0 code det : Nat) (more : Option Nat) : (d.failCmd i0 code det more).draws = d.draws := by
 obtain ⟨_, _, _, _, _, _, _, _, _, _, _, h⟩ := Dev.failCmd_form d i0 code det more
 rw [h]
@[simp] theorem Dev.failCmd_dram (d : Dev) (i0 code det : Nat) (more : Option Nat) : (d.failCmd i0 code det more).dram = d.dram := by
 obtain ⟨_, _, _, _, _, _, _, _, _, _, _, h⟩ := Dev.failCmd_form d i0 code det more
 rw [h]
@[simp] theorem Dev.failCmd_memlog (d : Dev) (i0 code det : Nat) (more : Option Nat) : (d.failCmd i0 code det more).memlog = d.memlog := by
 obtain ⟨_, _, _, _, _, _, _, _, _, _, _, h⟩ := Dev.failCmd_form d i0 code det more
 rw [h]
@[simp] theorem Dev.failCmd_dict_locks (d : Dev) (i0 code det : Nat) (more : Option Nat) : (d.failCmd i0 code det more).dict.locks = d.dict.locks := by
 obtain ⟨_, _, _, _, _, _, _, _, _, _, _, h⟩ := Dev.failCmd_form d i0 code det more
 rw [h]
@[simp] theorem Dev.failCmd_dict_claims (d : Dev) (i0 code det : Nat) (more : Option Nat) : (d.failCmd i0 code det more).dict.claims = d.dict.claims := by
 obtain ⟨_, _, _, _, _, _, _, _, _, _, _, h⟩ := Dev.failCmd_form d i0 code det more
 rw [h]
@[simp] theorem Dev.failCmd_dict_subs (d : Dev) (i0 code det : Nat) (more : Option Nat) : (d.failCmd i0 code det more).dict.subs = d.dict.subs := by
 obtain ⟨_, _, _, _, _, _, _, _, _, _, _, h⟩ := Dev.failCmd_form d i0 code det more
 rw [h]
@[simp] theorem Dev.failCmd_dict_writers (d : Dev) (i0 code det : Nat) (more : Option Nat) : (d.failCmd i0 code det more).dict.writers = d.dict.writers := by
 obtain ⟨_, _, _, _, _, _, _, _, _, _, _, h⟩ := Dev.failCmd_form d i0 code det more
 rw [h]
@[simp] theorem Dev.failCmd_dict_arbs (d : Dev) (i0 code det : Nat) (more : Option Nat) : (d.failCmd i0 code det more).dict.arbs = d.dict.arbs := by
 obtain ⟨_, _, _, _, _, _, _, _, _, _, _, h⟩ := Dev.failCmd_form d i0 code det more
 rw [h]
@[simp] theorem Dev.failCmd_dict_waiting (d : Dev) (i0 code det : Nat) (more : Option Nat) : (d.failCmd i0 code det more).dict.waiting = d.dict.waiting := by
 obtain ⟨_, _, _, _, _, _, _, _, _, _, _, h⟩ := Dev.failCmd_form d i0 code det more
 rw [h]
@[simp] theorem Dev.failCmd_dict_clients (d : Dev) (i0 code det : Nat) (more : Option Nat) : (d.failCmd i0 code det more).dict.clients = d.dict.clients := by
 obtain ⟨_, _, _, _, _, _, _, _, _, _, _, h⟩ := Dev.failCmd_form d i0 code det more
 rw [h]
@[simp] theorem Dev.failCmd_dict_confNext (d : Dev) (i0 code det : Nat) (more : Option Nat) : (d.failCmd i0 code det more).dict.confNext = d.dict.confNext := by
 obtain ⟨_, _, _, _, _, _, _, _, _, _, _, h⟩ := Dev.failCmd_form d i0 code det more
 rw [h]
@[simp] theorem Dev.failCmd_dict_conf (d : Dev) (i0 code det : Nat) (more : Option Nat) : (d.failCmd i0 code det more).dict.conf = d.dict.conf := by
 obtain ⟨_, _, _, _, _, _, _, _, _, _, _, h⟩ := Dev.failCmd_form d i0 code det more
 rw [h]
@[simp] theorem Dev.failCmd_dict_lastStatus (d : Dev) (i0 code det : Nat) (more : Option Nat) : (d.failCmd i0 code det more).dict.lastStatus = d.dict.lastStatus := by
 obtain ⟨_, _, _, _, _, _, _, _, _, _, _, h⟩ := Dev.failCmd_form d i0 code det more
 rw [h]
@[simp] theorem Dev.failCmd_dict_lastEntry (d : Dev) (i0 code det : Nat) (more : Option Nat) : (d.failCmd i0 code det more).dict.lastEntry = d.dict.lastEntry := by
 obtain ⟨_, _, _, _, _, _, _, _, _, _, _, h⟩ := Dev.failCmd_form d i0 code det more
 rw [h]
@[simp] theorem Dev.failCmd_dict_lastMaster (d : Dev) (i0 code det : Nat) (more : Option Nat) : (d.failCmd i0 code det more).dict.lastMaster = d.dict.lastMaster := by
 obtain ⟨_, _, _, _, _, _, _, _, _, _, _, h⟩ := Dev.failCmd_form d i0 code det more
 rw [h]
@[simp] theorem Dev.failCmd_dict_lastTack (d : Dev) (i0 code det : Nat) (more : Option Nat) : (d.failCmd i0 code det more).dict.lastTack = d.dict.lastTack := by
 obtain ⟨_, _, _, _, _, _, _, _, _, _, _, h⟩ := Dev.failCmd_form d i0 code det more
 rw [h]
@[simp] theorem Dev.failCmd_dict_comm (d : Dev) (i0 code det : Nat) (more : Option Nat) : (d.failCmd i0 code det more).dict.comm = d.dict.comm := by
 obtain ⟨_, _, _, _, _, _, _, _, _, _, _, h⟩ := Dev.failCmd_form d i0 code det more
 rw [h]
@[simp] theorem Dev.failCmd_dict_commDue (d : Dev) (i0 code det : Nat) (more : Option Nat) : (d.failCmd i0 code det more).dict.commDue = d.dict.commDue := by
 obtain ⟨_, _, _, _, _, _, _, _, _, _, _, h⟩ := Dev.failCmd_form d i0 code det more
 rw [h]
@[simp] theorem Dev.failCmd_pw (d : Dev) (i0 code det : Nat) (more : Option Nat) : (d.failCmd i0 code det more).pw = d.pw := by
 obtain ⟨_, _, _, _, _, _, _, _, _, _, _, h⟩ := Dev.failCmd_form d i0 code det more
 rw [h]
@[simp] theorem Dev.failCmd_fw (d : Dev) (i0 code det : Nat) (more : Option Nat) : (d.failCmd i0 code det more).fw = d.fw := by
 obtain ⟨_, _, _, _, _, _, _, _, _, _, _, h⟩ := Dev.failCmd_form d i0 code det more
 rw [h]
@[simp] theorem Dev.failCmd_th (d : Dev) (i0 code det : Nat) (more : Option Nat) : (d.failCmd i0 code det more).th = d.th := by
 obtain ⟨_, _, _, _, _, _, _, _, _, _, _, h⟩ := Dev.failCmd_form d i0 code det more
 rw [h]
@[simp] theorem Dev.failCmd_trim (d : Dev) (i0 code det : Nat) (more : Option Nat) : (d.failCmd i0 code det more).trim = d.trim := by
 obtain ⟨_, _, _, _, _, _, _, _, _, _, _, h⟩ := Dev.failCmd_form d i0 code det more
 rw [h]
@[simp] theorem Dev.failCmd_ledger (d : Dev) (i0 code det : Nat) (more : Option Nat) : (d.failCmd i0 code det more).ledger = d.ledger := by
 obtain ⟨_, _, _, _, _, _, _, _, _, _, _, h⟩ := Dev.failCmd_form d i0 code det more
 rw [h]
@[simp] theorem Dev.failCmd_flt (d : Dev) (i0 code det : Nat) (more : Option Nat) : (d.failCmd i0 code det more).flt = d.flt := by
 obtain ⟨_, _, _, _, _, _, _, _, _, _, _, h⟩ := Dev.failCmd_form d i0 code det more
 rw [h]
@[simp] theorem Dev.failCmd_lines (d : Dev) (i0 code det : Nat) (more : Option Nat) : (d.failCmd i0 code det more).lines = d.lines := by
 obtain ⟨_, _, _, _, _, _, _, _, _, _, _, h⟩ := Dev.failCmd_form d i0 code det more
 rw [h]
@[simp] theorem Dev.failCmd_now (d : Dev) (i0 code det : Nat) (more : Option Nat) : (d.failCmd i0 code det more).now = d.now := by
 obtain ⟨_, _, _, _, _, _, _, _, _, _, _, h⟩ := Dev.failCmd_form d i0 code det more
 rw [h]
@[simp] theorem Dev.failCmd_free (d : Dev) (i0 code det : Nat) (more : Option Nat) : (d.failCmd i0 code det more).free = d.free := by
 obtain ⟨_, _, _, _, _, _, _, _, _, _, _, h⟩ := Dev.failCmd_form d i0 code det more
 rw [h]
@[simp] theorem Dev.failCmd_buf (d : Dev) (i0 code det : Nat) (more : Option Nat) (h : U16) : (d.failCmd i0 code det more).buf h = d.buf h := by simp [Dev.buf]
@[simp] theorem Dev.failCmd_slot (d : Dev) (i0 code det : Nat) (more : Option Nat) (n : Nat) : (d.failCmd i0 code det more).slot n = d.slot n := by simp [Dev.slot]
@[simp] theorem Dev.failCmd_feed (d : Dev) (i0 code det : Nat) (more : Option Nat) (f : FeedId) : (d.failCmd i0 code det more).feed f = d.feed f := by simp [Dev.feed]
@[simp] theorem Dev.failCmd_thresher (d : Dev) (i0 code det : Nat) (more : Option Nat) (i : ThresherId) : (d.failCmd i0 code det more).thresher i = d.thresher i := by simp [Dev.thresher]
@[simp] theorem Dev.failCmd_vslot (d : Dev) (i0 code det : Nat) (more : Option Nat) (n : Nat) : (d.failCmd i0 code det more).vslot n = d.vslot n := by simp [Dev.vslot]
@[simp] theorem Dev.failCmd_sail (d : Dev) (i0 code det : Nat) (more : Option Nat) (i : SailId) : (d.failCmd i0 code det more).sail i = d.sail i := by simp [Dev.sail]
@[simp] theorem Dev.failCmd_mast (d : Dev) (i0 code det : Nat) (more : Option Nat) (i : MastId) : (d.failCmd i0 code det more).mast i = d.mast i := by simp [Dev.mast]
@[simp] theorem Dev.failCmd_cluster (d : Dev) (i0 code det : Nat) (more : Option Nat) (i : ClusterId) : (d.failCmd i0 code det more).cluster i = d.cluster i := by simp [Dev.cluster]
@[simp] theorem Dev.failCmd_chan (d : Dev) (i0 code det : Nat) (more : Option Nat) (n : Nat) : (d.failCmd i0 code det more).chan n = d.chan n := by simp [Dev.chan]
@[simp] theorem Dev.failCmd_sensor (d : Dev) (i0 code det : Nat) (more : Option Nat) (n : Nat) : (d.failCmd i0 code det more).sensor n = d.sensor n := by simp [Dev.sensor]
@[simp] theorem Dev.failCmd_partn (d : Dev) (i0 code det : Nat) (more : Option Nat) (n : Nat) : (d.failCmd i0 code det more).partn n = d.partn n := by simp [Dev.partn]
@[simp] theorem Dev.failCmd_ap (d : Dev) (i0 code det : Nat) (more : Option Nat) (n : Nat) : (d.failCmd i0 code det more).ap n = d.ap n := by simp [Dev.ap]
@[simp] theorem Dev.failCmd_tval (d : Dev) (i0 code det : Nat) (more : Option Nat) (k : Nat) : (d.failCmd i0 code det more).tval k = d.tval k := by simp [Dev.tval]
@[simp] theorem Dev.failCmd_openTack (d : Dev) (i0 code det : Nat) (more : Option Nat) : (d.failCmd i0 code det more).openTack = d.openTack := by simp [Dev.openTack]
@[simp] theorem Dev.failCmd_powered (d : Dev) (i0 code det : Nat) (more : Option Nat) : (d.failCmd i0 code det more).powered = d.powered := by simp [Dev.powered]
@[simp] theorem Dev.failCmd_up (d : Dev) (i0 code det : Nat) (more : Option Nat) : (d.failCmd i0 code det more).up = d.up := by simp [Dev.up]
@[simp] theorem Dev.failCmd_live (d : Dev) (i0 code det : Nat) (more : Option Nat) (r : BufRef) : (d.failCmd i0 code det more).live r = d.live r := by simp [Dev.live]
@[simp] theorem Dev.failCmd_sizeOf (d : Dev) (i0 code det : Nat) (more : Option Nat) (r : BufRef) : (d.failCmd i0 code det more).sizeOf r = d.sizeOf r := by simp [Dev.sizeOf]
@[simp] theorem Dev.failCmd_byteAt (d : Dev) (i0 code det : Nat) (more : Option Nat) (a : Nat) : (d.failCmd i0 code det more).byteAt a = d.byteAt a := by simp [Dev.byteAt]
@[simp] theorem Dev.failCmd_sailExists (d : Dev) (i0 code det : Nat) (more : Option Nat) (n : Nat) : (d.failCmd i0 code det more).sailExists n = d.sailExists n := by simp [Dev.sailExists]
@[simp] theorem Dev.failCmd_mastList (d : Dev) (i0 code det : Nat) (more : Option Nat) : (d.failCmd i0 code det more).mastList = d.mastList := by simp [Dev.mastList]
@[simp] theorem Dev.failCmd_freeAt (d : Dev) (i0 code det : Nat) (more : Option Nat) (n : Nat) : (d.failCmd i0 code det more).freeAt n = d.freeAt n := by simp [Dev.freeAt]

/-- Everything `failOpen` can do. -/
theorem Dev.failOpen_form (d : Dev) (i0 code : Nat) : ∃ v_ring v_host_unsignalled v_host_timerOn v_host_pba v_link_wake v_dict_vals v_out v_qs_cmds v_qs_queues v_qs_fences v_intake_races v_free, d.failOpen i0 code =
    { d with ring := v_ring, host := { d.host with unsignalled := v_host_unsignalled, timerOn := v_host_timerOn, pba := v_host_pba }, link := { d.link with wake := v_link_wake }, dict := { d.dict with vals := v_dict_vals }, out := v_out, qs := { d.qs with cmds := v_qs_cmds, queues := v_qs_queues, fences := v_qs_fences }, intake := { d.intake with races := v_intake_races }, free := v_free } := by
  obtain ⟨_, _, _, _, _, _, _, _, _, _, _, h⟩ := Dev.failCmd_form d i0 code ((d.freeAt 0).toNat % 2 ^ 24) none
  unfold Dev.failOpen
  rw [h]
  exact ⟨_, _, _, _, _, _, _, _, _, _, _, _, rfl⟩

/-! #### `failOpen` changes ring, host.unsignalled, host.timerOn, host.pba, link.wake, dict.vals, out, qs.cmds, qs.queues, qs.fences, intake.races, free and nothing else -/

@[simp] theorem Dev.failOpen_fuses (d : Dev) (i0 code : Nat) : (d.failOpen i0 code).fuses = d.fuses := by
 obtain ⟨_, _, _, _, _, _, _, _, _, _, _, _, h⟩ := Dev.failOpen_form d i0 code
 rw [h]
@[simp] theorem Dev.failOpen_link_vbus (d : Dev) (i0 code : Nat) : (d.failOpen i0 code).link.vbus = d.link.vbus := by
 obtain ⟨_, _, _, _, _, _, _, _, _, _, _, _, h⟩ := Dev.failOpen_form d i0 code
 rw [h]
@[simp] theorem Dev.failOpen_link_usb4 (d : Dev) (i0 code : Nat) : (d.failOpen i0 code).link.usb4 = d.link.usb4 := by
 obtain ⟨_, _, _, _, _, _, _, _, _, _, _, _, h⟩ := Dev.failOpen_form d i0 code
 rw [h]
@[simp] theorem Dev.failOpen_link_ss (d : Dev) (i0 code : Nat) : (d.failOpen i0 code).link.ss = d.link.ss := by
 obtain ⟨_, _, _, _, _, _, _, _, _, _, _, _, h⟩ := Dev.failOpen_form d i0 code
 rw [h]
@[simp] theorem Dev.failOpen_link_hs (d : Dev) (i0 code : Nat) : (d.failOpen i0 code).link.hs = d.link.hs := by
 obtain ⟨_, _, _, _, _, _, _, _, _, _, _, _, h⟩ := Dev.failOpen_form d i0 code
 rw [h]
@[simp] theorem Dev.failOpen_link_bme (d : Dev) (i0 code : Nat) : (d.failOpen i0 code).link.bme = d.link.bme := by
 obtain ⟨_, _, _, _, _, _, _, _, _, _, _, _, h⟩ := Dev.failOpen_form d i0 code
 rw [h]
@[simp] theorem Dev.failOpen_link_d3hot (d : Dev) (i0 code : Nat) : (d.failOpen i0 code).link.d3hot = d.link.d3hot := by
 obtain ⟨_, _, _, _, _, _, _, _, _, _, _, _, h⟩ := Dev.failOpen_form d i0 code
 rw [h]
@[simp] theorem Dev.failOpen_link_msixEnable (d : Dev) (i0 code : Nat) : (d.failOpen i0 code).link.msixEnable = d.link.msixEnable := by
 obtain ⟨_, _, _, _, _, _, _, _, _, _, _, _, h⟩ := Dev.failOpen_form d i0 code
 rw [h]
@[simp] theorem Dev.failOpen_link_msixMask (d : Dev) (i0 code : Nat) : (d.failOpen i0 code).link.msixMask = d.link.msixMask := by
 obtain ⟨_, _, _, _, _, _, _, _, _, _, _, _, h⟩ := Dev.failOpen_form d i0 code
 rw [h]
@[simp] theorem Dev.failOpen_link_maxPayload (d : Dev) (i0 code : Nat) : (d.failOpen i0 code).link.maxPayload = d.link.maxPayload := by
 obtain ⟨_, _, _, _, _, _, _, _, _, _, _, _, h⟩ := Dev.failOpen_form d i0 code
 rw [h]
@[simp] theorem Dev.failOpen_link_maxRead (d : Dev) (i0 code : Nat) : (d.failOpen i0 code).link.maxRead = d.link.maxRead := by
 obtain ⟨_, _, _, _, _, _, _, _, _, _, _, _, h⟩ := Dev.failOpen_form d i0 code
 rw [h]
@[simp] theorem Dev.failOpen_link_bars (d : Dev) (i0 code : Nat) : (d.failOpen i0 code).link.bars = d.link.bars := by
 obtain ⟨_, _, _, _, _, _, _, _, _, _, _, _, h⟩ := Dev.failOpen_form d i0 code
 rw [h]
@[simp] theorem Dev.failOpen_link_bar2Log2 (d : Dev) (i0 code : Nat) : (d.failOpen i0 code).link.bar2Log2 = d.link.bar2Log2 := by
 obtain ⟨_, _, _, _, _, _, _, _, _, _, _, _, h⟩ := Dev.failOpen_form d i0 code
 rw [h]
@[simp] theorem Dev.failOpen_link_pathEnable (d : Dev) (i0 code : Nat) : (d.failOpen i0 code).link.pathEnable = d.link.pathEnable := by
 obtain ⟨_, _, _, _, _, _, _, _, _, _, _, _, h⟩ := Dev.failOpen_form d i0 code
 rw [h]
@[simp] theorem Dev.failOpen_link_subsysVendor (d : Dev) (i0 code : Nat) : (d.failOpen i0 code).link.subsysVendor = d.link.subsysVendor := by
 obtain ⟨_, _, _, _, _, _, _, _, _, _, _, _, h⟩ := Dev.failOpen_form d i0 code
 rw [h]
@[simp] theorem Dev.failOpen_link_subsysId (d : Dev) (i0 code : Nat) : (d.failOpen i0 code).link.subsysId = d.link.subsysId := by
 obtain ⟨_, _, _, _, _, _, _, _, _, _, _, _, h⟩ := Dev.failOpen_form d i0 code
 rw [h]
@[simp] theorem Dev.failOpen_link_susp3 (d : Dev) (i0 code : Nat) : (d.failOpen i0 code).link.susp3 = d.link.susp3 := by
 obtain ⟨_, _, _, _, _, _, _, _, _, _, _, _, h⟩ := Dev.failOpen_form d i0 code
 rw [h]
@[simp] theorem Dev.failOpen_link_susp2 (d : Dev) (i0 code : Nat) : (d.failOpen i0 code).link.susp2 = d.link.susp2 := by
 obtain ⟨_, _, _, _, _, _, _, _, _, _, _, _, h⟩ := Dev.failOpen_form d i0 code
 rw [h]
@[simp] theorem Dev.failOpen_link_fs (d : Dev) (i0 code : Nat) : (d.failOpen i0 code).link.fs = d.link.fs := by
 obtain ⟨_, _, _, _, _, _, _, _, _, _, _, _, h⟩ := Dev.failOpen_form d i0 code
 rw [h]
@[simp] theorem Dev.failOpen_link_low (d : Dev) (i0 code : Nat) : (d.failOpen i0 code).link.low = d.link.low := by
 obtain ⟨_, _, _, _, _, _, _, _, _, _, _, _, h⟩ := Dev.failOpen_form d i0 code
 rw [h]
@[simp] theorem Dev.failOpen_host_owner (d : Dev) (i0 code : Nat) : (d.failOpen i0 code).host.owner = d.host.owner := by
 obtain ⟨_, _, _, _, _, _, _, _, _, _, _, _, h⟩ := Dev.failOpen_form d i0 code
 rw [h]
@[simp] theorem Dev.failOpen_host_sessionCtr (d : Dev) (i0 code : Nat) : (d.failOpen i0 code).host.sessionCtr = d.host.sessionCtr := by
 obtain ⟨_, _, _, _, _, _, _, _, _, _, _, _, h⟩ := Dev.failOpen_form d i0 code
 rw [h]
@[simp] theorem Dev.failOpen_host_viol (d : Dev) (i0 code : Nat) : (d.failOpen i0 code).host.viol = d.host.viol := by
 obtain ⟨_, _, _, _, _, _, _, _, _, _, _, _, h⟩ := Dev.failOpen_form d i0 code
 rw [h]
@[simp] theorem Dev.failOpen_host_intMod (d : Dev) (i0 code : Nat) : (d.failOpen i0 code).host.intMod = d.host.intMod := by
 obtain ⟨_, _, _, _, _, _, _, _, _, _, _, _, h⟩ := Dev.failOpen_form d i0 code
 rw [h]
@[simp] theorem Dev.failOpen_host_aps (d : Dev) (i0 code : Nat) : (d.failOpen i0 code).host.aps = d.host.aps := by
 obtain ⟨_, _, _, _, _, _, _, _, _, _, _, _, h⟩ := Dev.failOpen_form d i0 code
 rw [h]
@[simp] theorem Dev.failOpen_host_msix (d : Dev) (i0 code : Nat) : (d.failOpen i0 code).host.msix = d.host.msix := by
 obtain ⟨_, _, _, _, _, _, _, _, _, _, _, _, h⟩ := Dev.failOpen_form d i0 code
 rw [h]
@[simp] theorem Dev.failOpen_host_violSource (d : Dev) (i0 code : Nat) : (d.failOpen i0 code).host.violSource = d.host.violSource := by
 obtain ⟨_, _, _, _, _, _, _, _, _, _, _, _, h⟩ := Dev.failOpen_form d i0 code
 rw [h]
@[simp] theorem Dev.failOpen_host_violAddr (d : Dev) (i0 code : Nat) : (d.failOpen i0 code).host.violAddr = d.host.violAddr := by
 obtain ⟨_, _, _, _, _, _, _, _, _, _, _, _, h⟩ := Dev.failOpen_form d i0 code
 rw [h]
@[simp] theorem Dev.failOpen_host_violHandle (d : Dev) (i0 code : Nat) : (d.failOpen i0 code).host.violHandle = d.host.violHandle := by
 obtain ⟨_, _, _, _, _, _, _, _, _, _, _, _, h⟩ := Dev.failOpen_form d i0 code
 rw [h]
@[simp] theorem Dev.failOpen_host_violTack (d : Dev) (i0 code : Nat) : (d.failOpen i0 code).host.violTack = d.host.violTack := by
 obtain ⟨_, _, _, _, _, _, _, _, _, _, _, _, h⟩ := Dev.failOpen_form d i0 code
 rw [h]
@[simp] theorem Dev.failOpen_host_violSince (d : Dev) (i0 code : Nat) : (d.failOpen i0 code).host.violSince = d.host.violSince := by
 obtain ⟨_, _, _, _, _, _, _, _, _, _, _, _, h⟩ := Dev.failOpen_form d i0 code
 rw [h]
@[simp] theorem Dev.failOpen_host_violAt (d : Dev) (i0 code : Nat) : (d.failOpen i0 code).host.violAt = d.host.violAt := by
 obtain ⟨_, _, _, _, _, _, _, _, _, _, _, _, h⟩ := Dev.failOpen_form d i0 code
 rw [h]
@[simp] theorem Dev.failOpen_xfer (d : Dev) (i0 code : Nat) : (d.failOpen i0 code).xfer = d.xfer := by
 obtain ⟨_, _, _, _, _, _, _, _, _, _, _, _, h⟩ := Dev.failOpen_form d i0 code
 rw [h]
@[simp] theorem Dev.failOpen_qs_lastGrant (d : Dev) (i0 code : Nat) : (d.failOpen i0 code).qs.lastGrant = d.qs.lastGrant := by
 obtain ⟨_, _, _, _, _, _, _, _, _, _, _, _, h⟩ := Dev.failOpen_form d i0 code
 rw [h]
@[simp] theorem Dev.failOpen_qs_nextId (d : Dev) (i0 code : Nat) : (d.failOpen i0 code).qs.nextId = d.qs.nextId := by
 obtain ⟨_, _, _, _, _, _, _, _, _, _, _, _, h⟩ := Dev.failOpen_form d i0 code
 rw [h]
@[simp] theorem Dev.failOpen_qs_bufs (d : Dev) (i0 code : Nat) : (d.failOpen i0 code).qs.bufs = d.qs.bufs := by
 obtain ⟨_, _, _, _, _, _, _, _, _, _, _, _, h⟩ := Dev.failOpen_form d i0 code
 rw [h]
@[simp] theorem Dev.failOpen_qs_fresh (d : Dev) (i0 code : Nat) : (d.failOpen i0 code).qs.fresh = d.qs.fresh := by
 obtain ⟨_, _, _, _, _, _, _, _, _, _, _, _, h⟩ := Dev.failOpen_form d i0 code
 rw [h]
@[simp] theorem Dev.failOpen_qs_freed (d : Dev) (i0 code : Nat) : (d.failOpen i0 code).qs.freed = d.qs.freed := by
 obtain ⟨_, _, _, _, _, _, _, _, _, _, _, _, h⟩ := Dev.failOpen_form d i0 code
 rw [h]
@[simp] theorem Dev.failOpen_qs_slots (d : Dev) (i0 code : Nat) : (d.failOpen i0 code).qs.slots = d.qs.slots := by
 obtain ⟨_, _, _, _, _, _, _, _, _, _, _, _, h⟩ := Dev.failOpen_form d i0 code
 rw [h]
@[simp] theorem Dev.failOpen_qs_holds (d : Dev) (i0 code : Nat) : (d.failOpen i0 code).qs.holds = d.qs.holds := by
 obtain ⟨_, _, _, _, _, _, _, _, _, _, _, _, h⟩ := Dev.failOpen_form d i0 code
 rw [h]
@[simp] theorem Dev.failOpen_qs_dmas (d : Dev) (i0 code : Nat) : (d.failOpen i0 code).qs.dmas = d.qs.dmas := by
 obtain ⟨_, _, _, _, _, _, _, _, _, _, _, _, h⟩ := Dev.failOpen_form d i0 code
 rw [h]
@[simp] theorem Dev.failOpen_intake_threshers (d : Dev) (i0 code : Nat) : (d.failOpen i0 code).intake.threshers = d.intake.threshers := by
 obtain ⟨_, _, _, _, _, _, _, _, _, _, _, _, h⟩ := Dev.failOpen_form d i0 code
 rw [h]
@[simp] theorem Dev.failOpen_intake_feeds (d : Dev) (i0 code : Nat) : (d.failOpen i0 code).intake.feeds = d.intake.feeds := by
 obtain ⟨_, _, _, _, _, _, _, _, _, _, _, _, h⟩ := Dev.failOpen_form d i0 code
 rw [h]
@[simp] theorem Dev.failOpen_intake_waiting (d : Dev) (i0 code : Nat) : (d.failOpen i0 code).intake.waiting = d.intake.waiting := by
 obtain ⟨_, _, _, _, _, _, _, _, _, _, _, _, h⟩ := Dev.failOpen_form d i0 code
 rw [h]
@[simp] theorem Dev.failOpen_intake_lastFault (d : Dev) (i0 code : Nat) : (d.failOpen i0 code).intake.lastFault = d.intake.lastFault := by
 obtain ⟨_, _, _, _, _, _, _, _, _, _, _, _, h⟩ := Dev.failOpen_form d i0 code
 rw [h]
@[simp] theorem Dev.failOpen_intake_slots (d : Dev) (i0 code : Nat) : (d.failOpen i0 code).intake.slots = d.intake.slots := by
 obtain ⟨_, _, _, _, _, _, _, _, _, _, _, _, h⟩ := Dev.failOpen_form d i0 code
 rw [h]
@[simp] theorem Dev.failOpen_intake_dropSelect (d : Dev) (i0 code : Nat) : (d.failOpen i0 code).intake.dropSelect = d.intake.dropSelect := by
 obtain ⟨_, _, _, _, _, _, _, _, _, _, _, _, h⟩ := Dev.failOpen_form d i0 code
 rw [h]
@[simp] theorem Dev.failOpen_comp (d : Dev) (i0 code : Nat) : (d.failOpen i0 code).comp = d.comp := by
 obtain ⟨_, _, _, _, _, _, _, _, _, _, _, _, h⟩ := Dev.failOpen_form d i0 code
 rw [h]
@[simp] theorem Dev.failOpen_tack (d : Dev) (i0 code : Nat) : (d.failOpen i0 code).tack = d.tack := by
 obtain ⟨_, _, _, _, _, _, _, _, _, _, _, _, h⟩ := Dev.failOpen_form d i0 code
 rw [h]
@[simp] theorem Dev.failOpen_push (d : Dev) (i0 code : Nat) : (d.failOpen i0 code).push = d.push := by
 obtain ⟨_, _, _, _, _, _, _, _, _, _, _, _, h⟩ := Dev.failOpen_form d i0 code
 rw [h]
@[simp] theorem Dev.failOpen_draws (d : Dev) (i0 code : Nat) : (d.failOpen i0 code).draws = d.draws := by
 obtain ⟨_, _, _, _, _, _, _, _, _, _, _, _, h⟩ := Dev.failOpen_form d i0 code
 rw [h]
@[simp] theorem Dev.failOpen_dram (d : Dev) (i0 code : Nat) : (d.failOpen i0 code).dram = d.dram := by
 obtain ⟨_, _, _, _, _, _, _, _, _, _, _, _, h⟩ := Dev.failOpen_form d i0 code
 rw [h]
@[simp] theorem Dev.failOpen_memlog (d : Dev) (i0 code : Nat) : (d.failOpen i0 code).memlog = d.memlog := by
 obtain ⟨_, _, _, _, _, _, _, _, _, _, _, _, h⟩ := Dev.failOpen_form d i0 code
 rw [h]
@[simp] theorem Dev.failOpen_dict_locks (d : Dev) (i0 code : Nat) : (d.failOpen i0 code).dict.locks = d.dict.locks := by
 obtain ⟨_, _, _, _, _, _, _, _, _, _, _, _, h⟩ := Dev.failOpen_form d i0 code
 rw [h]
@[simp] theorem Dev.failOpen_dict_claims (d : Dev) (i0 code : Nat) : (d.failOpen i0 code).dict.claims = d.dict.claims := by
 obtain ⟨_, _, _, _, _, _, _, _, _, _, _, _, h⟩ := Dev.failOpen_form d i0 code
 rw [h]
@[simp] theorem Dev.failOpen_dict_subs (d : Dev) (i0 code : Nat) : (d.failOpen i0 code).dict.subs = d.dict.subs := by
 obtain ⟨_, _, _, _, _, _, _, _, _, _, _, _, h⟩ := Dev.failOpen_form d i0 code
 rw [h]
@[simp] theorem Dev.failOpen_dict_writers (d : Dev) (i0 code : Nat) : (d.failOpen i0 code).dict.writers = d.dict.writers := by
 obtain ⟨_, _, _, _, _, _, _, _, _, _, _, _, h⟩ := Dev.failOpen_form d i0 code
 rw [h]
@[simp] theorem Dev.failOpen_dict_arbs (d : Dev) (i0 code : Nat) : (d.failOpen i0 code).dict.arbs = d.dict.arbs := by
 obtain ⟨_, _, _, _, _, _, _, _, _, _, _, _, h⟩ := Dev.failOpen_form d i0 code
 rw [h]
@[simp] theorem Dev.failOpen_dict_waiting (d : Dev) (i0 code : Nat) : (d.failOpen i0 code).dict.waiting = d.dict.waiting := by
 obtain ⟨_, _, _, _, _, _, _, _, _, _, _, _, h⟩ := Dev.failOpen_form d i0 code
 rw [h]
@[simp] theorem Dev.failOpen_dict_clients (d : Dev) (i0 code : Nat) : (d.failOpen i0 code).dict.clients = d.dict.clients := by
 obtain ⟨_, _, _, _, _, _, _, _, _, _, _, _, h⟩ := Dev.failOpen_form d i0 code
 rw [h]
@[simp] theorem Dev.failOpen_dict_confNext (d : Dev) (i0 code : Nat) : (d.failOpen i0 code).dict.confNext = d.dict.confNext := by
 obtain ⟨_, _, _, _, _, _, _, _, _, _, _, _, h⟩ := Dev.failOpen_form d i0 code
 rw [h]
@[simp] theorem Dev.failOpen_dict_conf (d : Dev) (i0 code : Nat) : (d.failOpen i0 code).dict.conf = d.dict.conf := by
 obtain ⟨_, _, _, _, _, _, _, _, _, _, _, _, h⟩ := Dev.failOpen_form d i0 code
 rw [h]
@[simp] theorem Dev.failOpen_dict_lastStatus (d : Dev) (i0 code : Nat) : (d.failOpen i0 code).dict.lastStatus = d.dict.lastStatus := by
 obtain ⟨_, _, _, _, _, _, _, _, _, _, _, _, h⟩ := Dev.failOpen_form d i0 code
 rw [h]
@[simp] theorem Dev.failOpen_dict_lastEntry (d : Dev) (i0 code : Nat) : (d.failOpen i0 code).dict.lastEntry = d.dict.lastEntry := by
 obtain ⟨_, _, _, _, _, _, _, _, _, _, _, _, h⟩ := Dev.failOpen_form d i0 code
 rw [h]
@[simp] theorem Dev.failOpen_dict_lastMaster (d : Dev) (i0 code : Nat) : (d.failOpen i0 code).dict.lastMaster = d.dict.lastMaster := by
 obtain ⟨_, _, _, _, _, _, _, _, _, _, _, _, h⟩ := Dev.failOpen_form d i0 code
 rw [h]
@[simp] theorem Dev.failOpen_dict_lastTack (d : Dev) (i0 code : Nat) : (d.failOpen i0 code).dict.lastTack = d.dict.lastTack := by
 obtain ⟨_, _, _, _, _, _, _, _, _, _, _, _, h⟩ := Dev.failOpen_form d i0 code
 rw [h]
@[simp] theorem Dev.failOpen_dict_comm (d : Dev) (i0 code : Nat) : (d.failOpen i0 code).dict.comm = d.dict.comm := by
 obtain ⟨_, _, _, _, _, _, _, _, _, _, _, _, h⟩ := Dev.failOpen_form d i0 code
 rw [h]
@[simp] theorem Dev.failOpen_dict_commDue (d : Dev) (i0 code : Nat) : (d.failOpen i0 code).dict.commDue = d.dict.commDue := by
 obtain ⟨_, _, _, _, _, _, _, _, _, _, _, _, h⟩ := Dev.failOpen_form d i0 code
 rw [h]
@[simp] theorem Dev.failOpen_pw (d : Dev) (i0 code : Nat) : (d.failOpen i0 code).pw = d.pw := by
 obtain ⟨_, _, _, _, _, _, _, _, _, _, _, _, h⟩ := Dev.failOpen_form d i0 code
 rw [h]
@[simp] theorem Dev.failOpen_fw (d : Dev) (i0 code : Nat) : (d.failOpen i0 code).fw = d.fw := by
 obtain ⟨_, _, _, _, _, _, _, _, _, _, _, _, h⟩ := Dev.failOpen_form d i0 code
 rw [h]
@[simp] theorem Dev.failOpen_th (d : Dev) (i0 code : Nat) : (d.failOpen i0 code).th = d.th := by
 obtain ⟨_, _, _, _, _, _, _, _, _, _, _, _, h⟩ := Dev.failOpen_form d i0 code
 rw [h]
@[simp] theorem Dev.failOpen_trim (d : Dev) (i0 code : Nat) : (d.failOpen i0 code).trim = d.trim := by
 obtain ⟨_, _, _, _, _, _, _, _, _, _, _, _, h⟩ := Dev.failOpen_form d i0 code
 rw [h]
@[simp] theorem Dev.failOpen_ledger (d : Dev) (i0 code : Nat) : (d.failOpen i0 code).ledger = d.ledger := by
 obtain ⟨_, _, _, _, _, _, _, _, _, _, _, _, h⟩ := Dev.failOpen_form d i0 code
 rw [h]
@[simp] theorem Dev.failOpen_flt (d : Dev) (i0 code : Nat) : (d.failOpen i0 code).flt = d.flt := by
 obtain ⟨_, _, _, _, _, _, _, _, _, _, _, _, h⟩ := Dev.failOpen_form d i0 code
 rw [h]
@[simp] theorem Dev.failOpen_lines (d : Dev) (i0 code : Nat) : (d.failOpen i0 code).lines = d.lines := by
 obtain ⟨_, _, _, _, _, _, _, _, _, _, _, _, h⟩ := Dev.failOpen_form d i0 code
 rw [h]
@[simp] theorem Dev.failOpen_now (d : Dev) (i0 code : Nat) : (d.failOpen i0 code).now = d.now := by
 obtain ⟨_, _, _, _, _, _, _, _, _, _, _, _, h⟩ := Dev.failOpen_form d i0 code
 rw [h]
@[simp] theorem Dev.failOpen_buf (d : Dev) (i0 code : Nat) (h : U16) : (d.failOpen i0 code).buf h = d.buf h := by simp [Dev.buf]
@[simp] theorem Dev.failOpen_slot (d : Dev) (i0 code : Nat) (n : Nat) : (d.failOpen i0 code).slot n = d.slot n := by simp [Dev.slot]
@[simp] theorem Dev.failOpen_feed (d : Dev) (i0 code : Nat) (f : FeedId) : (d.failOpen i0 code).feed f = d.feed f := by simp [Dev.feed]
@[simp] theorem Dev.failOpen_thresher (d : Dev) (i0 code : Nat) (i : ThresherId) : (d.failOpen i0 code).thresher i = d.thresher i := by simp [Dev.thresher]
@[simp] theorem Dev.failOpen_vslot (d : Dev) (i0 code : Nat) (n : Nat) : (d.failOpen i0 code).vslot n = d.vslot n := by simp [Dev.vslot]
@[simp] theorem Dev.failOpen_sail (d : Dev) (i0 code : Nat) (i : SailId) : (d.failOpen i0 code).sail i = d.sail i := by simp [Dev.sail]
@[simp] theorem Dev.failOpen_mast (d : Dev) (i0 code : Nat) (i : MastId) : (d.failOpen i0 code).mast i = d.mast i := by simp [Dev.mast]
@[simp] theorem Dev.failOpen_cluster (d : Dev) (i0 code : Nat) (i : ClusterId) : (d.failOpen i0 code).cluster i = d.cluster i := by simp [Dev.cluster]
@[simp] theorem Dev.failOpen_chan (d : Dev) (i0 code : Nat) (n : Nat) : (d.failOpen i0 code).chan n = d.chan n := by simp [Dev.chan]
@[simp] theorem Dev.failOpen_sensor (d : Dev) (i0 code : Nat) (n : Nat) : (d.failOpen i0 code).sensor n = d.sensor n := by simp [Dev.sensor]
@[simp] theorem Dev.failOpen_partn (d : Dev) (i0 code : Nat) (n : Nat) : (d.failOpen i0 code).partn n = d.partn n := by simp [Dev.partn]
@[simp] theorem Dev.failOpen_ap (d : Dev) (i0 code : Nat) (n : Nat) : (d.failOpen i0 code).ap n = d.ap n := by simp [Dev.ap]
@[simp] theorem Dev.failOpen_tval (d : Dev) (i0 code : Nat) (k : Nat) : (d.failOpen i0 code).tval k = d.tval k := by simp [Dev.tval]
@[simp] theorem Dev.failOpen_openTack (d : Dev) (i0 code : Nat) : (d.failOpen i0 code).openTack = d.openTack := by simp [Dev.openTack]
@[simp] theorem Dev.failOpen_powered (d : Dev) (i0 code : Nat) : (d.failOpen i0 code).powered = d.powered := by simp [Dev.powered]
@[simp] theorem Dev.failOpen_up (d : Dev) (i0 code : Nat) : (d.failOpen i0 code).up = d.up := by simp [Dev.up]
@[simp] theorem Dev.failOpen_live (d : Dev) (i0 code : Nat) (r : BufRef) : (d.failOpen i0 code).live r = d.live r := by simp [Dev.live]
@[simp] theorem Dev.failOpen_sizeOf (d : Dev) (i0 code : Nat) (r : BufRef) : (d.failOpen i0 code).sizeOf r = d.sizeOf r := by simp [Dev.sizeOf]
@[simp] theorem Dev.failOpen_byteAt (d : Dev) (i0 code : Nat) (a : Nat) : (d.failOpen i0 code).byteAt a = d.byteAt a := by simp [Dev.byteAt]
@[simp] theorem Dev.failOpen_sailExists (d : Dev) (i0 code : Nat) (n : Nat) : (d.failOpen i0 code).sailExists n = d.sailExists n := by simp [Dev.sailExists]
@[simp] theorem Dev.failOpen_mastList (d : Dev) (i0 code : Nat) : (d.failOpen i0 code).mastList = d.mastList := by simp [Dev.mastList]

/-- Everything `logFault` can do. -/
theorem Dev.logFault_form (d : Dev) (c0 u0 y0 : Nat) : ∃ v_flt_recs v_flt_next v_dict_vals, d.logFault c0 u0 y0 =
    { d with flt := { d.flt with recs := v_flt_recs, next := v_flt_next }, dict := { d.dict with vals := v_dict_vals } } := by
  exact ⟨_, _, _, rfl⟩

/-! #### `logFault` changes flt.recs, flt.next, dict.vals and nothing else -/

@[simp] theorem Dev.logFault_fuses (d : Dev) (c0 u0 y0 : Nat) : (d.logFault c0 u0 y0).fuses = d.fuses := by
 obtain ⟨_, _, _, h⟩ := Dev.logFault_form d c0 u0 y0
 rw [h]
@[simp] theorem Dev.logFault_link (d : Dev) (c0 u0 y0 : Nat) : (d.logFault c0 u0 y0).link = d.link := by
 obtain ⟨_, _, _, h⟩ := Dev.logFault_form d c0 u0 y0
 rw [h]
@[simp] theorem Dev.logFault_host (d : Dev) (c0 u0 y0 : Nat) : (d.logFault c0 u0 y0).host = d.host := by
 obtain ⟨_, _, _, h⟩ := Dev.logFault_form d c0 u0 y0
 rw [h]
@[simp] theorem Dev.logFault_xfer (d : Dev) (c0 u0 y0 : Nat) : (d.logFault c0 u0 y0).xfer = d.xfer := by
 obtain ⟨_, _, _, h⟩ := Dev.logFault_form d c0 u0 y0
 rw [h]
@[simp] theorem Dev.logFault_ring (d : Dev) (c0 u0 y0 : Nat) : (d.logFault c0 u0 y0).ring = d.ring := by
 obtain ⟨_, _, _, h⟩ := Dev.logFault_form d c0 u0 y0
 rw [h]
@[simp] theorem Dev.logFault_qs (d : Dev) (c0 u0 y0 : Nat) : (d.logFault c0 u0 y0).qs = d.qs := by
 obtain ⟨_, _, _, h⟩ := Dev.logFault_form d c0 u0 y0
 rw [h]
@[simp] theorem Dev.logFault_intake (d : Dev) (c0 u0 y0 : Nat) : (d.logFault c0 u0 y0).intake = d.intake := by
 obtain ⟨_, _, _, h⟩ := Dev.logFault_form d c0 u0 y0
 rw [h]
@[simp] theorem Dev.logFault_comp (d : Dev) (c0 u0 y0 : Nat) : (d.logFault c0 u0 y0).comp = d.comp := by
 obtain ⟨_, _, _, h⟩ := Dev.logFault_form d c0 u0 y0
 rw [h]
@[simp] theorem Dev.logFault_tack (d : Dev) (c0 u0 y0 : Nat) : (d.logFault c0 u0 y0).tack = d.tack := by
 obtain ⟨_, _, _, h⟩ := Dev.logFault_form d c0 u0 y0
 rw [h]
@[simp] theorem Dev.logFault_push (d : Dev) (c0 u0 y0 : Nat) : (d.logFault c0 u0 y0).push = d.push := by
 obtain ⟨_, _, _, h⟩ := Dev.logFault_form d c0 u0 y0
 rw [h]
@[simp] theorem Dev.logFault_draws (d : Dev) (c0 u0 y0 : Nat) : (d.logFault c0 u0 y0).draws = d.draws := by
 obtain ⟨_, _, _, h⟩ := Dev.logFault_form d c0 u0 y0
 rw [h]
@[simp] theorem Dev.logFault_dram (d : Dev) (c0 u0 y0 : Nat) : (d.logFault c0 u0 y0).dram = d.dram := by
 obtain ⟨_, _, _, h⟩ := Dev.logFault_form d c0 u0 y0
 rw [h]
@[simp] theorem Dev.logFault_memlog (d : Dev) (c0 u0 y0 : Nat) : (d.logFault c0 u0 y0).memlog = d.memlog := by
 obtain ⟨_, _, _, h⟩ := Dev.logFault_form d c0 u0 y0
 rw [h]
@[simp] theorem Dev.logFault_dict_locks (d : Dev) (c0 u0 y0 : Nat) : (d.logFault c0 u0 y0).dict.locks = d.dict.locks := by
 obtain ⟨_, _, _, h⟩ := Dev.logFault_form d c0 u0 y0
 rw [h]
@[simp] theorem Dev.logFault_dict_claims (d : Dev) (c0 u0 y0 : Nat) : (d.logFault c0 u0 y0).dict.claims = d.dict.claims := by
 obtain ⟨_, _, _, h⟩ := Dev.logFault_form d c0 u0 y0
 rw [h]
@[simp] theorem Dev.logFault_dict_subs (d : Dev) (c0 u0 y0 : Nat) : (d.logFault c0 u0 y0).dict.subs = d.dict.subs := by
 obtain ⟨_, _, _, h⟩ := Dev.logFault_form d c0 u0 y0
 rw [h]
@[simp] theorem Dev.logFault_dict_writers (d : Dev) (c0 u0 y0 : Nat) : (d.logFault c0 u0 y0).dict.writers = d.dict.writers := by
 obtain ⟨_, _, _, h⟩ := Dev.logFault_form d c0 u0 y0
 rw [h]
@[simp] theorem Dev.logFault_dict_arbs (d : Dev) (c0 u0 y0 : Nat) : (d.logFault c0 u0 y0).dict.arbs = d.dict.arbs := by
 obtain ⟨_, _, _, h⟩ := Dev.logFault_form d c0 u0 y0
 rw [h]
@[simp] theorem Dev.logFault_dict_waiting (d : Dev) (c0 u0 y0 : Nat) : (d.logFault c0 u0 y0).dict.waiting = d.dict.waiting := by
 obtain ⟨_, _, _, h⟩ := Dev.logFault_form d c0 u0 y0
 rw [h]
@[simp] theorem Dev.logFault_dict_clients (d : Dev) (c0 u0 y0 : Nat) : (d.logFault c0 u0 y0).dict.clients = d.dict.clients := by
 obtain ⟨_, _, _, h⟩ := Dev.logFault_form d c0 u0 y0
 rw [h]
@[simp] theorem Dev.logFault_dict_confNext (d : Dev) (c0 u0 y0 : Nat) : (d.logFault c0 u0 y0).dict.confNext = d.dict.confNext := by
 obtain ⟨_, _, _, h⟩ := Dev.logFault_form d c0 u0 y0
 rw [h]
@[simp] theorem Dev.logFault_dict_conf (d : Dev) (c0 u0 y0 : Nat) : (d.logFault c0 u0 y0).dict.conf = d.dict.conf := by
 obtain ⟨_, _, _, h⟩ := Dev.logFault_form d c0 u0 y0
 rw [h]
@[simp] theorem Dev.logFault_dict_lastStatus (d : Dev) (c0 u0 y0 : Nat) : (d.logFault c0 u0 y0).dict.lastStatus = d.dict.lastStatus := by
 obtain ⟨_, _, _, h⟩ := Dev.logFault_form d c0 u0 y0
 rw [h]
@[simp] theorem Dev.logFault_dict_lastEntry (d : Dev) (c0 u0 y0 : Nat) : (d.logFault c0 u0 y0).dict.lastEntry = d.dict.lastEntry := by
 obtain ⟨_, _, _, h⟩ := Dev.logFault_form d c0 u0 y0
 rw [h]
@[simp] theorem Dev.logFault_dict_lastMaster (d : Dev) (c0 u0 y0 : Nat) : (d.logFault c0 u0 y0).dict.lastMaster = d.dict.lastMaster := by
 obtain ⟨_, _, _, h⟩ := Dev.logFault_form d c0 u0 y0
 rw [h]
@[simp] theorem Dev.logFault_dict_lastTack (d : Dev) (c0 u0 y0 : Nat) : (d.logFault c0 u0 y0).dict.lastTack = d.dict.lastTack := by
 obtain ⟨_, _, _, h⟩ := Dev.logFault_form d c0 u0 y0
 rw [h]
@[simp] theorem Dev.logFault_dict_comm (d : Dev) (c0 u0 y0 : Nat) : (d.logFault c0 u0 y0).dict.comm = d.dict.comm := by
 obtain ⟨_, _, _, h⟩ := Dev.logFault_form d c0 u0 y0
 rw [h]
@[simp] theorem Dev.logFault_dict_commDue (d : Dev) (c0 u0 y0 : Nat) : (d.logFault c0 u0 y0).dict.commDue = d.dict.commDue := by
 obtain ⟨_, _, _, h⟩ := Dev.logFault_form d c0 u0 y0
 rw [h]
@[simp] theorem Dev.logFault_pw (d : Dev) (c0 u0 y0 : Nat) : (d.logFault c0 u0 y0).pw = d.pw := by
 obtain ⟨_, _, _, h⟩ := Dev.logFault_form d c0 u0 y0
 rw [h]
@[simp] theorem Dev.logFault_fw (d : Dev) (c0 u0 y0 : Nat) : (d.logFault c0 u0 y0).fw = d.fw := by
 obtain ⟨_, _, _, h⟩ := Dev.logFault_form d c0 u0 y0
 rw [h]
@[simp] theorem Dev.logFault_th (d : Dev) (c0 u0 y0 : Nat) : (d.logFault c0 u0 y0).th = d.th := by
 obtain ⟨_, _, _, h⟩ := Dev.logFault_form d c0 u0 y0
 rw [h]
@[simp] theorem Dev.logFault_trim (d : Dev) (c0 u0 y0 : Nat) : (d.logFault c0 u0 y0).trim = d.trim := by
 obtain ⟨_, _, _, h⟩ := Dev.logFault_form d c0 u0 y0
 rw [h]
@[simp] theorem Dev.logFault_ledger (d : Dev) (c0 u0 y0 : Nat) : (d.logFault c0 u0 y0).ledger = d.ledger := by
 obtain ⟨_, _, _, h⟩ := Dev.logFault_form d c0 u0 y0
 rw [h]
@[simp] theorem Dev.logFault_flt_parts (d : Dev) (c0 u0 y0 : Nat) : (d.logFault c0 u0 y0).flt.parts = d.flt.parts := by
 obtain ⟨_, _, _, h⟩ := Dev.logFault_form d c0 u0 y0
 rw [h]
@[simp] theorem Dev.logFault_flt_reqs (d : Dev) (c0 u0 y0 : Nat) : (d.logFault c0 u0 y0).flt.reqs = d.flt.reqs := by
 obtain ⟨_, _, _, h⟩ := Dev.logFault_form d c0 u0 y0
 rw [h]
@[simp] theorem Dev.logFault_flt_queue (d : Dev) (c0 u0 y0 : Nat) : (d.logFault c0 u0 y0).flt.queue = d.flt.queue := by
 obtain ⟨_, _, _, h⟩ := Dev.logFault_form d c0 u0 y0
 rw [h]
@[simp] theorem Dev.logFault_flt_scan (d : Dev) (c0 u0 y0 : Nat) : (d.logFault c0 u0 y0).flt.scan = d.flt.scan := by
 obtain ⟨_, _, _, h⟩ := Dev.logFault_form d c0 u0 y0
 rw [h]
@[simp] theorem Dev.logFault_flt_authOk (d : Dev) (c0 u0 y0 : Nat) : (d.logFault c0 u0 y0).flt.authOk = d.flt.authOk := by
 obtain ⟨_, _, _, h⟩ := Dev.logFault_form d c0 u0 y0
 rw [h]
@[simp] theorem Dev.logFault_flt_extest (d : Dev) (c0 u0 y0 : Nat) : (d.logFault c0 u0 y0).flt.extest = d.flt.extest := by
 obtain ⟨_, _, _, h⟩ := Dev.logFault_form d c0 u0 y0
 rw [h]
@[simp] theorem Dev.logFault_flt_ir (d : Dev) (c0 u0 y0 : Nat) : (d.logFault c0 u0 y0).flt.ir = d.flt.ir := by
 obtain ⟨_, _, _, h⟩ := Dev.logFault_form d c0 u0 y0
 rw [h]
@[simp] theorem Dev.logFault_flt_engines (d : Dev) (c0 u0 y0 : Nat) : (d.logFault c0 u0 y0).flt.engines = d.flt.engines := by
 obtain ⟨_, _, _, h⟩ := Dev.logFault_form d c0 u0 y0
 rw [h]
@[simp] theorem Dev.logFault_lines (d : Dev) (c0 u0 y0 : Nat) : (d.logFault c0 u0 y0).lines = d.lines := by
 obtain ⟨_, _, _, h⟩ := Dev.logFault_form d c0 u0 y0
 rw [h]
@[simp] theorem Dev.logFault_now (d : Dev) (c0 u0 y0 : Nat) : (d.logFault c0 u0 y0).now = d.now := by
 obtain ⟨_, _, _, h⟩ := Dev.logFault_form d c0 u0 y0
 rw [h]
@[simp] theorem Dev.logFault_free (d : Dev) (c0 u0 y0 : Nat) : (d.logFault c0 u0 y0).free = d.free := by
 obtain ⟨_, _, _, h⟩ := Dev.logFault_form d c0 u0 y0
 rw [h]
@[simp] theorem Dev.logFault_out (d : Dev) (c0 u0 y0 : Nat) : (d.logFault c0 u0 y0).out = d.out := by
 obtain ⟨_, _, _, h⟩ := Dev.logFault_form d c0 u0 y0
 rw [h]
@[simp] theorem Dev.logFault_queue (d : Dev) (c0 u0 y0 : Nat) (q : QueueId) : (d.logFault c0 u0 y0).queue q = d.queue q := by simp [Dev.queue]
@[simp] theorem Dev.logFault_buf (d : Dev) (c0 u0 y0 : Nat) (h : U16) : (d.logFault c0 u0 y0).buf h = d.buf h := by simp [Dev.buf]
@[simp] theorem Dev.logFault_slot (d : Dev) (c0 u0 y0 : Nat) (n : Nat) : (d.logFault c0 u0 y0).slot n = d.slot n := by simp [Dev.slot]
@[simp] theorem Dev.logFault_feed (d : Dev) (c0 u0 y0 : Nat) (f : FeedId) : (d.logFault c0 u0 y0).feed f = d.feed f := by simp [Dev.feed]
@[simp] theorem Dev.logFault_thresher (d : Dev) (c0 u0 y0 : Nat) (i : ThresherId) : (d.logFault c0 u0 y0).thresher i = d.thresher i := by simp [Dev.thresher]
@[simp] theorem Dev.logFault_vslot (d : Dev) (c0 u0 y0 : Nat) (n : Nat) : (d.logFault c0 u0 y0).vslot n = d.vslot n := by simp [Dev.vslot]
@[simp] theorem Dev.logFault_sail (d : Dev) (c0 u0 y0 : Nat) (i : SailId) : (d.logFault c0 u0 y0).sail i = d.sail i := by simp [Dev.sail]
@[simp] theorem Dev.logFault_mast (d : Dev) (c0 u0 y0 : Nat) (i : MastId) : (d.logFault c0 u0 y0).mast i = d.mast i := by simp [Dev.mast]
@[simp] theorem Dev.logFault_cluster (d : Dev) (c0 u0 y0 : Nat) (i : ClusterId) : (d.logFault c0 u0 y0).cluster i = d.cluster i := by simp [Dev.cluster]
@[simp] theorem Dev.logFault_chan (d : Dev) (c0 u0 y0 : Nat) (n : Nat) : (d.logFault c0 u0 y0).chan n = d.chan n := by simp [Dev.chan]
@[simp] theorem Dev.logFault_sensor (d : Dev) (c0 u0 y0 : Nat) (n : Nat) : (d.logFault c0 u0 y0).sensor n = d.sensor n := by simp [Dev.sensor]
@[simp] theorem Dev.logFault_partn (d : Dev) (c0 u0 y0 : Nat) (n : Nat) : (d.logFault c0 u0 y0).partn n = d.partn n := by simp [Dev.partn]
@[simp] theorem Dev.logFault_ap (d : Dev) (c0 u0 y0 : Nat) (n : Nat) : (d.logFault c0 u0 y0).ap n = d.ap n := by simp [Dev.ap]
@[simp] theorem Dev.logFault_tval (d : Dev) (c0 u0 y0 : Nat) (k : Nat) : (d.logFault c0 u0 y0).tval k = d.tval k := by simp [Dev.tval]
@[simp] theorem Dev.logFault_openTack (d : Dev) (c0 u0 y0 : Nat) : (d.logFault c0 u0 y0).openTack = d.openTack := by simp [Dev.openTack]
@[simp] theorem Dev.logFault_powered (d : Dev) (c0 u0 y0 : Nat) : (d.logFault c0 u0 y0).powered = d.powered := by simp [Dev.powered]
@[simp] theorem Dev.logFault_up (d : Dev) (c0 u0 y0 : Nat) : (d.logFault c0 u0 y0).up = d.up := by simp [Dev.up]
@[simp] theorem Dev.logFault_live (d : Dev) (c0 u0 y0 : Nat) (r : BufRef) : (d.logFault c0 u0 y0).live r = d.live r := by simp [Dev.live]
@[simp] theorem Dev.logFault_sizeOf (d : Dev) (c0 u0 y0 : Nat) (r : BufRef) : (d.logFault c0 u0 y0).sizeOf r = d.sizeOf r := by simp [Dev.sizeOf]
@[simp] theorem Dev.logFault_byteAt (d : Dev) (c0 u0 y0 : Nat) (a : Nat) : (d.logFault c0 u0 y0).byteAt a = d.byteAt a := by simp [Dev.byteAt]
@[simp] theorem Dev.logFault_sailExists (d : Dev) (c0 u0 y0 : Nat) (n : Nat) : (d.logFault c0 u0 y0).sailExists n = d.sailExists n := by simp [Dev.sailExists]
@[simp] theorem Dev.logFault_mastList (d : Dev) (c0 u0 y0 : Nat) : (d.logFault c0 u0 y0).mastList = d.mastList := by simp [Dev.mastList]
@[simp] theorem Dev.logFault_freeAt (d : Dev) (c0 u0 y0 : Nat) (n : Nat) : (d.logFault c0 u0 y0).freeAt n = d.freeAt n := by simp [Dev.freeAt]

/-- Everything `scramble` can do. -/
theorem Dev.scramble_form (d : Dev) (a0 n0 : Nat) : ∃ v_dram_data v_dram_old v_intake_races v_free, d.scramble a0 n0 =
    { d with dram := { d.dram with data := v_dram_data, old := v_dram_old }, intake := { d.intake with races := v_intake_races }, free := v_free } := by
  exact ⟨_, _, _, _, rfl⟩

/-! #### `scramble` changes dram.data, dram.old, intake.races, free and nothing else -/

@[simp] theorem Dev.scramble_fuses (d : Dev) (a0 n0 : Nat) : (d.scramble a0 n0).fuses = d.fuses := by
 obtain ⟨_, _, _, _, h⟩ := Dev.scramble_form d a0 n0
 rw [h]
@[simp] theorem Dev.scramble_link (d : Dev) (a0 n0 : Nat) : (d.scramble a0 n0).link = d.link := by
 obtain ⟨_, _, _, _, h⟩ := Dev.scramble_form d a0 n0
 rw [h]
@[simp] theorem Dev.scramble_host (d : Dev) (a0 n0 : Nat) : (d.scramble a0 n0).host = d.host := by
 obtain ⟨_, _, _, _, h⟩ := Dev.scramble_form d a0 n0
 rw [h]
@[simp] theorem Dev.scramble_xfer (d : Dev) (a0 n0 : Nat) : (d.scramble a0 n0).xfer = d.xfer := by
 obtain ⟨_, _, _, _, h⟩ := Dev.scramble_form d a0 n0
 rw [h]
@[simp] theorem Dev.scramble_ring (d : Dev) (a0 n0 : Nat) : (d.scramble a0 n0).ring = d.ring := by
 obtain ⟨_, _, _, _, h⟩ := Dev.scramble_form d a0 n0
 rw [h]
@[simp] theorem Dev.scramble_qs (d : Dev) (a0 n0 : Nat) : (d.scramble a0 n0).qs = d.qs := by
 obtain ⟨_, _, _, _, h⟩ := Dev.scramble_form d a0 n0
 rw [h]
@[simp] theorem Dev.scramble_intake_threshers (d : Dev) (a0 n0 : Nat) : (d.scramble a0 n0).intake.threshers = d.intake.threshers := by
 obtain ⟨_, _, _, _, h⟩ := Dev.scramble_form d a0 n0
 rw [h]
@[simp] theorem Dev.scramble_intake_feeds (d : Dev) (a0 n0 : Nat) : (d.scramble a0 n0).intake.feeds = d.intake.feeds := by
 obtain ⟨_, _, _, _, h⟩ := Dev.scramble_form d a0 n0
 rw [h]
@[simp] theorem Dev.scramble_intake_waiting (d : Dev) (a0 n0 : Nat) : (d.scramble a0 n0).intake.waiting = d.intake.waiting := by
 obtain ⟨_, _, _, _, h⟩ := Dev.scramble_form d a0 n0
 rw [h]
@[simp] theorem Dev.scramble_intake_lastFault (d : Dev) (a0 n0 : Nat) : (d.scramble a0 n0).intake.lastFault = d.intake.lastFault := by
 obtain ⟨_, _, _, _, h⟩ := Dev.scramble_form d a0 n0
 rw [h]
@[simp] theorem Dev.scramble_intake_slots (d : Dev) (a0 n0 : Nat) : (d.scramble a0 n0).intake.slots = d.intake.slots := by
 obtain ⟨_, _, _, _, h⟩ := Dev.scramble_form d a0 n0
 rw [h]
@[simp] theorem Dev.scramble_intake_dropSelect (d : Dev) (a0 n0 : Nat) : (d.scramble a0 n0).intake.dropSelect = d.intake.dropSelect := by
 obtain ⟨_, _, _, _, h⟩ := Dev.scramble_form d a0 n0
 rw [h]
@[simp] theorem Dev.scramble_comp (d : Dev) (a0 n0 : Nat) : (d.scramble a0 n0).comp = d.comp := by
 obtain ⟨_, _, _, _, h⟩ := Dev.scramble_form d a0 n0
 rw [h]
@[simp] theorem Dev.scramble_tack (d : Dev) (a0 n0 : Nat) : (d.scramble a0 n0).tack = d.tack := by
 obtain ⟨_, _, _, _, h⟩ := Dev.scramble_form d a0 n0
 rw [h]
@[simp] theorem Dev.scramble_push (d : Dev) (a0 n0 : Nat) : (d.scramble a0 n0).push = d.push := by
 obtain ⟨_, _, _, _, h⟩ := Dev.scramble_form d a0 n0
 rw [h]
@[simp] theorem Dev.scramble_draws (d : Dev) (a0 n0 : Nat) : (d.scramble a0 n0).draws = d.draws := by
 obtain ⟨_, _, _, _, h⟩ := Dev.scramble_form d a0 n0
 rw [h]
@[simp] theorem Dev.scramble_dram_issued (d : Dev) (a0 n0 : Nat) : (d.scramble a0 n0).dram.issued = d.dram.issued := by
 obtain ⟨_, _, _, _, h⟩ := Dev.scramble_form d a0 n0
 rw [h]
@[simp] theorem Dev.scramble_dram_asked (d : Dev) (a0 n0 : Nat) : (d.scramble a0 n0).dram.asked = d.dram.asked := by
 obtain ⟨_, _, _, _, h⟩ := Dev.scramble_form d a0 n0
 rw [h]
@[simp] theorem Dev.scramble_dram_caches (d : Dev) (a0 n0 : Nat) : (d.scramble a0 n0).dram.caches = d.dram.caches := by
 obtain ⟨_, _, _, _, h⟩ := Dev.scramble_form d a0 n0
 rw [h]
@[simp] theorem Dev.scramble_dram_picks (d : Dev) (a0 n0 : Nat) : (d.scramble a0 n0).dram.picks = d.dram.picks := by
 obtain ⟨_, _, _, _, h⟩ := Dev.scramble_form d a0 n0
 rw [h]
@[simp] theorem Dev.scramble_dram_upsets (d : Dev) (a0 n0 : Nat) : (d.scramble a0 n0).dram.upsets = d.dram.upsets := by
 obtain ⟨_, _, _, _, h⟩ := Dev.scramble_form d a0 n0
 rw [h]
@[simp] theorem Dev.scramble_dram_capGiB (d : Dev) (a0 n0 : Nat) : (d.scramble a0 n0).dram.capGiB = d.dram.capGiB := by
 obtain ⟨_, _, _, _, h⟩ := Dev.scramble_form d a0 n0
 rw [h]
@[simp] theorem Dev.scramble_dram_ranks (d : Dev) (a0 n0 : Nat) : (d.scramble a0 n0).dram.ranks = d.dram.ranks := by
 obtain ⟨_, _, _, _, h⟩ := Dev.scramble_form d a0 n0
 rw [h]
@[simp] theorem Dev.scramble_dram_lp5x (d : Dev) (a0 n0 : Nat) : (d.scramble a0 n0).dram.lp5x = d.dram.lp5x := by
 obtain ⟨_, _, _, _, h⟩ := Dev.scramble_form d a0 n0
 rw [h]
@[simp] theorem Dev.scramble_dram_ident (d : Dev) (a0 n0 : Nat) : (d.scramble a0 n0).dram.ident = d.dram.ident := by
 obtain ⟨_, _, _, _, h⟩ := Dev.scramble_form d a0 n0
 rw [h]
@[simp] theorem Dev.scramble_dram_up (d : Dev) (a0 n0 : Nat) : (d.scramble a0 n0).dram.up = d.dram.up := by
 obtain ⟨_, _, _, _, h⟩ := Dev.scramble_form d a0 n0
 rw [h]
@[simp] theorem Dev.scramble_dram_selfRefresh (d : Dev) (a0 n0 : Nat) : (d.scramble a0 n0).dram.selfRefresh = d.dram.selfRefresh := by
 obtain ⟨_, _, _, _, h⟩ := Dev.scramble_form d a0 n0
 rw [h]
@[simp] theorem Dev.scramble_dram_rate (d : Dev) (a0 n0 : Nat) : (d.scramble a0 n0).dram.rate = d.dram.rate := by
 obtain ⟨_, _, _, _, h⟩ := Dev.scramble_form d a0 n0
 rw [h]
@[simp] theorem Dev.scramble_dram_points (d : Dev) (a0 n0 : Nat) : (d.scramble a0 n0).dram.points = d.dram.points := by
 obtain ⟨_, _, _, _, h⟩ := Dev.scramble_form d a0 n0
 rw [h]
@[simp] theorem Dev.scramble_dram_eccGiB (d : Dev) (a0 n0 : Nat) : (d.scramble a0 n0).dram.eccGiB = d.dram.eccGiB := by
 obtain ⟨_, _, _, _, h⟩ := Dev.scramble_form d a0 n0
 rw [h]
@[simp] theorem Dev.scramble_dram_map (d : Dev) (a0 n0 : Nat) : (d.scramble a0 n0).dram.map = d.dram.map := by
 obtain ⟨_, _, _, _, h⟩ := Dev.scramble_form d a0 n0
 rw [h]
@[simp] theorem Dev.scramble_dram_lost (d : Dev) (a0 n0 : Nat) : (d.scramble a0 n0).dram.lost = d.dram.lost := by
 obtain ⟨_, _, _, _, h⟩ := Dev.scramble_form d a0 n0
 rw [h]
@[simp] theorem Dev.scramble_dram_gone (d : Dev) (a0 n0 : Nat) : (d.scramble a0 n0).dram.gone = d.dram.gone := by
 obtain ⟨_, _, _, _, h⟩ := Dev.scramble_form d a0 n0
 rw [h]
@[simp] theorem Dev.scramble_dram_band (d : Dev) (a0 n0 : Nat) : (d.scramble a0 n0).dram.band = d.dram.band := by
 obtain ⟨_, _, _, _, h⟩ := Dev.scramble_form d a0 n0
 rw [h]
@[simp] theorem Dev.scramble_dram_tempMax (d : Dev) (a0 n0 : Nat) : (d.scramble a0 n0).dram.tempMax = d.dram.tempMax := by
 obtain ⟨_, _, _, _, h⟩ := Dev.scramble_form d a0 n0
 rw [h]
@[simp] theorem Dev.scramble_dram_hotSince (d : Dev) (a0 n0 : Nat) : (d.scramble a0 n0).dram.hotSince = d.dram.hotSince := by
 obtain ⟨_, _, _, _, h⟩ := Dev.scramble_form d a0 n0
 rw [h]
@[simp] theorem Dev.scramble_dram_coolSince (d : Dev) (a0 n0 : Nat) : (d.scramble a0 n0).dram.coolSince = d.dram.coolSince := by
 obtain ⟨_, _, _, _, h⟩ := Dev.scramble_form d a0 n0
 rw [h]
@[simp] theorem Dev.scramble_dram_switchTo (d : Dev) (a0 n0 : Nat) : (d.scramble a0 n0).dram.switchTo = d.dram.switchTo := by
 obtain ⟨_, _, _, _, h⟩ := Dev.scramble_form d a0 n0
 rw [h]
@[simp] theorem Dev.scramble_dram_forced (d : Dev) (a0 n0 : Nat) : (d.scramble a0 n0).dram.forced = d.dram.forced := by
 obtain ⟨_, _, _, _, h⟩ := Dev.scramble_form d a0 n0
 rw [h]
@[simp] theorem Dev.scramble_dram_stepped (d : Dev) (a0 n0 : Nat) : (d.scramble a0 n0).dram.stepped = d.dram.stepped := by
 obtain ⟨_, _, _, _, h⟩ := Dev.scramble_form d a0 n0
 rw [h]
@[simp] theorem Dev.scramble_dram_trainLast (d : Dev) (a0 n0 : Nat) : (d.scramble a0 n0).dram.trainLast = d.dram.trainLast := by
 obtain ⟨_, _, _, _, h⟩ := Dev.scramble_form d a0 n0
 rw [h]
@[simp] theorem Dev.scramble_dram_chans (d : Dev) (a0 n0 : Nat) : (d.scramble a0 n0).dram.chans = d.dram.chans := by
 obtain ⟨_, _, _, _, h⟩ := Dev.scramble_form d a0 n0
 rw [h]
@[simp] theorem Dev.scramble_memlog (d : Dev) (a0 n0 : Nat) : (d.scramble a0 n0).memlog = d.memlog := by
 obtain ⟨_, _, _, _, h⟩ := Dev.scramble_form d a0 n0
 rw [h]
@[simp] theorem Dev.scramble_dict (d : Dev) (a0 n0 : Nat) : (d.scramble a0 n0).dict = d.dict := by
 obtain ⟨_, _, _, _, h⟩ := Dev.scramble_form d a0 n0
 rw [h]
@[simp] theorem Dev.scramble_pw (d : Dev) (a0 n0 : Nat) : (d.scramble a0 n0).pw = d.pw := by
 obtain ⟨_, _, _, _, h⟩ := Dev.scramble_form d a0 n0
 rw [h]
@[simp] theorem Dev.scramble_fw (d : Dev) (a0 n0 : Nat) : (d.scramble a0 n0).fw = d.fw := by
 obtain ⟨_, _, _, _, h⟩ := Dev.scramble_form d a0 n0
 rw [h]
@[simp] theorem Dev.scramble_th (d : Dev) (a0 n0 : Nat) : (d.scramble a0 n0).th = d.th := by
 obtain ⟨_, _, _, _, h⟩ := Dev.scramble_form d a0 n0
 rw [h]
@[simp] theorem Dev.scramble_trim (d : Dev) (a0 n0 : Nat) : (d.scramble a0 n0).trim = d.trim := by
 obtain ⟨_, _, _, _, h⟩ := Dev.scramble_form d a0 n0
 rw [h]
@[simp] theorem Dev.scramble_ledger (d : Dev) (a0 n0 : Nat) : (d.scramble a0 n0).ledger = d.ledger := by
 obtain ⟨_, _, _, _, h⟩ := Dev.scramble_form d a0 n0
 rw [h]
@[simp] theorem Dev.scramble_flt (d : Dev) (a0 n0 : Nat) : (d.scramble a0 n0).flt = d.flt := by
 obtain ⟨_, _, _, _, h⟩ := Dev.scramble_form d a0 n0
 rw [h]
@[simp] theorem Dev.scramble_lines (d : Dev) (a0 n0 : Nat) : (d.scramble a0 n0).lines = d.lines := by
 obtain ⟨_, _, _, _, h⟩ := Dev.scramble_form d a0 n0
 rw [h]
@[simp] theorem Dev.scramble_now (d : Dev) (a0 n0 : Nat) : (d.scramble a0 n0).now = d.now := by
 obtain ⟨_, _, _, _, h⟩ := Dev.scramble_form d a0 n0
 rw [h]
@[simp] theorem Dev.scramble_out (d : Dev) (a0 n0 : Nat) : (d.scramble a0 n0).out = d.out := by
 obtain ⟨_, _, _, _, h⟩ := Dev.scramble_form d a0 n0
 rw [h]
@[simp] theorem Dev.scramble_queue (d : Dev) (a0 n0 : Nat) (q : QueueId) : (d.scramble a0 n0).queue q = d.queue q := by simp [Dev.queue]
@[simp] theorem Dev.scramble_buf (d : Dev) (a0 n0 : Nat) (h : U16) : (d.scramble a0 n0).buf h = d.buf h := by simp [Dev.buf]
@[simp] theorem Dev.scramble_slot (d : Dev) (a0 n0 : Nat) (n : Nat) : (d.scramble a0 n0).slot n = d.slot n := by simp [Dev.slot]
@[simp] theorem Dev.scramble_feed (d : Dev) (a0 n0 : Nat) (f : FeedId) : (d.scramble a0 n0).feed f = d.feed f := by simp [Dev.feed]
@[simp] theorem Dev.scramble_thresher (d : Dev) (a0 n0 : Nat) (i : ThresherId) : (d.scramble a0 n0).thresher i = d.thresher i := by simp [Dev.thresher]
@[simp] theorem Dev.scramble_vslot (d : Dev) (a0 n0 : Nat) (n : Nat) : (d.scramble a0 n0).vslot n = d.vslot n := by simp [Dev.vslot]
@[simp] theorem Dev.scramble_sail (d : Dev) (a0 n0 : Nat) (i : SailId) : (d.scramble a0 n0).sail i = d.sail i := by simp [Dev.sail]
@[simp] theorem Dev.scramble_mast (d : Dev) (a0 n0 : Nat) (i : MastId) : (d.scramble a0 n0).mast i = d.mast i := by simp [Dev.mast]
@[simp] theorem Dev.scramble_cluster (d : Dev) (a0 n0 : Nat) (i : ClusterId) : (d.scramble a0 n0).cluster i = d.cluster i := by simp [Dev.cluster]
@[simp] theorem Dev.scramble_chan (d : Dev) (a0 n0 : Nat) (n : Nat) : (d.scramble a0 n0).chan n = d.chan n := by simp [Dev.chan]
@[simp] theorem Dev.scramble_sensor (d : Dev) (a0 n0 : Nat) (n : Nat) : (d.scramble a0 n0).sensor n = d.sensor n := by simp [Dev.sensor]
@[simp] theorem Dev.scramble_partn (d : Dev) (a0 n0 : Nat) (n : Nat) : (d.scramble a0 n0).partn n = d.partn n := by simp [Dev.partn]
@[simp] theorem Dev.scramble_ap (d : Dev) (a0 n0 : Nat) (n : Nat) : (d.scramble a0 n0).ap n = d.ap n := by simp [Dev.ap]
@[simp] theorem Dev.scramble_val (d : Dev) (a0 n0 : Nat) (k : Nat) : (d.scramble a0 n0).val k = d.val k := by simp [Dev.val]
@[simp] theorem Dev.scramble_tval (d : Dev) (a0 n0 : Nat) (k : Nat) : (d.scramble a0 n0).tval k = d.tval k := by simp [Dev.tval]
@[simp] theorem Dev.scramble_openTack (d : Dev) (a0 n0 : Nat) : (d.scramble a0 n0).openTack = d.openTack := by simp [Dev.openTack]
@[simp] theorem Dev.scramble_powered (d : Dev) (a0 n0 : Nat) : (d.scramble a0 n0).powered = d.powered := by simp [Dev.powered]
@[simp] theorem Dev.scramble_up (d : Dev) (a0 n0 : Nat) : (d.scramble a0 n0).up = d.up := by simp [Dev.up]
@[simp] theorem Dev.scramble_live (d : Dev) (a0 n0 : Nat) (r : BufRef) : (d.scramble a0 n0).live r = d.live r := by simp [Dev.live]
@[simp] theorem Dev.scramble_sizeOf (d : Dev) (a0 n0 : Nat) (r : BufRef) : (d.scramble a0 n0).sizeOf r = d.sizeOf r := by simp [Dev.sizeOf]
@[simp] theorem Dev.scramble_sailExists (d : Dev) (a0 n0 : Nat) (n : Nat) : (d.scramble a0 n0).sailExists n = d.sailExists n := by simp [Dev.sailExists]
@[simp] theorem Dev.scramble_mastList (d : Dev) (a0 n0 : Nat) : (d.scramble a0 n0).mastList = d.mastList := by simp [Dev.mastList]

/-- Everything `reject` can do. -/
theorem Dev.reject_form (d : Dev) (q0 : QueueId) (h0 : Hdr) (op code det : Nat) (more : Option Nat) : ∃ v_ring v_host_unsignalled v_host_timerOn v_host_pba v_link_wake v_dict_vals v_out v_qs_nextId v_qs_cmds v_qs_queues v_qs_fences v_intake_races, d.reject q0 h0 op code det more =
    { d with ring := v_ring, host := { d.host with unsignalled := v_host_unsignalled, timerOn := v_host_timerOn, pba := v_host_pba }, link := { d.link with wake := v_link_wake }, dict := { d.dict with vals := v_dict_vals }, out := v_out, qs := { d.qs with nextId := v_qs_nextId, cmds := v_qs_cmds, queues := v_qs_queues, fences := v_qs_fences }, intake := { d.intake with races := v_intake_races } } := by
  obtain ⟨_, _, _, _, _, _, _, _, _, _, _, h⟩ := Dev.failCmd_form (d.dispatch q0 h0 op []) d.qs.nextId code det more
  unfold Dev.reject
  rw [h]
  exact ⟨_, _, _, _, _, _, _, _, _, _, _, _, rfl⟩

/-! #### `reject` changes ring, host.unsignalled, host.timerOn, host.pba, link.wake, dict.vals, out, qs.nextId, qs.cmds, qs.queues, qs.fences, intake.races and nothing else -/

@[simp] theorem Dev.reject_fuses (d : Dev) (q0 : QueueId) (h0 : Hdr) (op code det : Nat) (more : Option Nat) : (d.reject q0 h0 op code det more).fuses = d.fuses := by
 obtain ⟨_, _, _, _, _, _, _, _, _, _, _, _, h⟩ := Dev.reject_form d q0 h0 op code det more
 rw [h]
@[simp] theorem Dev.reject_link_vbus (d : Dev) (q0 : QueueId) (h0 : Hdr) (op code det : Nat) (more : Option Nat) : (d.reject q0 h0 op code det more).link.vbus = d.link.vbus := by
 obtain ⟨_, _, _, _, _, _, _, _, _, _, _, _, h⟩ := Dev.reject_form d q0 h0 op code det more
 rw [h]
@[simp] theorem Dev.reject_link_usb4 (d : Dev) (q0 : QueueId) (h0 : Hdr) (op code det : Nat) (more : Option Nat) : (d.reject q0 h0 op code det more).link.usb4 = d.link.usb4 := by
 obtain ⟨_, _, _, _, _, _, _, _, _, _, _, _, h⟩ := Dev.reject_form d q0 h0 op code det more
 rw [h]
@[simp] theorem Dev.reject_link_ss (d : Dev) (q0 : QueueId) (h0 : Hdr) (op code det : Nat) (more : Option Nat) : (d.reject q0 h0 op code det more).link.ss = d.link.ss := by
 obtain ⟨_, _, _, _, _, _, _, _, _, _, _, _, h⟩ := Dev.reject_form d q0 h0 op code det more
 rw [h]
@[simp] theorem Dev.reject_link_hs (d : Dev) (q0 : QueueId) (h0 : Hdr) (op code det : Nat) (more : Option Nat) : (d.reject q0 h0 op code det more).link.hs = d.link.hs := by
 obtain ⟨_, _, _, _, _, _, _, _, _, _, _, _, h⟩ := Dev.reject_form d q0 h0 op code det more
 rw [h]
@[simp] theorem Dev.reject_link_bme (d : Dev) (q0 : QueueId) (h0 : Hdr) (op code det : Nat) (more : Option Nat) : (d.reject q0 h0 op code det more).link.bme = d.link.bme := by
 obtain ⟨_, _, _, _, _, _, _, _, _, _, _, _, h⟩ := Dev.reject_form d q0 h0 op code det more
 rw [h]
@[simp] theorem Dev.reject_link_d3hot (d : Dev) (q0 : QueueId) (h0 : Hdr) (op code det : Nat) (more : Option Nat) : (d.reject q0 h0 op code det more).link.d3hot = d.link.d3hot := by
 obtain ⟨_, _, _, _, _, _, _, _, _, _, _, _, h⟩ := Dev.reject_form d q0 h0 op code det more
 rw [h]
@[simp] theorem Dev.reject_link_msixEnable (d : Dev) (q0 : QueueId) (h0 : Hdr) (op code det : Nat) (more : Option Nat) : (d.reject q0 h0 op code det more).link.msixEnable = d.link.msixEnable := by
 obtain ⟨_, _, _, _, _, _, _, _, _, _, _, _, h⟩ := Dev.reject_form d q0 h0 op code det more
 rw [h]
@[simp] theorem Dev.reject_link_msixMask (d : Dev) (q0 : QueueId) (h0 : Hdr) (op code det : Nat) (more : Option Nat) : (d.reject q0 h0 op code det more).link.msixMask = d.link.msixMask := by
 obtain ⟨_, _, _, _, _, _, _, _, _, _, _, _, h⟩ := Dev.reject_form d q0 h0 op code det more
 rw [h]
@[simp] theorem Dev.reject_link_maxPayload (d : Dev) (q0 : QueueId) (h0 : Hdr) (op code det : Nat) (more : Option Nat) : (d.reject q0 h0 op code det more).link.maxPayload = d.link.maxPayload := by
 obtain ⟨_, _, _, _, _, _, _, _, _, _, _, _, h⟩ := Dev.reject_form d q0 h0 op code det more
 rw [h]
@[simp] theorem Dev.reject_link_maxRead (d : Dev) (q0 : QueueId) (h0 : Hdr) (op code det : Nat) (more : Option Nat) : (d.reject q0 h0 op code det more).link.maxRead = d.link.maxRead := by
 obtain ⟨_, _, _, _, _, _, _, _, _, _, _, _, h⟩ := Dev.reject_form d q0 h0 op code det more
 rw [h]
@[simp] theorem Dev.reject_link_bars (d : Dev) (q0 : QueueId) (h0 : Hdr) (op code det : Nat) (more : Option Nat) : (d.reject q0 h0 op code det more).link.bars = d.link.bars := by
 obtain ⟨_, _, _, _, _, _, _, _, _, _, _, _, h⟩ := Dev.reject_form d q0 h0 op code det more
 rw [h]
@[simp] theorem Dev.reject_link_bar2Log2 (d : Dev) (q0 : QueueId) (h0 : Hdr) (op code det : Nat) (more : Option Nat) : (d.reject q0 h0 op code det more).link.bar2Log2 = d.link.bar2Log2 := by
 obtain ⟨_, _, _, _, _, _, _, _, _, _, _, _, h⟩ := Dev.reject_form d q0 h0 op code det more
 rw [h]
@[simp] theorem Dev.reject_link_pathEnable (d : Dev) (q0 : QueueId) (h0 : Hdr) (op code det : Nat) (more : Option Nat) : (d.reject q0 h0 op code det more).link.pathEnable = d.link.pathEnable := by
 obtain ⟨_, _, _, _, _, _, _, _, _, _, _, _, h⟩ := Dev.reject_form d q0 h0 op code det more
 rw [h]
@[simp] theorem Dev.reject_link_subsysVendor (d : Dev) (q0 : QueueId) (h0 : Hdr) (op code det : Nat) (more : Option Nat) : (d.reject q0 h0 op code det more).link.subsysVendor = d.link.subsysVendor := by
 obtain ⟨_, _, _, _, _, _, _, _, _, _, _, _, h⟩ := Dev.reject_form d q0 h0 op code det more
 rw [h]
@[simp] theorem Dev.reject_link_subsysId (d : Dev) (q0 : QueueId) (h0 : Hdr) (op code det : Nat) (more : Option Nat) : (d.reject q0 h0 op code det more).link.subsysId = d.link.subsysId := by
 obtain ⟨_, _, _, _, _, _, _, _, _, _, _, _, h⟩ := Dev.reject_form d q0 h0 op code det more
 rw [h]
@[simp] theorem Dev.reject_link_susp3 (d : Dev) (q0 : QueueId) (h0 : Hdr) (op code det : Nat) (more : Option Nat) : (d.reject q0 h0 op code det more).link.susp3 = d.link.susp3 := by
 obtain ⟨_, _, _, _, _, _, _, _, _, _, _, _, h⟩ := Dev.reject_form d q0 h0 op code det more
 rw [h]
@[simp] theorem Dev.reject_link_susp2 (d : Dev) (q0 : QueueId) (h0 : Hdr) (op code det : Nat) (more : Option Nat) : (d.reject q0 h0 op code det more).link.susp2 = d.link.susp2 := by
 obtain ⟨_, _, _, _, _, _, _, _, _, _, _, _, h⟩ := Dev.reject_form d q0 h0 op code det more
 rw [h]
@[simp] theorem Dev.reject_link_fs (d : Dev) (q0 : QueueId) (h0 : Hdr) (op code det : Nat) (more : Option Nat) : (d.reject q0 h0 op code det more).link.fs = d.link.fs := by
 obtain ⟨_, _, _, _, _, _, _, _, _, _, _, _, h⟩ := Dev.reject_form d q0 h0 op code det more
 rw [h]
@[simp] theorem Dev.reject_link_low (d : Dev) (q0 : QueueId) (h0 : Hdr) (op code det : Nat) (more : Option Nat) : (d.reject q0 h0 op code det more).link.low = d.link.low := by
 obtain ⟨_, _, _, _, _, _, _, _, _, _, _, _, h⟩ := Dev.reject_form d q0 h0 op code det more
 rw [h]
@[simp] theorem Dev.reject_host_owner (d : Dev) (q0 : QueueId) (h0 : Hdr) (op code det : Nat) (more : Option Nat) : (d.reject q0 h0 op code det more).host.owner = d.host.owner := by
 obtain ⟨_, _, _, _, _, _, _, _, _, _, _, _, h⟩ := Dev.reject_form d q0 h0 op code det more
 rw [h]
@[simp] theorem Dev.reject_host_sessionCtr (d : Dev) (q0 : QueueId) (h0 : Hdr) (op code det : Nat) (more : Option Nat) : (d.reject q0 h0 op code det more).host.sessionCtr = d.host.sessionCtr := by
 obtain ⟨_, _, _, _, _, _, _, _, _, _, _, _, h⟩ := Dev.reject_form d q0 h0 op code det more
 rw [h]
@[simp] theorem Dev.reject_host_viol (d : Dev) (q0 : QueueId) (h0 : Hdr) (op code det : Nat) (more : Option Nat) : (d.reject q0 h0 op code det more).host.viol = d.host.viol := by
 obtain ⟨_, _, _, _, _, _, _, _, _, _, _, _, h⟩ := Dev.reject_form d q0 h0 op code det more
 rw [h]
@[simp] theorem Dev.reject_host_intMod (d : Dev) (q0 : QueueId) (h0 : Hdr) (op code det : Nat) (more : Option Nat) : (d.reject q0 h0 op code det more).host.intMod = d.host.intMod := by
 obtain ⟨_, _, _, _, _, _, _, _, _, _, _, _, h⟩ := Dev.reject_form d q0 h0 op code det more
 rw [h]
@[simp] theorem Dev.reject_host_aps (d : Dev) (q0 : QueueId) (h0 : Hdr) (op code det : Nat) (more : Option Nat) : (d.reject q0 h0 op code det more).host.aps = d.host.aps := by
 obtain ⟨_, _, _, _, _, _, _, _, _, _, _, _, h⟩ := Dev.reject_form d q0 h0 op code det more
 rw [h]
@[simp] theorem Dev.reject_host_msix (d : Dev) (q0 : QueueId) (h0 : Hdr) (op code det : Nat) (more : Option Nat) : (d.reject q0 h0 op code det more).host.msix = d.host.msix := by
 obtain ⟨_, _, _, _, _, _, _, _, _, _, _, _, h⟩ := Dev.reject_form d q0 h0 op code det more
 rw [h]
@[simp] theorem Dev.reject_host_violSource (d : Dev) (q0 : QueueId) (h0 : Hdr) (op code det : Nat) (more : Option Nat) : (d.reject q0 h0 op code det more).host.violSource = d.host.violSource := by
 obtain ⟨_, _, _, _, _, _, _, _, _, _, _, _, h⟩ := Dev.reject_form d q0 h0 op code det more
 rw [h]
@[simp] theorem Dev.reject_host_violAddr (d : Dev) (q0 : QueueId) (h0 : Hdr) (op code det : Nat) (more : Option Nat) : (d.reject q0 h0 op code det more).host.violAddr = d.host.violAddr := by
 obtain ⟨_, _, _, _, _, _, _, _, _, _, _, _, h⟩ := Dev.reject_form d q0 h0 op code det more
 rw [h]
@[simp] theorem Dev.reject_host_violHandle (d : Dev) (q0 : QueueId) (h0 : Hdr) (op code det : Nat) (more : Option Nat) : (d.reject q0 h0 op code det more).host.violHandle = d.host.violHandle := by
 obtain ⟨_, _, _, _, _, _, _, _, _, _, _, _, h⟩ := Dev.reject_form d q0 h0 op code det more
 rw [h]
@[simp] theorem Dev.reject_host_violTack (d : Dev) (q0 : QueueId) (h0 : Hdr) (op code det : Nat) (more : Option Nat) : (d.reject q0 h0 op code det more).host.violTack = d.host.violTack := by
 obtain ⟨_, _, _, _, _, _, _, _, _, _, _, _, h⟩ := Dev.reject_form d q0 h0 op code det more
 rw [h]
@[simp] theorem Dev.reject_host_violSince (d : Dev) (q0 : QueueId) (h0 : Hdr) (op code det : Nat) (more : Option Nat) : (d.reject q0 h0 op code det more).host.violSince = d.host.violSince := by
 obtain ⟨_, _, _, _, _, _, _, _, _, _, _, _, h⟩ := Dev.reject_form d q0 h0 op code det more
 rw [h]
@[simp] theorem Dev.reject_host_violAt (d : Dev) (q0 : QueueId) (h0 : Hdr) (op code det : Nat) (more : Option Nat) : (d.reject q0 h0 op code det more).host.violAt = d.host.violAt := by
 obtain ⟨_, _, _, _, _, _, _, _, _, _, _, _, h⟩ := Dev.reject_form d q0 h0 op code det more
 rw [h]
@[simp] theorem Dev.reject_xfer (d : Dev) (q0 : QueueId) (h0 : Hdr) (op code det : Nat) (more : Option Nat) : (d.reject q0 h0 op code det more).xfer = d.xfer := by
 obtain ⟨_, _, _, _, _, _, _, _, _, _, _, _, h⟩ := Dev.reject_form d q0 h0 op code det more
 rw [h]
@[simp] theorem Dev.reject_qs_lastGrant (d : Dev) (q0 : QueueId) (h0 : Hdr) (op code det : Nat) (more : Option Nat) : (d.reject q0 h0 op code det more).qs.lastGrant = d.qs.lastGrant := by
 obtain ⟨_, _, _, _, _, _, _, _, _, _, _, _, h⟩ := Dev.reject_form d q0 h0 op code det more
 rw [h]
@[simp] theorem Dev.reject_qs_bufs (d : Dev) (q0 : QueueId) (h0 : Hdr) (op code det : Nat) (more : Option Nat) : (d.reject q0 h0 op code det more).qs.bufs = d.qs.bufs := by
 obtain ⟨_, _, _, _, _, _, _, _, _, _, _, _, h⟩ := Dev.reject_form d q0 h0 op code det more
 rw [h]
@[simp] theorem Dev.reject_qs_fresh (d : Dev) (q0 : QueueId) (h0 : Hdr) (op code det : Nat) (more : Option Nat) : (d.reject q0 h0 op code det more).qs.fresh = d.qs.fresh := by
 obtain ⟨_, _, _, _, _, _, _, _, _, _, _, _, h⟩ := Dev.reject_form d q0 h0 op code det more
 rw [h]
@[simp] theorem Dev.reject_qs_freed (d : Dev) (q0 : QueueId) (h0 : Hdr) (op code det : Nat) (more : Option Nat) : (d.reject q0 h0 op code det more).qs.freed = d.qs.freed := by
 obtain ⟨_, _, _, _, _, _, _, _, _, _, _, _, h⟩ := Dev.reject_form d q0 h0 op code det more
 rw [h]
@[simp] theorem Dev.reject_qs_slots (d : Dev) (q0 : QueueId) (h0 : Hdr) (op code det : Nat) (more : Option Nat) : (d.reject q0 h0 op code det more).qs.slots = d.qs.slots := by
 obtain ⟨_, _, _, _, _, _, _, _, _, _, _, _, h⟩ := Dev.reject_form d q0 h0 op code det more
 rw [h]
@[simp] theorem Dev.reject_qs_holds (d : Dev) (q0 : QueueId) (h0 : Hdr) (op code det : Nat) (more : Option Nat) : (d.reject q0 h0 op code det more).qs.holds = d.qs.holds := by
 obtain ⟨_, _, _, _, _, _, _, _, _, _, _, _, h⟩ := Dev.reject_form d q0 h0 op code det more
 rw [h]
@[simp] theorem Dev.reject_qs_dmas (d : Dev) (q0 : QueueId) (h0 : Hdr) (op code det : Nat) (more : Option Nat) : (d.reject q0 h0 op code det more).qs.dmas = d.qs.dmas := by
 obtain ⟨_, _, _, _, _, _, _, _, _, _, _, _, h⟩ := Dev.reject_form d q0 h0 op code det more
 rw [h]
@[simp] theorem Dev.reject_intake_threshers (d : Dev) (q0 : QueueId) (h0 : Hdr) (op code det : Nat) (more : Option Nat) : (d.reject q0 h0 op code det more).intake.threshers = d.intake.threshers := by
 obtain ⟨_, _, _, _, _, _, _, _, _, _, _, _, h⟩ := Dev.reject_form d q0 h0 op code det more
 rw [h]
@[simp] theorem Dev.reject_intake_feeds (d : Dev) (q0 : QueueId) (h0 : Hdr) (op code det : Nat) (more : Option Nat) : (d.reject q0 h0 op code det more).intake.feeds = d.intake.feeds := by
 obtain ⟨_, _, _, _, _, _, _, _, _, _, _, _, h⟩ := Dev.reject_form d q0 h0 op code det more
 rw [h]
@[simp] theorem Dev.reject_intake_waiting (d : Dev) (q0 : QueueId) (h0 : Hdr) (op code det : Nat) (more : Option Nat) : (d.reject q0 h0 op code det more).intake.waiting = d.intake.waiting := by
 obtain ⟨_, _, _, _, _, _, _, _, _, _, _, _, h⟩ := Dev.reject_form d q0 h0 op code det more
 rw [h]
@[simp] theorem Dev.reject_intake_lastFault (d : Dev) (q0 : QueueId) (h0 : Hdr) (op code det : Nat) (more : Option Nat) : (d.reject q0 h0 op code det more).intake.lastFault = d.intake.lastFault := by
 obtain ⟨_, _, _, _, _, _, _, _, _, _, _, _, h⟩ := Dev.reject_form d q0 h0 op code det more
 rw [h]
@[simp] theorem Dev.reject_intake_slots (d : Dev) (q0 : QueueId) (h0 : Hdr) (op code det : Nat) (more : Option Nat) : (d.reject q0 h0 op code det more).intake.slots = d.intake.slots := by
 obtain ⟨_, _, _, _, _, _, _, _, _, _, _, _, h⟩ := Dev.reject_form d q0 h0 op code det more
 rw [h]
@[simp] theorem Dev.reject_intake_dropSelect (d : Dev) (q0 : QueueId) (h0 : Hdr) (op code det : Nat) (more : Option Nat) : (d.reject q0 h0 op code det more).intake.dropSelect = d.intake.dropSelect := by
 obtain ⟨_, _, _, _, _, _, _, _, _, _, _, _, h⟩ := Dev.reject_form d q0 h0 op code det more
 rw [h]
@[simp] theorem Dev.reject_comp (d : Dev) (q0 : QueueId) (h0 : Hdr) (op code det : Nat) (more : Option Nat) : (d.reject q0 h0 op code det more).comp = d.comp := by
 obtain ⟨_, _, _, _, _, _, _, _, _, _, _, _, h⟩ := Dev.reject_form d q0 h0 op code det more
 rw [h]
@[simp] theorem Dev.reject_tack (d : Dev) (q0 : QueueId) (h0 : Hdr) (op code det : Nat) (more : Option Nat) : (d.reject q0 h0 op code det more).tack = d.tack := by
 obtain ⟨_, _, _, _, _, _, _, _, _, _, _, _, h⟩ := Dev.reject_form d q0 h0 op code det more
 rw [h]
@[simp] theorem Dev.reject_push (d : Dev) (q0 : QueueId) (h0 : Hdr) (op code det : Nat) (more : Option Nat) : (d.reject q0 h0 op code det more).push = d.push := by
 obtain ⟨_, _, _, _, _, _, _, _, _, _, _, _, h⟩ := Dev.reject_form d q0 h0 op code det more
 rw [h]
@[simp] theorem Dev.reject_draws (d : Dev) (q0 : QueueId) (h0 : Hdr) (op code det : Nat) (more : Option Nat) : (d.reject q0 h0 op code det more).draws = d.draws := by
 obtain ⟨_, _, _, _, _, _, _, _, _, _, _, _, h⟩ := Dev.reject_form d q0 h0 op code det more
 rw [h]
@[simp] theorem Dev.reject_dram (d : Dev) (q0 : QueueId) (h0 : Hdr) (op code det : Nat) (more : Option Nat) : (d.reject q0 h0 op code det more).dram = d.dram := by
 obtain ⟨_, _, _, _, _, _, _, _, _, _, _, _, h⟩ := Dev.reject_form d q0 h0 op code det more
 rw [h]
@[simp] theorem Dev.reject_memlog (d : Dev) (q0 : QueueId) (h0 : Hdr) (op code det : Nat) (more : Option Nat) : (d.reject q0 h0 op code det more).memlog = d.memlog := by
 obtain ⟨_, _, _, _, _, _, _, _, _, _, _, _, h⟩ := Dev.reject_form d q0 h0 op code det more
 rw [h]
@[simp] theorem Dev.reject_dict_locks (d : Dev) (q0 : QueueId) (h0 : Hdr) (op code det : Nat) (more : Option Nat) : (d.reject q0 h0 op code det more).dict.locks = d.dict.locks := by
 obtain ⟨_, _, _, _, _, _, _, _, _, _, _, _, h⟩ := Dev.reject_form d q0 h0 op code det more
 rw [h]
@[simp] theorem Dev.reject_dict_claims (d : Dev) (q0 : QueueId) (h0 : Hdr) (op code det : Nat) (more : Option Nat) : (d.reject q0 h0 op code det more).dict.claims = d.dict.claims := by
 obtain ⟨_, _, _, _, _, _, _, _, _, _, _, _, h⟩ := Dev.reject_form d q0 h0 op code det more
 rw [h]
@[simp] theorem Dev.reject_dict_subs (d : Dev) (q0 : QueueId) (h0 : Hdr) (op code det : Nat) (more : Option Nat) : (d.reject q0 h0 op code det more).dict.subs = d.dict.subs := by
 obtain ⟨_, _, _, _, _, _, _, _, _, _, _, _, h⟩ := Dev.reject_form d q0 h0 op code det more
 rw [h]
@[simp] theorem Dev.reject_dict_writers (d : Dev) (q0 : QueueId) (h0 : Hdr) (op code det : Nat) (more : Option Nat) : (d.reject q0 h0 op code det more).dict.writers = d.dict.writers := by
 obtain ⟨_, _, _, _, _, _, _, _, _, _, _, _, h⟩ := Dev.reject_form d q0 h0 op code det more
 rw [h]
@[simp] theorem Dev.reject_dict_arbs (d : Dev) (q0 : QueueId) (h0 : Hdr) (op code det : Nat) (more : Option Nat) : (d.reject q0 h0 op code det more).dict.arbs = d.dict.arbs := by
 obtain ⟨_, _, _, _, _, _, _, _, _, _, _, _, h⟩ := Dev.reject_form d q0 h0 op code det more
 rw [h]
@[simp] theorem Dev.reject_dict_waiting (d : Dev) (q0 : QueueId) (h0 : Hdr) (op code det : Nat) (more : Option Nat) : (d.reject q0 h0 op code det more).dict.waiting = d.dict.waiting := by
 obtain ⟨_, _, _, _, _, _, _, _, _, _, _, _, h⟩ := Dev.reject_form d q0 h0 op code det more
 rw [h]
@[simp] theorem Dev.reject_dict_clients (d : Dev) (q0 : QueueId) (h0 : Hdr) (op code det : Nat) (more : Option Nat) : (d.reject q0 h0 op code det more).dict.clients = d.dict.clients := by
 obtain ⟨_, _, _, _, _, _, _, _, _, _, _, _, h⟩ := Dev.reject_form d q0 h0 op code det more
 rw [h]
@[simp] theorem Dev.reject_dict_confNext (d : Dev) (q0 : QueueId) (h0 : Hdr) (op code det : Nat) (more : Option Nat) : (d.reject q0 h0 op code det more).dict.confNext = d.dict.confNext := by
 obtain ⟨_, _, _, _, _, _, _, _, _, _, _, _, h⟩ := Dev.reject_form d q0 h0 op code det more
 rw [h]
@[simp] theorem Dev.reject_dict_conf (d : Dev) (q0 : QueueId) (h0 : Hdr) (op code det : Nat) (more : Option Nat) : (d.reject q0 h0 op code det more).dict.conf = d.dict.conf := by
 obtain ⟨_, _, _, _, _, _, _, _, _, _, _, _, h⟩ := Dev.reject_form d q0 h0 op code det more
 rw [h]
@[simp] theorem Dev.reject_dict_lastStatus (d : Dev) (q0 : QueueId) (h0 : Hdr) (op code det : Nat) (more : Option Nat) : (d.reject q0 h0 op code det more).dict.lastStatus = d.dict.lastStatus := by
 obtain ⟨_, _, _, _, _, _, _, _, _, _, _, _, h⟩ := Dev.reject_form d q0 h0 op code det more
 rw [h]
@[simp] theorem Dev.reject_dict_lastEntry (d : Dev) (q0 : QueueId) (h0 : Hdr) (op code det : Nat) (more : Option Nat) : (d.reject q0 h0 op code det more).dict.lastEntry = d.dict.lastEntry := by
 obtain ⟨_, _, _, _, _, _, _, _, _, _, _, _, h⟩ := Dev.reject_form d q0 h0 op code det more
 rw [h]
@[simp] theorem Dev.reject_dict_lastMaster (d : Dev) (q0 : QueueId) (h0 : Hdr) (op code det : Nat) (more : Option Nat) : (d.reject q0 h0 op code det more).dict.lastMaster = d.dict.lastMaster := by
 obtain ⟨_, _, _, _, _, _, _, _, _, _, _, _, h⟩ := Dev.reject_form d q0 h0 op code det more
 rw [h]
@[simp] theorem Dev.reject_dict_lastTack (d : Dev) (q0 : QueueId) (h0 : Hdr) (op code det : Nat) (more : Option Nat) : (d.reject q0 h0 op code det more).dict.lastTack = d.dict.lastTack := by
 obtain ⟨_, _, _, _, _, _, _, _, _, _, _, _, h⟩ := Dev.reject_form d q0 h0 op code det more
 rw [h]
@[simp] theorem Dev.reject_dict_comm (d : Dev) (q0 : QueueId) (h0 : Hdr) (op code det : Nat) (more : Option Nat) : (d.reject q0 h0 op code det more).dict.comm = d.dict.comm := by
 obtain ⟨_, _, _, _, _, _, _, _, _, _, _, _, h⟩ := Dev.reject_form d q0 h0 op code det more
 rw [h]
@[simp] theorem Dev.reject_dict_commDue (d : Dev) (q0 : QueueId) (h0 : Hdr) (op code det : Nat) (more : Option Nat) : (d.reject q0 h0 op code det more).dict.commDue = d.dict.commDue := by
 obtain ⟨_, _, _, _, _, _, _, _, _, _, _, _, h⟩ := Dev.reject_form d q0 h0 op code det more
 rw [h]
@[simp] theorem Dev.reject_pw (d : Dev) (q0 : QueueId) (h0 : Hdr) (op code det : Nat) (more : Option Nat) : (d.reject q0 h0 op code det more).pw = d.pw := by
 obtain ⟨_, _, _, _, _, _, _, _, _, _, _, _, h⟩ := Dev.reject_form d q0 h0 op code det more
 rw [h]
@[simp] theorem Dev.reject_fw (d : Dev) (q0 : QueueId) (h0 : Hdr) (op code det : Nat) (more : Option Nat) : (d.reject q0 h0 op code det more).fw = d.fw := by
 obtain ⟨_, _, _, _, _, _, _, _, _, _, _, _, h⟩ := Dev.reject_form d q0 h0 op code det more
 rw [h]
@[simp] theorem Dev.reject_th (d : Dev) (q0 : QueueId) (h0 : Hdr) (op code det : Nat) (more : Option Nat) : (d.reject q0 h0 op code det more).th = d.th := by
 obtain ⟨_, _, _, _, _, _, _, _, _, _, _, _, h⟩ := Dev.reject_form d q0 h0 op code det more
 rw [h]
@[simp] theorem Dev.reject_trim (d : Dev) (q0 : QueueId) (h0 : Hdr) (op code det : Nat) (more : Option Nat) : (d.reject q0 h0 op code det more).trim = d.trim := by
 obtain ⟨_, _, _, _, _, _, _, _, _, _, _, _, h⟩ := Dev.reject_form d q0 h0 op code det more
 rw [h]
@[simp] theorem Dev.reject_ledger (d : Dev) (q0 : QueueId) (h0 : Hdr) (op code det : Nat) (more : Option Nat) : (d.reject q0 h0 op code det more).ledger = d.ledger := by
 obtain ⟨_, _, _, _, _, _, _, _, _, _, _, _, h⟩ := Dev.reject_form d q0 h0 op code det more
 rw [h]
@[simp] theorem Dev.reject_flt (d : Dev) (q0 : QueueId) (h0 : Hdr) (op code det : Nat) (more : Option Nat) : (d.reject q0 h0 op code det more).flt = d.flt := by
 obtain ⟨_, _, _, _, _, _, _, _, _, _, _, _, h⟩ := Dev.reject_form d q0 h0 op code det more
 rw [h]
@[simp] theorem Dev.reject_lines (d : Dev) (q0 : QueueId) (h0 : Hdr) (op code det : Nat) (more : Option Nat) : (d.reject q0 h0 op code det more).lines = d.lines := by
 obtain ⟨_, _, _, _, _, _, _, _, _, _, _, _, h⟩ := Dev.reject_form d q0 h0 op code det more
 rw [h]
@[simp] theorem Dev.reject_now (d : Dev) (q0 : QueueId) (h0 : Hdr) (op code det : Nat) (more : Option Nat) : (d.reject q0 h0 op code det more).now = d.now := by
 obtain ⟨_, _, _, _, _, _, _, _, _, _, _, _, h⟩ := Dev.reject_form d q0 h0 op code det more
 rw [h]
@[simp] theorem Dev.reject_free (d : Dev) (q0 : QueueId) (h0 : Hdr) (op code det : Nat) (more : Option Nat) : (d.reject q0 h0 op code det more).free = d.free := by
 obtain ⟨_, _, _, _, _, _, _, _, _, _, _, _, h⟩ := Dev.reject_form d q0 h0 op code det more
 rw [h]
@[simp] theorem Dev.reject_buf (d : Dev) (q0 : QueueId) (h0 : Hdr) (op code det : Nat) (more : Option Nat) (h : U16) : (d.reject q0 h0 op code det more).buf h = d.buf h := by simp [Dev.buf]
@[simp] theorem Dev.reject_slot (d : Dev) (q0 : QueueId) (h0 : Hdr) (op code det : Nat) (more : Option Nat) (n : Nat) : (d.reject q0 h0 op code det more).slot n = d.slot n := by simp [Dev.slot]
@[simp] theorem Dev.reject_feed (d : Dev) (q0 : QueueId) (h0 : Hdr) (op code det : Nat) (more : Option Nat) (f : FeedId) : (d.reject q0 h0 op code det more).feed f = d.feed f := by simp [Dev.feed]
@[simp] theorem Dev.reject_thresher (d : Dev) (q0 : QueueId) (h0 : Hdr) (op code det : Nat) (more : Option Nat) (i : ThresherId) : (d.reject q0 h0 op code det more).thresher i = d.thresher i := by simp [Dev.thresher]
@[simp] theorem Dev.reject_vslot (d : Dev) (q0 : QueueId) (h0 : Hdr) (op code det : Nat) (more : Option Nat) (n : Nat) : (d.reject q0 h0 op code det more).vslot n = d.vslot n := by simp [Dev.vslot]
@[simp] theorem Dev.reject_sail (d : Dev) (q0 : QueueId) (h0 : Hdr) (op code det : Nat) (more : Option Nat) (i : SailId) : (d.reject q0 h0 op code det more).sail i = d.sail i := by simp [Dev.sail]
@[simp] theorem Dev.reject_mast (d : Dev) (q0 : QueueId) (h0 : Hdr) (op code det : Nat) (more : Option Nat) (i : MastId) : (d.reject q0 h0 op code det more).mast i = d.mast i := by simp [Dev.mast]
@[simp] theorem Dev.reject_cluster (d : Dev) (q0 : QueueId) (h0 : Hdr) (op code det : Nat) (more : Option Nat) (i : ClusterId) : (d.reject q0 h0 op code det more).cluster i = d.cluster i := by simp [Dev.cluster]
@[simp] theorem Dev.reject_chan (d : Dev) (q0 : QueueId) (h0 : Hdr) (op code det : Nat) (more : Option Nat) (n : Nat) : (d.reject q0 h0 op code det more).chan n = d.chan n := by simp [Dev.chan]
@[simp] theorem Dev.reject_sensor (d : Dev) (q0 : QueueId) (h0 : Hdr) (op code det : Nat) (more : Option Nat) (n : Nat) : (d.reject q0 h0 op code det more).sensor n = d.sensor n := by simp [Dev.sensor]
@[simp] theorem Dev.reject_partn (d : Dev) (q0 : QueueId) (h0 : Hdr) (op code det : Nat) (more : Option Nat) (n : Nat) : (d.reject q0 h0 op code det more).partn n = d.partn n := by simp [Dev.partn]
@[simp] theorem Dev.reject_ap (d : Dev) (q0 : QueueId) (h0 : Hdr) (op code det : Nat) (more : Option Nat) (n : Nat) : (d.reject q0 h0 op code det more).ap n = d.ap n := by simp [Dev.ap]
@[simp] theorem Dev.reject_tval (d : Dev) (q0 : QueueId) (h0 : Hdr) (op code det : Nat) (more : Option Nat) (k : Nat) : (d.reject q0 h0 op code det more).tval k = d.tval k := by simp [Dev.tval]
@[simp] theorem Dev.reject_openTack (d : Dev) (q0 : QueueId) (h0 : Hdr) (op code det : Nat) (more : Option Nat) : (d.reject q0 h0 op code det more).openTack = d.openTack := by simp [Dev.openTack]
@[simp] theorem Dev.reject_powered (d : Dev) (q0 : QueueId) (h0 : Hdr) (op code det : Nat) (more : Option Nat) : (d.reject q0 h0 op code det more).powered = d.powered := by simp [Dev.powered]
@[simp] theorem Dev.reject_up (d : Dev) (q0 : QueueId) (h0 : Hdr) (op code det : Nat) (more : Option Nat) : (d.reject q0 h0 op code det more).up = d.up := by simp [Dev.up]
@[simp] theorem Dev.reject_live (d : Dev) (q0 : QueueId) (h0 : Hdr) (op code det : Nat) (more : Option Nat) (r : BufRef) : (d.reject q0 h0 op code det more).live r = d.live r := by simp [Dev.live]
@[simp] theorem Dev.reject_sizeOf (d : Dev) (q0 : QueueId) (h0 : Hdr) (op code det : Nat) (more : Option Nat) (r : BufRef) : (d.reject q0 h0 op code det more).sizeOf r = d.sizeOf r := by simp [Dev.sizeOf]
@[simp] theorem Dev.reject_byteAt (d : Dev) (q0 : QueueId) (h0 : Hdr) (op code det : Nat) (more : Option Nat) (a : Nat) : (d.reject q0 h0 op code det more).byteAt a = d.byteAt a := by simp [Dev.byteAt]
@[simp] theorem Dev.reject_sailExists (d : Dev) (q0 : QueueId) (h0 : Hdr) (op code det : Nat) (more : Option Nat) (n : Nat) : (d.reject q0 h0 op code det more).sailExists n = d.sailExists n := by simp [Dev.sailExists]
@[simp] theorem Dev.reject_mastList (d : Dev) (q0 : QueueId) (h0 : Hdr) (op code det : Nat) (more : Option Nat) : (d.reject q0 h0 op code det more).mastList = d.mastList := by simp [Dev.mastList]
@[simp] theorem Dev.reject_freeAt (d : Dev) (q0 : QueueId) (h0 : Hdr) (op code det : Nat) (more : Option Nat) (n : Nat) : (d.reject q0 h0 op code det more).freeAt n = d.freeAt n := by simp [Dev.freeAt]

end Sys2Proof.Machine
end

