-- ==== Sys2Proof/Laws/Runs.lean ====
section
/-! SUPPORT. How a claim about a command is reached: the device a meaning leaves, and the frame part by part. -/

namespace Sys2Proof.Machine

theorem begin_eq (d : Dev) : d.begin = { d with out := [] } := rfl

theorem runAlways_eq (s : State) (f : Dev → Dev) : runAlways s f = .next { dev := f s.dev.begin, pending := s.pending } := rfl

/-- A meaning of the rest of the device runs where the device is powered. -/
theorem runOn_eq (s : State) (f : Dev → Dev) (h : s.dev.powered = true) :
    runOn s f = .next { dev := f s.dev.begin, pending := s.pending } := by
  have h' : s.dev.begin.powered = true := h
  simp [runOn, runAlways, h']

/-- Without power it has no effect. -/
theorem runOn_off (s : State) (f : Dev → Dev) (h : s.dev.powered = false) :
    runOn s f = .next { dev := s.dev.begin, pending := s.pending } := by
  have h' : s.dev.begin.powered = false := h
  simp [runOn, runAlways, h']

/-- A command of the rest of the device runs as its meaning does. -/
theorem Runs.of_runOn {c : Instr} {s : State} {f : Dev → Dev} {ps : List Part} {p : Dev → Prop} (e : exec c s = runOn s f)
    (h : s.dev.powered = true) (hf : Frame ps s.dev (f s.dev.begin)) (hp : p (f s.dev.begin)) : Runs c s ps p :=
  ⟨_, by rw [e, runOn_eq s f h], hf, hp⟩

theorem Becomes.of_runOn {c : Instr} {s : State} {f : Dev → Dev} {t : Dev} (e : exec c s = runOn s f) (h : s.dev.powered = true)
    (ht : f s.dev.begin = t) : Becomes c s t := by
  unfold Becomes
  rw [e, runOn_eq s f h, ht]

theorem Becomes.off {c : Instr} {s : State} {f : Dev → Dev} (e : exec c s = runOn s f) (h : s.dev.powered = false) :
    Becomes c s s.dev.begin := by
  unfold Becomes
  rw [e, runOn_off s f h]

theorem Frame.refl (ps : List Part) (d : Dev) : Frame ps d d := by
  intro p _
  cases p <;> rfl

theorem Frame.trans {ps : List Part} {a b c : Dev} (h : Frame ps a b) (g : Frame ps b c) : Frame ps a c := by
  intro p hp
  have h1 := h p hp
  have h2 := g p hp
  cases p <;> exact Eq.trans h2 h1

theorem Frame.mono {ps qs : List Part} {a b : Dev} (h : Frame ps a b) (hs : ps ⊆ qs) : Frame qs a b :=
  fun p hp => h p (fun m => hp (hs m))

/-- Dropping what was sent is no change of a part. -/
theorem Frame.begin (ps : List Part) (d : Dev) : Frame ps d d.begin := by
  intro p _
  cases p <;> rfl

/-- A foldl of steps that keep a frame keeps it. -/
theorem Frame.foldl {α : Type} {ps : List Part} (f : Dev → α → Dev) (h : ∀ d x, Frame ps d (f d x)) (l : List α) (d : Dev) :
    Frame ps d (l.foldl f d) := by
  induction l generalizing d with
  | nil => exact Frame.refl ps d
  | cons x t ih => exact (h d x).trans (ih (f d x))

theorem Frame.setAp (d : Dev) (n : Nat) (x : Ap) : Frame [.host] d (d.setAp n x) := by
  intro p hp
  cases p <;> first | exact absurd (by decide) hp | rfl

theorem Frame.event (d : Dev) (ty src x : Nat) : Frame eventParts d (d.event ty src x) := by
  intro p hp
  cases p <;> first | exact absurd (by decide) hp | simp [Dev.samePart]

theorem Frame.msix (d : Dev) (v : Nat) : Frame [.host] d (d.msix v) := by
  intro p hp
  cases p <;> first | exact absurd (by decide) hp | simp [Dev.samePart]

theorem Frame.failOpen (d : Dev) (i code : Nat) : Frame (eventParts ++ [.qs, .intake, .free]) d (d.failOpen i code) := by
  intro p hp
  cases p <;> first | exact absurd (by decide) hp | simp [Dev.samePart]

theorem Frame.finish (d : Dev) (i v : Nat) : Frame (eventParts ++ [.qs, .intake]) d (d.finish i v) := by
  intro p hp
  cases p <;> first | exact absurd (by decide) hp | simp [Dev.samePart]

theorem Frame.failCmd (d : Dev) (i code det : Nat) (m : Option Nat) : Frame (eventParts ++ [.qs, .intake]) d (d.failCmd i code det m) := by
  intro p hp
  cases p <;> first | exact absurd (by decide) hp | simp [Dev.samePart]

theorem Frame.closeAps (d : Dev) (p : Ap → Bool) (st : Nat) : Frame [.host] d (d.closeAps p st) := by
  unfold Dev.closeAps
  dsimp only
  split
  · exact Frame.foldl _ (fun d n => Frame.setAp d n _) _ _
  · exact (Frame.foldl _ (fun d n => Frame.setAp d n _) _ _).trans (Frame.msix _ _)

end Sys2Proof.Machine
end

