-- ==== Sys2Proof/Laws/Exec.lean ====
section
/-! SUPPORT. What each command runs: one lemma per row of the table, true by rfl, so that no proof unfolds the dispatch. -/

namespace Sys2Proof.Machine

@[simp] theorem exec_usbConnect (orientValid : Bool) (partner : Partner) (s : State) :
    exec (.usbConnect orientValid partner) s = runAlways s (fun d => d.usbConnect orientValid partner) := rfl

@[simp] theorem exec_hostLinkLoss (p : Path) (s : State) :
    exec (.hostLinkLoss p) s = runOn s (fun d => d.linkLoss p) := rfl

@[simp] theorem exec_usbBusReset (p : UsbPath) (s : State) :
    exec (.usbBusReset p) s = runOn s (fun d => d.busReset p) := rfl

@[simp] theorem exec_functionLevelReset (_hot : Bool) (s : State) :
    exec (.functionLevelReset _hot) s = runOn s (fun d => d.functionReset) := rfl

@[simp] theorem exec_busMasterDisable (s : State) :
    exec .busMasterDisable s = runOn s (fun d => d.setBme false) := rfl

@[simp] theorem exec_d3hotEntry (s : State) :
    exec .d3hotEntry s = runOn s (fun d => d.setD3hot true) := rfl

@[simp] theorem exec_usbSuspend (p : Suspend) (s : State) :
    exec (.usbSuspend p) s = runOn s (fun d => d.setSuspend p.path true p.wake) := rfl

@[simp] theorem exec_sessionOpen (p : Path) (s : State) :
    exec (.sessionOpen p) s = runOn s (fun d => d.sessionOpen p) := rfl

@[simp] theorem exec_sessionClose (p : Path) (s : State) :
    exec (.sessionClose p) s = runOn s (fun d => d.sessionClose p) := rfl

@[simp] theorem exec_malformedBar0Access (write : Bool) (off : BitVec 18) (bytes : Nat) (s : State) :
    exec (.malformedBar0Access write off bytes) s = runOn s (fun d => d.malformedBar0 write off.toNat bytes) := rfl

@[simp] theorem exec_registerWrite (off : BitVec 18) (wide : Bool) (v : U64) (s : State) :
    exec (.registerWrite off wide v) s = runOn s (fun d => d.bar0Write off.toNat wide v) := rfl

@[simp] theorem exec_intModTimerExpiry (s : State) :
    exec .intModTimerExpiry s = runOn s (fun d => d.intModExpiry) := rfl

@[simp] theorem exec_apertureOpen (n : BitVec 6) (writeEn : Bool) (s : State) :
    exec (.apertureOpen n writeEn) s = runOn s (fun d => if d.bar0Reach then d.apOpen n.toNat writeEn else d) := rfl

@[simp] theorem exec_apertureClose (n : BitVec 6) (writeEn : Bool) (s : State) :
    exec (.apertureClose n writeEn) s = runOn s (fun d => if d.bar0Reach then d.apClose n.toNat writeEn else d) := rfl

@[simp] theorem exec_bar2Resize (log2 : Nat) (s : State) :
    exec (.bar2Resize log2) s = runOn s (fun d => d.bar2Resize log2) := rfl

@[simp] theorem exec_bar2Read (off : Nat) (len : Nat) (s : State) :
    exec (.bar2Read off len) s = runOn s (fun d => d.bar2Wakes.bar2Read off len) := rfl

@[simp] theorem exec_bar2Write (off : Nat) (data : List Byte) (s : State) :
    exec (.bar2Write off data) s = runOn s (fun d => d.bar2Wakes.bar2Write off data) := rfl

@[simp] theorem exec_usbSubmit (p : UsbPath) (ctrl : Bool) (x : XferHdr) (payload : List Byte) (s : State) :
    exec (.usbSubmit p ctrl x payload) s = runOn s (fun d => d.transfer p ctrl x payload) := rfl

@[simp] theorem exec_usbWrite (p : UsbPath) (ctrl : Bool) (x : XferHdr) (payload : List Byte) (s : State) :
    exec (.usbWrite p ctrl x payload) s = runOn s (fun d => d.transfer p ctrl x payload) := rfl

@[simp] theorem exec_usbRead (p : UsbPath) (ctrl : Bool) (x : XferHdr) (payload : List Byte) (s : State) :
    exec (.usbRead p ctrl x payload) s = runOn s (fun d => d.transfer p ctrl x payload) := rfl

@[simp] theorem exec_xferIn (s : State) :
    exec .xferIn s = runOn s (fun d => if d.booted && d.usbServes then d.xferIn else d.send .stall) := rfl

@[simp] theorem exec_mailboxIn (p : UsbPath) (s : State) :
    exec (.mailboxIn p) s = runOn s (fun d => if d.usbServes then d.mailboxIn p else d.send .stall) := rfl

@[simp] theorem exec_mailboxResponseFree (s : State) :
    exec .mailboxResponseFree s = runOn s (fun d => if d.link.d3hot || !d.pcieOn then d else d.mailboxRelease) := rfl

@[simp] theorem exec_unknownVendorRequest (_p : UsbPath) (bRequest : Byte) (_wLength : U16) (s : State) :
    exec (.unknownVendorRequest _p bRequest _wLength) s = runOn s (fun d => d.unknownRequest bRequest) := rfl

@[simp] theorem exec_interruptTransferComplete (p : UsbPath) (records : BitVec 7) (s : State) :
    exec (.interruptTransferComplete p records) s = runOn s (fun d => d.interruptDone p records.toNat) := rfl

@[simp] theorem exec_recoveryWrite (p : UsbPath) (wValue : U16) (data : List Byte) (s : State) :
    exec (.recoveryWrite p wValue data) s = runOn s (fun d => if d.coreFenced then d else if 4096 < data.length then d.unknownRequest 0x40 else if d.recoveryOn p then d.recoveryWrite wValue data else d.send .stall) := rfl

@[simp] theorem exec_recoveryStatus (p : UsbPath) (s : State) :
    exec (.recoveryStatus p) s = runOn s (fun d => if d.coreFenced then d else if d.recoveryOn p then d.recoveryStatus else d.send .stall) := rfl

@[simp] theorem exec_imageVerifyComplete (s : State) :
    exec .imageVerifyComplete s = runOn s (fun d => d.imageVerifyComplete) := rfl

@[simp] theorem exec_queueEnable (p : Path) (q : QueueId) (cfg : U32) (s : State) :
    exec (.queueEnable p q cfg) s = runOn s (fun d => if d.portReach p then d.queueEnable p q cfg else d) := rfl

@[simp] theorem exec_queueDisable (p : Path) (q : QueueId) (cfg : U32) (s : State) :
    exec (.queueDisable p q cfg) s = runOn s (fun d => if d.portReach p then d.queueDisable p q cfg else d) := rfl

@[simp] theorem exec_doorbell (p : Path) (q : QueueId) (v : U32) (s : State) :
    exec (.doorbell p q v) s = runOn s (fun d => if d.portReach p || (d.pw.state == .forcedHove && !(p == .pcie && d.link.d3hot)) then d.doorbell p q v else d) := rfl

@[simp] theorem exec_commandFetch (host : Option (List Byte)) (s : State) :
    exec (.commandFetch host) s = runOn s (fun d => d.commandFetch host) := rfl

@[simp] theorem exec_eventRingEnable (p : Path) (cfg : U32) (s : State) :
    exec (.eventRingEnable p cfg) s = runOn s (fun d => if d.portReach p then d.ringEnable p cfg else d) := rfl

@[simp] theorem exec_eventRingDisable (p : Path) (cfg : U32) (s : State) :
    exec (.eventRingDisable p cfg) s = runOn s (fun d => if d.portReach p then d.ringDisable p cfg else d) := rfl

@[simp] theorem exec_eventRingHeadWrite (p : Path) (v : U32) (s : State) :
    exec (.eventRingHeadWrite p v) s = runOn s (fun d => if d.portReach p then d.ringHead p v else d) := rfl

@[simp] theorem exec_nop (q : QueueId) (h : Hdr) (s : State) :
    exec (.nop q h) s = runOn s (fun d => d.nop q h) := rfl

@[simp] theorem exec_alloc (q : QueueId) (h : Hdr) (b : AllocBody) (s : State) :
    exec (.alloc q h b) s = runOn s (fun d => d.alloc q h b) := rfl

@[simp] theorem exec_free (q : QueueId) (h : Hdr) (b : BufRef) (s : State) :
    exec (.free q h b) s = runOn s (fun d => d.free_ q h b) := rfl

@[simp] theorem exec_bufFreeComplete (handle : U16) (s : State) :
    exec (.bufFreeComplete handle) s = runOn s (fun d => d.bufFreeComplete handle) := rfl

@[simp] theorem exec_query (q : QueueId) (h : Hdr) (b : QueryBody) (s : State) :
    exec (.query q h b) s = runOn s (fun d => d.query q h b) := rfl

@[simp] theorem exec_fence (q : QueueId) (h : Hdr) (b : FenceBody) (s : State) :
    exec (.fence q h b) s = runOn s (fun d => d.fence q h b) := rfl

@[simp] theorem exec_fenceSignal (q : QueueId) (s : State) :
    exec (.fenceSignal q) s = runOn s (fun d => d.fenceSignal q) := rfl

@[simp] theorem exec_wait (q : QueueId) (h : Hdr) (b : WaitBody) (s : State) :
    exec (.wait q h b) s = runOn s (fun d => d.wait q h b) := rfl

@[simp] theorem exec_waitTimeout (q : QueueId) (s : State) :
    exec (.waitTimeout q) s = runOn s (fun d => d.waitTimeout q) := rfl

@[simp] theorem exec_tackHold (q : QueueId) (h : Hdr) (b : WaitBody) (s : State) :
    exec (.tackHold q h b) s = runOn s (fun d => d.tackHold q h b) := rfl

@[simp] theorem exec_dmaIn (q : QueueId) (h : Hdr) (b : DmaBody) (s : State) :
    exec (.dmaIn q h b) s = runOn s (fun d => d.dmaIn q h b) := rfl

@[simp] theorem exec_dmaOut (q : QueueId) (h : Hdr) (b : DmaBody) (s : State) :
    exec (.dmaOut q h b) s = runOn s (fun d => d.dmaOut q h b) := rfl

@[simp] theorem exec_dmaComplete (id : Nat) (host : Option (List Byte)) (s : State) :
    exec (.dmaComplete id host) s = runOn s (fun d => d.dmaComplete id host) := rfl

@[simp] theorem exec_decode (q : QueueId) (h : Hdr) (b : DecodeBody) (s : State) :
    exec (.decode q h b) s = runOn s (fun d => d.decode q h b) := rfl

@[simp] theorem exec_decodeJobPlace (q : QueueId) (s : State) :
    exec (.decodeJobPlace q) s = runOn s (fun d => d.decodeJobPlace q) := rfl

@[simp] theorem exec_matchStallResume (t : ThresherId) (lane : BitVec 4) (s : State) :
    exec (.matchStallResume t lane) s = runOn s (fun d => d.matchStallResume t lane) := rfl

@[simp] theorem exec_sheafSuccess (t : ThresherId) (s : State) :
    exec (.sheafSuccess t) s = runOn s (fun d => d.sheafSuccess t) := rfl

@[simp] theorem exec_sheafFailure (t : ThresherId) (s : State) :
    exec (.sheafFailure t) s = runOn s (fun d => d.sheafFailure t) := rfl

@[simp] theorem exec_feedReset (q : QueueId) (h : Hdr) (b : FeedResetBody) (s : State) :
    exec (.feedReset q h b) s = runOn s (fun d => d.feedReset q h b) := rfl

@[simp] theorem exec_feedActionTakesEffect (f : FeedId) (s : State) :
    exec (.feedActionTakesEffect f) s = runOn s (fun d => d.feedActionTakesEffect f) := rfl

@[simp] theorem exec_saveAreaFreeEffect (f : FeedId) (s : State) :
    exec (.saveAreaFreeEffect f) s = runOn s (fun d => d.saveAreaFreeEffect f) := rfl

@[simp] theorem exec_thresherFault (t : ThresherId) (fence : Bool) (s : State) :
    exec (.thresherFault t fence) s = runOn s (fun d => d.thresherFault t fence) := rfl

@[simp] theorem exec_thresherProgressTimeout (t : ThresherId) (s : State) :
    exec (.thresherProgressTimeout t) s = runOn s (fun d => d.thresherProgressTimeout t) := rfl

@[simp] theorem exec_jobsJoinThresher (f : FeedId) (s : State) :
    exec (.jobsJoinThresher f) s = runOn s (fun d => d.jobsJoinThresher f) := rfl

@[simp] theorem exec_encodeJobComplete (t : ThresherId) (sheaf : List Byte) (s : State) :
    exec (.encodeJobComplete t sheaf) s = runOn s (fun d => d.encodeJobComplete t sheaf) := rfl

@[simp] theorem exec_viewsetDefine (q : QueueId) (h : Hdr) (b : ViewSetBody) (s : State) :
    exec (.viewsetDefine q h b) s = runOn s (fun d => d.viewsetDefine q h b) := rfl

@[simp] theorem exec_viewsetDefineTakesEffect (slot : BitVec 1) (s : State) :
    exec (.viewsetDefineTakesEffect slot) s = runOn s (fun d => d.viewsetDefineTakesEffect slot) := rfl

@[simp] theorem exec_pendingSlotFreeEffect (slot : BitVec 1) (s : State) :
    exec (.pendingSlotFreeEffect slot) s = runOn s (fun d => d.pendingSlotFreeEffect slot) := rfl

@[simp] theorem exec_lensSet (q : QueueId) (h : Hdr) (b : LensSetBody) (s : State) :
    exec (.lensSet q h b) s = runOn s (fun d => d.lensSet q h b) := rfl

@[simp] theorem exec_layerSet (q : QueueId) (h : Hdr) (b : LayerBody) (s : State) :
    exec (.layerSet q h b) s = runOn s (fun d => d.layerSet q h b) := rfl

@[simp] theorem exec_lutLoad (q : QueueId) (h : Hdr) (b : LutBody) (s : State) :
    exec (.lutLoad q h b) s = runOn s (fun d => d.lutLoad q h b) := rfl

@[simp] theorem exec_commit (q : QueueId) (h : Hdr) (b : CommitBody) (s : State) :
    exec (.commit q h b) s = runOn s (fun d => d.commit q h b) := rfl

@[simp] theorem exec_tackBoundary (s : State) :
    exec .tackBoundary s = runOn s (fun d => d.tackBoundary) := rfl

@[simp] theorem exec_commitWaitTimeout (s : State) :
    exec .commitWaitTimeout s = runOn s (fun d => d.commitWaitTimeout) := rfl

@[simp] theorem exec_tackPeriodExpiry (s : State) :
    exec .tackPeriodExpiry s = runOn s (fun d => d.tackPeriodExpiry) := rfl

@[simp] theorem exec_tackSyncEdge (rising : Bool) (s : State) :
    exec (.tackSyncEdge rising) s = runOn s (fun d => d.tackSyncEdge rising) := rfl

@[simp] theorem exec_syncTimeout (s : State) :
    exec .syncTimeout s = runOn s (fun d => d.syncTimeout) := rfl

@[simp] theorem exec_plotAdmit (m : MastId) (s : State) :
    exec (.plotAdmit m) s = runOn s (fun d => d.plotAdmit m) := rfl

@[simp] theorem exec_jobDispatch (s : State) :
    exec .jobDispatch s = runOn s (fun d => d.jobDispatch) := rfl

@[simp] theorem exec_plotComputeStart (c : ClusterId) (corrected refetched : U16) (upsets : List Upset) (s : State) :
    exec (.plotComputeStart c corrected refetched upsets) s = runOn s (fun d => d.plotComputeStart c corrected.toNat refetched.toNat upsets) := rfl

@[simp] theorem exec_scalerGrant (c : ClusterId) (s : State) :
    exec (.scalerGrant c) s = runOn s (fun d => d.scalerGrant c) := rfl

@[simp] theorem exec_plotHandoff (c : ClusterId) (upto : Nat) (s : State) :
    exec (.plotHandoff c upto) s = runOn s (fun d => d.plotHandoff c upto) := rfl

@[simp] theorem exec_clusterFault (c : ClusterId) (cause : BitVec 3) (s : State) :
    exec (.clusterFault c cause) s = runOn s (fun d => d.clusterFault c cause) := rfl

@[simp] theorem exec_clusterProgressTimeout (c : ClusterId) (s : State) :
    exec (.clusterProgressTimeout c) s = runOn s (fun d => d.clusterProgressTimeout c) := rfl

@[simp] theorem exec_clusterFenceComplete (c : ClusterId) (s : State) :
    exec (.clusterFenceComplete c) s = runOn s (fun d => d.clusterFenceComplete c) := rfl

@[simp] theorem exec_partitionFault (p : BitVec 6) (s : State) :
    exec (.partitionFault p) s = runOn s (fun d => d.partitionFault p) := rfl

@[simp] theorem exec_packetSerialiseStart (m : MastId) (s : State) :
    exec (.packetSerialiseStart m) s = runOn s (fun d => d.packetStart m) := rfl

@[simp] theorem exec_underrun (m : MastId) (s : State) :
    exec (.underrun m) s = runOn s (fun d => d.underrun m) := rfl

@[simp] theorem exec_alignDue (m : MastId) (s : State) :
    exec (.alignDue m) s = runMast m s (fun d => d.alignDue m) := rfl

@[simp] theorem exec_ackReceived (m : MastId) (s : SailId) (sq : U16) (st : State) :
    exec (.ackReceived m s sq) st = runBack m st (fun d => (d.ackReceived m s sq).settleMasts m) := rfl

@[simp] theorem exec_tackBroadcast (s : State) :
    exec .tackBroadcast s = runOn s (fun d => d.tackBroadcast) := rfl

@[simp] theorem exec_tackOutPulse (s : State) :
    exec .tackOutPulse s = runOn s (fun d => d.tackOutPulse) := rfl

@[simp] theorem exec_nakReceived (m : MastId) (s : SailId) (sq : U16) (reason : Byte) (st : State) :
    exec (.nakReceived m s sq reason) st = runBack m st (fun d => (d.nakReceived m s sq reason).settleMasts m) := rfl

@[simp] theorem exec_retransmitTimeout (m : MastId) (sq : U16) (s : State) :
    exec (.retransmitTimeout m sq) s = runMast m s (fun d => (d.retransmitTimeout m sq).settleMasts m) := rfl

@[simp] theorem exec_pingTimer (s : State) :
    exec .pingTimer s = runOn s (fun d => d.pingTimer) := rfl

@[simp] theorem exec_creditReceived (s : SailId) (total : Byte) (st : State) :
    exec (.creditReceived s total) st = runBack (mastOf s) st (fun d => d.creditReceived s total) := rfl

@[simp] theorem exec_statusReceived (s : SailId) (flags : U32) (temp : U16) (st : State) :
    exec (.statusReceived s flags temp) st = runBack (mastOf s) st (fun d => d.statusReceived s flags temp) := rfl

@[simp] theorem exec_cfgDataReceived (m : MastId) (s : SailId) (sq : U16) (addr : Byte) (data : U32) (st : State) :
    exec (.cfgDataReceived m s sq addr data) st = runBack m st (fun d => (d.cfgDataReceived m s sq addr data).settleMasts m) := rfl

@[simp] theorem exec_backstayPacketError (p : BackstayChars) (s : State) :
    exec (.backstayPacketError p) s = runMast p.mast s (fun d => d.backstayPacketError p.mast p.chars) := rfl

@[simp] theorem exec_strayAnswer (m : MastId) (s : State) :
    exec (.strayAnswer m) s = runMast m s (fun d => d.stray m) := rfl

@[simp] theorem exec_sailCfgWrite (q : QueueId) (h : Hdr) (b : CfgWriteBody) (s : State) :
    exec (.sailCfgWrite q h b) s = runOn s (fun d => d.sailCfgWrite q h b) := rfl

@[simp] theorem exec_sailCfgRead (q : QueueId) (h : Hdr) (b : CfgReadBody) (s : State) :
    exec (.sailCfgRead q h b) s = runOn s (fun d => d.sailCfgRead q h b) := rfl

@[simp] theorem exec_mastDetHigh (m : MastId) (s : State) :
    exec (.mastDetHigh m) s = runMast m s (fun d => d.mastDetHigh m) := rfl

@[simp] theorem exec_mastDetQualified (m : MastId) (s : State) :
    exec (.mastDetQualified m) s = runMast m s (fun d => d.mastDetQualified m) := rfl

@[simp] theorem exec_enumerationComplete (m : MastId) (caps : List (BitVec 4)) (s : State) :
    exec (.enumerationComplete m caps) s = runMast m s (fun d => d.enumerationComplete m caps) := rfl

@[simp] theorem exec_eyeReportReceived (m : MastId) (r : EyeReport) (s : State) :
    exec (.eyeReportReceived m r) s = runBack m s (fun d => d.eyeReportReceived m r) := rfl

@[simp] theorem exec_equaliseEnd (m : MastId) (s : State) :
    exec (.equaliseEnd m) s = runMast m s (fun d => d.equaliseEnd m) := rfl

@[simp] theorem exec_verifyComplete (m : MastId) (hops : List HopTiming) (s : State) :
    exec (.verifyComplete m hops) s = runMast m s (fun d => d.verifyComplete m hops) := rfl

@[simp] theorem exec_retrainStart (m : MastId) (s : State) :
    exec (.retrainStart m) s = runMast m s (fun d => d.startRetrain m) := rfl

@[simp] theorem exec_backstayLockLoss (m : MastId) (s : State) :
    exec (.backstayLockLoss m) s = runMast m s (fun d => d.backstayLockLoss m) := rfl

@[simp] theorem exec_retrainComplete (m : MastId) (s : State) :
    exec (.retrainComplete m) s = runMast m s (fun d => d.retrainComplete m) := rfl

@[simp] theorem exec_rateChangeComplete (m : MastId) (hops : List HopTiming) (s : State) :
    exec (.rateChangeComplete m hops) s = runMast m s (fun d => d.rateChangeComplete m hops) := rfl

@[simp] theorem exec_rejoinAttempt (m : MastId) (found : RejoinFound) (s : State) :
    exec (.rejoinAttempt m found) s = runMast m s (fun d => d.rejoinAttempt m found.caps found.hops) := rfl

@[simp] theorem exec_hoveExitLockTimeout (m : MastId) (s : State) :
    exec (.hoveExitLockTimeout m) s = runMast m s (fun d => d.hoveExitLockTimeout m) := rfl

@[simp] theorem exec_trainRequestRetrain (c : Client) (sq : U16) (m : MastId) (s : State) :
    exec (.trainRequestRetrain c sq m) s = runOn s (fun d => d.writeTo c sq 5 (0x3002 + 0x40 * m.toNat) 0xC [1]) := rfl

@[simp] theorem exec_trainRequestBringup (c : Client) (sq : U16) (m : MastId) (s : State) :
    exec (.trainRequestBringup c sq m) s = runOn s (fun d => d.writeTo c sq 5 (0x3002 + 0x40 * m.toNat) 0xC [2]) := rfl

@[simp] theorem exec_fill (q : QueueId) (h : Hdr) (b : BlitBody) (s : State) :
    exec (.fill q h b) s = runOn s (fun d => d.draw .fill q h b) := rfl

@[simp] theorem exec_copy (q : QueueId) (h : Hdr) (b : BlitBody) (s : State) :
    exec (.copy q h b) s = runOn s (fun d => d.draw .copy q h b) := rfl

@[simp] theorem exec_blend (q : QueueId) (h : Hdr) (b : BlitBody) (s : State) :
    exec (.blend q h b) s = runOn s (fun d => d.draw .blend q h b) := rfl

@[simp] theorem exec_pattern (q : QueueId) (h : Hdr) (b : BlitBody) (s : State) :
    exec (.pattern q h b) s = runOn s (fun d => d.draw .pattern q h b) := rfl

@[simp] theorem exec_line (q : QueueId) (h : Hdr) (b : BlitBody) (s : State) :
    exec (.line q h b) s = runOn s (fun d => d.draw .line q h b) := rfl

@[simp] theorem exec_clipSet (q : QueueId) (h : Hdr) (b : ClipBody) (s : State) :
    exec (.clipSet q h b) s = runOn s (fun d => d.clipSet q h b) := rfl

@[simp] theorem exec_blitAccept (q : QueueId) (s : State) :
    exec (.blitAccept q) s = runOn s (fun d => d.blitAccept q) := rfl

@[simp] theorem exec_blitWatermark (s : State) :
    exec .blitWatermark s = runOn s (fun d => d.blitWatermark) := rfl

@[simp] theorem exec_blitComplete (s : State) :
    exec .blitComplete s = runOn s (fun d => d.blitComplete) := rfl

@[simp] theorem exec_proofSet (q : QueueId) (h : Hdr) (b : ProofBody) (s : State) :
    exec (.proofSet q h b) s = runOn s (fun d => d.proofSet q h b) := rfl

@[simp] theorem exec_readback (q : QueueId) (h : Hdr) (b : ReadbackBody) (s : State) :
    exec (.readback q h b) s = runOn s (fun d => d.readback q h b) := rfl

@[simp] theorem exec_readbackComplete (id : Nat) (s : State) :
    exec (.readbackComplete id) s = runOn s (fun d => d.readbackComplete id) := rfl

@[simp] theorem exec_writeQueueDrain (ch : BitVec 5) (s : State) :
    exec (.writeQueueDrain ch) s = runOn s (fun d => d.writeQueueDrain ch.toNat) := rfl

@[simp] theorem exec_requestClassPromotion (ch : BitVec 5) (n : Nat) (s : State) :
    exec (.requestClassPromotion ch n) s = runOn s (fun d => d.requestClassPromotion ch.toNat n) := rfl

@[simp] theorem exec_dramTempPoll (temps : List U16) (s : State) :
    exec (.dramTempPoll temps) s = runOn s (fun d => d.dramTempPoll temps) := rfl

@[simp] theorem exec_dramThermalStep (s : State) :
    exec .dramThermalStep s = runOn s (fun d => d.dramThermalStep) := rfl

@[simp] theorem exec_dramRateStepUp (s : State) :
    exec .dramRateStepUp s = runOn s (fun d => d.dramRateStepUp) := rfl

@[simp] theorem exec_dqTracking (ch : BitVec 5) (retrain : Bool) (s : State) :
    exec (.dqTracking ch retrain) s = runOn s (fun d => d.dqTracking ch retrain) := rfl

@[simp] theorem exec_dramRetrainStep (ch : BitVec 5) (works : Bool) (s : State) :
    exec (.dramRetrainStep ch works) s = runOn s (fun d => d.dramRetrainStep ch works) := rfl

@[simp] theorem exec_dataRateWrite (c : Client) (sq : U16) (rate : U16) (s : State) :
    exec (.dataRateWrite c sq rate) s = runOn s (fun d => d.writeTo c sq 6 0x2200 2 (leBytes 2 rate.toNat)) := rfl

@[simp] theorem exec_dramRateSwitch (s : State) :
    exec .dramRateSwitch s = runOn s (fun d => d.dramRateSwitch) := rfl

@[simp] theorem exec_dramModeRegisterTimeout (ch : BitVec 5) (s : State) :
    exec (.dramModeRegisterTimeout ch) s = runOn s (fun d => d.dramModeRegisterTimeout ch) := rfl

@[simp] theorem exec_uhlodRead (c : Client) (u : UHdr) (data : List Byte) (s : State) :
    exec (.uhlodRead c u data) s = runOn s (fun d => d.request c u 1 data) := rfl

@[simp] theorem exec_uhlodWrite (c : Client) (u : UHdr) (data : List Byte) (s : State) :
    exec (.uhlodWrite c u data) s = runOn s (fun d => d.request c u 2 data) := rfl

@[simp] theorem exec_uhlodWriteMulti (c : Client) (u : UHdr) (data : List Byte) (s : State) :
    exec (.uhlodWriteMulti c u data) s = runOn s (fun d => d.request c u 3 data) := rfl

@[simp] theorem exec_uhlodCommit (c : Client) (u : UHdr) (data : List Byte) (s : State) :
    exec (.uhlodCommit c u data) s = runOn s (fun d => d.request c u 4 data) := rfl

@[simp] theorem exec_claim (c : Client) (u : UHdr) (data : List Byte) (s : State) :
    exec (.claim c u data) s = runOn s (fun d => d.request c u 5 data) := rfl

@[simp] theorem exec_release (c : Client) (u : UHdr) (data : List Byte) (s : State) :
    exec (.release c u data) s = runOn s (fun d => d.request c u 6 data) := rfl

@[simp] theorem exec_subscribe (c : Client) (u : UHdr) (data : List Byte) (s : State) :
    exec (.subscribe c u data) s = runOn s (fun d => d.request c u 7 data) := rfl

@[simp] theorem exec_notify (n : Nat) (s : State) :
    exec (.notify n) s = runOn s (fun d => d.notify n) := rfl

@[simp] theorem exec_subscriptionExpiry (n : Nat) (s : State) :
    exec (.subscriptionExpiry n) s = runOn s (fun d => d.subscriptionExpiry n) := rfl

@[simp] theorem exec_claimExpiry (n : Nat) (s : State) :
    exec (.claimExpiry n) s = runOn s (fun d => d.claimExpiry n) := rfl

@[simp] theorem exec_arbitrationWindowClose (n : Nat) (s : State) :
    exec (.arbitrationWindowClose n) s = runOn s (fun d => d.closeWindow n) := rfl

@[simp] theorem exec_privilegeTimeout (c : Client) (s : State) :
    exec (.privilegeTimeout c) s = runOn s (fun d => d.logout c) := rfl

@[simp] theorem exec_canSegmentTimeout (node : Byte) (s : State) :
    exec (.canSegmentTimeout node) s = runOn s (fun d => d.abortSeg (.can node)) := rfl

@[simp] theorem exec_login (c : Client) (sq : U16) (data : List Byte) (s : State) :
    exec (.login c sq data) s = runOn s (fun d => d.writeTo c sq 0xD 0x1800 1 data) := rfl

@[simp] theorem exec_logout (c : Client) (sq : U16) (s : State) :
    exec (.logout c sq) s = runOn s (fun d => d.writeTo c sq 5 0x1800 3 [1]) := rfl

@[simp] theorem exec_setPassword (c : Client) (sq : U16) (data : List Byte) (s : State) :
    exec (.setPassword c sq data) s = runOn s (fun d => d.writeTo c sq 0xD 0x1800 5 data) := rfl

@[simp] theorem exec_lockEntry (c : Client) (sq idx : U16) (sub : Byte) (s : State) :
    exec (.lockEntry c sq idx sub) s = runOn s (fun d => d.writeTo c sq 7 0x1800 6 (leBytes 1 1 ++ leBytes 1 sub.toNat ++ leBytes 2 idx.toNat)) := rfl

@[simp] theorem exec_unlockEntry (c : Client) (sq idx : U16) (sub : Byte) (s : State) :
    exec (.unlockEntry c sq idx sub) s = runOn s (fun d => d.writeTo c sq 7 0x1800 6 (leBytes 1 0 ++ leBytes 1 sub.toNat ++ leBytes 2 idx.toNat)) := rfl

@[simp] theorem exec_markAll (c : Client) (sq : U16) (sl : SailId) (v : Byte) (s : State) :
    exec (.markAll c sq sl v) s = runOn s (fun d => d.writeTo c sq 5 (0x4001 + 16 * sl.toNat) 7 [v]) := rfl

@[simp] theorem exec_resetRequestWarm (c : Client) (sq : U16) (s : State) :
    exec (.resetRequestWarm c sq) s = runOn s (fun d => d.writeTo c sq 5 0xC000 3 [1]) := rfl

@[simp] theorem exec_resetRequestCold (c : Client) (sq : U16) (s : State) :
    exec (.resetRequestCold c sq) s = runOn s (fun d => d.writeTo c sq 5 0xC000 3 [2]) := rfl

@[simp] theorem exec_requestedResetDue (s : State) :
    exec .requestedResetDue s = runOn s (fun d => d.requestedResetDue) := rfl

@[simp] theorem exec_mastReset (c : Client) (sq : U16) (m : Byte) (s : State) :
    exec (.mastReset c sq m) s = runOn s (fun d => d.writeTo c sq 5 0xC000 4 [m]) := rfl

@[simp] theorem exec_offlineRequest (c : Client) (sq : U16) (p : Byte) (s : State) :
    exec (.offlineRequest c sq p) s = runOn s (fun d => d.writeTo c sq 6 0xC000 5 [1, p]) := rfl

@[simp] theorem exec_returnToServiceRequest (c : Client) (sq : U16) (p : Byte) (s : State) :
    exec (.returnToServiceRequest c sq p) s = runOn s (fun d => d.writeTo c sq 6 0xC000 5 [0, p]) := rfl

@[simp] theorem exec_bistRequest (c : Client) (sq : U16) (p tests : Byte) (s : State) :
    exec (.bistRequest c sq p tests) s = runOn s (fun d => d.writeTo c sq 6 0xC000 6 [tests, p]) := rfl

@[simp] theorem exec_bistFullRun (c : Client) (sq : U16) (tests : Byte) (s : State) :
    exec (.bistFullRun c sq tests) s = runOn s (fun d => d.writeTo c sq 6 0xC000 6 [tests, 0xFF]) := rfl

@[simp] theorem exec_bistStart (s : State) :
    exec .bistStart s = runOn s (fun d => d.bistStart) := rfl

@[simp] theorem exec_bistComplete (p : BitVec 6) (r : BistResult) (s : State) :
    exec (.bistComplete p r) s = runOn s (fun d => d.bistComplete p.toNat r) := rfl

@[simp] theorem exec_lifeCycleAdvance (c : Client) (sq : U16) (v : Byte) (s : State) :
    exec (.lifeCycleAdvance c sq v) s = runOn s (fun d => d.writeTo c sq 5 0xC000 2 [v]) := rfl

@[simp] theorem exec_fwHandoff (c : Client) (sq : U16) (s : State) :
    exec (.fwHandoff c sq) s = runOn s (fun d => d.writeTo c sq 5 0xC020 6 [1]) := rfl

@[simp] theorem exec_handoffComplete (ms : U16) (s : State) :
    exec (.handoffComplete ms) s = runOn s (fun d => d.handoffComplete ms) := rfl

@[simp] theorem exec_handoffTimeout (ms : U16) (s : State) :
    exec (.handoffTimeout ms) s = runOn s (fun d => d.handoffTimeout ms) := rfl

@[simp] theorem exec_trimRequest (c : Client) (sq : U16) (s : State) :
    exec (.trimRequest c sq) s = runOn s (fun d => d.writeTo c sq 5 0x9000 7 [1]) := rfl

@[simp] theorem exec_restoreDefaults (c : Client) (sq : U16) (s : State) :
    exec (.restoreDefaults c sq) s = runOn s (fun d => d.writeTo c sq 5 0xA000 8 [1]) := rfl

@[simp] theorem exec_powerOn (refclk : Bool) (s : State) :
    exec (.powerOn refclk) s = runAlways s (fun d => d.powerOn refclk) := rfl

@[simp] theorem exec_resetNQualified (s : State) :
    exec .resetNQualified s = runAlways s (fun d => d.resetLow) := rfl

@[simp] theorem exec_pwrOkFall (s : State) :
    exec .pwrOkFall s = runAlways s (fun d => d.pwrOkFall) := rfl

@[simp] theorem exec_bootComplete (b : BootReport) (s : State) :
    exec (.bootComplete b) s = runOn s (fun d => d.bootComplete b) := rfl

@[simp] theorem exec_watchdogExpiry (s : State) :
    exec .watchdogExpiry s = runOn s (fun d => d.watchdogExpiry) := rfl

@[simp] theorem exec_hoveIdleTimeout (s : State) :
    exec .hoveIdleTimeout s = runOn s (fun d => d.hoveIdleTimeout) := rfl

@[simp] theorem exec_wakeTimerExpiry (s : State) :
    exec .wakeTimerExpiry s = runOn s (fun d => d.wakeTimerExpiry) := rfl

@[simp] theorem exec_mooredEntry (s : State) :
    exec .mooredEntry s = runOn s (fun d => d.mooredEntry) := rfl

@[simp] theorem exec_mooredExit (w : MooredWake) (s : State) :
    exec (.mooredExit w) s = runAlways s (fun d => d.mooredExit w) := rfl

@[simp] theorem exec_thermalSample (raw : List U16) (s : State) :
    exec (.thermalSample raw) s = runAlways s (fun d => d.thermalSample raw) := rfl

@[simp] theorem exec_sensorExclude (n : BitVec 5) (s : State) :
    exec (.sensorExclude n) s = runAlways s (fun d => d.sensorExclude n.toNat) := rfl

@[simp] theorem exec_sensorReinclude (n : BitVec 5) (s : State) :
    exec (.sensorReinclude n) s = runAlways s (fun d => d.sensorReinclude n.toNat) := rfl

@[simp] theorem exec_classAReleaseStep (s : State) :
    exec .classAReleaseStep s = runAlways s (fun d => d.classARelease) := rfl

@[simp] theorem exec_classBStepUp (s : State) :
    exec .classBStepUp s = runAlways s (fun d => d.classBUp) := rfl

@[simp] theorem exec_classBStepDown (s : State) :
    exec .classBStepDown s = runAlways s (fun d => d.classBDown) := rfl

@[simp] theorem exec_forcedHoveExit (s : State) :
    exec .forcedHoveExit s = runOn s (fun d => d.forcedHoveExit) := rfl

@[simp] theorem exec_shutdownRecordWrite (s : State) :
    exec .shutdownRecordWrite s = runAlways s (fun d => d.shutdownRecord) := rfl

@[simp] theorem exec_trimRunStart (t : TrimTrigger) (rcalMilliohm : Nat) (s : State) :
    exec (.trimRunStart t rcalMilliohm) s = runOn s (fun d => d.trimRunStart t rcalMilliohm) := rfl

@[simp] theorem exec_mastTrimSlot (m : MastId) (a : List TrimAttempt) (s : State) :
    exec (.mastTrimSlot m a) s = runOn s (fun d => d.mastTrimSlot m a) := rfl

@[simp] theorem exec_trimRunComplete (rest : List TrimItem) (s : State) :
    exec (.trimRunComplete rest) s = runOn s (fun d => d.trimRunComplete rest) := rfl

@[simp] theorem exec_trimInterpolate (s : State) :
    exec .trimInterpolate s = runOn s (fun d => d.trimInterpolate) := rfl

@[simp] theorem exec_ledgerWrite (s : State) :
    exec .ledgerWrite s = runOn s (fun d => ((List.range 10).foldl (fun (d : Dev) (n : Nat) => d.countDue n) d).ledgerWrite) := rfl

@[simp] theorem exec_counterStep (n : BitVec 4) (s : State) :
    exec (.counterStep n) s = runAlways s (fun d => d.counterStep n.toNat) := rfl

@[simp] theorem exec_ledgerRefreshScan (weakBits : Nat) (s : State) :
    exec (.ledgerRefreshScan weakBits) s = runOn s (fun d => d.ledgerRefreshScan weakBits) := rfl

@[simp] theorem exec_returnAuth (key sig : List Byte) (s : State) :
    exec (.returnAuth key sig) s = runOn s (fun d => d.jtag .returnAuth (fun d => d.returnAuth key sig)) := rfl

@[simp] theorem exec_ledgerRaw (a : RawAccess) (s : State) :
    exec (.ledgerRaw a) s = runOn s (fun d => d.jtag .ledgerRaw (fun d => d.ledgerRaw a)) := rfl

@[simp] theorem exec_bistCtrl (r : BistCtrl) (s : State) :
    exec (.bistCtrl r) s = runOn s (fun d => d.jtag .bistCtrl (fun d => d.bistCtrl r)) := rfl

@[simp] theorem exec_idcode (s : State) :
    exec .idcode s = runAlways s (fun d => d.jtag .idcode (fun d => d.shiftOut (shiftBits 32 d.idcode))) := rfl

@[simp] theorem exec_extest (bits : List Bool) (s : State) :
    exec (.extest bits) s = runAlways s (fun d => d.jtag .extest (fun d => d.extestScan bits)) := rfl

@[simp] theorem exec_samplePreload (bits : List Bool) (s : State) :
    exec (.samplePreload bits) s = runAlways s (fun d => d.jtag .sample (fun d => d.sampleScan bits)) := rfl

@[simp] theorem exec_bypass (s : State) :
    exec .bypass s = runAlways s (fun d => d.jtag .bypass Dev.jtagBypass) := rfl

@[simp] theorem exec_resetRelease (straps : BitVec 2) (s : State) :
    exec (.resetRelease straps) s = runAlways s (fun d => d.resetRelease straps) := rfl

@[simp] theorem exec_powerLoss (s : State) :
    exec .powerLoss s = runAlways s (fun d => d.powerLoss) := rfl

@[simp] theorem exec_pcieConfigWrite (w : CfgSpace) (s : State) :
    exec (.pcieConfigWrite w) s = runOn s (fun d => d.configWrite w) := rfl

@[simp] theorem exec_d3hotExit (s : State) :
    exec .d3hotExit s = runOn s (fun d => d.setD3hot false) := rfl

@[simp] theorem exec_usbResume (p : UsbPath) (s : State) :
    exec (.usbResume p) s = runOn s (fun d => d.setSuspend p false false) := rfl

@[simp] theorem exec_communicationChangeEffect (s : State) :
    exec .communicationChangeEffect s = runOn s (fun d => d.commEffect) := rfl

@[simp] theorem exec_arpRequest (target : U32) (s : State) :
    exec (.arpRequest target) s = runOn s (fun d => d.arp target) := rfl

@[simp] theorem exec_icmpEchoRequest (target : U32) (data : List Byte) (s : State) :
    exec (.icmpEchoRequest target data) s = runOn s (fun d => d.icmp target data) := rfl

@[simp] theorem exec_discardedNetTraffic (s : State) :
    exec .discardedNetTraffic s = runOn s (fun d => d.netDiscard) := rfl

@[simp] theorem exec_malformedUhlodFrame (c : Client) (classical : Bool) (raw : List Byte) (s : State) :
    exec (.malformedUhlodFrame c classical raw) s = runOn s (fun d => d.malformed c classical raw) := rfl

@[simp] theorem exec_blitRowVisible (s : State) :
    exec .blitRowVisible s = runOn s (fun d => d.blitRowVisible) := rfl

@[simp] theorem exec_dramPhyTrimSlot (g : BitVec 2) (a : List TrimAttempt) (s : State) :
    exec (.dramPhyTrimSlot g a) s = runOn s (fun d => d.dramTrimSlot g.toNat a) := rfl

@[simp] theorem exec_ledgerWriteComplete (s : State) :
    exec .ledgerWriteComplete s = runOn s (fun d => d.ledgerWriteComplete) := rfl

end Sys2Proof.Machine
end

