-- ==== Sys2Proof/Laws/Table.lean ====
section
/-! SUPPORT. Laws of the sparse tables: what a write does to a read, and that every write keeps the canonical form. -/

namespace Sys2Proof.Machine

variable {α : Type}

theorem SMap.get_nil (d : α) (a : Nat) : SMap.get d [] a = d := rfl

/-- A key that every listed key exceeds is not listed. -/
theorem SMap.get_of_above (d : α) (m : SMap α) (a b : Nat) (h : SMap.above a m = true) (hb : b ≤ a) : SMap.get d m b = d := by
  induction m with
  | nil => rfl
  | cons p t ih =>
    simp only [SMap.above, Bool.and_eq_true, decide_eq_true_eq] at h
    simp [SMap.get, show b ≠ p.1 by omega, ih h.2]

theorem SMap.above_mono (m : SMap α) (a b : Nat) (h : SMap.above a m = true) (hb : b ≤ a) : SMap.above b m = true := by
  induction m with
  | nil => rfl
  | cons p t ih =>
    simp only [SMap.above, Bool.and_eq_true, decide_eq_true_eq] at h ⊢
    exact ⟨by omega, ih h.2⟩

theorem SMap.above_erase (m : SMap α) (k a : Nat) (h : SMap.above k m = true) : SMap.above k (SMap.erase m a) = true := by
  induction m with
  | nil => rfl
  | cons p t ih =>
    simp only [SMap.above, Bool.and_eq_true, decide_eq_true_eq] at h
    simp only [SMap.erase]
    split
    · exact h.2
    · simp [SMap.above, h.1, ih h.2]

theorem SMap.above_ins (m : SMap α) (k a : Nat) (x : α) (h : SMap.above k m = true) (ha : k < a) :
    SMap.above k (SMap.ins m a x) = true := by
  induction m with
  | nil => simp [SMap.ins, SMap.above, ha]
  | cons p t ih =>
    have h' := h
    simp only [SMap.above, Bool.and_eq_true, decide_eq_true_eq] at h
    simp only [SMap.ins]
    split
    · simp [SMap.above, h.1, h.2]
    · split
      · simp only [SMap.above, Bool.and_eq_true, decide_eq_true_eq]
        exact ⟨ha, h.1, h.2⟩
      · simp [SMap.above, h.1, ih h.2]

/-- Another key reads as before after a removal. -/
theorem SMap.get_erase_ne (d : α) (m : SMap α) (a b : Nat) (h : b ≠ a) : SMap.get d (SMap.erase m a) b = SMap.get d m b := by
  induction m with
  | nil => rfl
  | cons p t ih =>
    simp only [SMap.erase]
    split
    · next e => simp [SMap.get, show b ≠ p.1 by omega]
    · simp [SMap.get, ih]

theorem SMap.get_ins_self (d : α) (m : SMap α) (a : Nat) (x : α) : SMap.get d (SMap.ins m a x) a = x := by
  induction m with
  | nil => simp [SMap.ins, SMap.get]
  | cons p t ih =>
    simp only [SMap.ins]
    split
    · next e => simp [SMap.get, e]
    · split
      · simp [SMap.get]
      · next e _ => simp [SMap.get, e, ih]

theorem SMap.get_ins_ne (d : α) (m : SMap α) (a b : Nat) (x : α) (h : b ≠ a) : SMap.get d (SMap.ins m a x) b = SMap.get d m b := by
  induction m with
  | nil => simp [SMap.ins, SMap.get, h]
  | cons p t ih =>
    simp only [SMap.ins]
    split
    · next e => simp [SMap.get, show b ≠ p.1 by omega]
    · split
      · simp [SMap.get, h]
      · simp [SMap.get, ih]

/-- A canonical table has rising keys. -/
theorem SMap.rising_of_wf [DecidableEq α] (d : α) (m : SMap α) (h : SMap.wf d m = true) : SMap.rising m = true := by
  induction m with
  | nil => rfl
  | cons p t ih =>
    simp only [SMap.wf, Bool.and_eq_true, decide_eq_true_eq] at h
    simp [SMap.rising, h.1.1, ih h.2]

theorem SMap.get_erase_self (d : α) (m : SMap α) (a : Nat) (h : SMap.rising m = true) :
    SMap.get d (SMap.erase m a) a = d := by
  induction m with
  | nil => rfl
  | cons p t ih =>
    simp only [SMap.rising, Bool.and_eq_true] at h
    simp only [SMap.erase]
    split
    · next e => exact SMap.get_of_above d t p.1 a h.1 (by omega)
    · next e => simp [SMap.get, e, ih h.2]

/-- Another key reads as before after a write. -/
theorem SMap.get_set_ne [DecidableEq α] (d : α) (m : SMap α) (a b : Nat) (x : α) (h : b ≠ a) :
    SMap.get d (SMap.set d m a x) b = SMap.get d m b := by
  unfold SMap.set
  split
  · exact SMap.get_erase_ne d m a b h
  · exact SMap.get_ins_ne d m a b x h

/-- The key written reads as the value, in a table with rising keys. -/
theorem SMap.get_set_self [DecidableEq α] (d : α) (m : SMap α) (a : Nat) (x : α) (h : SMap.rising m = true) :
    SMap.get d (SMap.set d m a x) a = x := by
  unfold SMap.set
  split
  · next e => rw [e]; exact SMap.get_erase_self d m a h
  · exact SMap.get_ins_self d m a x

/-- The key written reads as the value, for a value that is not the default. -/
theorem SMap.get_set_self_ne [DecidableEq α] (d : α) (m : SMap α) (a : Nat) (x : α) (h : x ≠ d) :
    SMap.get d (SMap.set d m a x) a = x := by
  simp [SMap.set, h, SMap.get_ins_self]

theorem SMap.wf_erase [DecidableEq α] (d : α) (m : SMap α) (a : Nat) (h : SMap.wf d m = true) : SMap.wf d (SMap.erase m a) = true := by
  induction m with
  | nil => rfl
  | cons p t ih =>
    simp only [SMap.wf, Bool.and_eq_true, decide_eq_true_eq] at h
    simp only [SMap.erase]
    split
    · exact h.2
    · simp [SMap.wf, SMap.above_erase t p.1 a h.1.1, h.1.2, ih h.2]

theorem SMap.wf_ins [DecidableEq α] (d : α) (m : SMap α) (a : Nat) (x : α) (h : SMap.wf d m = true) (hx : x ≠ d) :
    SMap.wf d (SMap.ins m a x) = true := by
  induction m with
  | nil => simp [SMap.ins, SMap.wf, SMap.above, hx]
  | cons p t ih =>
    have h' := h
    simp only [SMap.wf, Bool.and_eq_true, decide_eq_true_eq] at h
    simp only [SMap.ins]
    split
    · simp [SMap.wf, h.1.1, h.2, hx]
    · split
      · next e l =>
        simp [SMap.wf, h.1.1, h.2, h.1.2, hx, SMap.above, l]
        exact SMap.above_mono t p.1 a h.1.1 (by omega)
      · next e l => simp [SMap.wf, SMap.above_ins t p.1 a x h.1.1 (by omega), h.1.2, ih h.2]

/-- Every write keeps the canonical form. -/
theorem SMap.wf_set [DecidableEq α] (d : α) (m : SMap α) (a : Nat) (x : α) (h : SMap.wf d m = true) :
    SMap.wf d (SMap.set d m a x) = true := by
  unfold SMap.set
  split
  · exact SMap.wf_erase d m a h
  · next e => exact SMap.wf_ins d m a x h e

/-- Removing a key keeps the keys rising. -/
theorem SMap.rising_erase (m : SMap α) (a : Nat) (h : SMap.rising m = true) : SMap.rising (SMap.erase m a) = true := by
  induction m with
  | nil => rfl
  | cons p t ih =>
    simp only [SMap.rising, Bool.and_eq_true] at h
    simp only [SMap.erase]
    split
    · exact h.2
    · simp [SMap.rising, SMap.above_erase t p.1 a h.1, ih h.2]

/-- Putting a value keeps the keys rising. -/
theorem SMap.rising_ins (m : SMap α) (a : Nat) (x : α) (h : SMap.rising m = true) : SMap.rising (SMap.ins m a x) = true := by
  induction m with
  | nil => rfl
  | cons p t ih =>
    have h0 := h
    simp only [SMap.rising, Bool.and_eq_true] at h
    simp only [SMap.ins]
    split
    · simp [SMap.rising, h.1, h.2]
    · split
      · next e l =>
        have := SMap.above_mono t p.1 a h.1 (by omega)
        simp [SMap.rising, h.1, h.2, SMap.above, l, this]
      · next e l => simp [SMap.rising, SMap.above_ins t p.1 a x h.1 (by omega), ih h.2]

/-- A write keeps the keys rising. -/
theorem SMap.rising_set [DecidableEq α] (d : α) (m : SMap α) (a : Nat) (x : α) (h : SMap.rising m = true) :
    SMap.rising (SMap.set d m a x) = true := by
  unfold SMap.set
  split
  · exact SMap.rising_erase m a h
  · exact SMap.rising_ins m a x h

/-- A table whose values alone change keeps its keys. -/
theorem SMap.above_map {β : Type} (g : Nat × α → β) (m : SMap α) (a : Nat) :
    SMap.above a (m.map (fun p => (p.1, g p))) = SMap.above a m := by
  induction m with
  | nil => rfl
  | cons p t ih => simp [SMap.above, ih]

/-- A table whose values alone change keeps its keys rising. -/
theorem SMap.rising_map {β : Type} (g : Nat × α → β) (m : SMap α) :
    SMap.rising (m.map (fun p => (p.1, g p))) = SMap.rising m := by
  induction m with
  | nil => rfl
  | cons p t ih => simp [SMap.rising, SMap.above_map, ih]

/-- A change of every value that keeps the default reads through. -/
theorem SMap.get_map (d : α) (g : α → α) (hd : g d = d) (m : SMap α) (a : Nat) :
    SMap.get d (m.map (fun p : Nat × α => (p.1, g p.2))) a = g (SMap.get d m a) := by
  induction m with
  | nil => exact hd.symm
  | cons p t ih =>
    simp only [List.map_cons, SMap.get]
    split
    · rfl
    · exact ih

end Sys2Proof.Machine
end

