-- ==== Sys2Proof/Laws/Memory.lean ====
section
/-! SUPPORT. Laws of DRAM: every store keeps the canonical form, a byte stored is read back, and every other byte reads as before. -/

namespace Sys2Proof.Machine

theorem storeBytes_wf (m : List Host.Cell) (a : Nat) (bs : List Byte) (h : SMap.wf (0 : Byte) m = true) :
    SMap.wf (0 : Byte) (storeBytes m a bs) = true := by
  induction bs generalizing m a with
  | nil => exact h
  | cons b t ih => exact ih _ _ (SMap.wf_set _ _ _ _ h)

/-- A byte outside the stored range reads as before. -/
theorem storeBytes_outside (m : List Host.Cell) (a : Nat) (bs : List Byte) (x : Nat) (h : x < a ∨ a + bs.length ≤ x) :
    SMap.get (0 : Byte) (storeBytes m a bs) x = SMap.get 0 m x := by
  induction bs generalizing m a with
  | nil => rfl
  | cons b t ih =>
    simp only [List.length_cons] at h
    rw [storeBytes, ih _ _ (by omega), SMap.get_set_ne _ _ _ _ _ (by omega)]

/-- A byte of the stored range reads as the byte stored there. -/
theorem storeBytes_inside (m : List Host.Cell) (a : Nat) (bs : List Byte) (h : SMap.wf (0 : Byte) m = true) (i : Nat)
    (hi : i < bs.length) : SMap.get (0 : Byte) (storeBytes m a bs) (a + i) = bs[i] := by
  induction bs generalizing m a i with
  | nil => simp at hi
  | cons b t ih =>
    cases i with
    | zero =>
      rw [storeBytes, storeBytes_outside _ _ _ _ (by omega)]
      exact SMap.get_set_self _ _ _ _ (SMap.rising_of_wf _ _ h)
    | succ n =>
      have := ih (SMap.set 0 m a b) (a + 1) (SMap.wf_set _ _ _ _ h) n (by simpa using hi)
      simpa [storeBytes, Nat.add_assoc, Nat.add_comm 1] using this

theorem writeMem_wf (d : Dev) (a : Nat) (bs : List Byte) (h : Memory.wf d = true) : Memory.wf (d.writeMem a bs) = true :=
  storeBytes_wf _ _ _ h

theorem byteAt_writeMem_outside (d : Dev) (a : Nat) (bs : List Byte) (x : Nat) (h : x < a ∨ a + bs.length ≤ x) :
    (d.writeMem a bs).byteAt x = d.byteAt x := storeBytes_outside _ _ _ _ h

theorem byteAt_writeMem_inside (d : Dev) (a : Nat) (bs : List Byte) (hw : Memory.wf d = true) (i : Nat) (hi : i < bs.length) :
    (d.writeMem a bs).byteAt (a + i) = bs[i] := storeBytes_inside _ _ _ hw i hi

/-- What was stored is what is read. -/
theorem readMem_writeMem (d : Dev) (a : Nat) (bs : List Byte) (hw : Memory.wf d = true) :
    (d.writeMem a bs).readMem a bs.length = bs := by
  apply List.ext_getElem
  · simp [Dev.readMem]
  · intro i h1 h2
    simp [Dev.readMem, byteAt_writeMem_inside d a bs hw i h2]

/-- A read that a store does not touch. -/
theorem readMem_writeMem_outside (d : Dev) (a : Nat) (bs : List Byte) (b n : Nat) (h : b + n ≤ a ∨ a + bs.length ≤ b) :
    (d.writeMem a bs).readMem b n = d.readMem b n := by
  simp only [Dev.readMem]
  apply List.map_congr_left
  intro i hi
  simp only [List.mem_range] at hi
  exact byteAt_writeMem_outside d a bs (b + i) (by omega)

theorem reset_memory_wf : Memory.wf State.reset.dev = true := rfl

end Sys2Proof.Machine
end

