-- ==== Sys2Proof/Laws/Session.lean ====
section
/-! SUPPORT. What the end of a session, the closing of apertures and a failed command do, once. -/

namespace Sys2Proof.Machine

theorem val_setVal_ne (d : Dev) (k v j : Nat) (h : j ≠ k) : (d.setVal k v).val j = d.val j := by
  simp only [Dev.val, Dev.setVal]
  rw [SMap.get_set_ne _ _ _ _ _ h]

theorem val_setVal_self (d : Dev) (k v : Nat) (h : SMap.rising d.dict.vals = true) : (d.setVal k v).val k = v := by
  simp only [Dev.val, Dev.setVal]
  rw [SMap.get_set_self _ _ _ _ h]
  split
  · next x e =>
    split at e
    · cases e
    · cases e; rfl
  · next e =>
    split at e
    · next h => exact h.symm
    · cases e

@[simp] theorem val_bump_ne (d : Dev) (k j : Nat) (h : j ≠ k) : (d.bump k).val j = d.val j := val_setVal_ne d k _ j h

theorem val_bump_self (d : Dev) (k : Nat) (h : SMap.rising d.dict.vals = true) :
    (d.bump k).val k = satAdd 0xFFFFFFFF (d.val k) 1 := val_setVal_self d k _ h

/-- A table of the device reads back what was written, where it is not the default. -/
theorem ap_setAp_ne (d : Dev) (n m : Nat) (x : Ap) (h : m ≠ n) : (d.setAp n x).ap m = d.ap m :=
  SMap.get_set_ne _ _ _ _ _ h

theorem ap_setAp_self (d : Dev) (n : Nat) (x : Ap) (h : x ≠ {}) : (d.setAp n x).ap n = x :=
  SMap.get_set_self_ne _ _ _ _ h

theorem queue_setQueue_ne (d : Dev) (q r : QueueId) (x : Queue) (h : r ≠ q) : (d.setQueue q x).queue r = d.queue r :=
  SMap.get_set_ne _ _ _ _ _ (fun e => h (BitVec.eq_of_toNat_eq e))

theorem queue_setQueue_self (d : Dev) (q : QueueId) (x : Queue) (h : x ≠ {}) : (d.setQueue q x).queue q = x :=
  SMap.get_set_self_ne _ _ _ _ h

/-- The aperture after a closing step at another or at the same place. -/
theorem ap_close_foldl (st : BitVec 4) (ns : List Nat) (hs : st ≠ 0) (d : Dev) (n : Nat) :
    (ns.foldl (fun (d : Dev) (n : Nat) => d.setAp n { d.ap n with isOpen := false, status := st }) d).ap n =
      if n ∈ ns then { d.ap n with isOpen := false, status := st } else d.ap n := by
  induction ns generalizing d with
  | nil => simp
  | cons k t ih =>
    rw [List.foldl_cons, ih]
    by_cases e : n = k
    · subst e
      have hne : ({ d.ap n with isOpen := false, status := st } : Ap) ≠ {} := by
        intro h
        exact hs (by simpa using congrArg Ap.status h)
      rw [ap_setAp_self _ _ _ hne]
      simp
    · rw [ap_setAp_ne _ _ _ _ e]
      simp [e]

/-- Every open aperture that the test picks closes with the status, no other changes (R31). -/
theorem ap_closeAps (d : Dev) (p : Ap → Bool) (st : Nat) (hs : BitVec.ofNat 4 st ≠ 0) (n : Nat) (hn : n < 64) :
    (d.closeAps p st).ap n = if (d.ap n).isOpen && p (d.ap n) then { d.ap n with isOpen := false, status := BitVec.ofNat 4 st } else d.ap n := by
  have h := ap_close_foldl (BitVec.ofNat 4 st) ((List.range 64).filter (fun n => (d.ap n).isOpen && p (d.ap n))) hs d n
  unfold Dev.closeAps
  dsimp only
  split
  · rw [h]; simp [hn]
  · rw [Dev.msix_ap, h]; simp [hn]

/-- A failed command leaves its queue running as it was: only its poison may change. -/
theorem queue_poison (d : Dev) (q r : QueueId) (i : Nat) (tag : U16) :
    ((d.poison q i tag).queue r).state = (d.queue r).state ∧ ((d.poison q i tag).queue r).head = (d.queue r).head ∧
    ((d.poison q i tag).queue r).tail = (d.queue r).tail ∧ ((d.poison q i tag).queue r).hold = (d.queue r).hold := by
  unfold Dev.poison
  split
  · by_cases e : r = q
    · subst e
      rw [queue_setQueue_self]
      · simp
      · intro h
        have := congrArg Queue.failed h
        simp only [firstFail] at this
        split at this
        · cases this
        · split at this <;> cases this
    · rw [queue_setQueue_ne _ _ _ _ e]
      simp
  · exact ⟨rfl, rfl, rfl, rfl⟩

theorem queue_failCmd (d : Dev) (i code det : Nat) (m : Option Nat) (r : QueueId) :
    ((d.failCmd i code det m).queue r).state = (d.queue r).state ∧ ((d.failCmd i code det m).queue r).head = (d.queue r).head ∧
    ((d.failCmd i code det m).queue r).tail = (d.queue r).tail ∧ ((d.failCmd i code det m).queue r).hold = (d.queue r).hold := by
  unfold Dev.failCmd
  split
  · exact ⟨rfl, rfl, rfl, rfl⟩
  · next c _ =>
    have := queue_poison (d.retireCmd i) c.q r i c.tag
    dsimp only
    split <;> simpa using this

theorem qs_failCmd (d : Dev) (i code det : Nat) (m : Option Nat) : (d.failCmd i code det m).qs.cmds = d.qs.cmds.filter (fun c => c.id != i) := by
  unfold Dev.failCmd
  split
  · next h =>
    have h' : d.qs.cmds.find? (fun c => c.id == i) = none := h
    rw [List.find?_eq_none] at h'
    exact (List.filter_eq_self.mpr (fun c hc => by simpa using h' c hc)).symm
  · next c _ =>
    have : ((d.retireCmd i).poison c.q i c.tag).qs.cmds = d.qs.cmds.filter (fun c => c.id != i) := by
      unfold Dev.poison
      split <;> rfl
    dsimp only
    split <;> simpa using this

/-- The host DMAs fail one by one: nothing but their commands, poison and the event parts changes. -/
theorem failDmas_foldl (ids : List Nat) (d : Dev) :
    let t := ids.foldl (fun (d : Dev) (i : Nat) => d.failOpen i 0x0114) d
    Frame (eventParts ++ [.qs, .intake, .free]) d t ∧ t.host.owner = d.host.owner ∧ t.host.aps = d.host.aps ∧
    t.host.owner = d.host.owner ∧ t.qs.holds = d.qs.holds ∧ t.qs.dmas = d.qs.dmas ∧ t.qs.bufs = d.qs.bufs ∧ t.qs.slots = d.qs.slots ∧
    (∀ q, (t.queue q).state = (d.queue q).state ∧ (t.queue q).head = (d.queue q).head ∧ (t.queue q).tail = (d.queue q).tail) ∧
    (∀ c ∈ d.qs.cmds, c.id ∉ ids → c ∈ t.qs.cmds) ∧
    (d.host.owner = none → t.ring = d.ring) := by
  induction ids generalizing d with
  | nil =>
    refine ⟨Frame.refl _ _, rfl, rfl, rfl, rfl, rfl, rfl, rfl, fun _ => ⟨rfl, rfl, rfl⟩, ?_, fun _ => rfl⟩
    intro c hc _
    exact hc
  | cons i t ih =>
    have h := ih (d.failOpen i 0x0114)
    obtain ⟨h1, h2, h3, h4, h5, h6, h7, h8, h9, h10, h11⟩ := h
    rw [List.foldl_cons]
    refine ⟨(Frame.failOpen d i _).trans h1, by simpa using h2, by simpa using h3, by simpa using h4, by simpa using h5,
      by simpa using h6, by simpa using h7, by simpa using h8, ?_, ?_, ?_⟩
    · intro q
      have a := h9 q
      have b := queue_failCmd d i 0x0114 ((d.freeAt 0).toNat % 2 ^ 24) none q
      have e : (d.failOpen i 0x0114).queue q = (d.failCmd i 0x0114 ((d.freeAt 0).toNat % 2 ^ 24) none).queue q := rfl
      rw [e] at a
      exact ⟨a.1.trans b.1, a.2.1.trans b.2.1, a.2.2.trans b.2.2.1⟩
    · intro c hc hn
      refine h10 c ?_ (fun m => hn (List.mem_cons_of_mem _ m))
      have e : (d.failOpen i 0x0114).qs.cmds = (d.failCmd i 0x0114 ((d.freeAt 0).toNat % 2 ^ 24) none).qs.cmds := rfl
      rw [e, qs_failCmd]
      simp only [List.mem_filter, bne_iff_ne, ne_eq]
      exact ⟨hc, fun e => hn (by simp [e])⟩
    · intro ho
      rw [h11 (by simpa using ho)]
      have key : ∀ (d : Dev) (ty src x : Nat), d.host.owner = none → (d.event ty src x).ring = d.ring := by
        intro d ty src x ho
        simp [Dev.event, Dev.record, ho]
      show (d.failCmd i 0x0114 _ none).ring = d.ring
      unfold Dev.failCmd
      split
      · rfl
      · next c _ =>
        have : ∀ q i tag, ((d.retireCmd i).poison q i tag).ring = d.ring ∧ ((d.retireCmd i).poison q i tag).host = d.host := by
          intro q i tag
          unfold Dev.poison
          split <;> exact ⟨rfl, rfl⟩
        dsimp only
        rw [key _ _ _ _ (by rw [(this _ _ _).2]; exact ho), (this _ _ _).1]

/-- Everything the end of a session does (R40). -/
theorem endSession_ends (d : Dev) (gone : Bool) (p : Path) (h : d.host.owner = some p) :
    SessionEnded d (d.endSession gone) ∧ Frame [.host, .ring, .qs, .dict, .intake, .link, .free] d (d.endSession gone) ∧
    (∀ n < 64, (d.endSession gone).ap n = if (d.ap n).isOpen then { d.ap n with isOpen := false, status := 6 } else d.ap n) := by
  unfold Dev.endSession
  rw [h]
  dsimp only
  generalize hd1 : (if gone then d.bump 0x230006 else d).bumpN 0x230007 d.ring.recs.length = d1
  have e1 : ∃ v, d1 = { d with dict := { d.dict with vals := v } } := by
    subst hd1
    split <;> exact ⟨_, rfl⟩
  obtain ⟨v, e1⟩ := e1
  generalize hd2 : ({ d1 with
      host := { d1.host with owner := none, unsignalled := 0, timerOn := false }
      ring := { d1.ring with enabled := false, recs := [], tail := 0, head := 0 }
      qs := { d1.qs with
        holds := []
        queues := d1.qs.queues.map (fun (q : Nat × Queue) => (q.1, { q.2 with state := .disabled, tail := q.2.head })) } } : Dev) = d2
  have f2 : Frame [.host, .ring, .qs, .dict] d d2 := by
    subst hd2 e1
    intro p hp
    cases p <;> first | exact absurd (by decide) hp | rfl
  have hq : ∀ q, d2.queue q = { d.queue q with state := .disabled, tail := (d.queue q).head } := by
    intro q
    subst hd2 e1
    exact SMap.get_map ({} : Queue) (fun x : Queue => { x with state := .disabled, tail := x.head }) rfl _ _
  have ha : ∀ n, d2.ap n = d.ap n := by subst hd2 e1; intro n; rfl
  have hr : d2.ring.enabled = false ∧ d2.ring.recs = [] := by subst hd2; exact ⟨rfl, rfl⟩
  have ho : d2.host.owner = none := by subst hd2; rfl
  have hqs : d2.qs.holds = [] ∧ d2.qs.bufs = d.qs.bufs ∧ d2.qs.slots = d.qs.slots ∧ d2.qs.cmds = d.qs.cmds ∧ d2.qs.dmas = d.qs.dmas := by
    subst hd2 e1; exact ⟨rfl, rfl, rfl, rfl, rfl⟩
  clear hd2 e1 hd1
  have hf := failDmas_foldl (d2.qs.dmas.map (·.id)) { d2 with qs := { d2.qs with dmas := [] } }
  obtain ⟨g1, g2, g3, g4, g5, g6, g7, g8, g9, g10, g11⟩ := hf
  have e3 : d2.failDmas = (d2.qs.dmas.map (·.id)).foldl (fun (d : Dev) (i : Nat) => d.failOpen i 0x0114) { d2 with qs := { d2.qs with dmas := [] } } := rfl
  rw [← e3] at g1 g2 g3 g4 g5 g6 g7 g8 g9 g10 g11
  have g11 := g11 ho
  generalize d2.failDmas = d3 at *
  have c0 := Frame.closeAps d3 (fun _ => true) 6
  have ca : ∀ n < 64, (d3.closeAps (fun _ => true) 6).ap n = if (d.ap n).isOpen then { d.ap n with isOpen := false, status := 6 } else d.ap n := by
    intro n hn
    rw [ap_closeAps _ _ _ (by decide) n hn]
    have : d3.ap n = d.ap n := by rw [← ha n]; simp only [Dev.ap, g3]
    simp [this]
  have hqs4 : (d3.closeAps (fun _ => true) 6).qs = d3.qs := c0 .qs (by decide)
  have hrg4 : (d3.closeAps (fun _ => true) 6).ring = d3.ring := c0 .ring (by decide)
  have how4 : (d3.closeAps (fun _ => true) 6).host.owner = d3.host.owner := by
    have fo : ∀ (st : BitVec 4) (ns : List Nat) (d : Dev),
        (ns.foldl (fun (d : Dev) (n : Nat) => d.setAp n { d.ap n with isOpen := false, status := st }) d).host.owner = d.host.owner := by
      intro st ns
      induction ns with
      | nil => intro d; rfl
      | cons k t ih => intro d; rw [List.foldl_cons, ih]; rfl
    unfold Dev.closeAps
    dsimp only
    split <;> simp [fo]
  refine ⟨⟨?_, ?_, ?_, ?_, ?_, ?_, ?_, ?_, ?_, ?_⟩, ?_, ca⟩
  · rw [how4, g2]; exact ho
  · rw [hrg4, g11]; exact hr.1
  · rw [hrg4, g11]; exact hr.2
  · intro q
    have e : (d3.closeAps (fun _ => true) 6).queue q = d3.queue q := by simp only [Dev.queue, hqs4]
    have a := g9 q
    have b : ({ d2 with qs := { d2.qs with dmas := [] } } : Dev).queue q = d2.queue q := rfl
    rw [b, hq q] at a
    rw [e]
    exact ⟨a.1, a.2.1, a.2.2⟩
  · intro n hn
    rw [ca n hn]
    split
    · rfl
    · next e => simpa using e
  · rw [hqs4, g5]; exact hqs.1
  · rw [hqs4, g6]
  · rw [hqs4, g7]; exact hqs.2.1
  · rw [hqs4, g8]; exact hqs.2.2.1
  · intro c hc hx
    rw [hqs4]
    refine g10 c ?_ ?_
    · show c ∈ d2.qs.cmds
      rw [hqs.2.2.2.1]; exact hc
    · rw [hqs.2.2.2.2]
      simp only [List.mem_map, not_exists, not_and]
      intro x hm
      exact hx x hm
  · have k1 : Frame [.host, .ring, .qs, .dict, .intake, .link, .free] d d2 := f2.mono (by decide)
    have k2 : Frame [.host, .ring, .qs, .dict, .intake, .link, .free] d2 { d2 with qs := { d2.qs with dmas := [] } } := by
      intro p hp
      cases p <;> first | exact absurd (by decide) hp | rfl
    exact ((k1.trans k2).trans (g1.mono (by decide))).trans (c0.mono (by decide))

end Sys2Proof.Machine
end

