-- ==== Sys2Proof/Tests/Slice0.lean ====
section
/-! SUPPORT. Tests: ill-formed commands are refused by the well-formedness check, worked examples of the spec come out as it states them,
and for the hypotheses of each statement that has some, a state and operands that meet them. -/

namespace Sys2Proof.Tests

set_option Elab.async false

open Sys2Proof.Machine

/-! ### Well-formed commands -/

/-- An ill-formed term for each check, and a well-formed one beside it. -/
theorem test_wellFormed :
    Instr.wellFormed (.malformedBar0Access true 0x10 4) = false ∧ Instr.wellFormed (.malformedBar0Access true 0x12 4) = true ∧
    Instr.wellFormed (.registerWrite 0x12 false 0) = false ∧ Instr.wellFormed (.registerWrite 0x10 false 0) = true ∧
    Instr.wellFormed (.registerWrite 0x14 true 0) = false ∧ Instr.wellFormed (.registerWrite 0x18 true 0) = true ∧
    Instr.wellFormed (.bar2Resize 31) = false ∧ Instr.wellFormed (.bar2Resize 39) = false ∧ Instr.wellFormed (.bar2Resize 38) = true ∧
    Instr.wellFormed (.interruptTransferComplete .usb3 0) = false ∧ Instr.wellFormed (.interruptTransferComplete .usb3 65) = false ∧
    Instr.wellFormed (.interruptTransferComplete .usb3 64) = true ∧
    Instr.wellFormed (.commandFetch (some (List.replicate 63 0))) = false ∧ Instr.wellFormed (.commandFetch (some (List.replicate 64 0))) = true ∧
    Instr.wellFormed (.thermalSample (List.replicate 23 0)) = false ∧ Instr.wellFormed (.thermalSample (List.replicate 24 0)) = true ∧
    Instr.wellFormed (.dramTempPoll (List.replicate 31 0)) = false ∧ Instr.wellFormed (.dramTempPoll (List.replicate 32 0)) = true ∧
    Instr.wellFormed (.sensorExclude 24) = false ∧ Instr.wellFormed (.sensorExclude 23) = true ∧
    Instr.wellFormed (.sensorReinclude 24) = false ∧ Instr.wellFormed (.sensorReinclude 23) = true ∧
    Instr.wellFormed (.partitionFault 40) = false ∧ Instr.wellFormed (.partitionFault 39) = true ∧
    Instr.wellFormed (.bistComplete 40 { signature := 0, memFail := none }) = false ∧
    Instr.wellFormed (.bistComplete 39 { signature := 0, memFail := none }) = true ∧
    Instr.wellFormed (.enumerationComplete 0 (List.replicate 33 15)) = false ∧ Instr.wellFormed (.enumerationComplete 0 (List.replicate 32 15)) = true ∧
    Instr.wellFormed (.rejoinAttempt 0 ⟨List.replicate 33 15, []⟩) = false ∧ Instr.wellFormed (.rejoinAttempt 0 ⟨[], List.replicate 33 ⟨0, 0, 0⟩⟩) = false ∧
    Instr.wellFormed (.rejoinAttempt 0 ⟨List.replicate 32 15, []⟩) = true ∧
    Instr.wellFormed (.counterStep 10) = false ∧ Instr.wellFormed (.counterStep 9) = true ∧
    Instr.wellFormed (.returnAuth (List.replicate 96 0) (List.replicate 96 0)) = false ∧
    Instr.wellFormed (.returnAuth (List.replicate 97 0) (List.replicate 95 0)) = false ∧
    Instr.wellFormed (.returnAuth (List.replicate 97 0) (List.replicate 96 0)) = true ∧
    Instr.wellFormed (.sailCfgWrite 0 ⟨false, 0⟩ ⟨0, 0, 13, List.replicate 13 0⟩) = false ∧
    Instr.wellFormed (.sailCfgWrite 0 ⟨false, 0⟩ ⟨0, 0, 12, List.replicate 12 0⟩) = true := by decide

/-! ### States the tests use -/

/-- A state with nothing waiting. -/
def st (d : Dev) : State := { dev := d, pending := [] }
/-- UNDERWAY, with a session of the PCIe path and its event ring. -/
def up : Dev := { pw := { state := .underway }, link := { bme := true, msixEnable := true }, host := { owner := some .pcie },
                  ring := { enabled := true, log2 := 8, base := 0x10000 } }
/-- The same without a session. -/
def alone : Dev := { pw := { state := .underway }, link := { bme := true } }
/-- The same with a session of a USB path. -/
def usb : Dev := { up with host := { owner := some .usb3 } }
/-- With a LIVE buffer of 64 KiB under handle 1. -/
def withBuf (d : Dev) : Dev := { d with qs := { d.qs with bufs := [(1, { state := .live, base := 65536, size := 65536 })] } }
/-- Its reference. -/
def r1 : BufRef := ⟨1, 1⟩
/-- A reference to no buffer. -/
def r9 : BufRef := ⟨9, 1⟩
/-- With queue 0 RUNNING. -/
def withQueue (d : Dev) (x : Queue) : Dev := { d with qs := { d.qs with queues := [(0, { x with state := .running, log2 := 4 })] } }
/-- In a power state. -/
def inState (p : PState) : Dev := { pw := { state := p } }
/-- A command header. -/
def hdr : Hdr := ⟨true, 7⟩

/-! ### Examples of the spec -/

/-- R42's example: aperture 5 covers BAR2 offsets 0x5000_0000 to 0x57FF_FFFF. -/
def apExample : Dev := { up with
  qs := { bufs := [(0x123, { state := .live, gen := 7, size := 0x18000000 })] }
  host := { owner := some .pcie, aps := [(5, { target := 0x00070123, isOpen := true, offset := 0x10000000 })] } }
theorem test_aperture_window : apExample.window (apExample.ap 5) = 0x8000000 ∧
    apExample.bar2Target 0x57FFFFFC 4 = some (apExample.ap 5, 0x17FFFFFC) ∧ apExample.bar2Target 0x58000000 4 = none ∧
    ((apExample.bar2Read 0x58000000 4).host.violSource, (apExample.bar2Read 0x58000000 4).host.violAddr) = (1, 0x58000000) := by decide
/-- The sheaf of file 04's example. -/
def sheafExample : List Byte :=
  [0x50, 0x56, 0x5A, 0x02, 0x01, 0x01, 0x00, 0x01, 0x0C, 0x00, 0x00, 0x00, 0x1B, 0x00, 0x00, 0x00] ++
  [0x01, 0x00, 0x00, 0x00, 0xE6, 0xAD, 0xE5, 0x88, 0x28, 0x00, 0x00, 0x00, 0x00, 0x00, 0x00, 0x00] ++
  [0x0C, 0x00, 0x00, 0x00, 0x01, 0x00, 0x00, 0x00, 0x11, 0x01, 0x61, 0x01, 0x00, 0x62, 0x01, 0x00] ++
  [0x11, 0x01, 0x01, 0x01, 0x00, 0x1D, 0x01, 0x00, 0x00, 0x01, 0x0C]
/-- File 04: it produces "abababababab" from 59 bytes. -/
theorem test_sheaf : hdrChecks sheafExample = none ∧ (decodeSheaf sheafExample false false {} 12).fault = none ∧
    (decodeSheaf sheafExample false false {} 12).out = [0x61, 0x62, 0x61, 0x62, 0x61, 0x62, 0x61, 0x62, 0x61, 0x62, 0x61, 0x62] := by decide +kernel
/-- The check values under R71, R230 and R301. -/
theorem test_crcs : crc32 [0x31, 0x32, 0x33, 0x34, 0x35, 0x36, 0x37, 0x38, 0x39] = 0xCBF43926 ∧
    crc16 [0x31, 0x32, 0x33, 0x34, 0x35, 0x36, 0x37, 0x38, 0x39] = 0x29B1 ∧
    crc32c [0x31, 0x32, 0x33, 0x34, 0x35, 0x36, 0x37, 0x38, 0x39] = 0xE3069283 := by decide +kernel
/-- R267's example: FWD_TRIM 200. -/
theorem test_trim_of_hop : trimOf { hopRt := 0xA0, turnaround := 0x50, fwdBase := 0xF0 } = 200 := by decide
/-- R315's example: channel, bank, row and column of one address under the three maps. -/
theorem test_places : mapAddr 0 16 0x2A5C37E40 = ⟨30, 0, 3, 0x2A5C, 832⟩ ∧ mapAddr 1 16 0x2A5C37E40 = ⟨30, 0, 15, 0x2A5C, 832⟩ ∧
    mapAddr 2 16 0x2A5C37E40 = ⟨15, 0, 15, 0x2A5C, 1600⟩ ∧ rowBits 64 1 = 16 := by decide
/-- R234's example: the first bytes of a payload. R250's: copy 1 of a TACK carries Adjust 12 on four lanes at 32 Gbit/s. -/
theorem test_payload : (pack30 [0x3FF00155, 0x1800FF, 0]).take 8 = [0x55, 0x01, 0xF0, 0xFF, 0x3F, 0x00, 0x06, 0x00] ∧
    ({ rate := 3, lanes := 15 } : Mast).adjust 1 = 12 := by decide
/-- R130's example: 615 predicted, q = 2 at NEAR 1 gives 621; z = 79 and 400 stand for −40 and 200. -/
theorem test_residual : reconSample 10 1 615 2 = 621 ∧ unzig 4 = 2 ∧ unzig 79 = -40 ∧ unzig 400 = 200 := by decide
/-- R358's example: the response to a READ of mast 7's underruns over CAN. -/
theorem test_can_frame : canBytes 0x10 0x21 (frameBytes 3 0x5A 0x81 7 0x11 0 0x31C0 0 [3, 0, 0, 0]) 0 [3, 0, 0, 0] =
    [0x5A, 0x21, 0x10, 0x03] ++ [0xC0, 0x31, 0x11, 0x07, 0x00, 0x00, 0x04, 0x00, 0x03, 0x00, 0x00, 0x00] := by decide
/-- R355's example: the conflict record of NET over CAN on entry 0x2000.02 in tack 2,588. -/
theorem test_conflict_record : SMap.get 0 (({ up with tack := { openSeq := 2588 } } : Dev).logConflict ⟨0x2000, 2, 7, [200, 0, 0, 0]⟩ 2 3).dict.conf 0x10 =
    0x2000022300000A1C := by decide
/-- R407's example: sensor 20 at 131 °C among neighbours at 88, 90 and 91 °C reads 90 °C. -/
theorem test_median : medianOf [1408, 1440, 1456] = 1440 := by decide
/-- FIPS 180-4's example: the digest of "abc" begins CB 00 75 3F and has 48 bytes. -/
theorem test_sha384 : (Config.sha384 [0x61, 0x62, 0x63]).take 4 = [0xCB, 0x00, 0x75, 0x3F] ∧ (Config.sha384 [0x61, 0x62, 0x63]).length = 48 := by
  decide +kernel
/-- R473: in reset TACK_OUT is low, CAN_TX and XSPI_CS_N are high; with a shutdown latched all but THERM_SHDN_N are high impedance. -/
theorem test_pins : (let d : Dev := { up with pw := { state := .resetHeld, resetLow := true } };
      d.pinDrive .tackOut = .low ∧ d.pinDrive .canTx = .high ∧ d.pinDrive .xspiCsN = .high ∧ d.pinDrive .tdo = .highZ) ∧
    (let d : Dev := { up with pw := { state := .shutdown, latched := true } };
      d.pinDrive .thermShdnN = .low ∧ d.pinDrive .tackOut = .highZ ∧ d.pinDrive .canTx = .highZ) := by decide
/-- R424's example: codes 41 at 35 °C and 47 at 80 °C give 45 at 62.5 °C. -/
theorem test_interpolate : interpolate [{ point := 560, codes := [some 41] }, { point := 1280, codes := [some 47] }] 0 1000 = some 45 := by decide
/-- R437's example: the TACKS_RETIRED ring of generation 3 with 8,002 bits cleared. -/
theorem test_counter_ring : ({ up with ledger := { rings := [(2, { gen := 3, bits := 8002, blank := false })], sectors := [(16, {
    header := sectorHeader 0 0, used := 2, copies := [(1, { raw := recordBytes 0xF302 1 (leBytes 4 3 ++ leBytes 8 4286578688) })] })] } } : Dev).ringValue 2 =
      4810997760 := by decide +kernel

/-! ### Hypotheses of the statements are met -/

theorem test_witness_UnpoweredAndHeldDoNothing :
    (Instr.alwaysOn (.nop 0 hdr) = false ∧ (inState .moored).powered = false ∧ (inState .off).powered = false) ∧
    (Instr.queue (.nop 0 hdr) = some 0 ∧ (withQueue up { hold := .barrier 1 }).powered = true ∧
      ((withQueue up { hold := .barrier 1 }).queue 0).hold ≠ .none) := by decide

theorem test_witness_LinksAndConfigurationSpace :
    (up.powered = true ∧ up.pw.state ≠ .recovery ∧ bit up.link.pathEnable 0 = true ∧ bit up.link.pathEnable 1 = true) ∧
    ((⟨some .gen2, true, none, true, false⟩ : Partner).usb4 = some .gen2 ∧ (⟨none, false, some .g1x1, true, true⟩ : Partner).usb4 = none ∧
      (⟨none, false, some .g1x1, true, true⟩ : Partner).ss = some .g1x1) ∧
    ((inState .recovery).powered = true ∧ (inState .recovery).pw.state = .recovery) ∧
    (up.host.pba = 0 ∧ 128 ∈ [128, 256, 512] ∧ 4096 ∈ [128, 256, 512, 1024, 2048, 4096] ∧ SMap.rising up.link.bars = true) := by decide

theorem test_witness_SessionOpenTakesOrRefuses :
    (alone.powered = true ∧ alone.coreFenced = false ∧ SMap.rising alone.dict.vals = true ∧ alone.host.owner = none ∧ alone.booted = true ∧
      alone.pw.state ≠ .forcedHove ∧ alone.link.bme = true ∧ alone.link.d3hot = false ∧ alone.fuses.straps ≠ 2) ∧
    ((inState .recovery).powered = true ∧ (inState .recovery).coreFenced = false ∧ (inState .recovery).host.owner = none ∧
      (inState .recovery).pw.state = .recovery) ∧
    (up.coreFenced = false ∧ up.host.owner = some .pcie ∧ Path.pcie ≠ Path.usb3 ∧ up.fuses.straps ≠ 2) ∧
    ((inState .boot).powered = true ∧ (inState .boot).coreFenced = false ∧ (inState .boot).booted = false) ∧
    ((inState .underway).link.bme = false ∧ (inState .underway).powered = true) ∧
    (let d : Dev := { inState .underway with fuses := { straps := 2 } };
      d.powered = true ∧ d.coreFenced = false ∧ d.fuses.straps = 2 ∧ d.pw.state ≠ .recovery ∧ d.offers .pcie = false ∧ d.offers .usb3 = false ∧
      bit d.link.pathEnable 2 = true ∧ ({ d with fuses := { straps := 1 } } : Dev).fuses.straps = 1) ∧
    (alone.offers .pcie = true ∧ alone.offers .usb3 = true ∧ up.offers .usb3 = true ∧ (inState .recovery).offers .usb2 = true ∧
      (inState .boot).offers .pcie = true) := by decide

theorem test_witness_SessionEndClosesTheHostPort :
    (up.powered = true ∧ up.host.owner = some .pcie ∧ up.pw.state ≠ .forcedHove ∧ up.link.d3hot = false ∧ Path.usb2 ≠ Path.pcie) ∧
    (usb.powered = true ∧ usb.host.owner = some .usb3 ∧ UsbPath.toPath .usb3 = .usb3) := by decide

theorem test_witness_MalformedBar0AccessIsLogged :
    (up.powered = true ∧ bar0Shape 0x12 4 = false ∧ bar0Shape 0x10 2 = false ∧ up.pw.state ≠ .recovery ∧ up.pw.state ≠ .forcedHove ∧
      SMap.rising up.dict.vals = true ∧ up.link.d3hot = false ∧ up.host.violAt = none) ∧
    (({ up with now := 99, host := { violAt := some 0 } } : Dev).host.violAt = some 0 ∧
      ({ up with now := 99, host := { violAt := some 0 } } : Dev).now < 0 + 100) ∧
    ({ up with link := { d3hot := true } } : Dev).link.d3hot = true := by decide

theorem test_witness_RegistersAndTheIntModTimer :
    (up.powered = true ∧ up.pw.state ≠ .recovery ∧ up.pw.state ≠ .forcedHove ∧ up.link.d3hot = false ∧ up.host.unsignalled = 0 ∧
      (up.ap 63).isOpen = false ∧ (apExample.ap 5).isOpen = true ∧ up.host.owner = some .pcie ∧ (2 : U32).getLsbD 1 = true ∧
      (up.queue 63).state = .disabled ∧ (0xFF8#18).toNat % 8 = 0 ∧ 0x20 ≤ (0xFF8#18).toNat ∧ (0xFF8#18).toNat < 0x1000) ∧
    (let d : Dev := { up with host := { timerOn := true, msix := [(0, { ctrl := 0 })] } };
      d.powered = true ∧ d.host.timerOn = true ∧ d.link.bme = true ∧ d.link.d3hot = false ∧ d.link.msixEnable = true ∧ d.link.msixMask = false ∧
      bit (SMap.get ({} : MsixEntry) d.host.msix 0).ctrl.toNat 0 = false) ∧ up.host.timerOn = false := by decide

/-- The buffer under handle 1 behind aperture 0, at some offset. -/
def withAp (d : Dev) (off : U64) (isOpen : Bool) : Dev :=
  { withBuf d with host := { d.host with aps := [(0, { target := 0x10001, offset := off, isOpen := isOpen, writeEn := true })] } }

theorem test_witness_AperturesOpenAndClose :
    (up.powered = true ∧ up.link.d3hot = false ∧ up.pw.state ≠ .recovery ∧ up.pw.state ≠ .forcedHove ∧ (up.ap 0).isOpen = false) ∧
    usb.host.owner ≠ some .pcie ∧ (up.host.owner = some .pcie ∧ up.live (up.ap 0).ref = false) ∧
    (let d := withAp up 65536 false;
      (d.ap 0).isOpen = false ∧ d.live (d.ap 0).ref = true ∧ d.sizeOf (d.ap 0).ref ≤ (d.ap 0).offset.toNat) ∧
    (let d := withAp up 61440 false;
      d.live (d.ap 0).ref = true ∧ (d.ap 0).offset.toNat % 4096 = 0 ∧ (d.ap 0).offset.toNat < d.sizeOf (d.ap 0).ref) ∧
    ((withAp up 0 true).ap 0).isOpen = true ∧ SMap.rising (withAp up 0 true).host.aps = true ∧
    (32 ≤ 38 ∧ 38 ≤ 38 ∧ 38 ≠ up.link.bar2Log2) := by decide

theorem test_witness_Bar2ReadsAndWritesThroughWindows :
    (let d := withAp up 0 true;
      d.powered = true ∧ d.link.d3hot = false ∧ d.pw.state ≠ .recovery ∧ d.pw.state ≠ .forcedHove ∧
      d.bar2Target 65532 4 = some (d.ap 0, 65532) ∧ d.lostBuf (d.ap 0).ref 65532 4 = false ∧ d.dram.upsets = [] ∧ (d.ap 0).writeEn = true ∧
      ([1, 2, 3, 4] : List Byte) ≠ [] ∧ d.draws.accepted = [] ∧ Memory.wf d = true ∧ d.bar2Target 65533 4 = none) ∧
    (apExample.bar2Target 0x57FFFFFC 4 = some (apExample.ap 5, 0x17FFFFFC) ∧ (apExample.ap 5).writeEn = false) := by decide

theorem test_witness_UsbTransfersAndSubmissions :
    (let d := withBuf usb;
      let w : XferHdr := ⟨2, 0, 1, 4, 1, 1, 0, 65532, 0, 0, false⟩;
      let r : XferHdr := ⟨3, 0, 1, 0, 1, 1, 4, 65532, 0, 0, false⟩;
      d.powered = true ∧ d.booted = true ∧ d.fuses.straps ≠ 2 ∧ d.pw.state ≠ .forcedHove ∧ d.discards .usb3 = false ∧ w.kind = 2 ∧ w.handle ≠ 0 ∧
      framed w [1, 2, 3, 4] = true ∧
      d.host.owner = some .usb3 ∧ d.live { handle := w.handle, gen := w.gen } = true ∧ w.offset.toNat + 4 ≤ d.sizeOf r1 ∧
      d.lostBuf r1 65532 4 = false ∧ d.draws.accepted = [] ∧ Memory.wf d = true ∧ r.kind = 3 ∧ r.handle ≠ 0 ∧ framed r [] = true ∧
      r.offset.toNat + r.rlen.toNat ≤ d.sizeOf r1 ∧ d.dram.upsets = [] ∧ up.host.owner ≠ some .usb3 ∧
      framed ⟨2, 0, 1, 5, 1, 1, 0, 0, 0, 0, false⟩ [1, 2, 3, 4] = false ∧ fullEnd .usb3 [1, 2, 3, 4] = false ∧
      framed ⟨3, 0, 1, 0, 9, 1, 4, 0, 0, 0, false⟩ [] = true ∧ d.live r9 = false ∧ d.sizeOf r1 < 65533 + 4) ∧
    (let d := withQueue (withBuf usb) { base := 0x10001, loc := true };
      let x : XferHdr := ⟨1, 0, 1, 64, 0, 0, 0, 0, 0, 0, false⟩;
      d.powered = true ∧ d.pw.state = .underway ∧ x.kind = 1 ∧ framed x (List.replicate 64 0) = true ∧ d.host.owner = some .usb3 ∧ Memory.wf d = true ∧
      (d.queue 0).state = .running ∧ 1 ≤ (d.queue 0).room ∧ d.barred (d.queue 0).ringRef (64 * ((d.queue 0).tail % 2 ^ (d.queue 0).log2.toNat)) 64 = none ∧
      (withQueue usb { tail := 15 }).queue 0 ≠ {} ∧ ((withQueue usb { tail := 15 }).queue 0).room < 64 / 64) := by decide

theorem test_witness_VendorRequestsAnswer :
    (up.powered = true ∧ up.booted = true ∧ up.fuses.straps ≠ 2 ∧ up.link.d3hot = false) ∧
    (({ up with xfer := { xferIn := [List.replicate 4096 0] } } : Dev).xfer.xferIn = List.replicate 4096 (0 : Byte) :: [] ∧
      (List.replicate 4096 (0 : Byte)).length ≤ 4096) := ⟨by decide, rfl, Nat.le_of_eq List.length_replicate⟩

theorem test_witness_EventRingIsSetUpAndConsumed :
    (let d : Dev := { usb with ring := { enabled := true, log2 := 8, recs := [⟨1, 0, 0, 0⟩] } };
      d.powered = true ∧ d.ring.lost = 0 ∧ d.host.owner = some .usb3 ∧ d.suspended .usb3 = false ∧ d.ring.enabled = true ∧ d.booted = true ∧
      1 ≤ (64#7).toNat ∧ (64#7).toNat ≤ 64 ∧ 1 ≤ (1#7).toNat ∧ d.ring.recs ≠ [] ∧ usb.ring.recs = [] ∧
      ({ d with link := { d.link with susp3 := true } } : Dev).suspended .usb3 = true) ∧
    (up.host.owner = some .pcie ∧ up.link.d3hot = false ∧ 255 % 65536 < up.ring.size) ∧
    (up.portReach .pcie = true ∧ 8 ≤ (0x801#32).toNat / 256 % 32 ∧ (0x1001#32).toNat / 256 % 32 ≤ 16 ∧ up.ring.base.toNat % 4096 = 0) ∧
    ((0x701#32).toNat / 256 % 32 < 8 ∧ 16 < (0x1101#32).toNat / 256 % 32 ∧ up.mayPort .pcie = true ∧ up.anyQueue = false) ∧
    ((withQueue up {}).anyQueue = true ∧ usb.host.owner ≠ some .pcie) := by decide

theorem test_witness_EventsGoToTheRingOrAreCounted :
    alone.host.owner = none ∧ (up.host.owner = some .pcie ∧ up.ring.enabled = true ∧ up.ring.full = false) ∧
    ({ up with ring := { enabled := true, log2 := 8, tail := 255 } } : Dev).ring.full = true ∧
    ({ up with ring := {} } : Dev).ring.enabled = false ∧ (usb.host.owner = some (UsbPath.toPath .usb3) ∧ usb.link.susp3 = false ∧ usb.link.susp2 = false) ∧
    ((inState .off).outputsOff = true ∧ up.outputsOff = false ∧ up.eventLow = false ∧
      ({ up with ring := { enabled := true, log2 := 8, tail := 1 } } : Dev).eventLow = true) := by decide

theorem test_witness_QueuesAreEnabledDisabledAndRung :
    (up.powered = true ∧ up.portReach .pcie = true ∧ up.mayPort .pcie = true ∧ (up.queue 0).state = .disabled ∧ up.ring.enabled = true ∧
      4 ≤ ((up.queue 0).withCfg 0x4001).log2.toNat ∧ ((up.queue 0).withCfg 0xC001).log2.toNat ≤ 12 ∧ ((up.queue 0).withCfg 0x4001).loc = false ∧
      ((up.queue 0).withCfg 0x4001).base.toNat % 4096 = 0) ∧
    (let d : Dev := { withBuf up with qs := { (withBuf up).qs with queues := [(0, { base := 0x10001 })] } };
      let x := (d.queue 0).withCfg 0xA003;
      x.loc = true ∧ x.base.toNat / 2 ^ 32 = 0 ∧ d.live x.ringRef = true ∧ 64 * 2 ^ x.log2.toNat ≤ d.sizeOf x.ringRef) ∧
    alone.host.owner = none ∧ ({ up with ring := {} } : Dev).ring.enabled = false ∧
    (((up.queue 0).withCfg 0x4003).loc = true ∧ ((up.queue 0).withCfg 0x4003).base.toNat / 2 ^ 32 = 0 ∧
      up.live ((up.queue 0).withCfg 0x4003).ringRef = false) ∧
    (((up.queue 0).withCfg 0x3001).log2.toNat < 4 ∧ 12 < ((up.queue 0).withCfg 0xD001).log2.toNat ∧
      (({ base := 0x100000000 } : Queue).withCfg 0x4003).base.toNat / 2 ^ 32 ≠ 0 ∧ (({ base := 0x10800 } : Queue).withCfg 0x4001).base.toNat % 4096 ≠ 0) ∧
    (usb.powered = true ∧ usb.portReach .usb3 = true ∧ usb.mayPort .usb3 = true ∧ usb.host.owner = some .usb3 ∧ usb.mayPort .pcie = false ∧
      usb.portReach .pcie = true ∧ ((usb.queue 0).withCfg 0x4001).loc = false) ∧
    (let d : Dev := { withBuf up with qs := { (withBuf up).qs with queues := [(0, { base := 0x10001 })] } };
      let x := (d.queue 0).withCfg 0xB003;
      x.log2.toNat ≤ 12 ∧ d.live x.ringRef = true ∧ d.sizeOf x.ringRef < 64 * 2 ^ x.log2.toNat) ∧
    (let d := withQueue up {};
      d.pw.state = .underway ∧ (d.queue 0).state = .running ∧ 15 % 4096 < 2 ^ (d.queue 0).log2.toNat ∧ 2 ^ (d.queue 0).log2.toNat ≤ 16 % 4096 ∧
      (d.queue 1).state ≠ .running) := by decide

theorem test_witness_CompletionAndFailureReports :
    (∀ c ∈ up.qs.cmds, c.id ≠ up.qs.nextId) ∧ (∀ r ∈ up.intake.races, r.1 ≠ up.qs.nextId) ∧ (up.queue 0).lastFence < up.qs.nextId := by decide

theorem test_witness_NopAndAllocInFreeExtents :
    (up.powered = true ∧ (up.queue 0).hold = .none ∧ 137438953472 < (137438953473#64).toNat ∧ (137438953472#64).toNat ≤ 137438953472 ∧
      5 < (6#8).toNat ∧ allocPitch 0 0 = true ∧ allocPitch 0 64 = false ∧ up.dram.lost = none) ∧
    ({ up with qs := { fresh := 65536 } } : Dev).nextHandle = none ∧ ({ up with qs := { fresh := 65536, freed := [9, 8] } } : Dev).nextHandle = some 9 ∧
    ({ up with dram := { capGiB := 0 } } : Dev).placeBuf 0 4096 true = none ∧ (0, 68719476736) ∈ up.extents false := by decide

/-- Where there is room a base is found, whatever the free choice. -/
theorem test_witness_placeBuf : ∃ base, up.placeBuf 0 4096 false = some base := by
  unfold Dev.placeBuf
  dsimp only
  split
  · exact ⟨_, rfl⟩
  · exact ⟨_, rfl⟩

theorem test_witness_FreeAndItsCompletion :
    (let d := withAp up 0 true;
      d.powered = true ∧ (d.queue 0).hold = .none ∧ r9.handle ≠ 0 ∧ d.live r9 = false ∧ d.live r1 = true ∧ (d.ap 0).ref.handle = r1.handle) ∧
    (let d : Dev := { up with qs := { bufs := [(1, { state := .freeing })] } };
      (d.buf 1).state = .freeing ∧ d.unreferenced 1 = true) ∧ (up.buf 1).state ≠ .freeing := by decide

theorem test_witness_QueryWritesItsSnapshot :
    (let d := withBuf up;
      let b : QueryBody := ⟨1, 1, r1, 65528, 0, 1⟩;
      d.powered = true ∧ (d.queue 0).hold = .none ∧ Memory.wf d = true ∧ b.kind.toNat ≤ 1 ∧ b.first.toNat < queryTop b.kind.toNat ∧ 1 ≤ b.count.toNat ∧
      b.first.toNat + b.count.toNat ≤ queryTop b.kind.toNat ∧ (d.snapshot 1 0 1).length = 8 ∧ d.live b.ref = true ∧ 65528 + 8 ≤ d.sizeOf b.ref ∧
      d.lostBuf b.ref 65528 8 = false ∧ d.live r9 = false ∧ d.sizeOf b.ref < 65529 + 8 ∧ d.host.owner = some .pcie) := by decide

/-- A FENCE that waits on queue 0. -/
def fence : FenceRec := ⟨1, 0, 0, 5, 9, false, false, [], none⟩
theorem test_witness_FencesWaitsAndHolds :
    (let d := withBuf up;
      d.powered = true ∧ (d.queue 0).hold = .none ∧ r9.handle ≠ 0 ∧ d.live r9 = false ∧ 4096 ≤ (4096#16).toNat ∧ (4095#16).toNat < 4096 ∧
      (0#64).toNat ≤ (d.slot 5).toNat ∧ d.fenceOrder 4095 1 = true ∧ d.live r1 = true ∧ d.qs.nextId ≠ 0) ∧
    (let d : Dev := { up with qs := { fences := [fence] } };
      d.qs.fences.find? (fun g => g.q == 0) = some fence ∧ d.fenceReady fence = true ∧ SMap.rising d.qs.queues = true ∧ fence.failed = none ∧
      (d.slot 5).toNat < fence.value.toNat) ∧
    (let f := { fence with failed := some (1, 1) };
      let d : Dev := { up with qs := { fences := [f] } };
      d.qs.fences.find? (fun g => g.q == 0) = some f ∧ d.fenceReady f = true ∧ f.failed ≠ none ∧ f.ignoreErrors = false) ∧
    (let d : Dev := { up with qs := { fences := [fence], cmds := [⟨0, 0, 0, 1, false, []⟩] } };
      d.fenceReady fence = false) ∧
    (up.reached 4095 0 = true ∧ up.reached 4095 1 = false ∧ ((withQueue up { hold := .wait 1 5 9 true }).queue 0).hold = .wait 1 5 9 true ∧
      ((withQueue up { hold := .wait 1 5 9 false }).queue 0).hold = .wait 1 5 9 false) := by decide

theorem test_witness_HostDmaMovesExactlyItsBytes :
    (let d := withBuf up;
      d.powered = true ∧ (d.queue 0).hold = .none ∧ d.host.owner = some .pcie ∧ d.live r9 = false ∧ d.live r1 = true ∧
      d.sizeOf r1 < 65535 + 2 ∧ 65535 + 1 ≤ d.sizeOf r1 ∧ 67108864 < (67108865#32).toNat ∧ (67108864#32).toNat ≤ 67108864 ∧
      d.sizeOf r1 < 0 + (67108864#32).toNat ∧ usb.host.owner = some (UsbPath.toPath .usb3) ∧ (usb.queue 0).hold = .none) ∧
    (let x : DmaRec := ⟨1, false, r1, 65535, 0, 1⟩;
      let y : DmaRec := ⟨2, true, r1, 0, 0, 1⟩;
      let d : Dev := { withBuf up with qs := { (withBuf up).qs with dmas := [x, y] } };
      d.qs.dmas.find? (fun z => z.id == x.id) = some x ∧ x.out = false ∧ ([7] : List Byte).length = x.len ∧ d.barred x.ref x.offset x.len = none ∧
      Memory.wf d = true ∧ d.qs.dmas.find? (fun z => z.id == y.id) = some y ∧ y.out = true ∧ d.barred y.ref y.offset y.len = none ∧
      d.dram.upsets = []) := by decide

/-- Bytes as cells of DRAM. -/
def cells (a : Nat) (bs : List Byte) : List Host.Cell :=
  (((List.range bs.length).map (a + ·)).zip bs).filter (fun c => c.2 != 0)
/-- Buffer 1 holds some bytes, buffer 2 is beside it, feed 0 is EMPTY. -/
def withData (bs : List Byte) : Dev := { up with
  qs := { bufs := [(1, { state := .live, base := 65536, size := 65536 }), (2, { state := .live, base := 131072, size := 65536 })] }
  dram := { data := cells 65536 bs }
  intake := { feeds := [(0, { state := .empty })] } }
/-- A DECODE of feed 0 from buffer 1 into buffer 2. -/
def decode1 (off : U64) : DecodeBody := ⟨0, false, r1, off, ⟨2, 1⟩, 0, 0, 0, 65536⟩
/-- A device whose thresher 0 holds feed 0 and has some jobs. -/
def withJobs (d : Dev) (js : List Job) : Dev := { d with intake := { d.intake with threshers := [(0, { resident := some 0, jobs := js })] } }
/-- The job of the DECODE at offset 0. -/
def job1 (id : Nat) : Job := .decode id (decode1 0) none none false

/-- A VIEW sheaf whose residual stream is one INTRA tile of zero residuals: tile 0 of the first view. -/
def viewSheaf : List Byte :=
  [0x50, 0x56, 0x5A, 0x02, 0x01, 0x02, 0x00, 0x01, 0x0D, 0x00, 0x00, 0x00, 0x1A, 0x00, 0x00, 0x00] ++
  [0x00, 0x00, 0x00, 0x00, 0xD9, 0x79, 0x23, 0x8B, 0x28, 0x00, 0x00, 0x00, 0x00, 0x00, 0x00, 0x00] ++
  [0x0D, 0x00, 0x00, 0x00, 0x03, 0x00, 0x00, 0x00, 0x12, 0x02, 0x00, 0x02, 0x00, 0x01, 0x01, 0x00] ++
  [0xFF, 0x01, 0x00, 0x00, 0x07, 0x00, 0x00, 0x73, 0x00, 0x01]
/-- A view set of one view of 64 × 64 VS32 samples, in buffer 3. -/
def oneView : VSet := viewSetOf ⟨1, 0, ⟨3, 1⟩, 4, 1, 1, 64, 64, 100⟩
/-- A DECODE of feed 0 into view set 0. -/
def decodeView : DecodeBody := { decode1 0 with viewTarget := true }
/-- Thresher 0 has that job; view set 0 is defined. -/
def withRun : Dev :=
  let d := withJobs (withData viewSheaf) [.decode 1 decodeView (some oneView) none true]
  { d with qs := { d.qs with bufs := d.qs.bufs ++ [(3, { state := .live, base := 196608, size := 16384, fmt := 4, pitch := 256 })] }
           intake := { d.intake with slots := [(0, { dfn := some oneView })] } }
/-- The residual stream that a sheaf decodes to (R124 to R126). -/
theorem test_view_sheaf : (decodeSheaf viewSheaf false false {} 65536).out = [0, 0, 0, 0, 1, 0, 0, 0, 0, 0, 0, 0, 0xFF] := by decide +kernel

theorem test_witness_DecodeIntoViews :
    (let d := withRun;
      let b := decodeView;
      d.powered = true ∧ (d.queue 0).hold = .none ∧ d.live b.src = true ∧ d.live b.dst = true ∧ (d.feed b.feed).gone = false ∧
      b.srcOff.toNat + 32 ≤ d.sizeOf b.src ∧ b.viewTarget = true ∧ 1 < (2#8).toNat ∧ b.viewSet.toNat ≤ 1 ∧ d.slotDef 1 = none ∧
      d.slotDef b.viewSet.toNat = some oneView ∧ oneView.count ≤ (1#16).toNat ∧ b.firstView.toNat < oneView.count ∧
      d.sizeOf b.dst ≤ (65536#64).toNat ∧ (65535#64).toNat < d.sizeOf b.dst ∧ d.sizeOf b.dst < 65535 + b.cap.toNat ∧
      b.dstOff.toNat < d.sizeOf b.dst ∧ b.dstOff.toNat + b.cap.toNat ≤ d.sizeOf b.dst) ∧
    (let d := withRun;
      (d.thresher 0).jobs.head? = some (.decode 1 decodeView (some oneView) none true) ∧ oneView.fmt = 4 ∧
      (d.judge 1 decodeView (some oneView) none true).fault = none ∧ (d.thresher 0).fenced = false ∧ (d.thresher 0).leaving = false ∧
      d.actionFirst 0 1 = false ∧ d.intake.waiting = [] ∧ (∀ p ∈ d.intake.feeds, p.2.dropAt = none) ∧ d.intake.raced 1 = false ∧
      d.dram.upsets = [] ∧ Memory.wf d = true ∧ SMap.rising d.dict.vals = true ∧ d.activeSlot ≠ some decodeView.viewSet.toNat) ∧
    (∀ p, (withRun.partn p).leaving = false) ∧ (∀ (y : SailId) l, withRun.lensOf y = some l → ∀ r, Lens.uses l r = false) :=
  ⟨by decide +kernel, by decide +kernel, fun _ => rfl, fun _ _ h => absurd h (by simp [Dev.lensOf, withRun, withJobs, withData, up, SMap.get])⟩

theorem test_witness_DecodeIsCheckedAndPlaced :
    (let d := withData [];
      let b := decode1 65504;
      d.powered = true ∧ (d.queue 0).hold = .none ∧ d.live r9 = false ∧ d.live b.src = true ∧ d.live b.dst = true ∧ (d.feed 1).gone = true ∧
      (d.feed b.feed).gone = false ∧ d.sizeOf b.src < (65505#64).toNat + 32 ∧ b.srcOff.toNat + 32 ≤ d.sizeOf b.src ∧ b.viewTarget = false ∧
      b.dstOff.toNat < d.sizeOf b.dst ∧ b.dstOff.toNat + b.cap.toNat ≤ d.sizeOf b.dst) ∧
    (let d : Dev := { withData [] with qs := { queues := [(0, { hold := .place 3 })] }
                                       intake := { feeds := [(0, { state := .ready, actions := [(2, false)] })], waiting := [(job1 3, none)] } };
      d.powered = true ∧ (d.queue 0).hold = .place 3 ∧ d.intake.waiting.find? (fun w => w.1.id == 3) = some (job1 3, none) ∧ d.noThresher = false ∧
      d.residentOn 0 = none ∧ d.actionFirst 0 3 = true) ∧
    (let d : Dev := { withJobs (withData []) [] with qs := { queues := [(0, { hold := .place 3 })] } };
      let e : Dev := { d with intake := { d.intake with waiting := [(job1 3, none)] } };
      let f : Dev := { e with intake := { e.intake with threshers := (List.range 16).map (fun i => (i, { fenced := true })) } };
      e.powered = true ∧ (e.queue 0).hold = .place 3 ∧ e.intake.waiting.find? (fun w => w.1.id == 3) = some (job1 3, none) ∧ (job1 3).feed = some 0 ∧
      e.noThresher = false ∧ (∀ w ∈ e.intake.waiting, w.1.feed = some 0 → 3 ≤ w.1.id) ∧ e.placeFor 0 = some 0 ∧
      (e.thresher 0).resident = some 0 ∧ (∀ p ∈ e.intake.feeds, p.2.dropAt = none) ∧ (f.queue 0).hold = .place 3 ∧ f.noThresher = true) := by decide

theorem test_witness_DecodedLengthsAndSamples : hdrChecks sheafExample = none ∧ sheafExample.length = 32 + (sheafHdr sheafExample).compLen ∧
    (decodeSheaf sheafExample false false {} 12).fault = none ∧ (1023 : Nat) < 2 ^ 10 := by decide +kernel

theorem test_witness_SheafSuccessStoresItsOutput :
    (let d := withJobs (withData sheafExample) [job1 1];
      d.powered = true ∧ (d.thresher 0).jobs.head? = some (job1 1) ∧ (d.judge 1 (decode1 0) none none false).fault = none ∧
      (d.thresher 0).fenced = false ∧ (d.thresher 0).leaving = false ∧ d.actionFirst 0 1 = false ∧ d.intake.waiting = [] ∧
      (∀ p ∈ d.intake.feeds, p.2.dropAt = none) ∧ d.intake.raced 1 = false ∧ d.dram.upsets = [] ∧ Memory.wf d = true ∧ SMap.rising d.dict.vals = true) ∧
    (∀ p, ((withJobs (withData sheafExample) [job1 1]).partn p).leaving = false) := ⟨by decide +kernel, fun _ => rfl⟩

theorem test_witness_SheafFailureLeavesTheFeed :
    (let d := withJobs (withData []) [job1 1];
      (d.thresher 0).jobs.head? = some (job1 1) ∧ ((d.judge 1 (decode1 0) none none false).fault.map (·.code)) = some 0x0208 ∧
      (d.thresher 0).fenced = false ∧ (d.thresher 0).leaving = false ∧ d.actionFirst 0 1 = false ∧ d.dram.upsets = [] ∧ d.intake.waiting = [] ∧ (∀ p ∈ d.intake.feeds, p.2.dropAt = none)) ∧
    (∀ p, ((withJobs (withData []) [job1 1]).partn p).leaving = false) := ⟨by decide +kernel, fun _ => rfl⟩

/-- Feed 0 READY, with waiting actions and a pending FREE of its save area. -/
def withFeed (as : List (Nat × Bool)) (f : Option Nat) : Dev :=
  { withData [] with
    qs := { bufs := [(1, { state := .live, base := 1048576, size := 1052672 })] }
    intake := { feeds := [(0, { state := .ready, save := r1, actions := as, freeing := f })] } }

theorem test_witness_FeedLifeCycle :
    (let d := withFeed [] none;
      d.powered = true ∧ SMap.rising d.intake.feeds = true ∧ (d.queue 0).hold = .none ∧ 2 < (3#8).toNat ∧ (d.feed 0).state ≠ .absent ∧
      (d.feed 1).gone = true ∧ (d.feed 1).state = .absent ∧ d.saveAreaOk 1 r9 = false ∧ (d.feed 0).gone = false ∧ (d.feed 0).actions = [] ∧
      d.feedQuiet 0 d.qs.nextId = true) ∧
    (withData []).saveAreaOk 1 r1 = false ∧
    ({ withFeed [] none with intake := {} } : Dev).saveAreaOk 1 r1 = true ∧
    (let d := withJobs (withFeed [] none) [job1 0];
      (d.feed 0).gone = false ∧ d.feedQuiet 0 d.qs.nextId = false) ∧
    (let d := withFeed [(5, false), (6, true)] none;
      (d.feed 0).actions = (5, false) :: [(6, true)] ∧ d.feedQuiet 0 5 = true) ∧
    (let d := withFeed [] (some 5);
      (d.feed 0).freeing = some 5 ∧ d.feedQuiet 0 5 = true ∧ (withJobs d [job1 4]).feedQuiet 0 5 = false) := by decide

/-- A RAW sheaf of one byte. -/
def rawSheaf : List Byte :=
  [0x50, 0x56, 0x5A, 0x02, 0x01, 0x00, 0x00, 0x01, 1, 0, 0, 0, 1, 0, 0, 0, 0, 0, 0, 0] ++ leBytes 4 (crc32c [7]) ++ [0, 0, 0, 0, 0, 0, 0, 0, 7]

theorem test_witness_ThresherFaultsAndMovedJobs :
    (let d := withJobs (withData []) [job1 1, job1 2];
      d.powered = true ∧ (∀ p ∈ d.intake.feeds, p.2.dropAt = none) ∧ (d.thresher 0).fenced = false ∧ (d.thresher 0).jobs ≠ [] ∧
      (d.thresher 0).resident = some 0 ∧ (∀ w ∈ d.intake.waiting, w.1.feed.isSome = true) ∧ (∀ j ∈ (d.thresher 0).jobs.drop 1, j.feed.isSome = true) ∧
      (d.thresher 1).jobs = [] ∧ d.movedJobs 0 = []) ∧
    (let d := withJobs (withData []) [];
      let e : Dev := { d with intake := { d.intake with waiting := [(job1 1, some 3), (job1 2, some 3)] } };
      e.movedJobs 0 = (job1 1, 3) :: [(job1 2, 3)] ∧ e.noThresher = false ∧ e.placeFor 0 = some 0 ∧ (e.thresher 0).resident = some 0 ∧
      e.actionFirst 0 (job1 1).id = false) ∧
    ((up.partn 8).state ≠ .offline ∧ (up.partn 8).state ≠ .bist ∧ ({ up with flt := { parts := [(8, { state := .offline })] } } : Dev).partn 8 ≠ up.partn 8) ∧
    ({ intake := { threshers := [(0, { fenced := true })] } : Dev }.thresher 0).fenced = true := by decide

/-- A READBACK with an encode job on thresher 0. -/
def rb1 : Rb := { id := 1, b := ⟨0, 0, 0, 1, 1, 1, true, r1, 0, 4⟩, encoding := true }
theorem test_witness_encodeJob :
    (let d := withJobs { withData [] with draws := { readbacks := [rb1] } } [.encode 1 [7]];
      (d.thresher 0).jobs.head? = some (.encode 1 [7]) ∧ d.draws.readbacks.find? (fun r => r.id == 1) = some rb1 ∧ encodes [7] rawSheaf = true ∧
      (d.thresher 0).fenced = false ∧ (d.thresher 0).leaving = false ∧ d.intake.waiting = [] ∧ rawSheaf ≠ [] ∧
      d.lostBuf rb1.b.ref rb1.b.offset.toNat rawSheaf.length = false ∧ d.dram.upsets = [] ∧
      Memory.wf d = true) ∧
    (∀ p, ((withJobs { withData [] with draws := { readbacks := [rb1] } } [.encode 1 [7]]).partn p).leaving = false) :=
  ⟨by decide +kernel, fun _ => rfl⟩

/-- A VIEWSET_DEFINE that fits buffer 3. -/
def define1 : ViewSetBody := ⟨1, 0, ⟨3, 1⟩, 4, 1, 1, 64, 64, 100⟩
/-- Buffer 3 holds views of 64 × 64 VS32 samples. -/
def withViews : Dev := { up with qs := { bufs := [(3, { state := .live, base := 65536, size := 16384, fmt := 4, pitch := 256 })] } }

/-- An UNDEFINE of slot 1. -/
def undefine1 : ViewSetBody := ⟨1, 1, ⟨0, 0⟩, 0, 0, 0, 0, 0, 0⟩
theorem test_witness_ViewSetFields :
    (let x := withViews.buf 3;
      define1.action = 0 ∧ withViews.live define1.ref = true ∧ define1.slot.toNat ≤ 1 ∧ (3#8) ≠ 4 ∧ (3#8) ≠ 5 ∧ define1.fmt = 4 ∧ define1.curve = 1 ∧
      (0#8) ≠ 1 ∧ 1 ≤ define1.count.toNat ∧ 256 < (257#16).toNat ∧ (0#16).toNat < 1 ∧ define1.width.toNat % 64 = 0 ∧ (65#16).toNat % 64 ≠ 0 ∧
      16384 < (16448#16).toNat ∧ 100 ≤ define1.peak.toNat ∧ (99#16).toNat < 100 ∧
      8589934592 < (256#16).toNat * (16384#16).toNat * (16384#16).toNat ∧ x.fmt = define1.fmt.toNat ∧
      x.pitch = define1.width.toNat * 4 ∧ define1.count.toNat * 256 * define1.height.toNat ≤ x.size ∧ x.size < (2#16).toNat * 256 * 64) ∧
    (let d : Dev := { withViews with intake := { slots := [(1, { dfn := some (viewSetOf define1) })] } };
      undefine1.action = 1 ∧ 1 < (2#8).toNat ∧ undefine1.slot.toNat ≤ 1 ∧ undefine1.ref = ⟨0, 0⟩ ∧ undefine1.fmt = 0 ∧ undefine1.peak = 0 ∧
      d.slotInUse 1 = false ∧ (d.vslot 1).actions = [] ∧ d.slotQuiet 1 d.qs.nextId = true ∧ SMap.rising d.intake.slots = true ∧
      ({ d with comp := { ap := { vals := [(0x212001, some 1)] } } } : Dev).slotInUse 1 = true) := by decide +kernel

theorem test_witness_ViewSetSlots :
    (let d := withViews;
      d.powered = true ∧ (d.queue 0).hold = .none ∧ d.live r9 = false ∧ d.live define1.ref = true ∧ 1 < (2#8).toNat ∧ define1.slot.toNat ≤ 1 ∧
      (3#8).toNat ≠ 4 ∧ (6#8).toNat ≠ 5 ∧ firstBad (d.defineChecks define1) = none ∧ d.slotInUse 1 = false ∧ (d.vslot 1).actions = [] ∧
      d.slotQuiet 1 d.qs.nextId = true) ∧
    (let d : Dev := { withViews with comp := { pend := [⟨1, .queue 0, 0, 0, [.val 0x212001 1 4], none, false, false⟩] } };
      firstBad (d.defineChecks define1) = none ∧ d.slotInUse 1 = true) ∧
    (let d : Dev := { withViews with intake := { threshers := [(0, { jobs := [.decode 0 { decode1 0 with viewTarget := true, viewSet := 1 } none none false] })] } };
      d.slotQuiet 1 d.qs.nextId = false ∧ d.slotInUse 1 = false ∧ (d.vslot 1).actions = []) ∧
    (let d : Dev := { withViews with intake := { slots := [(1, { dfn := some (viewSetOf define1), actions := [(4, none), (5, none)] })] } };
      (d.vslot 1).actions = (4, none) :: [(5, none)] ∧ d.slotQuiet 1 4 = true ∧ [((5 : Nat), (none : Option VSet))] ≠ []) ∧
    (let d : Dev := { withViews with intake := { slots := [(1, { dfn := some (viewSetOf define1), freeing := some 4 })] } };
      let e : Dev := { d with comp := { ap := { vals := [(0x212001, some 1)] } } };
      (d.vslot 1).freeing = some 4 ∧ d.slotQuiet 1 4 = true ∧ d.activeSlot ≠ some 1 ∧ (d.vslot 1).actions = [] ∧
      SMap.rising d.intake.slots = true ∧ (e.vslot 1).freeing = some 4 ∧ e.activeSlot = some 1) := by decide +kernel

/-- A lens map header for 64 × 64 pixels, one view, a table of one entry. -/
def lensBytes : List Byte :=
  [1, 0, 0, 0, 64, 0, 64, 0, 0, 0, 0, 0, 0, 0, 1, 0, 1, 0, 0, 0, 0, 0, 0, 2, 0, 0, 0, 2] ++ List.replicate 20 0 ++
  [1, 0, 0, 0, 1, 0, 0, 0, 1, 0, 1, 0] ++ List.replicate 12 0 ++ [128, 0, 0, 0, 8, 0, 0, 0]
/-- The layer descriptor of an SRGB rectangle of one sample. -/
def layer1 : LayerBody := ⟨1, 0, r1, 1, 2, 0, 0, 1, 1, 0, 0, 4, 4, 0, 0, 0, 0, 0, 1, 0⟩
/-- A proof window of one pixel. -/
def proof1 : ProofBody := ⟨63, 0, 1023, 0, 0, 1, 1, 7, 0, false, 5⟩

theorem test_witness_ShadowsAreWritten :
    (let d := withData lensBytes;
      let b : LensSetBody := ⟨0, 1, r1, 0, 128, false⟩;
      d.powered = true ∧ (d.queue 0).hold = .none ∧ d.live r9 = false ∧ 1023 + 1 ≤ 32 * mastsOf d.fuses.md0512 ∧
      b.none = false ∧ firstBad (d.lensFields b) = none ∧ d.dram.upsets = [] ∧
      (d.readLenses r1 128 1 0 0).1.toOption = some [.lens 0 (some (lensOfHeader r1 0 lensBytes))] ∧ SMap.rising d.dict.vals = true ∧
      ((withData []).readLenses r1 128 1 0 0).1.toOption = none ∧ firstBad ((withData []).lensFields b) = none) ∧
    (let d : Dev := { up with qs := { bufs := [(1, { state := .live, base := 65536, size := 64, fmt := 1, pitch := 64 })] } };
      d.live r9 = false ∧ 7 < (8#8).toNat ∧ firstBad (d.layerChecks layer1) = none) ∧
    (let d := withBuf up;
      d.live r1 = true ∧ (7#8).toNat ≤ 7 ∧ d.sizeOf r1 < (49216#64).toNat + 16384 ∧ (49152#64).toNat % 64 = 0 ∧
      (49152#64).toNat + 16384 ≤ d.sizeOf r1 ∧ d.lostBuf r1 49152 16384 = false) ∧
    (63 < (64#8).toNat ∧ firstBad (up.proofFields proof1) = none) := by decide +kernel

/-- A commit that waits for a layer's buffer. -/
def waits (policy : Nat) : Commit := ⟨1, .queue 0, 0, policy, [.layer 1 (some layer1)], none, false, false⟩
/-- A pending commit waits for a buffer that is not ready, in a timing mode whose period has elapsed. -/
def withWait (mode : Nat) (waiting : Bool) : Dev := { up with
  qs := { bufs := [(1, { state := .live, base := 65536, size := 65536, ready := some (5, 9) })] }
  comp := { ap := { vals := [(0x200001, some mode)] }, pend := [waits 1], waiting := waiting }
  tack := { periodDue := true } }

theorem test_witness_CommitTakesTheShadows :
    (up.powered = true ∧ (up.queue 0).hold = .none ∧ 2 < (3#8).toNat ∧ 63 < (64#8).toNat ∧ up.validate = none ∧
      4 ≤ ({ up with comp := { pend := List.replicate 4 (waits 1) } } : Dev).comp.pend.length) ∧
    (let d : Dev := { up with comp := { shadow := [.val 0x212001 0 4] } };
      (d.projected.puts d.fuses d.comp.shadow).val d.fuses 0x212001 = 0 ∧ d.slotDef 0 = none ∧ d.comp.pend.length < 4) := by decide +kernel

theorem test_witness_TackBoundaryTurnsTheTack :
    (let d : Dev := { up with comp := { ap := { vals := [(0x200001, some 1)] } }, tack := { periodDue := true } };
      d.powered = true ∧ d.boundaryDue = true ∧ d.waitBlocks = false) ∧
    up.boundaryDue = false ∧
    (let d := withWait 1 false;
      d.tval 0x200001 ≠ 2 ∧ d.boundaryDue = true ∧ d.waitBlocks = true) ∧
    (let d := withWait 2 true;
      d.tval 0x200001 = 2 ∧ d.comp.waiting = true ∧ d.waitBlocks = true ∧
      d.comp.pend.find? (fun c => c.policy != 2 && !(d.notReady c).isEmpty) = some (waits 1)) := by decide +kernel

/-- A device in a timing mode with some flips due. -/
def timed (mode : Nat) (k : Tack) : Dev := { up with comp := { ap := { vals := [(0x200001, some mode), (0x200003, some 2)] } }, tack := k }
theorem test_witness_TackTriggersAndPulses :
    ((timed 1 {}).tval 0x200001 = 1 ∧ (timed 1 {}).qs.holds = [] ∧ (timed 1 {}).pw.state ≠ .hove ∧ (timed 0 {}).tval 0x200001 ≠ 1 ∧
      ((timed 2 {}).tval 0x200004 == 0) = true ∧ ((timed 2 {}).tval 0x200004 == 0) ≠ false ∧ (timed 2 {}).tack.edges + 1 < (timed 2 {}).tval 0x200003 ∧
      (timed 2 { edges := 1 }).tval 0x200003 ≤ (timed 2 { edges := 1 }).tack.edges + 1 ∧ (timed 2 { edges := 1 }).waitBlocks = false ∧
      (timed 2 { edges := 1 }).tack.act = none ∧ (timed 2 {}).tack.syncLost = false) ∧
    (let d : Dev := timed 2 { edges := 1, act := some ⟨1, false, 0, 0, none⟩ };
      d.qs.holds = [] ∧ d.tack.act ≠ none ∧ ({ d with qs := { holds := [(5, 9)] } } : Dev).qs.holds ≠ []) ∧
    ((timed 2 { pulses := 1 }).tack.pulses ≠ 0 ∧ (timed 2 { flips := [⟨1, true⟩] }).tack.flips = ⟨1, true⟩ :: [] ∧
      (timed 2 {}).pw.state = .underway ∧ (timed 2 {}).stopped = false) := by decide +kernel

/-- Mast 0 in SERVICE with sail 0 deliverable and one of its plots SEALED. -/
def delivering (ps : List Plot) : Dev := { up with
  comp := { ap := { lens := [(0, some (lensOfHeader r1 0 lensBytes))] } }
  tack := { act := some ⟨1, false, 0, 0, none⟩, openSeq := 2 }
  push := { plots := ps, sails := [(0, { reach := .service, credits := 4, sealedMap := 1 })], masts := [(0, { state := .service })] } }
/-- The plot at a stage. -/
def plot1 (g : Stage) (h : Nat) : Plot := { mast := 0, sail := 0, plot := 0, promoted := false, stage := g, handed := h }

theorem test_witness_PlotsAreAdmittedWithinLimits :
    (let d := delivering [];
      d.choosePlot 0 = some (3, 0, 0) ∧ d.powered = true ∧ d.pw.state = .underway ∧ d.tack.act ≠ none ∧ d.stopped = false ∧ (d.mast 0).withhold = false ∧
      d.groupUp 0 = true ∧ d.fifoOpen 0 = true ∧ allClusters.any d.clusterUp = true) ∧
    up.tack.act = none ∧ (delivering [plot1 .admitted 0]).choosePlot 0 = none := by decide +kernel

theorem test_witness_JobsArePlacedAndComputed :
    (let d := delivering [plot1 .admitted 0];
      d.powered = true ∧ d.pw.state = .underway ∧ d.openClusters ≠ [] ∧ d.handedJob = none ∧ d.present.1 = some (plot1 .admitted 0) ∧
      (d.present.2.placeJob (plot1 .admitted 0) (d.urgent 0)).isSome = true) ∧
    (let d := delivering [plot1 (.prefetch 0) 0];
      d.readyOn 0 = some (plot1 (.prefetch 0) 0) ∧ d.readyOn 1 = none ∧ SMap.rising d.dram.caches = true ∧
      (d.lensOf 0).map (fun (l : Lens) => d.canCompute 0 (plot1 (.prefetch 0) 0) l) = some true ∧
      ((d.cache 0).refetches.filter (fun t => decide (d.now < t + 1000))).length + (16#16).toNat ≤ 16 ∧ 16 < (17#16).toNat ∧ d.clusterUp 0 = true ∧
      d.scalersNeeded (plot1 (.prefetch 0) 0) = 0 ∧ min (d.scalersNeeded (plot1 (.prefetch 0) 0)) d.scalersUp.length = 0) ∧
    (let d : Dev := { delivering [plot1 (.prefetch 0) 0] with comp := { ap := {
        lens := [(0, some (lensOfHeader r1 0 lensBytes))], layers := [(1, some { layer1 with dstW := 131072, dstH := 65536 })] } } };
      (plot1 (.prefetch 0) 0).scalers = none ∧ min (d.scalersNeeded (plot1 (.prefetch 0) 0)) d.scalersUp.length = 1 ∧ 1 ≤ d.scalersFree.length ∧
      (d.lensOf 0).map (fun (l : Lens) => d.canCompute 0 (plot1 (.prefetch 0) 0) l) = some false) ∧
    (let d := delivering [plot1 (.compute 0) 0];
      d.push.plots.find? (fun (x : Plot) => x.stage == .compute 0) = some (plot1 (.compute 0) 0) ∧ (d.lensOf 0).isSome = true ∧ (d.cluster 0).tail = none ∧
      (plot1 (.compute 0) 0).handed < 4095 ∧ (plot1 (.compute 0) 0).pkt ≠ .started ∧
      ({ d with push := { d.push with clusters := [(0, { tail := some (plot1 .composed 4096) })] } } : Dev).cluster 0 ≠ {}) ∧
    ({ up with flt := { parts := (List.range 8).map (fun i => (i, { state := .fenced })) } } : Dev).openClusters = [] := by decide +kernel

theorem test_witness_ClusterAndPartitionFaults :
    (let d := delivering [plot1 (.compute 0) 0];
      d.powered = true ∧ SMap.rising d.push.sails = true ∧ SMap.rising d.push.masts = true ∧ (d.cluster 0).cause = 0 ∧
      (d.partn 0).state = .inService ∧ (1#3).toNat ≤ 5 ∧ 5 < (6#3).toNat ∧ d.push.plots.any (fun (p : Plot) => p.stage == .compute 0) = true ∧
      d.push.plots.any (fun (p : Plot) => p.stage == .compute 1) = false ∧ (d.partn 12).state = .inService ∧ (d.partn 15).state = .inService ∧
      (d.partn 8).state = .inService ∧ (d.partn 11).state = .inService ∧ 8 + (3#4 : ThresherId).toNat / 4 = 8 ∧ 8 + (12#4 : ThresherId).toNat / 4 = 11 ∧
      (d.partn 23).state = .inService ∧ (d.partn 27).state = .inService) ∧
    (let d : Dev := { up with push := { clusters := [(0, { cause := 3 })] }, flt := { parts := [(12, { state := .offline })] } };
      (d.cluster 0).cause ≠ 0 ∧ (d.cluster 0).done = false ∧ (d.partn 12).state ≠ .inService ∧ (d.cluster 1).cause = 0) := by decide

/-- Mast 0 awake in SERVICE with one composed plot of sail 0. -/
def sending (p : Plot) : Dev := { delivering [p] with push := {
  plots := [p], sails := [(0, { reach := .service, credits := 4, sealedMap := 1 })], masts := [(0, { state := .service, idle := false, lanes := 15, txSeq := 7 })] } }
/-- A started plot with some pixels handed over. -/
def started (h : Nat) : Plot := { plot1 (.compute 0) h with pixels := List.replicate h 5, pkt := .started, seq := 6 }

theorem test_witness_PacketsLeaveMasts :
    (let p := plot1 .composed 4096;
      let d := sending p;
      d.powered = true ∧ SMap.rising d.dict.vals = true ∧ d.pw.state = .underway ∧ d.stopped = false ∧ (d.mast 0).state = .service ∧ d.tack.flips = [] ∧
      d.pauseOver 0 = true ∧ (∀ x ∈ d.plotsOn 0, x.pkt ≠ .started) ∧ d.nextPacket 0 = some p ∧ (d.mast 0).idle = false ∧ p.retry = false ∧
      p.whole = true ∧ (d.plotsOn 0).find? (fun (x : Plot) => x.pkt == .started) = none ∧ (sending { p with retry := true }).nextPacket 0 = some { p with retry := true }) ∧
    (let d := sending (plot1 .admitted 0);
      d.nextPacket 0 = none ∧ (d.sail 0).sealedMap.getLsbD 0 = true ∧ 0 ∈ d.sailList ∧ d.deliverable 0 = true ∧ (d.sail 0).out = none ∧
      (d.sail 0).ops = [] ∧ d.linkFree (mastOf 0) = true) ∧
    (up.mast 0).state ≠ .service ∧ (inState .hove).pw.state ≠ .underway ∧ (sending (started 0)).serialising 0 = true ∧ (8#4) ≠ 0 := by decide +kernel

theorem test_witness_underrun (h : Nat) (hh : h ≤ 4096) :
    ((sending (started h)).plotsOn 0).find? (fun (x : Plot) => x.pkt == .started) = some (started h) ∧
    (started h).pixels.length ≤ 4096 := ⟨rfl, Nat.le_trans (Nat.le_of_eq List.length_replicate) hh⟩

/-- A sent packet of sail 0 under sequence 6. -/
def sent (fails : Nat) (rep : Bool) : Plot := { plot1 .composed 4096 with pkt := .sent, seq := 6, fails := fails, repeated := rep }
/-- Mast 0 in SERVICE with a configuration operation outstanding to sail 0 under sequence 6. -/
def withOp (op : CfgOp) : Dev := { withData [] with push := {
  sails := [(0, { reach := .service, out := some { op := op, seq := 6, fails := 0 } })], masts := [(0, { state := .service, idle := false })] } }

/-- The characters of an ACK of sail 0 under sequence 6. -/
def ackChars : List (Bool × Byte) :=
  (true, 0xFB) :: ([1, 0, 0, 0, 6, 0, 0, 0, 0, 0, 0, 0, 0x47, 0x07] : List Byte).map (fun (b : Byte) => (false, b)) ++ [(true, 0xFD)]

theorem test_witness_AnswersFromSails :
    (let d := sending (sent 1 false);
      d.powered = true ∧ SMap.rising d.dict.vals = true ∧ SMap.rising d.push.sails = true ∧ (d.partn (16 + (mastOf 0).toNat / 4)).leaving = false ∧
      d.plotOf 0 6 = some (sent 1 false) ∧ (sent 1 false).sail = 0 ∧ (sent 1 false).pkt = .sent ∧ (sent 1 false).repeated = false ∧
      (sent 1 false).fails < 2 ∧ (d.mast 0).naks.length < 7 ∧ (d.mast 0).state = .service ∧ d.plotOf 0 5 = none ∧ (d.sail 0).out = none ∧ (d.sail 0).reach = .service) ∧
    ((sending (sent 2 false)).plotOf 0 6 = some (sent 2 false) ∧ 2 ≤ (sent 2 false).fails ∧ (sending (sent 0 true)).plotOf 0 6 = some (sent 0 true)) ∧
    (let op := CfgOp.write 0x80 [1] (some 4);
      (withOp op).plotOf 0 6 = none ∧ ((withOp op).sail 0).out = some { op := op, seq := 6, fails := 0 } ∧ ((withOp op).sail 0).ops = []) ∧
    (let op := CfgOp.read 0x80 1 (some 4) none [];
      ((withOp op).sail 0).out = some { op := op, seq := 6, fails := 0 } ∧ (0x80#8).toNat < (0x80#8).toNat + (1#8).toNat ∧ (SMap.ins ([] : SMap U32) 0x80 5).length = (1#8).toNat ∧
      (SMap.ins ([] : SMap U32) 0x81 5).length ≠ (2#8).toNat) ∧
    (let op := CfgOp.read 0x80 2 (some 4) (some (r1, 65528)) [];
      ((withOp op).sail 0).out = some { op := op, seq := 6, fails := 0 } ∧ (withOp op).lostBuf r1 (65528 + 4 * (0x81 - 0x80)) 4 = false ∧ Memory.wf (withOp op) = true) ∧
    ((0x10#32).getLsbD 3 = false ∧ (0x10#32).setWidth 8 &&& 0xF8#8 &&& ~~~(up.sail 0).seen ≠ 0) ∧ ((0#32).getLsbD 3 = false ∧ (0#32).setWidth 8 &&& 0xF8#8 &&& ~~~(up.sail 0).seen = 0) ∧
    (up.mast 0).state ≠ .service ∧ up.mastExists (mastOf 1023) = true ∧ (withData []).dram.upsets = [] ∧
    backData ackChars = some [1, 0, 0, 0, 6, 0, 0, 0, 0, 0, 0, 0] ∧ backData (ackChars.take 15) = none ∧
    field [1, 0, 0, 0, 6, 0, 0, 0, 0, 0, 0, 0] 0 1 = 1 ∧ field [1, 0, 0, 0, 6, 0, 0, 0, 0, 0, 0, 0] 2 2 = (0 : SailId).toNat ∧
    field [1, 0, 0, 0, 6, 0, 0, 0, 0, 0, 0, 0] 4 2 = (6 : U16).toNat := by decide +kernel

theorem test_witness_SailConfigurationCommands :
    (let d := withOp (.ping 1);
      d.powered = true ∧ (d.queue 0).hold = .none ∧ d.sailExists 1023 = true ∧ d.sailExists 1024 = false ∧ (0x7F#8).toNat < 0x80 ∧ 0x80 ≤ (0x80#8).toNat ∧
      (12#8).toNat ≤ 12 ∧ 244 + (12#8).toNat ≤ 256 ∧ (d.mast (mastOf 32)).inService = false ∧ (d.mast (mastOf 0)).inService = true ∧ (d.sail 1).answers = false ∧
      (d.sail 0).answers = true ∧ (d.sail 0).out ≠ none ∧ d.live r9 = false ∧ (64#8).toNat ≤ 64 ∧ d.live r1 = true ∧
      (65280#64).toNat + 4 * (64#8).toNat ≤ d.sizeOf r1 ∧ d.sizeOf r1 < (65281#64).toNat + 4 * (64#8).toNat ∧ 12 < (13#8).toNat ∧
      256 < (255#8).toNat + (2#8).toNat ∧ 64 < (65#8).toNat ∧ (BufRef.handle ⟨0, 0⟩) = 0) ∧
    (let d := sending (plot1 .admitted 0);
      (d.sail 0).out = none ∧ (d.sail 0).ops = [] ∧ d.linkFree (mastOf 0) = true) := by decide +kernel

/-- Mast 0 in some state, a chain of one hop behind it that passes every lane at 8 Gbit/s. -/
def training (x : Mast) : Dev := { up with push := { masts := [(0, x)] } }
/-- One hop that passes all four lanes at rate code 0. -/
def oneHop (g : MastState) : Mast := { state := g, enumerated := 1, caps := [15], reach := 1, pass := [(0, some 15)] }
/-- Its timing. -/
def timing : HopTiming := { hopRt := 0xA0, turnaround := 0x50, fwdBase := 0xF0 }

/-- A report at R266's limits, and its mast. -/
theorem test_witness_EyeReportsPassLanes :
    (let r : EyeReport := ⟨1, 3, 10, 80, 308, 0⟩;
      mastOf r.sail = 0 ∧ ((training (oneHop .equalise)).mast 0).state = .equalise ∧ (training (oneHop .equalise)).powered = true ∧
      r.errors = 0 ∧ 80 ≤ r.height.toNat ∧ 308 ≤ r.width.toNat ∧ r.preset.toNat ≤ 10 ∧ r.lane.toNat ≤ 3) ∧
    (((training (oneHop .retrain)).mast 0).state = .retrain ∧ ((training (oneHop .rateChange)).mast 0).state = .rateChange) := by decide

theorem test_witness_MastBringUpAndTraining :
    ((training {}).powered = true ∧ SMap.rising (training {}).push.sails = true ∧ SMap.rising (training {}).push.masts = true ∧
      ((training {}).mast 0).state = .down ∧ (training {}).pw.state = .underway ∧ (training {}).groupUp 0 = true ∧ 31 < mastsOf (training {}).fuses.md0512 ∧
      ((training (oneHop .verify)).mast 0).state ≠ .down ∧ ((training (oneHop .verify)).mast 0).state ≠ .equalise) ∧
    ((training {}).mastExists 0 = true ∧ (training {}).serialising 0 = false ∧ ((training (oneHop .enumerate)).mast 0).state = .enumerate ∧ ((training (oneHop .equalise)).mast 0).state = .equalise ∧ mastOf 31 = 0) ∧
    (match (oneHop .verify).ladder 1 [0] [0] with | .use r k mask => r == 0 && k == 1 && mask == 15 | _ => false) = true := by decide +kernel

/-- What the plan of one hop comes to, at rates from the target down: its rate, its hops and its lanes; or a rate to measure; or nothing. -/
def planOf (x : Mast) (ts : List HopTiming) : Option (Nat × Nat × BitVec 4) ⊕ Nat :=
  let d := training x
  match { x with timing := ts }.ladder x.enumerated (d.ratesFrom 0 (d.targetRate 0)) (d.ratesFrom 0 (d.targetRate 0)) with
  | .use r k mask => .inl (some (r, k, mask))
  | .measure r => .inr r
  | .fail => .inl none
/-- A chain whose sails' CAPS1 leaves no rate, two with a rate to measure first, one that passes on two lanes. -/
theorem test_witness_verifyComplete :
    planOf { oneHop .verify with caps := [0] } [timing] = .inl none ∧ planOf (oneHop .verify) [timing] = .inr 3 ∧ planOf (oneHop .enumerate) [] = .inr 3 ∧
    planOf { oneHop .verify with pass := [(0, some 15), (1, some 15), (2, some 15), (3, some 3)] } [timing] = .inl (some (3, 1, 3)) := by decide +kernel
/-- A chain whose second hop no trim meets is cut. -/
theorem test_witness_cutChain :
    planOf { oneHop .verify with enumerated := 2, caps := [1, 1], pass := [(0, some 15), (4, some 15)] } [timing, { timing with hopRt := 0 }] =
      .inl (some (0, 1, 15)) := by decide +kernel

theorem test_witness_RetrainsAndRateChanges :
    (((training (oneHop .service)).mast 0).state = .service ∧ ((training (oneHop .retrain)).mast 0).state ≠ .service ∧
      ((training (oneHop .service)).mast 0).state ≠ .retrain ∧ (training (oneHop .service)).pw.state = .underway) ∧
    (let d := training (oneHop .retrain);
      let x := d.mast 0;
      let mask := ((x.closeSweep x.reach).common x.reach x.rate).getD 0;
      let top := if 5 ≤ x.retrains.length then laneCount x.lanes - 1 else d.targetLanes 0;
      x.state = .retrain ∧ x.changeDue = false ∧ 2 ≤ laneCount (lowestLanes (min (min top (d.targetLanes 0)) (laneCount mask)) mask)) ∧
    (let x : Mast := { oneHop .rateChange with prior := some (2, 15) };
      x.state = .rateChange ∧ x.prior = some (2, 15) ∧ x.changeDue = false ∧
      (match { x.closeSweep x.reach with timing := [timing] }.rung x.reach x.trial with | some (.use r k mask) => r == 0 && k == 1 && mask == 15 | _ => false) = true ∧
      ({ ({ x with trial := 1 }.closeSweep x.reach) with timing := [timing] }.rung x.reach 1).isNone = true) ∧
    (let x : Mast := { oneHop .service with lanes := 3, lostHop := some 31, rejoin := some 0, pass := [(124, some 15)] };
      x.lostHop = some 31 ∧ x.state = .service ∧ 31 < 32 ∧ x.rejoin ≠ none ∧ x.rejoins 31 1 [15] [timing] = true ∧ x.rejoins 31 1 [14] [timing] = false ∧
      (oneHop .service).rejoin = none ∧ (oneHop .service).lostHop = none) := by decide +kernel

/-- A FILL of one sample of buffer 1, a surface of 16 by 16 words. -/
def fill1 : BlitBody := ⟨r1, 0, 0, 0, 15, 1, 1, 5, ⟨0, 0⟩, 0, 0, 0, 0, false, false, false, false, 0, 0, 0, 0, 0⟩
/-- Buffer 1 is that surface. -/
def surface : Dev := { up with qs := { bufs := [(1, { state := .live, base := 65536, size := 1024, fmt := 1, pitch := 64 })] } }
/-- A drawing command of it, accepted. -/
def blit1 (rows : Nat) : Blit := { id := 1, q := 0, tag := 7, draw := .fill, b := fill1, clip := none, started := true, rows := rows }
/-- Some drawing commands accepted, one waiting with its queue. -/
def drawing (xs : List Blit) : Dev := { surface with
  qs := { surface.qs with queues := [(0, { hold := .accept 9 })] }, draws := { accepted := xs, waiting := [{ blit1 0 with id := 9 }] } }

theorem test_witness_DrawingBlendsAndLines : ((4294967295 : Nat) < 2 ^ 32 ∧ 4294967295 / 2 ^ 24 = 255) ∧
    (surface.powered = true ∧ (surface.queue 0).hold = .none ∧ surface.live r9 = false ∧ surface.live fill1.dst = true ∧ Draw.copy.hasSrc = true ∧
      firstBad (surface.drawChecks .fill fill1) = none ∧ (drawing (List.replicate 7 (blit1 0))).draws.accepted.length < 8 ∧
      8 ≤ (drawing (List.replicate 8 (blit1 0))).draws.accepted.length ∧ (blit1 0).started = true) ∧
    ((0#4).getLsbD 0 = false ∧ (1 : U16) ≠ 0 ∧ (1#4).getLsbD 0 = true ∧ (16383#16).toNat + (1#16).toNat ≤ 16384) ∧
    (let d := drawing [];
      (d.queue 0).hold = .accept 9 ∧ d.draws.waiting.find? (fun y => y.id == 9) = some { blit1 0 with id := 9 } ∧ SMap.rising d.qs.queues = true) ∧
    (let d := drawing [blit1 0];
      d.draws.accepted = blit1 0 :: [] ∧ (blit1 0).failed = none ∧ (blit1 0).rows < Draw.fill.height fill1 ∧ d.stopped = false ∧ d.dram.upsets = [] ∧
      (blit1 0).draw = .fill ∧ Memory.wf d = true ∧ (blit1 0).wmDue = false ∧ Draw.fill.height fill1 ≤ (blit1 1).rows ∧ d.draws.races = [] ∧
      (d.rowError (blit1 0) ((blit1 0).row 0)).1 = none ∧
      (({ d with dram := { lost := some 3 } } : Dev).rowError (blit1 0) ((blit1 0).row 0)).1 = some (0x0A04, none)) ∧
    (({ blit1 1 with b := { fill1 with wm := true } } : Blit).wmDue = true ∧ ({ blit1 0 with failed := some (0x0A04, none) } : Blit).failed = some (0x0A04, none) ∧
      up.draws.accepted = []) ∧
    (({ blit1 0 with draw := .pattern, b := { fill1 with patW := 8, patH := 8 }, pat := List.replicate 8 (List.replicate 32 0) } : Blit).pat.length = 8) :=
  by decide +kernel

/-- A READBACK of one pixel of sail 0 into the last four bytes of buffer 1. -/
def readback1 : ReadbackBody := ⟨0, 63, 63, 1, 1, 1, false, r1, 65532, 4⟩
/-- Buffer 1, and sail 0 delivering. -/
def reading (n : Nat) : Dev := { delivering [] with qs := (withBuf up).qs, draws := { readbacks := List.replicate n { id := 0, b := readback1 } } }
/-- A retired window of the plot 0 of sail 1023, one pixel composed. -/
def window1 (w : List (SailId × Nat)) : Dev := { up with draws := {
  pushSet := [(1023, 0)], withdrawn := w, contrib := [(1023, 0, List.replicate 4096 5)] } }

theorem test_witness_ReadbacksAndWindows :
    (let d := reading 3;
      d.powered = true ∧ (d.queue 0).hold = .none ∧ d.live r9 = false ∧ d.live readback1.ref = true ∧ d.sailExists 1024 = false ∧
      d.lensOf 1023 = none ∧ firstBad (d.rbFields readback1) = none ∧ (d.sail (rbSail readback1)).answers = true ∧
      readback1.offset.toNat + rbSize readback1 + (if readback1.encode then 32 else 0) ≤ d.sizeOf readback1.ref ∧ d.draws.readbacks.length < 4 ∧
      4 ≤ (reading 4).draws.readbacks.length ∧ ({ reading 0 with push := {} } : Dev).lensOf (rbSail readback1) ≠ none ∧
      ({ reading 0 with push := {} }.sail (rbSail readback1)).answers = false ∧ firstBad ({ reading 0 with push := {} }.rbFields readback1) = none) ∧
    (let d := reading 1;
      let r : Rb := { id := 0, b := readback1 };
      0 < d.qs.nextId ∧ d.draws.readbacks.find? (fun x => x.id == 0) = some r ∧ r.lost = false ∧ (reading 0).draws.readbacks = [] ∧
      r.done = none ∧ ({ r with done := some 4 } : Rb).done = some 4 ∧ ({ r with lost := true } : Rb).lost = true) ∧
    (hits (window1 []).draws.pushSet (winSail proof1) (winPlots proof1) = true ∧
      hits (window1 []).draws.withdrawn (winSail proof1) (winPlots proof1) = false ∧
      rectPixels (window1 []).draws.contrib (winSail proof1) proof1.x proof1.y proof1.w proof1.h = some [5] ∧
      hits (window1 [(1023, 0)]).draws.withdrawn (winSail proof1) (winPlots proof1) = true ∧ proof1.mode ≠ 1 ∧
      crc32 (pack30 (([5] : List U32).map (mask30 proof1.mask))) ≠ proof1.expected.toNat ∧
      crc32 (pack30 (([5] : List U32).map (mask30 proof1.mask))) < 2 ^ 32) := by decide +kernel

/-- The memory controller serving traffic, with channel 31 in some state. -/
def memory (x : Channel) : Dev := { up with dram := { up := true, rate := 9600, points := 7, chans := [(31, x)], hotSince := some 0, coolSince := some 0 } }

theorem test_witness_MemoryControllerAndAddressMap :
    (let r : MemReq := { cls := 3, line := 0, at_ := 0 };
      let d := memory { writes := [r], reads := [r] };
      d.powered = true ∧ SMap.rising d.dram.chans = true ∧ d.stopped = false ∧ (d.chan 31).writes[0]? = some r ∧ (d.chan 31).reads[0]? = some r ∧
      d.drainDue (d.chan 31) = false ∧ d.drainDue { d.chan 31 with reads := [] } = true ∧ d.dram.up = true ∧ d.dram.selfRefresh = false ∧ d.pw.state = .underway ∧
      up.rated = false ∧ d.dram.hotSince = some 0 ∧ d.rateBelow = some 8533 ∧ d.dram.coolSince = some 0 ∧ d.rateAbove = some 10667 ∧
      ({ d with dram := { d.dram with stepped := true, switchTo := some 8533 } } : Dev).rateAbove = some 10667 ∧
      d.dram.stepped = false ∧ d.dram.switchTo = none ∧ up.dram.hotSince = none ∧ d.chanUp 31 = true ∧ (d.chan 31).step = 0 ∧ (d.chan 31).starts = []) ∧
    ((memory { step := 4 }).chanUp 31 = true ∧ ((memory { step := 4 }).chan 31).step ≠ 0 ∧
      ({ memory {} with dram := { up := true, lost := some 31 } } : Dev).chanUp 31 = false ∧
      ({ memory {} with dram := { up := true, lost := some 31 } } : Dev).stopped = true) ∧
    ((2 : Nat) ≤ 2 ∧ (4 : Nat) ≤ 4 ∧ 33554431 < 2 ^ (21 + 4) ∧ 32505855 < 31 * 2 ^ (16 + 4) ∧ ({ memory {} with dram := { gone := some 31 } } : Dev).dram.gone = some 31) := by
  decide +kernel

/-- A device where the supervisor holds a group. -/
def holding (g : Nat) : Dev := { up with dict := { claims := [⟨g, 4, 99⟩] } }

theorem test_witness_WriteChecksInOrder :
    (let r := fun (idx sub ty : Nat) (v : List Byte) => (⟨idx, sub, ty, v⟩ : DWrite);
      let c := Client.host .usb3;
      (up.entry 0x2000 0x99).isSome = false ∧ (up.entry 0x2000 6).map (·.acc) = some .ro ∧ (up.entry 0x2000 1).map (·.acc) = some .rw ∧
      up.level c < needLevel (r 0x2200 2 6 [0, 0]) ∧ needLevel (r 0x2000 1 5 [0]) ≤ up.level c ∧ (up.entry 0x2000 1).map (·.ty) = some 5 ∧
      ((up.entry 0x2000 1).map (fun e => (lenOk e 2, lenOk e 1))) = some (false, true) ∧ ({ up with dict := { locks := [0x20000101] } } : Dev).lockedEntry 0x200001 = true ∧
      up.lockedEntry 0x200001 = false ∧ (holding 0x200000).claimedBut 0x2000 1 (masterOf c) = true ∧ up.claimedBut 0x2000 1 (masterOf c) = false ∧
      ((up.entry 0x2000 1).map (fun e => up.inRange e 0x200001 3)) = some true ∧ ((up.entry 0x2000 9).map (fun e => up.inRange e 0x200009 2)) = some false) :=
  by decide +kernel

/-- `serves` from its parts, for a client that is not on CAN. -/
theorem serves_of (d : Dev) (c : Client) (u : UHdr) (op : Nat) (data : List Byte) (hc : ∀ node, c ≠ .can node)
    (h : d.pw.state = .underway ∧ d.mailboxFree c = true ∧ d.portOn c = true ∧ d.fw.handoff = false ∧ d.masterBusy (masterOf c) = false ∧
      (d.client c).dup.find? (fun (x : U16 × Nat × List Byte) => x.1 == u.seq && decide (d.now < x.2.1 + 2000000)) = none ∧
      badFrame u op data = false) : d.serves c u op data :=
  ⟨h.1, h.2.1, h.2.2.1, h.2.2.2.1, h.2.2.2.2.1, h.2.2.2.2.2.1, h.2.2.2.2.2.2, fun node e => absurd e (hc node)⟩

/-- A request of the supervisor to an entry. -/
def asks (ty idx sub : Nat) : UHdr := writeHdr 3 ty idx sub
/-- The supervisor's requests are served, by an idle device and by one where it holds a group, for any operation and any data within R347's limits. -/
theorem test_witness_served (g ty idx sub op : Nat) (data : List Byte) (h : badFrame (asks ty idx sub) op data = false) :
    up.serves .supervisor (asks ty idx sub) op data ∧ (holding g).serves .supervisor (asks ty idx sub) op data :=
  ⟨serves_of _ _ _ _ _ (fun _ => Client.noConfusion) ⟨rfl, rfl, rfl, rfl, rfl, rfl, h⟩,
   serves_of _ _ _ _ _ (fun _ => Client.noConfusion) ⟨rfl, rfl, rfl, rfl, rfl, rfl, h⟩⟩

/-- A request over CAN is served where it is one frame of at most 56 bytes. -/
theorem test_witness_servedOverCan : up.serves (.can 0x21) (asks 5 0x2000 1) 1 (List.replicate 56 0) :=
  ⟨by decide, by decide, by decide +kernel, rfl, rfl, rfl, by decide +kernel, fun _ _ => ⟨rfl, rfl, by decide +kernel, rfl⟩⟩

theorem test_witness_RequestsAreAnswered :
    (badFrame (asks 5 0x2000 1) 1 [] = false ∧ badFrame (asks 5 0x2000 1) 2 [2] = false ∧ badFrame (asks 5 0x2000 1) 3 (List.replicate 1024 0) = false ∧
      badFrame (asks 0 0 0) 4 [0] = false ∧ badFrame (asks 0 0x2000 0) 5 [60, 0] = false ∧ badFrame (asks 0 0x2000 1) 7 [10, 0, 1, 0, 1, 0] = false) ∧
    ((up.entry 0x2000 0x99).isSome = false ∧ (up.entry 0x1800 1).map (·.acc) = some .wo ∧ (up.entry 0x2000 1).map (fun e => (e.acc, e.ty, e.t, e.p)) = some (.rw, 5, true, false) ∧
      (up.entry 0x2400 3).map (fun e => (e.acc, e.ty, e.t, e.p)) = some (.rw, 7, false, false)) ∧
    (up.writeCheck .supervisor ⟨0x2000, 9, 5, [2]⟩ ≠ 0 ∧ up.writeCheck .supervisor ⟨0x2000, 1, 5, [2]⟩ = 0 ∧ groupOf 0x2000 1 = some 0x200000 ∧
      up.holder 0x200000 = none ∧ (holding 0x200000).holder 0x200000 = some (masterOf .supervisor) ∧ (holding 0x200000).writeCheck .supervisor ⟨0x2000, 1, 5, [2]⟩ = 0 ∧
      groupOf 0x2400 3 = some 0x240000 ∧ (holding 0x240000).writeCheck .supervisor ⟨0x2400, 3, 7, [0, 0, 0, 0]⟩ = 0) ∧
    (parseRecs 32 [] = some [] ∧ parseRecs 32 [0] = none ∧ parseRecs 32 [0, 0x20, 1, 5, 1, 0, 2] = some [⟨0x2000, 1, 5, [2]⟩] ∧
      up.checkRecs .supervisor 0 [⟨0x2000, 1, 5, [2]⟩] = none ∧ (up.checkRecs .supervisor 0 [⟨0x2000, 9, 5, [2]⟩]).isSome = true ∧
      groupsOf [⟨0x2000, 1, 5, [2]⟩] = [0x200000]) := by decide +kernel

theorem test_witness_dictionaryRequests :
    (up.writeCheck .supervisor ⟨0x2000, 0x10, 5, [2]⟩ = 0 ∧ up.writeCheck .supervisor ⟨0x2000, 0x10, 5, [3]⟩ ≠ 0 ∧ up.validate = none ∧
      ({ up with comp := { shadow := [.val 0x212001 0 4] } } : Dev).validate ≠ none ∧
      ({ up with comp := { shadow := [.val 0x212001 0 4] } } : Dev).writeCheck .supervisor ⟨0x2000, 0x10, 5, [2]⟩ = 0) ∧
    (up.groupNamed 0x2000 1 = none ∧ up.groupNamed 0x2000 0 = some 0x200000 ∧ leNat [60, 0] = 60 ∧ leNat [61, 0] = 61 ∧ masterOf (.host .usb3) ≠ 4) ∧
    (subscribeBad [9, 0, 1, 0, 1, 0] = true ∧ subscribeBad [10, 0, 1, 0, 1, 0] = false ∧ subscribeBad [0, 0, 0, 0, 0, 0] = false) := by decide +kernel

/-- `acts` from its parts, for the supervisor where it holds the entry's group. -/
theorem acts_of (d : Dev) (ty idx sub : Nat) (data : List Byte) (g : Nat)
    (h : d.pw.state = .underway ∧ d.fw.handoff = false ∧ d.dict.arbs = [] ∧ d.dict.waiting = [] ∧ d.dict.clients = [] ∧
      badFrame (writeHdr 3 ty idx sub) 2 data = false ∧ d.writeCheck .supervisor ⟨idx, sub, ty, data⟩ = 0 ∧ groupOf idx sub = some g ∧ d.holder g = some 4) :
    d.acts .supervisor 3 ty idx sub data := by
  obtain ⟨h1, h2, h3, h4, h5, h6, h7, h8, h9⟩ := h
  exact ⟨serves_of _ _ _ _ _ (fun _ => Client.noConfusion) ⟨h1, rfl, rfl, h2, by simp [Dev.masterBusy, h3, h4], by simp [Dev.client, h5], h6⟩, h7, g, h8, h9⟩

theorem test_witness_ActingWrites :
    (holding 0x180003).acts .supervisor 3 5 0x1800 3 [1] ∧ (holding 0x180005).acts .supervisor 3 0xD 0x1800 5 [2, 7] ∧
    ({ delivering [] with dict := { claims := [⟨0x400000, 4, 99⟩] } } : Dev).acts .supervisor 3 5 0x4001 7 [1] ∧
    (holding 0xC00003).acts .supervisor 3 5 0xC000 3 [1] ∧ (holding 0xC00003).acts .supervisor 3 5 0xC000 3 [2] ∧
    (holding 0xC00004).acts .supervisor 3 5 0xC000 4 [31] ∧ (holding 0xC00005).acts .supervisor 3 6 0xC000 5 [1, 27] ∧
    ({ holding 0xC00005 with flt := { parts := [(27, { state := .offline })] } } : Dev).acts .supervisor 3 6 0xC000 5 [0, 27] ∧
    ({ holding 0xC00006 with flt := { parts := [(27, { state := .offline })] } } : Dev).acts .supervisor 3 6 0xC000 6 [3, 27] ∧
    (holding 0xC00006).acts .supervisor 3 6 0xC000 6 [3, 0xFF] ∧ (holding 0xC00002).acts .supervisor 3 5 0xC000 2 [1] ∧
    ({ holding 0xC02006 with fw := { state := 3 } } : Dev).acts .supervisor 3 5 0xC020 6 [1] ∧ (holding 0x900000).acts .supervisor 3 5 0x9000 7 [1] ∧
    (holding 0xA00008).acts .supervisor 3 5 0xA000 8 [1] ∧ (holding 0x300000).acts .supervisor 3 5 0x3002 0xC [1] ∧
    (holding 0x300000).acts .supervisor 3 5 0x3002 0xC [2] ∧
    ({ holding 0x220000 with dram := { points := 1 } } : Dev).acts .supervisor 3 6 0x2200 2 (leBytes 2 10667) := by
  refine ⟨acts_of _ _ _ _ _ 0x180003 ?_, acts_of _ _ _ _ _ 0x180005 ?_, acts_of _ _ _ _ _ 0x400000 ?_, acts_of _ _ _ _ _ 0xC00003 ?_,
    acts_of _ _ _ _ _ 0xC00003 ?_, acts_of _ _ _ _ _ 0xC00004 ?_, acts_of _ _ _ _ _ 0xC00005 ?_, acts_of _ _ _ _ _ 0xC00005 ?_,
    acts_of _ _ _ _ _ 0xC00006 ?_, acts_of _ _ _ _ _ 0xC00006 ?_, acts_of _ _ _ _ _ 0xC00002 ?_, acts_of _ _ _ _ _ 0xC02006 ?_,
    acts_of _ _ _ _ _ 0x900000 ?_, acts_of _ _ _ _ _ 0xA00008 ?_, acts_of _ _ _ _ _ 0x300000 ?_, acts_of _ _ _ _ _ 0x300000 ?_,
    acts_of _ _ _ _ _ 0x220000 ?_⟩ <;> decide +kernel


theorem test_witness_login : (let d : Dev := { up with dict := { claims := [⟨0x180001, 1, 99⟩] }, ledger := { pw := [(4, (up.digest [7], []))] } };
    d.acts (.host .usb3) 3 0xD 0x1800 1 [2, 7] ∧ d.pwLocked 4 = false ∧ (d.digests 4).1 = d.digest ([2, 7].drop 1)) :=
  ⟨⟨serves_of _ _ _ _ _ (fun _ => Client.noConfusion) ⟨rfl, rfl, rfl, rfl, rfl, rfl, by decide +kernel⟩, by decide +kernel, 0x180001, by decide +kernel, rfl⟩,
   by decide +kernel, by decide +kernel⟩

/-- Locking is asked of an entry by a client with the privilege, and storing a record has room. -/
theorem test_witness_lock : (2 ≤ up.level .supervisor ∧ up.lockedEntry 0x180006 = false ∧ up.claimedBut 0x1800 6 (masterOf .supervisor) = false ∧
    (up.entry 0x2000 1).isSome = true ∧ (up.entry 0x2000 0x99).isSome = false ∧ badFrame (writeHdr 3 7 0x1800 6) 2 [1, 1, 0, 0x20] = false) ∧
    (let d : Dev := { up with th := { tj := 1600 } }; d.nvmFull 0xF404 96 = false ∧ d.tjWrites = true ∧ d.nvmFull 0xF603 0 = false) := by decide +kernel

/-- A subscription, a claim and a write held in a window. -/
def sub1 (change periodic : Bool) : Sub := ⟨.supervisor, 0x2000, 1, change, periodic, 10, 9, false⟩
def held1 : HeldWrite := ⟨.supervisor, asks 5 0x2000 1, 2, [⟨0x2000, 1, 5, [2]⟩]⟩

theorem test_witness_PortsReportsAndExpiries :
    (0x200000, 4) ∈ takenBy [held1] [1, 2, 3, 4] ∧
    (let due : List (Nat × Nat × Nat) := [(5, 0x110005, 1), (5, 0x110005, 2), (6, 0x110005, 3)];
      let d : Dev := { up with dict := { subs := [sub1 true false], claims := [⟨0x200000, 4, 0⟩], arbs := [⟨[0x200000], [held1]⟩], commDue := due } };
      d.powered = true ∧ d.dict.subs[0]? = some (sub1 true false) ∧ (d.entry 0x2000 1).map (fun e => d.readNat e (d.level .supervisor) 0x200001 true) = some 0 ∧
      d.fw.handoff = false ∧ d.dict.claims[0]? = some ⟨0x200000, 4, 0⟩ ∧ d.dict.claims[1]? = none ∧ d.dict.arbs[0]? = some ⟨[0x200000], [held1]⟩ ∧
      d.dict.waiting = [] ∧ d.checkRecs .supervisor 0 held1.recs = none ∧ d.dict.arbs[1]? = none ∧ d.kept .supervisor held1.hdr.seq = none ∧
      d.dict.commDue = (5, 0x110005, 1) :: [(5, 0x110005, 2), (6, 0x110005, 3)] ∧ SMap.rising d.dict.comm = true ∧
      (∀ x ∈ [(6, 0x110005, 3)], x.1 = 5 → x.2.1 ≠ 0x110005)) ∧
    ((up.client (.can 5)).level = 1 ∧ (up.client (.can 5)).seg = none ∧
      ({ up with dict := { clients := [{ c := .can 5, level := 2, seg := some ⟨2, asks 5 0x2000 1, 100, 1, []⟩ }] } } : Dev).client (.can 5) =
        { c := .can 5, level := 2, seg := some ⟨2, asks 5 0x2000 1, 100, 1, []⟩ } ∧ up.masterBusy 3 = false ∧ up.kept (.can 5) 3 = none ∧
      ({ up with dict := { waiting := [{ c := .can 9, u := asks 5 0x2000 1, op := 1, data := [] }] } } : Dev).masterBusy 3 = true ∧
      ({ up with fw := { handoff := true } } : Dev).fw.handoff = true ∧ up.dict.commDue = []) ∧
    (let d : Dev := { up with dict := { comm := [(0x110005, some 0x0A000001)] } };
      d.portOn (.net 0 0) = true ∧ d.netServes = true ∧ d.ipv4 = (0x0A000001#32).toNat ∧ d.ipv4 ≠ (0x0A000002#32).toNat ∧
      ({ up with dict := { comm := [(0x11000C, some 0)] } } : Dev).netServes = false) ∧
    (up.portOn (.net 1 2) = true ∧ up.portOn (.can 5) = true ∧ frameFault (.net 1 2) (List.replicate 16 0) = true ∧ (List.replicate 15 (0 : Byte)).length < 16 ∧
      up.mailboxFree (.net 1 2) = true ∧ up.masterBusy (masterOf (.net 1 2)) = false ∧ up.kept (.net 1 2) (hdrOf (List.replicate 16 0)).seq = none ∧
      ({ up with xfer := { mboxBusy := true } } : Dev).mailboxFree (.host .pcie) = false ∧ ({ sub1 true false with due := true } : Sub).due = true ∧ sub1 false false ≠ sub1 true false) := by decide +kernel

/-- Queue 0 with one command ready. -/
def ready : Dev := withQueue up { tail := 1 }
/-- No queue of it waits for a READBACK's place. -/
theorem ready_hold : ∀ r c, (ready.queue r).hold ≠ .retry c := by
  intro r c h
  have : ∀ r : BitVec 6, (ready.queue r).hold = .none := by decide +kernel
  rw [this r] at h
  exact Hold.noConfusion h
theorem test_witness_CommandsAreFetched :
    (ready.powered = true ∧ ready.up = true ∧ ready.grantee = some 0 ∧ (ready.queue 0).loc = false ∧ up.grantee = none ∧ (inState .boot).up = false ∧
      layout (0xEE#8).toNat 0 = none ∧ slotCommand 0 (0xEE :: List.replicate 63 0) = none ∧
      slotCommand 0 (1 :: List.replicate 63 0) = some (.nop 0 ⟨false, 0⟩) ∧ (layout 1 0).isSome = true ∧
      (layout 1 0).map (fun l => firstReserved l (1 :: List.replicate 63 0)) = some none) ∧
    (let d := withQueue (withBuf up) { base := 0x10001, loc := true, tail := 1 };
      d.powered = true ∧ d.up = true ∧ d.grantee = some 0 ∧ (d.queue 0).loc = true ∧ d.dram.upsets = [] ∧
      (d.readMem ((d.buf (d.queue 0).ringRef.handle).base + 64 * (d.queue 0).head) 64).length = 64) ∧
    (∀ r c, (ready.queue r).hold ≠ .retry c) := ⟨by decide +kernel, by decide +kernel, ready_hold⟩

/-- Queues 0, 5 and 9 with a command ready, 9 of class 1. -/
def three (w5 w9 : Nat) : Dev := { up with qs := { lastGrant := [(0, 4)], queues :=
  [(0, { state := .running, log2 := 4, tail := 1 }), (5, { state := .running, log2 := 4, tail := 1, watched := w5 }),
   (9, { state := .running, log2 := 4, tail := 1, cls := 1, watched := w9 })] } }
/-- Among queues of one class the turn is the one after the last grant's; a queue that has watched 64 grants comes first. -/
theorem test_grants : (three 63 63).grantee = some 5 ∧ (three 0 64).grantee = some 9 := by decide +kernel
theorem test_witness_GrantsFollowClassAndTurn :
    ((three 63 63).fetchable 0 = true ∧ (three 63 63).grantee = some 5 ∧ (three 0 64).fetchable 9 = true ∧ 64 ≤ ((three 0 64).queue 9).watched ∧
      (∀ r, (three 63 63).fetchable r = true → ((three 63 63).queue r).watched < 64) ∧ SMap.rising (three 63 63).qs.lastGrant = true) ∧
    (ready.powered = true ∧ ready.up = true ∧ ready.grantee = some 0 ∧ (ready.queue 0).loc = false ∧
      (byteOf (1 :: List.replicate 63 0) 0).toNat = 1 ∧ firstReserved ([], []) (1 :: List.replicate 63 0) = none) ∧
    (∀ r c, (ready.queue r).hold ≠ .retry c) := ⟨by decide +kernel, by decide +kernel, ready_hold⟩

/-- An update in some state, with some bytes received. -/
def updating (n : Nat) (bs : List Byte) : Dev := { up with fw := { state := n, rcvd := bs } }
/-- In recovery mode. -/
def recovering (n : Nat) (bs : List Byte) : Dev := { inState .recovery with fw := { recState := n, rcvd := bs } }
/-- The start of an image with its payload length, and its verification's own premise: a key among the unrevoked ones, and a good signature. -/
theorem test_witness_ImagesAreVerifiedAndBooted :
    (up.powered = true ∧ up.coreFenced = false ∧ (inState .boot).recoveryOn .usb2 = false ∧ up.recoveryOn .usb3 = true ∧ (updating 0 []).fw.state ≠ 1 ∧
      (List.replicate 19 (0 : Byte)).length < 20 ∧ (updating 2 []).fw.state = 2 ∧ (updating 1 []).fw.state = 1 ∧
      impliedLen (List.replicate 16 0 ++ [1, 0, 0, 0] ++ List.replicate 333 0) = some 353 ∧ (recovering 0 []).pw.state = .recovery ∧ (recovering 0 []).fw.recState ≠ 1 ∧
      imageCheck (updating 2 []).fuses [] ≠ 0 ∧ (recovering 1 []).host.owner = none) ∧
    (let d : Dev := { updating 3 [] with fw := { state := 3, slotB := some ⟨2, 0⟩, handoff := true } };
      d.fw.handoff = true ∧ d.dict.waiting = [] ∧ d.fw.slot (1 - d.fw.active) = some ⟨2, 0⟩ ∧ SMap.rising d.dict.vals = true ∧ up.fw.handoff = false) ∧
    (let d := inState .boot;
      d.pw.fullRun = none ∧ d.bootImage.1 = some (0, ⟨0, 0⟩) ∧ d.mustRecover = false ∧ d.push.plots = [] ∧
      ({ d with fuses := { straps := 3 } } : Dev).mustRecover = true ∧ ({ d with fw := { flash := false } } : Dev).bootImage.1 = none) := by decide +kernel

/-- One bit of a CRC register stays in 32 bits. -/
theorem crcRefBits_lt (p : Nat) (hp : p < 2 ^ 32) (n : Nat) : ∀ r : Nat, r < 2 ^ 32 → crcRefBits p n r < 2 ^ 32 := by
  induction n with
  | zero => exact fun r h => h
  | succ n ih =>
    intro r h
    refine ih _ ?_
    unfold crcRefBit
    split
    · exact Nat.xor_lt_two_pow (by omega) hp
    · omega
/-- A CRC-32C fits in 32 bits. -/
theorem crc32c_lt (bs : List Byte) : crc32c bs < 2 ^ 32 := by
  have h : ∀ (l : List Byte) (r : Nat), r < 2 ^ 32 → crcRef 0x82F63B78 r l < 2 ^ 32 := by
    intro l
    induction l with
    | nil => exact fun r h => h
    | cons b t ih => exact fun r h => ih _ (crcRefBits_lt _ (by decide) _ _ (Nat.xor_lt_two_pow h (Nat.lt_trans b.isLt (by decide))))
  exact Nat.xor_lt_two_pow (h _ _ (by decide)) (by decide)
/-- Four bytes of a 32-bit number give it back. -/
theorem leNat_leBytes (n : Nat) (h : n < 2 ^ 32) : leNat (leBytes 4 n) = n := by
  simp only [leBytes, leNat, BitVec.toNat_ofNat]; omega
/-- An image of a zero payload of 4,096 bytes. -/
def image1 : List Byte :=
  [0x4D, 0x44, 0x46, 0x57, 1, 0, 0x24, 0x10, 7, 0, 0, 0, 0, 0, 0, 0, 0, 0x10, 0, 0] ++ leBytes 4 (crc32c (List.replicate 4096 0)) ++ List.replicate 4424 0
/-- It passes where its key is unrevoked and its signature good. -/
theorem test_witness_image
    (h : Config.ecdsaP384 (slice image1 64 97) (slice image1 (256 + field image1 16 4) 96) (image1.take (256 + field image1 16 4)) = true) :
    imageCheck { keyDigests := [Config.sha384 (slice image1 64 97)] } image1 = 0 := by
  have h4 : field image1 20 4 = crc32c (List.replicate 4096 0) := leNat_leBytes _ (crc32c_lt _)
  have h5 : slice image1 256 (field image1 16 4) = List.replicate 4096 0 := by
    rw [show field image1 16 4 = 4096 by decide +kernel]
    simp [-List.reduceReplicate, slice, image1, leBytes, List.take_replicate, List.drop_replicate]
  have h6 : image1.length = 4448 := by simp [-List.reduceReplicate, image1, leBytes]
  unfold imageCheck
  dsimp only
  rw [h4, h5, h6, if_neg (by decide +kernel), if_neg (by decide +kernel), if_neg (by simp), if_neg (by decide +kernel), if_neg (fun e => e rfl), h]
  rfl

theorem test_witness_ResetsKeepWhatTheyKeep :
    ((inState .off).pw.state = .off ∧ up.pw.state ≠ .off ∧ up.pw.latched = false ∧ ({ up with pw := { latched := true } } : Dev).pw.latched = true ∧
      (inState .resetHeld).pw.state = .resetHeld ∧ up.powered = true ∧ up.fw.handoff = false ∧ up.pw.request = none ∧
      ({ up with pw := { state := .underway, request := some (.coldBist 3) } } : Dev).pw.request = some (.coldBist 3)) ∧
    (let d : Dev := { up with now := 10000000, pw := { state := .underway, wdAt := some 0 } };
      d.pw.wdAt = some 0 ∧ d.now ≤ 0 + 10000000 ∧ up.pw.wdAt = none) ∧
    ((inState .moored).pw.state = .moored ∧ (inState .moored).moorWakes .vbus = true ∧ up.pw.state ≠ .moored) := by decide +kernel

/-- HOVE with a session, a running queue in buffer 1, every wake source on, and a timing mode. -/
def hoving (d : Dev) (mode : Nat) (k : Tack) : Dev :=
  { withQueue (withBuf d) { base := 0x10001, loc := true } with
    pw := { state := .hove }, dict := { vals := [(0x240002, some 31)], comm := [(0x110005, some 0x0A000001)] }
    comp := { ap := { vals := [(0x200001, some mode), (0x200003, some 2)] } }, tack := k }
theorem test_witness_wakes :
    (let d := hoving up 0 {};
      d.powered = true ∧ SMap.rising d.dict.vals = true ∧ d.pw.state = .hove ∧ d.portReach .pcie = true ∧ d.mayPort .pcie = true ∧
      (d.queue 0).state = .running ∧ 15 % 4096 < 2 ^ (d.queue 0).log2.toNat ∧ (∀ n ∈ [1, 2, 3, 4, 5], bit (d.val 0x240002) (n - 1) = true) ∧
      (∀ m, (d.mast m).state ≠ .down ∨ (d.mast m).det = false) ∧ bit (({ d with dict := { vals := [(0x240002, some 0)] } } : Dev).val 0x240002) 0 = false ∧
      d.portOn (.net 0 0) = true ∧ d.mailboxFree (.net 0 0) = true ∧ d.portOn (.can 5) = true ∧ d.mailboxFree (.can 5) = true ∧
      d.portOn (.host .pcie) = true ∧ d.mailboxFree (.host .pcie) = true ∧ (0x0A000001#32).toNat = d.ipv4) ∧
    (let d := hoving usb 0 {};
      let x : XferHdr := ⟨1, 0, 1, 64, 0, 0, 0, 0, 0, 0, false⟩;
      d.fuses.straps ≠ 2 ∧ d.discards .usb3 = false ∧ d.dram.upsets = [] ∧ x.kind = 1 ∧ framed x (List.replicate 64 0) = true ∧
      d.host.owner = some (UsbPath.toPath .usb3) ∧ Memory.wf d = true ∧ (d.queue 0).state = .running ∧ 1 ≤ (d.queue 0).room ∧
      d.barred (d.queue 0).ringRef (64 * ((d.queue 0).tail % 2 ^ (d.queue 0).log2.toNat)) 64 = none) ∧
    ((hoving up 1 {}).tval 0x200001 = 1 ∧ (hoving up 1 {}).qs.holds = []) ∧
    (let d := hoving up 2 { edges := 1 };
      (d.tval 0x200004 == 0) = true ∧ d.tval 0x200001 = 2 ∧ d.tval 0x200003 ≤ d.tack.edges + 1 ∧ d.qs.holds = [] ∧ d.tack.act = none ∧
      d.comp.pend = []) := by decide +kernel

theorem test_witness_HoveAndMooredComeAndGo :
    (up.powered = true ∧ SMap.rising up.dict.vals = true ∧ up.up = true ∧ up.quiet = true ∧ up.val 0x240001 ≠ 0 ∧ up.tval 0x200001 ≠ 2 ∧
      up.tval 0x200001 ≠ 1 ∧ up.val 0x240003 = 0 ∧ up.pw.state ≠ .hove) ∧
    (let d : Dev := { inState .hove with dict := { vals := [(0x240003, some 5)] } };
      d.powered = true ∧ d.val 0x240003 ≠ 0 ∧ bit (d.val 0x240002) 1 = true ∧ d.host.owner = none ∧ (∀ x ∈ d.push.masts, x.2.inService = false) ∧
      up.host.owner ≠ none) ∧
    (let d : Dev := { inState .forcedHove with th := { below110 := 1000 } };
      d.pw.state = .forcedHove ∧ 1000 ≤ d.th.below110 ∧ d.xfer.held = [] ∧ (inState .forcedHove).th.below110 < 1000) := by decide +kernel

/-- 24 readings, one of them different. -/
def readings (n : Nat) (x : U16) : List U16 := (List.replicate 24 (1000 : U16)).set n x
/-- Sensor 23 gives Tj, alone. -/
def hottest23 (x : U16) : Bool := (up.readSensor (readings 23 x) 23).work == x &&
  (List.range 24).all (fun i => decide ((up.readSensor (readings 23 x) i).work.toInt ≤ x.toInt)) &&
  (List.range 23).all (fun i => decide ((up.readSensor (readings 23 x) i).work.toInt < x.toInt))
theorem test_witness_TemperatureThresholdsAct :
    (SMap.rising up.th.sensors = true ∧ (inState .off).pw.state = .off ∧ up.pw.state ≠ .off ∧ up.pw.latched = false) ∧
    (hottest23 1887 = true ∧ hottest23 1888 = true ∧ hottest23 1999 = true ∧ hottest23 2000 = true) ∧
    ((1887 : U16).toInt < 1888 ∧ 1888 ≤ (1888 : U16).toInt ∧ (1999 : U16).toInt < 2000 ∧ 2000 ≤ (2000 : U16).toInt) ∧
    (let d : Dev := { up with th := { sensors := [(22, { suspect := 3 }), (23, { excluded := true, good := 10000 })], k := 15, b := 3, below102 := 8, above110 := 10, below107 := 50 } };
      (d.sensor 22).excluded = false ∧ 3 ≤ (d.sensor 22).suspect ∧ (d.sensor 23).excluded = true ∧ 10000 ≤ (d.sensor 23).good ∧ (d.sensor 0).suspect < 3 ∧
      d.th.k ≠ 0 ∧ 8 ≤ d.th.below102 ∧ d.th.b ≠ 0 ∧ d.th.b < 4 ∧ 10 ≤ d.th.above110 ∧ 50 ≤ d.th.below107) ∧
    (let d : Dev := { up with pw := { state := .shutdown, latched := true }, th := { tj := 1600 } };
      d.pw.latched = true ∧ -640 ≤ d.th.tj.toInt ∧ d.th.tj.toInt ≤ 1600 ∧ d.ledger.sectors = [] ∧ ({ d with th := { tj := 1601 } } : Dev).th.tj.toInt > 1600) := by decide +kernel

/-- The run's state: the regulators first, then the DRAM groups and the masts in their order (R420, R422). -/
def trimRun (n : Nat) : TrimRun :=
  { point := 560, startAt := 0, powerUp := false, next := 0, done := (([36, 32, 33, 34, 35] ++ List.range 32).take n).map (fun i => (i, some 40)) }
/-- A trim run with some items measured, mast 0 in SERVICE. -/
def trimming (n : Nat) : Dev := { up with
  trim := { run := some (trimRun n) }, push := { masts := [(0, { state := .service })] } }
theorem test_witness_TrimRunsAndFollows :
    (Int.natAbs (((0xFF#8).toNat : Int) - (0xFD#8).toNat) ≤ 2 ∧ ({ point := 560, codes := [some 41] } : TrimSet).codes.getD 0 none = some 41 ∧ (560 : U16).toInt < (1280 : U16).toInt) ∧
    (let d : Dev := { up with trim := { due := true } };
      d.powered = true ∧ d.trim.run = none ∧ d.trimDue .request = true ∧ up.trimDue .request = false ∧ up.up = true ∧ up.trim.rcal ≠ 2 ∧
      (inState .hove).up = false ∧ (inState .hove).pw.state ≠ .boot) ∧
    ((trimming 4).trim.run = some (trimRun 4) ∧ (trimming 4).up = true ∧ (trimRun 4).powerUp = false ∧ (trimRun 4).has 36 = true ∧
      (trimRun 4).groupsDone 3 = true ∧ (trimRun 4).next ≤ (trimming 4).now ∧ (trimming 4).retrainHolds = false ∧ (trimRun 4).has (32 + 3) = false ∧
      (trimRun 0).has 36 = false ∧ (∀ i < 37, (trimRun 37).has i = true) ∧ (trimRun 5).has 0 = false ∧ (trimming 5).trim.sets.length ≤ 8) := by decide +kernel

theorem test_witness_mastTrimSlot :
    (trimming 5).mastTurn (trimRun 5) 0 = true ∧ (trimming 5).mastTurn (trimRun 5) 1 = false ∧ (∀ p ∈ (trimming 5).push.plots, p.mast = 0 → p.pkt = .waiting) ∧
    trimCode 4 [⟨41, 43⟩] = some (some 42) ∧ trimCode 4 (List.replicate 4 ⟨41, 44⟩) = some none ∧
    (∃ p ∈ [sent 0 false], p.mast = 0 ∧ p.pkt ≠ .waiting) := by decide +kernel
theorem test_witness_mastTrimSlot_ops (x : SailId) : ((trimming 5).sail x).out = none := rfl

/-- A ledger with some requests waiting and one being written, at 25 °C. -/
def withLedger (rs : List LReq) (w : Option (LReq × List Prog)) : Dev := { up with th := { tj := 400 }, ledger := { queue := rs, writing := w } }
theorem test_witness_LedgerWritesAndCounts :
    (let d := withLedger [.record 0xF404 [1]] none;
      d.powered = true ∧ d.ledger.queue = .record 0xF404 [1] :: [] ∧ d.mayWrite = true ∧ d.nvmFull 0xF404 3824 = false ∧ d.ledger.sectors = [] ∧ ({ d with th := { tj := 1601 } } : Dev).mayWrite = false ∧
      (∀ n < 10, (d.ringOf n).ram < ringStep n) ∧
      (withLedger [.compact 3] none).mayWrite = true ∧ (withLedger [] (some (.compact 3, []))).ledger.writing ≠ none) ∧
    (let d : Dev := { up with th := { tj := 400 }, ledger := { rings := [(3, { ram := ringStep 3, bits := 32703, blank := false })] } };
      let r := d.ringOf 3;
      10 ≤ (10#4).toNat ∧ (3#4).toNat < 10 ∧ r.ram / ringStep 3 ≠ 0 ∧ d.mayCount 3 = true ∧ (if r.blank then 0 else r.bits) + r.ram / ringStep 3 ≤ 32704 ∧
      (d.ringOf 4).ram / ringStep 4 = 0 ∧ d.up = true ∧ (inState .hove).up = false) := by
  decide +kernel

theorem test_witness_TestPortAndSelfTest :
    ((inState .off).pw.state = .off ∧ up.pw.state ≠ .off ∧ (delivering []).noScan = true ∧ up.noScan = false ∧ up.powered = true ∧
      up.fuses.lifeCycle ≠ 2 ∧ up.privateJtag = true ∧ ({ up with fuses := { lifeCycle := 2 } } : Dev).privateJtag = false ∧
      ({ up with fuses := { lifeCycle := 2 } } : Dev).fuses.lifeCycle = 2) ∧
    (recPart 0x1000 = some 0 ∧ recPart 0xF603 = some 6 ∧ (up.digests 0) = (List.replicate 48 0, List.replicate 48 0) ∧ up.pwLocked 0 = false ∧
      ({ up with pw := { pwFails := [(0, 8)] } } : Dev).pwLocked 0 = true ∧ (List.replicate 3824 (0 : Byte)).length ≤ 3824) ∧
    (let d : Dev := { up with flt := { parts := [(27, { state := .offline })], queue := [27] } };
      d.bistCheck 27 3 = 0 ∧ up.bistCheck 27 3 ≠ 0 ∧ d.flt.queue = 27 :: [] ∧ d.up = true ∧ d.bistRunning = [] ∧ d.th.k = 0 ∧ d.th.b = 0 ∧
      bistPower 27 ≤ 10 * d.val 0xC01001 ∧ up.flt.queue = []) ∧
    (let d : Dev := { up with flt := { parts := [(39, { state := .bist, running := true, tests := 3 })] } };
      (d.partn (39#6).toNat).running = true ∧ d.bistVerdict 39 3 ⟨0, none⟩ = none ∧ d.bistVerdict 39 3 ⟨1, none⟩ ≠ none ∧ d.bistVerdict 39 2 ⟨1, some 5⟩ ≠ none ∧
      (d.partn 0).running = false ∧ ¬(d.fuses.md0512 = true ∧ 20 ≤ 39 ∧ 39 ≤ 23)) := by
  decide +kernel

/-- A password that does not match: a stored digest that no digest of a password can be, being shorter. -/
theorem test_witness_wrongPassword (pw : List Byte) (h : (up.digest pw).length = 48) :
    (let d : Dev := { up with ledger := { pw := [(0, ([1], [2]))] } };
      d.pwLocked 0 = false ∧ (d.digests 0).1 ≠ List.replicate 48 0 ∧ (d.digests 0).1 ≠ d.digest pw) := by
  refine ⟨by decide +kernel, by decide +kernel, fun e => ?_⟩
  have e1 := congrArg List.length e
  exact absurd (e1.trans h) (by decide)

/-- The invariants hold in the state after reset, and a step from it answers a next state. -/
theorem test_witness_invariants : Memory.wf State.reset.dev = true ∧ (∃ t, step State.reset = .next t) ∧ TablesRise State.reset.dev ∧
    IdsAreFresh State.reset.dev ∧ BuffersAreApart State.reset.dev :=
  ⟨by decide, ⟨_, rfl⟩, by unfold TablesRise; decide, by unfold IdsAreFresh; decide, fun _ _ _ h => absurd rfl h⟩
end Sys2Proof.Tests
end

section
/-! O8, the registers of BAR0 and the INT_MOD timer (file 02): which word of BAR0 a write reaches, what each register does with it, and the
statement that these make up. -/

namespace Sys2Proof.Machine

/-! ### Bits and halves of words -/

/-- The model's bit of a number is the word's bit. -/
theorem bit_toNat {n : Nat} (w : BitVec n) (i : Nat) : bit w.toNat i = w.getLsbD i := by
  rw [BitVec.getLsbD, Nat.testBit_eq_decide_div_mod_eq]
  rfl

/-- An 8-byte write to a 64-bit register leaves the written value: the low word is put in first, the high word over it (R27). -/
theorem halves_join (b v : U64) :
    BitVec.ofNat 64 (((v >>> 32).setWidth 32 : U32).toNat * 2 ^ 32 +
      (BitVec.ofNat 64 (b.toNat / 2 ^ 32 * 2 ^ 32 + (v.setWidth 32 : U32).toNat)).toNat % 2 ^ 32) = v := by
  apply BitVec.eq_of_toNat_eq
  simp only [BitVec.toNat_ofNat, BitVec.toNat_setWidth, BitVec.toNat_ushiftRight, Nat.shiftRight_eq_div_pow]
  omega

/-! ### What the INT_MOD timer and an MSI-X vector do -/

/-- A vector that may be sent is sent, with its entry's address and data (R29). -/
theorem msix_send (d : Dev) (n : Nat) (hb : d.link.bme = true) (hd : d.link.d3hot = false) (he : d.link.msixEnable = true)
    (hm : d.link.msixMask = false) (hc : bit (SMap.get ({} : MsixEntry) d.host.msix n).ctrl.toNat 0 = false) :
    d.msix n = d.send (.msix n (SMap.get ({} : MsixEntry) d.host.msix n).addr (SMap.get ({} : MsixEntry) d.host.msix n).data) := by
  unfold Dev.msix
  dsimp only
  rw [hb, hd, he, hm, hc]
  rfl

theorem intModExpiry_idle (d : Dev) (h : d.host.timerOn = false) : d.intModExpiry = d := by
  simp [Dev.intModExpiry, h]

theorem intModExpiry_running (d : Dev) (h : d.host.timerOn = true) :
    d.intModExpiry = ({ d with host := { d.host with timerOn := false, unsignalled := 0 } } : Dev).msix 0 := by
  simp [Dev.intModExpiry, h]

/-! ### The word of BAR0 that an offset names (R27) -/

theorem bar0WriteWord_hostStatus (d : Dev) (w : U32) (hf : d.pw.state ≠ .forcedHove) :
    d.bar0WriteWord 0x10 w = { d with host := { d.host with viol := d.host.viol && !w.getLsbD 1 } } := by
  have hb := bit_toNat w 1
  cases h : w.getLsbD 1 <;> rw [h] at hb <;> simp [Dev.bar0WriteWord, hf, hb]

theorem bar0WriteWord_intMod (d : Dev) (w : U32) (hf : d.pw.state ≠ .forcedHove) : d.bar0WriteWord 0x18 w = d.setIntMod w := by
  simp [Dev.bar0WriteWord, hf]

theorem bar0WriteWord_aperture (d : Dev) (n o : Nat) (w : U32) (hf : d.pw.state ≠ .forcedHove) (hn : n < 64) (ho : o < 16) :
    d.bar0WriteWord (0x1000 + 16 * n + o) w = d.apWord n o w := by
  have e1 : (0x1000 + 16 * n + o - 0x1000) / 16 = n := by omega
  have e2 : (0x1000 + 16 * n + o) % 16 = o := by omega
  unfold Dev.bar0WriteWord
  rw [if_neg (by omega), if_neg (by omega), if_neg hf, if_neg (by omega), if_neg (by omega), if_neg (by omega), if_pos (by omega), e1, e2]

theorem bar0WriteWord_port (d : Dev) (o : Nat) (w : U32) (hf : d.pw.state ≠ .forcedHove) (h : 0x2000 ≤ o) (h' : o < 0x9000) :
    d.bar0WriteWord o w = d.portWord .pcie o w := by
  unfold Dev.bar0WriteWord
  rw [if_neg (by omega)]
  split
  · rfl
  · rw [if_neg (by omega), if_neg (by omega), if_neg (by omega), if_neg (by omega), if_pos ⟨h, h'⟩]

theorem bar0WriteWord_ring (d : Dev) (o : Nat) (w : U32) (hf : d.pw.state ≠ .forcedHove) (h : o < 0x1000) :
    d.bar0WriteWord (0x2000 + o) w = d.ringWord .pcie o w := by
  rw [bar0WriteWord_port d _ w hf (by omega) (by omega), Dev.portWord, if_pos (by omega), Nat.add_sub_cancel_left]

theorem bar0WriteWord_queue (d : Dev) (q : QueueId) (o : Nat) (w : U32) (hf : d.pw.state ≠ .forcedHove) (h : o < 64) :
    d.bar0WriteWord (0x4000 + 64 * q.toNat + o) w = d.queueWord .pcie q o w := by
  have hq := q.isLt
  have e1 : BitVec.ofNat 6 ((0x4000 + 64 * q.toNat + o - 0x4000) / 64) = q := by
    rw [show (0x4000 + 64 * q.toNat + o - 0x4000) / 64 = q.toNat by omega, BitVec.ofNat_toNat, BitVec.setWidth_eq]
  have e2 : (0x4000 + 64 * q.toNat + o) % 64 = o := by omega
  rw [bar0WriteWord_port d _ w hf (by omega) (by omega), Dev.portWord, if_neg (by omega), if_pos (by omega), e1, e2]

/-- The offsets of 4-byte words that no register takes: HOST_ID, the pending bits of MSI-X, and the reserved ones between the regions
(R7, R27). -/
def bar0Ignored (o : Nat) : Prop :=
  o < 0x10 ∨ (0x20 ≤ o ∧ o < 0x1000) ∨ (0x1400 ≤ o ∧ o < 0x2000) ∨ (0x9000 ≤ o ∧ o < 0x10000) ∨ 0x20040 ≤ o

theorem bar0WriteWord_ignored (d : Dev) (o : Nat) (w : U32) (h : bar0Ignored o) : d.bar0WriteWord o w = d := by
  unfold bar0Ignored at h
  unfold Dev.bar0WriteWord
  rw [if_neg (by omega), if_neg (by omega)]
  split
  · rfl
  · rw [if_neg (by omega), if_neg (by omega), if_neg (by omega), if_neg (by omega), if_neg (by omega), if_neg (by omega)]

/-! ### What each register does with a word -/

/-- With no event unsignalled, INT_MOD takes the value and no timer runs (R29). -/
theorem setIntMod_signalled (d : Dev) (w : U32) (h : d.host.unsignalled = 0) :
    d.setIntMod w = { d with host := { d.host with intMod := w, timerOn := false } } := by
  simp [Dev.setIntMod, h]

theorem apWord_target (d : Dev) (n : Nat) (w : U32) (h : (d.ap n).isOpen = false) :
    d.apWord n 0 w = d.setAp n { d.ap n with target := w } := by
  simp [Dev.apWord, h]

/-- TARGET and OFFSET of an open aperture ignore the write (R30). -/
theorem apWord_open (d : Dev) (n o : Nat) (w : U32) (h : (d.ap n).isOpen = true) (ho : o ≠ 4) : d.apWord n o w = d := by
  simp [Dev.apWord, h, ho]

/-- The queues and the ring are free, or the PCIe path owns them (R24). -/
theorem mayPort_pcie (d : Dev) (h : d.host.owner = none ∨ d.host.owner = some .pcie) : d.mayPort .pcie = true := by
  obtain h | h := h <;> simp [Dev.mayPort, h]

/-- The device with a value in EVR_BASE: a write of its low or of its high word leaves one. -/
def Dev.setRingBase (d : Dev) (b : U64) : Dev := { d with ring := { d.ring with base := b } }

@[simp] theorem Dev.setRingBase_base (d : Dev) (b : U64) : (d.setRingBase b).ring.base = b := rfl
@[simp] theorem Dev.setRingBase_setRingBase (d : Dev) (b c : U64) : (d.setRingBase b).setRingBase c = d.setRingBase c := rfl

theorem ringWord_baseLow (d : Dev) (p : Path) (w : U32) (h : d.mayPort p = true) :
    d.ringWord p 0 w = d.setRingBase (BitVec.ofNat 64 (d.ring.base.toNat / 2 ^ 32 * 2 ^ 32 + w.toNat)) := by
  simp [Dev.ringWord, h, Dev.setRingBase]

theorem ringWord_baseHigh (d : Dev) (p : Path) (w : U32) (h : d.mayPort p = true) :
    d.ringWord p 4 w = d.setRingBase (BitVec.ofNat 64 (w.toNat * 2 ^ 32 + d.ring.base.toNat % 2 ^ 32)) := by
  simp [Dev.ringWord, h, Dev.setRingBase]

theorem ringWord_overflow (d : Dev) (p : Path) (w : U32) (h : d.mayPort p = true) (hw : w.getLsbD 1 = true) :
    d.ringWord p 0x14 w = { d with ring := { d.ring with overflow := false } } := by
  simp [Dev.ringWord, h, bit_toNat, hw]

/-- BASE of a disabled queue takes the low word (R44). -/
theorem queueWord_baseLow (d : Dev) (p : Path) (q : QueueId) (w : U32) (h : d.mayPort p = true) (hs : (d.queue q).state = .disabled) :
    d.queueWord p q 0 w =
      d.setQueue q { d.queue q with base := BitVec.ofNat 64 ((d.queue q).base.toNat / 2 ^ 32 * 2 ^ 32 + w.toNat) } := by
  simp [Dev.queueWord, h, Queue.enabled, hs]

/-! ### A write as it arrives -/

/-- In D3hot a write is dropped (R39). -/
theorem bar0Write_d3hot (d : Dev) (off : Nat) (wide : Bool) (v : U64) (h : d.link.d3hot = true) : d.bar0Write off wide v = d := by
  simp [Dev.bar0Write, h]

theorem bar0Write_word (d : Dev) (off : Nat) (w : U32) (hd : d.link.d3hot = false) (hr : d.pw.state ≠ .recovery) (ho : off % 4 = 0) :
    d.bar0Write off false (w.setWidth 64) = d.bar0WriteWord off w := by
  simp [Dev.bar0Write, Dev.pcieOn, bar0Shape, hd, hr, ho]

theorem bar0Write_wide (d : Dev) (off : Nat) (v : U64) (hd : d.link.d3hot = false) (hr : d.pw.state ≠ .recovery) (ho : off % 8 = 0) :
    d.bar0Write off true v = (d.bar0WriteWord off (v.setWidth 32)).bar0WriteWord (off + 4) ((v >>> 32).setWidth 32) := by
  simp [Dev.bar0Write, Dev.pcieOn, bar0Shape, hd, hr, ho]

/-- Where both words are ignored, so is the write. -/
theorem bar0Write_ignored (d : Dev) (off : Nat) (wide : Bool) (v : U64) (h : bar0Ignored off) (h' : bar0Ignored (off + 4)) :
    d.bar0Write off wide v = d := by
  simp [Dev.bar0Write, bar0WriteWord_ignored _ _ _ h, bar0WriteWord_ignored _ _ _ h']

/-! ### REGISTER_WRITE on a device that its writes reach -/

/-- A 4-byte write leaves what its word leaves. -/
theorem Becomes.registerWrite_word {s : State} {t : Dev} (off : BitVec 18) {o : Nat} {w : U32} (hp : s.dev.powered = true)
    (hr : s.dev.pw.state ≠ .recovery) (hd : s.dev.link.d3hot = false) (he : off.toNat = o) (ho : o % 4 = 0)
    (h : s.dev.begin.bar0WriteWord o w = t) : Becomes (.registerWrite off false (w.setWidth 64)) s t := by
  refine Becomes.of_runOn (exec_registerWrite _ _ _ _) hp ?_
  rw [he, bar0Write_word s.dev.begin o w hd hr ho, h]

/-- An 8-byte write leaves what its low word and then its high word leave (R27). -/
theorem Becomes.registerWrite_wide {s : State} {t : Dev} (off : BitVec 18) {o : Nat} {v : U64} (hp : s.dev.powered = true)
    (hr : s.dev.pw.state ≠ .recovery) (hd : s.dev.link.d3hot = false) (he : off.toNat = o) (ho : o % 8 = 0)
    (h : (s.dev.begin.bar0WriteWord o (v.setWidth 32)).bar0WriteWord (o + 4) ((v >>> 32).setWidth 32) = t) :
    Becomes (.registerWrite off true v) s t := by
  refine Becomes.of_runOn (exec_registerWrite _ _ _ _) hp ?_
  rw [he, bar0Write_wide s.dev.begin o v hd hr ho, h]

section Reached

variable {s : State} (hp : s.dev.powered = true) (hr : s.dev.pw.state ≠ .recovery) (hf : s.dev.pw.state ≠ .forcedHove)
  (hd : s.dev.link.d3hot = false)

include hp hr hf hd

/-- HOST_STATUS.VIOL is W1C. -/
theorem write_hostStatus (w : U32) : Becomes (.registerWrite 0x10 false (w.setWidth 64)) s
    { s.dev with out := [], host := { s.dev.host with viol := s.dev.host.viol && !w.getLsbD 1 } } :=
  .registerWrite_word _ hp hr hd rfl rfl (bar0WriteWord_hostStatus s.dev.begin w hf)

theorem write_intMod (w : U32) (hu : s.dev.host.unsignalled = 0) : Becomes (.registerWrite 0x18 false (w.setWidth 64)) s
    { s.dev with out := [], host := { s.dev.host with intMod := w, timerOn := false } } := by
  refine .registerWrite_word _ hp hr hd rfl rfl ?_
  exact (bar0WriteWord_intMod s.dev.begin w hf).trans (setIntMod_signalled s.dev.begin w hu)

theorem write_apertureTarget (n : Nat) (w : U32) (hn : n < 64) (ha : (s.dev.ap n).isOpen = false) :
    Becomes (.registerWrite (BitVec.ofNat 18 (0x1000 + 16 * n)) false (w.setWidth 64)) s
      ({ s.dev with out := [] }.setAp n { s.dev.ap n with target := w }) := by
  refine .registerWrite_word (o := 0x1000 + 16 * n + 0) _ hp hr hd (Nat.mod_eq_of_lt (by omega)) (by omega) ?_
  rw [bar0WriteWord_aperture s.dev.begin n 0 w hf hn (by decide)]
  exact apWord_target s.dev.begin n w ha

theorem write_apertureOffset_open (n : Nat) (v : U64) (hn : n < 64) (ha : (s.dev.ap n).isOpen = true) :
    Becomes (.registerWrite (BitVec.ofNat 18 (0x1008 + 16 * n)) true v) s { s.dev with out := [] } := by
  have ignores : ∀ (o : Nat) (w : U32), o < 16 → o ≠ 4 → s.dev.begin.bar0WriteWord (0x1000 + 16 * n + o) w = s.dev.begin := by
    intro o w ho h4
    rw [bar0WriteWord_aperture s.dev.begin n o w hf hn ho]
    exact apWord_open s.dev.begin n o w ha h4
  refine .registerWrite_wide (o := 0x1000 + 16 * n + 8) _ hp hr hd ?_ (by omega) ?_
  · rw [BitVec.toNat_ofNat, Nat.mod_eq_of_lt (by omega)]
    omega
  · rw [ignores 8 _ (by decide) (by decide), Nat.add_assoc _ 8 4, ignores 12 _ (by decide) (by decide)]
    rfl

section Owned

variable (ho : s.dev.host.owner = none ∨ s.dev.host.owner = some .pcie)

include ho

theorem write_ringBase (v : U64) :
    Becomes (.registerWrite 0x2000 true v) s { s.dev with out := [], ring := { s.dev.ring with base := v } } := by
  refine .registerWrite_wide (o := 0x2000 + 0) _ hp hr hd rfl rfl ?_
  have hm : s.dev.begin.mayPort .pcie = true := mayPort_pcie s.dev.begin ho
  have hm' : ∀ b, (s.dev.begin.setRingBase b).mayPort .pcie = true := fun _ => hm
  have hf' : ∀ b, (s.dev.begin.setRingBase b).pw.state ≠ .forcedHove := fun _ => hf
  rw [bar0WriteWord_ring s.dev.begin 0 _ hf (by decide), ringWord_baseLow _ _ _ hm, Nat.add_zero,
    bar0WriteWord_ring _ 4 _ (hf' _) (by decide), ringWord_baseHigh _ _ _ (hm' _), Dev.setRingBase_base, halves_join,
    Dev.setRingBase_setRingBase]
  rfl

/-- EVR_STATUS.OVERFLOW is W1C. -/
theorem write_ringOverflow (w : U32) (hw : w.getLsbD 1 = true) : Becomes (.registerWrite 0x2014 false (w.setWidth 64)) s
    { s.dev with out := [], ring := { s.dev.ring with overflow := false } } := by
  refine .registerWrite_word (o := 0x2000 + 0x14) _ hp hr hd rfl rfl ?_
  rw [bar0WriteWord_ring s.dev.begin 0x14 w hf (by decide)]
  exact ringWord_overflow s.dev.begin _ w (mayPort_pcie s.dev.begin ho) hw

theorem write_queueBase (q : QueueId) (w : U32) (hs : (s.dev.queue q).state = .disabled) :
    Becomes (.registerWrite (BitVec.ofNat 18 (0x4000 + 64 * q.toNat)) false (w.setWidth 64)) s
      ({ s.dev with out := [] }.setQueue q { s.dev.queue q with
        base := BitVec.ofNat 64 ((s.dev.queue q).base.toNat / 2 ^ 32 * 2 ^ 32 + w.toNat) }) := by
  have hq := q.isLt
  refine .registerWrite_word (o := 0x4000 + 64 * q.toNat + 0) _ hp hr hd (Nat.mod_eq_of_lt (by omega)) (by omega) ?_
  rw [bar0WriteWord_queue s.dev.begin q 0 w hf (by decide)]
  exact queueWord_baseLow s.dev.begin _ q w (mayPort_pcie s.dev.begin ho) hs

end Owned

end Reached

/-- The reserved offsets of BAR0 and HOST_ID ignore a write of either width (R7, R27). -/
theorem write_reserved {s : State} (hp : s.dev.powered = true) (off : BitVec 18) (wide : Bool) (v : U64) (h8 : off.toNat % 8 = 0)
    (h : off.toNat = 0 ∨ (0x20 ≤ off.toNat ∧ off.toNat < 0x1000) ∨ (0x1400 ≤ off.toNat ∧ off.toNat < 0x2000) ∨
      (0x9000 ≤ off.toNat ∧ off.toNat < 0x10000) ∨ 0x20040 ≤ off.toNat) :
    Becomes (.registerWrite off wide v) s { s.dev with out := [] } :=
  .of_runOn (exec_registerWrite off wide v s) hp
    (bar0Write_ignored s.dev.begin _ wide v (by unfold bar0Ignored; omega) (by unfold bar0Ignored; omega))

/-- In D3hot every write is dropped (R39). -/
theorem write_d3hot {s : State} (hp : s.dev.powered = true) (off : BitVec 18) (wide : Bool) (v : U64) (hd : s.dev.link.d3hot = true) :
    Becomes (.registerWrite off wide v) s { s.dev with out := [] } :=
  .of_runOn (exec_registerWrite off wide v s) hp (bar0Write_d3hot s.dev.begin _ wide v hd)

/-! ### The INT_MOD timer and the statement -/

/-- Where vector 0 may be sent, the expiring timer sends it for the events not signalled (R29). -/
theorem intModTimer_sends {s : State} (hp : s.dev.powered = true) (ht : s.dev.host.timerOn = true) (hb : s.dev.link.bme = true)
    (hd : s.dev.link.d3hot = false) (he : s.dev.link.msixEnable = true) (hm : s.dev.link.msixMask = false)
    (hc : bit (SMap.get ({} : MsixEntry) s.dev.host.msix 0).ctrl.toNat 0 = false) :
    Becomes .intModTimerExpiry s { s.dev with
      host := { s.dev.host with timerOn := false, unsignalled := 0 }
      out := [.msix 0 (SMap.get ({} : MsixEntry) s.dev.host.msix 0).addr (SMap.get ({} : MsixEntry) s.dev.host.msix 0).data] } := by
  refine Becomes.of_runOn (exec_intModTimerExpiry s) hp ?_
  exact (intModExpiry_running s.dev.begin ht).trans (msix_send _ 0 hb hd he hm hc)

theorem intModTimer_idle {s : State} (hp : s.dev.powered = true) (ht : s.dev.host.timerOn = false) :
    Becomes .intModTimerExpiry s { s.dev with out := [] } :=
  Becomes.of_runOn (exec_intModTimerExpiry s) hp (intModExpiry_idle s.dev.begin ht)

/-- Settles O8, register by register: each write is its words, each word reaches the register its offset names. -/
theorem registersAndTheIntModTimer : Obligations.RegistersAndTheIntModTimer := by
  refine ⟨fun s hp hr hf => ⟨write_d3hot hp, fun hd => ?_⟩, fun s hp => ⟨intModTimer_sends hp, intModTimer_idle hp⟩⟩
  exact ⟨write_hostStatus hp hr hf hd, write_intMod hp hr hf hd, write_apertureTarget hp hr hf hd,
    write_apertureOffset_open hp hr hf hd, fun v ho => write_ringBase hp hr hf hd ho v,
    fun w ho => write_ringOverflow hp hr hf hd ho w, fun q w ho => write_queueBase hp hr hf hd ho q w, write_reserved hp⟩

end Sys2Proof.Machine
end
section
/-! Lemmas that the statements of file 02 share: the frame of a change of one part, what an event record sends and where it goes, and what a
host access violation logs. -/

namespace Sys2Proof.Machine

/-! ### A change of one part -/

theorem Frame.link (d : Dev) (x : HostLink) : Frame [.link] d { d with link := x } := by
  intro p hp
  cases p with
  | link => exact absurd (List.mem_singleton_self _) hp
  | _ => rfl

theorem Frame.host (d : Dev) (x : HostRegs) : Frame [.host] d { d with host := x } := by
  intro p hp
  cases p with
  | host => exact absurd (List.mem_singleton_self _) hp
  | _ => rfl

theorem Frame.qs (d : Dev) (x : QueueSys) : Frame [.qs] d { d with qs := x } := by
  intro p hp
  cases p with
  | qs => exact absurd (List.mem_singleton_self _) hp
  | _ => rfl

theorem Frame.dram (d : Dev) (x : Dram) : Frame [.dram] d { d with dram := x } := by
  intro p hp
  cases p with
  | dram => exact absurd (List.mem_singleton_self _) hp
  | _ => rfl

theorem Frame.bump (d : Dev) (k : Nat) : Frame [.dict] d (d.bump k) := by
  intro p hp
  cases p with
  | dict => exact absurd (List.mem_singleton_self _) hp
  | _ => rfl

/-- Sending is no change of a part. -/
theorem Frame.sends (ps : List Part) (d : Dev) (o : List Out) : Frame ps d { d with out := o } := by
  intro p _
  cases p with
  | _ => rfl

/-! ### What an event record sends -/

/-- A device has sent more than another, and no Unsupported Request among it. -/
def SendsOn (d t : Dev) : Prop := ∃ more, t.out = d.out ++ more ∧ Out.unsupported ∉ more

theorem SendsOn.of_same {d t : Dev} (h : t.out = d.out) : SendsOn d t := ⟨[], by simp [h], List.not_mem_nil⟩

theorem SendsOn.one {d t : Dev} {o : Out} (h : t.out = d.out ++ [o]) (ho : o ≠ .unsupported) : SendsOn d t :=
  ⟨[o], h, by simpa using ho.symm⟩

theorem SendsOn.trans {a b c : Dev} (h : SendsOn a b) (g : SendsOn b c) : SendsOn a c := by
  obtain ⟨x, hx, nx⟩ := h
  obtain ⟨y, hy, ny⟩ := g
  exact ⟨x ++ y, by rw [hy, hx, List.append_assoc], by simp [nx, ny]⟩

theorem SendsOn.head {d t : Dev} {o : Out} (h : SendsOn d t) (ho : d.out = [o]) : t.out.head? = some o := by
  obtain ⟨more, hm, _⟩ := h
  simp [hm, ho]

theorem SendsOn.no_unsupported {d t : Dev} (h : SendsOn d t) (ho : d.out = []) : Out.unsupported ∉ t.out := by
  obtain ⟨more, hm, hn⟩ := h
  simpa [hm, ho] using hn

theorem msix_sendsOn (d : Dev) (v : Nat) : SendsOn d (d.msix v) := by
  unfold Dev.msix
  dsimp only
  split
  · exact .one rfl (by simp)
  · exact .of_same rfl

theorem signal0_sendsOn (d : Dev) : SendsOn d d.signal0 := by
  unfold Dev.signal0
  split
  · dsimp only
    split
    · exact (SendsOn.of_same rfl).trans (msix_sendsOn _ 0)
    · exact .of_same rfl
  · split
    · exact .one rfl (by simp)
    · split
      · exact .one rfl (by simp)
      · exact .of_same rfl

/-! ### Where an event record goes (R40, R65 to R67) -/

theorem record_no_session (d : Dev) (e : Event) (h : d.host.owner = none) : d.record e = d.bump 0x230007 := by
  simp [Dev.record, h]

theorem record_disabled (d : Dev) (e : Event) (h : d.host.owner ≠ none) (he : d.ring.enabled = false) :
    d.record e = d.dropRecord false := by
  simp [Dev.record, h, he]

theorem record_full (d : Dev) (e : Event) (h : d.host.owner ≠ none) (he : d.ring.enabled = true) (hf : d.ring.full = true) :
    d.record e = d.dropRecord true := by
  simp [Dev.record, h, he, hf]

theorem record_stored (d : Dev) (e : Event) (h : d.host.owner ≠ none) (he : d.ring.enabled = true) (hf : d.ring.full = false) :
    d.record e = (d.putRecord e).signal0 := by
  simp [Dev.record, h, he, hf]

theorem putRecord_pcie (d : Dev) (e : Event) (h : d.host.owner = some .pcie) :
    d.putRecord e = { d with
      out := d.out ++ [.hostWrite (d.ring.base + BitVec.ofNat 64 (16 * d.ring.tail.toNat)) e.bytes]
      ring := { d.ring with tail := BitVec.ofNat 16 ((d.ring.tail.toNat + 1) % d.ring.size) } } := by
  simp [Dev.putRecord, h, Dev.send]

theorem putRecord_usb (d : Dev) (e : Event) (p : UsbPath) (h : d.host.owner = some p.toPath) :
    d.putRecord e = { d with ring := { d.ring with
      recs := d.ring.recs ++ [e], tail := BitVec.ofNat 16 ((d.ring.tail.toNat + 1) % d.ring.size) } } := by
  cases p <;> simp [Dev.putRecord, h, UsbPath.toPath]

/-- Signalling changes nothing of the ring. -/
@[simp] theorem signal0_ring (d : Dev) : d.signal0.ring = d.ring := by
  unfold Dev.signal0
  split
  · dsimp only
    split <;> simp
  · split
    · rfl
    · split <;> rfl

/-- On a USB path whose function is not suspended, no signal is due (R39). -/
theorem signal0_usb_awake (d : Dev) (p : UsbPath) (h : d.host.owner = some p.toPath) (h3 : d.link.susp3 = false)
    (h2 : d.link.susp2 = false) : d.signal0 = d := by
  cases p <;> simp [Dev.signal0, h, h3, h2, UsbPath.toPath]

theorem record_sendsOn (d : Dev) (e : Event) : SendsOn d (d.record e) := by
  unfold Dev.record
  split
  · exact .of_same rfl
  · split
    · exact .of_same rfl
    · split
      · exact .of_same rfl
      · refine SendsOn.trans ?_ (signal0_sendsOn _)
        unfold Dev.putRecord
        dsimp only
        split
        · exact .one rfl (by simp)
        · exact .of_same rfl

theorem event_sendsOn (d : Dev) (ty src x : Nat) : SendsOn d (d.event ty src x) := record_sendsOn d _

theorem leBytes_length (n v : Nat) : (leBytes n v).length = n := by
  induction n generalizing v with
  | zero => rfl
  | succ n ih => simp [leBytes, ih]

/-- A record has sixteen bytes (R8). -/
theorem event_bytes_length (e : Event) : e.bytes.length = 16 := by
  simp [Event.bytes, leBytes_length]

/-- Signalling changes nothing of the dictionary. -/
@[simp] theorem signal0_dict (d : Dev) : d.signal0.dict = d.dict := by
  unfold Dev.signal0
  split
  · dsimp only
    split <;> simp
  · split
    · rfl
    · split <;> rfl

theorem putRecord_dict (d : Dev) (e : Event) : (d.putRecord e).dict = d.dict := by
  unfold Dev.putRecord
  dsimp only
  split <;> rfl

/-- A value of the dictionary follows from the values written and the fuses. -/
theorem val_of_same {d t : Dev} (hd : t.dict = d.dict) (hf : t.fuses = d.fuses) (k : Nat) : t.val k = d.val k := by
  simp [Dev.val, hd, hf]

/-- An event may count among those dropped without a session, and changes no other value (R40). -/
theorem val_record_ne (d : Dev) (e : Event) (k : Nat) (hk : k ≠ 0x230007) : (d.record e).val k = d.val k := by
  by_cases h : d.host.owner = none
  · rw [record_no_session d e h, val_bump_ne d _ k hk]
  · refine val_of_same ?_ (Dev.record_fuses d e) k
    cases he : d.ring.enabled with
    | false => rw [record_disabled d e h he]; rfl
    | true =>
      cases hf : d.ring.full with
      | true => rw [record_full d e h he hf]; rfl
      | false => rw [record_stored d e h he hf, signal0_dict, putRecord_dict]

theorem val_event_ne (d : Dev) (ty src x k : Nat) (hk : k ≠ 0x230007) : (d.event ty src x).val k = d.val k := val_record_ne d _ k hk

/-! ### Violations (R41, R42) -/

/-- A violation in the log and its counter: source, address, handle and the OPEN tack, one more since the last report. -/
def Dev.logViolation (d : Dev) (src addr handle : Nat) : Dev :=
  { d with host := { d.host with violSource := src, violAddr := addr, violHandle := handle, violTack := d.openTack,
                                 violSince := d.host.violSince + 1 } }.bump 0xB01001

/-- The last EV_HOST_VIOLATION lies 100 µs back, or there was none. -/
def Dev.violationDue (d : Dev) : Prop := ∀ t, d.host.violAt = some t → t + 100 ≤ d.now

theorem violate_unreported (d : Dev) (src addr handle : Nat) : d.violate src addr handle false = d.logViolation src addr handle := by
  simp [Dev.violate, Dev.logViolation]

/-- VIOL is set and vector 2 signalled. -/
def Dev.flagViolation (d : Dev) (src addr handle : Nat) : Dev :=
  { d.logViolation src addr handle with host := { (d.logViolation src addr handle).host with viol := true } }.msix 2

/-- A violation that is not due for an event only sets VIOL and signals vector 2. -/
theorem violate_quiet (d : Dev) (src addr handle t : Nat) (ht : d.host.violAt = some t) (h : d.now < t + 100) :
    d.violate src addr handle true = d.flagViolation src addr handle := by
  simp [Dev.violate, Dev.flagViolation, Dev.logViolation, ht, show ¬ t + 100 ≤ d.now by omega]

/-- One that is due raises the event too. -/
theorem violate_due (d : Dev) (src addr handle : Nat) (h : d.violationDue) : ∃ x, d.violate src addr handle true =
    { d.flagViolation src addr handle with
      host := { (d.flagViolation src addr handle).host with violSince := 0, violAt := some d.now } }.event 0x0108 src x := by
  refine ⟨min (d.host.violSince + 1) 0xFFFF * 2 ^ 48 + addr % 2 ^ 48, ?_⟩
  unfold Dev.violationDue at h
  cases ht : d.host.violAt with
  | none => simp [Dev.violate, Dev.flagViolation, Dev.logViolation, ht]
  | some t => simp [Dev.violate, Dev.flagViolation, Dev.logViolation, ht, h t ht]

theorem violation_quiet_or_due (d : Dev) : (∃ t, d.host.violAt = some t ∧ d.now < t + 100) ∨ d.violationDue := by
  by_cases h : d.violationDue
  · exact .inr h
  · simp only [Dev.violationDue, Classical.not_forall] at h
    obtain ⟨t, ht, hn⟩ := h
    exact .inl ⟨t, ht, by omega⟩

/-- What every violation that sets VIOL leaves (R41): the log, the flag and the counter; the session and the apertures are as they were, only
the parts of an event are touched, and no access is answered on the way. -/
structure ViolationLogged (d t : Dev) (src addr handle : Nat) : Prop where
  flag : t.host.viol = true
  source : t.host.violSource = src
  address : t.host.violAddr = addr
  target : t.host.violHandle = handle
  tack : t.host.violTack = d.openTack
  owner : t.host.owner = d.host.owner
  apertures : t.host.aps = d.host.aps
  counter : SMap.rising d.dict.vals = true → t.val 0xB01001 = satAdd 0xFFFFFFFF (d.val 0xB01001) 1
  frame : Frame eventParts d t
  sends : SendsOn d t

theorem flagViolation_frame (d : Dev) (src addr handle : Nat) : Frame eventParts d (d.flagViolation src addr handle) :=
  ((((Frame.host d _).mono (by decide)).trans ((Frame.bump _ 0xB01001).mono (by decide))).trans ((Frame.host _ _).mono (by decide))).trans
    ((Frame.msix _ 2).mono (by decide))

theorem flagViolation_counter (d : Dev) (src addr handle : Nat) (h : SMap.rising d.dict.vals = true) :
    (d.flagViolation src addr handle).val 0xB01001 = satAdd 0xFFFFFFFF (d.val 0xB01001) 1 := by
  have e : (d.flagViolation src addr handle).val 0xB01001 = (d.logViolation src addr handle).val 0xB01001 :=
    val_of_same (by simp [Dev.flagViolation]) (by simp [Dev.flagViolation]) _
  rw [e]
  exact val_bump_self _ _ h

theorem flagViolation_logged (d : Dev) (src addr handle : Nat) : ViolationLogged d (d.flagViolation src addr handle) src addr handle where
  flag := by simp [Dev.flagViolation]
  source := by simp [Dev.flagViolation, Dev.logViolation]
  address := by simp [Dev.flagViolation, Dev.logViolation]
  target := by simp [Dev.flagViolation, Dev.logViolation]
  tack := by simp [Dev.flagViolation, Dev.logViolation]
  owner := by simp [Dev.flagViolation, Dev.logViolation]
  apertures := by simp [Dev.flagViolation, Dev.logViolation]
  counter := flagViolation_counter d src addr handle
  frame := flagViolation_frame d src addr handle
  sends := (SendsOn.of_same rfl).trans (msix_sendsOn _ 2)

/-- The report of a violation leaves what its log holds. -/
theorem ViolationLogged.reported {d t : Dev} {src addr handle : Nat} (h : ViolationLogged d t src addr handle) (at_ : Option Nat) (x : Nat) :
    ViolationLogged d ({ t with host := { t.host with violSince := 0, violAt := at_ } }.event 0x0108 src x) src addr handle where
  flag := by simp [h.flag]
  source := by simp [h.source]
  address := by simp [h.address]
  target := by simp [h.target]
  tack := by simp [h.tack]
  owner := by simp [h.owner]
  apertures := by simp [h.apertures]
  counter := fun hr => (val_event_ne _ _ _ _ _ (by decide)).trans (h.counter hr)
  frame := (h.frame.trans ((Frame.host t _).mono (by decide))).trans (Frame.event _ _ _ _)
  sends := (h.sends.trans (.of_same rfl)).trans (event_sendsOn _ _ _ _)

theorem violate_logged (d : Dev) (src addr handle : Nat) : ViolationLogged d (d.violate src addr handle true) src addr handle := by
  obtain ⟨t, ht, hn⟩ | h := violation_quiet_or_due d
  · rw [violate_quiet d src addr handle t ht hn]
    exact flagViolation_logged d src addr handle
  · obtain ⟨x, hx⟩ := violate_due d src addr handle h
    rw [hx]
    exact (flagViolation_logged d src addr handle).reported _ x

/-- Less than 100 µs after a report none is raised, and the violation waits for the next one (R42). -/
theorem violate_quiet_report (d : Dev) (src addr handle t : Nat) (ht : d.host.violAt = some t) (h : d.now < t + 100) :
    (d.violate src addr handle true).host.violAt = some t ∧ (d.violate src addr handle true).host.violSince = d.host.violSince + 1 := by
  rw [violate_quiet d src addr handle t ht h]
  simp [Dev.flagViolation, Dev.logViolation, ht]

theorem violate_due_report (d : Dev) (src addr handle : Nat) (h : d.violationDue) :
    (d.violate src addr handle true).host.violAt = some d.now ∧ (d.violate src addr handle true).host.violSince = 0 := by
  obtain ⟨x, hx⟩ := violate_due d src addr handle h
  rw [hx]
  simp

end Sys2Proof.Machine
end

section
/-! O14, where an event record goes and when EVENT_N is low (files 02, 03, 22). -/

namespace Sys2Proof.Machine

/-- A stored record of a USB path joins the device's own store. -/
theorem record_usb_ring (d : Dev) (e : Event) (p : UsbPath) (h : d.host.owner = some p.toPath) (he : d.ring.enabled = true)
    (hf : d.ring.full = false) : (d.record e).ring =
      { d.ring with recs := d.ring.recs ++ [e], tail := BitVec.ofNat 16 ((d.ring.tail.toNat + 1) % d.ring.size) } := by
  rw [record_stored d e (by simp [h]) he hf, signal0_ring, putRecord_usb d e p h]

theorem record_usb_out (d : Dev) (e : Event) (p : UsbPath) (h : d.host.owner = some p.toPath) (he : d.ring.enabled = true)
    (hf : d.ring.full = false) (h3 : d.link.susp3 = false) (h2 : d.link.susp2 = false) : (d.record e).out = d.out := by
  have hp := putRecord_usb d e p h
  have hs : (d.putRecord e).signal0 = d.putRecord e := by
    rw [hp]
    exact signal0_usb_awake { d with ring := _ } p h h3 h2
  rw [record_stored d e (by simp [h]) he hf, hs, hp]

theorem record_pcie_ring (d : Dev) (e : Event) (h : d.host.owner = some .pcie) (he : d.ring.enabled = true) (hf : d.ring.full = false) :
    (d.record e).ring = { d.ring with tail := BitVec.ofNat 16 ((d.ring.tail.toNat + 1) % d.ring.size) } := by
  rw [record_stored d e (by simp [h]) he hf, signal0_ring, putRecord_pcie d e h]

/-- A stored record of the PCIe path is written to host memory at TAIL, before vector 0 may be signalled (R66). -/
theorem record_pcie_out (d : Dev) (e : Event) (h : d.host.owner = some .pcie) (he : d.ring.enabled = true) (hf : d.ring.full = false) :
    ∃ more, (d.record e).out = d.out ++ Out.hostWrite (d.ring.base + BitVec.ofNat 64 (16 * d.ring.tail.toNat)) e.bytes :: more := by
  rw [record_stored d e (by simp [h]) he hf]
  obtain ⟨more, hm, _⟩ := signal0_sendsOn (d.putRecord e)
  exact ⟨more, by rw [hm, putRecord_pcie d e h]; simp⟩

theorem unconsumed_iff (d : Dev) : d.unconsumed = true ↔ d.host.owner ≠ none ∧ d.ring.tail ≠ d.ring.head := by
  simp [Dev.unconsumed, Option.isSome_iff_ne_none]

theorem throttled_iff (d : Dev) : d.throttled = true ↔ d.th.k ≠ 0 ∨ d.th.b ≠ 0 ∨ d.pw.state = .forcedHove := by
  unfold Dev.throttled Thermal.clsNow
  by_cases hb : d.th.b = 0 <;> by_cases hk : d.th.k = 0 <;> simp [hb, hk]

theorem anyFenced_iff (d : Dev) : d.anyFenced = true ↔ ∃ p < 40, (d.partn p).state = .fenced := by
  simp [Dev.anyFenced]

theorem anyUnresponsive_iff (d : Dev) : d.anyUnresponsive = true ↔ ∃ x ∈ d.push.sails, x.2.reach = .unresponsive := by
  simp [Dev.anyUnresponsive]

theorem eventLow_off (d : Dev) (h : d.outputsOff = true) : d.eventLow = false := by
  simp [Dev.eventLow, h]

/-- EVENT_N of a device that drives its outputs is low under R475's conditions. -/
theorem eventLow_iff (d : Dev) (h : d.outputsOff = false) : d.eventLow = true ↔
    (d.host.owner ≠ none ∧ d.ring.tail ≠ d.ring.head) ∨ d.dram.lost ≠ none ∨ d.th.k ≠ 0 ∨ d.th.b ≠ 0 ∨
      d.pw.state = .forcedHove ∨ (∃ p < 40, (d.partn p).state = .fenced) ∨ ∃ x ∈ d.push.sails, x.2.reach = .unresponsive := by
  rw [← unconsumed_iff, ← anyFenced_iff, ← anyUnresponsive_iff, ← Option.isSome_iff_ne_none]
  have ht := throttled_iff d
  simp only [Dev.eventLow, h, Bool.not_false, Bool.true_and, Bool.or_eq_true, ht, or_assoc]

/-- Settles O14: each destination by its own lemma. -/
theorem eventsGoToTheRingOrAreCounted : Obligations.EventsGoToTheRingOrAreCounted := by
  intro d e
  exact ⟨record_no_session d e, record_disabled d e, record_full d e,
    fun p h he hf => ⟨record_usb_ring d e p h he hf, record_usb_out d e p h he hf⟩,
    fun h he hf => ⟨record_pcie_ring d e h he hf, record_pcie_out d e h he hf⟩,
    event_bytes_length e, eventLow_off d, eventLow_iff d⟩

end Sys2Proof.Machine
end

section
/-! O7, a BAR0 access of the wrong width or alignment (file 02). -/

namespace Sys2Proof.Machine

/-- What answers a malformed access before it is logged: a write is dropped, a read gets an Unsupported Request (R27). -/
def Dev.answerMalformed (d : Dev) (write : Bool) : Dev := { d with out := if write then d.out else d.out ++ [.unsupported] }

theorem malformedBar0_logged (d : Dev) (write : Bool) (off n : Nat) (hs : bar0Shape off n = false) (hr : d.pw.state ≠ .recovery)
    (hd : d.link.d3hot = false) (hf : d.pw.state ≠ .forcedHove) :
    d.malformedBar0 write off n = (d.answerMalformed write).violate 3 off 0 true := by
  cases write <;> simp [Dev.malformedBar0, Dev.answerMalformed, Dev.pcieOn, Dev.send, hs, hr, hd, hf]

/-- In D3hot it is answered alike and not logged (R39). -/
theorem malformedBar0_d3hot (d : Dev) (write : Bool) (off n : Nat) (hs : bar0Shape off n = false) (hr : d.pw.state ≠ .recovery)
    (hd : d.link.d3hot = true) : d.malformedBar0 write off n = d.answerMalformed write := by
  cases write <;> simp [Dev.malformedBar0, Dev.answerMalformed, Dev.pcieOn, Dev.send, hs, hr, hd]

/-- Settles O7: the access is answered, then logged as every violation is. -/
theorem malformedBar0AccessIsLogged : Obligations.MalformedBar0AccessIsLogged := by
  intro s write off n hp hs hr hv
  refine ⟨fun hd hf => ?_, fun hd => ?_⟩
  · have e := malformedBar0_logged s.dev.begin write off.toNat n hs hr hd hf
    have v := violate_logged (s.dev.begin.answerMalformed write) 3 off.toNat 0
    rw [← e] at v
    refine .of_runOn (exec_malformedBar0Access write off n s) hp
      (((Frame.begin _ s.dev).trans (Frame.sends _ _ _)).trans v.frame)
      ⟨v.flag, v.source, v.address, v.target, v.tack, v.owner, v.apertures, v.counter hv, ?_, ?_, ?_, ?_⟩
    · rintro rfl
      exact v.sends.head rfl
    · rintro rfl
      exact v.sends.no_unsupported rfl
    · intro t ht hn
      rw [e]
      exact violate_quiet_report _ 3 _ 0 t ht hn
    · intro h
      rw [e]
      exact violate_due_report _ 3 _ 0 h
  · refine .of_runOn (exec_malformedBar0Access write off n s) hp ?_
    rw [malformedBar0_d3hot s.dev.begin write off.toNat n hs hr hd]
    rfl

end Sys2Proof.Machine
end

section
/-! O12, the vendor requests of the USB functions and the mailboxes (files 02, 16). -/

namespace Sys2Proof.Machine

/-- A booted device is not in recovery mode, so its PCIe function is there. -/
theorem pcieOn_of_booted (d : Dev) (h : d.booted = true) : d.pcieOn = true := by
  cases hs : d.pw.state <;> simp [Dev.booted, hs] at h <;> simp [Dev.pcieOn, hs]

theorem usbServes_of_booted (d : Dev) (h : d.booted = true) (hs : d.fuses.straps ≠ 2) : d.usbServes = true := by
  simpa [Dev.usbServes, pcieOn_of_booted d h] using hs

/-- The oldest pending transfer, of at most 4,096 bytes, is returned whole (R36). -/
theorem xferIn_cons (d : Dev) (x : List Byte) (rest : List (List Byte)) (h : d.xfer.xferIn = x :: rest) (hx : x.length ≤ 4096) :
    d.xferIn = { d with out := d.out ++ [.ctrlIn x], xfer := { d.xfer with xferIn := rest } } := by
  simp [Dev.xferIn, h, Dev.send, List.take_of_length_le hx, Nat.not_lt.mpr hx]

theorem xferIn_returns {s : State} (hp : s.dev.powered = true) (hb : s.dev.booted = true) (hs : s.dev.fuses.straps ≠ 2) (x : List Byte)
    (rest : List (List Byte)) (h : s.dev.xfer.xferIn = x :: rest) (hx : x.length ≤ 4096) :
    Becomes .xferIn s { s.dev with out := [.ctrlIn x], xfer := { s.dev.xfer with xferIn := rest } } := by
  refine .of_runOn (exec_xferIn s) hp ?_
  have hb' : s.dev.begin.booted = true := hb
  rw [usbServes_of_booted s.dev.begin hb hs, hb']
  exact xferIn_cons s.dev.begin x rest h hx

theorem mailboxIn_runs {s : State} (hp : s.dev.powered = true) (hb : s.dev.booted = true) (hs : s.dev.fuses.straps ≠ 2) (p : UsbPath) :
    Becomes (.mailboxIn p) s (s.dev.begin.mailboxIn p) :=
  .of_runOn (exec_mailboxIn p s) hp (if_pos (usbServes_of_booted s.dev.begin hb hs))

theorem mailboxResponseFree_frees {s : State} (hp : s.dev.powered = true) (hb : s.dev.booted = true) (hd : s.dev.link.d3hot = false) :
    Becomes .mailboxResponseFree s { s.dev with out := [], xfer := { s.dev.xfer with mboxReady := false } } := by
  refine .of_runOn (exec_mailboxResponseFree s) hp ?_
  have hd' : s.dev.begin.link.d3hot = false := hd
  rw [pcieOn_of_booted s.dev.begin hb, hd']
  rfl

/-- An unknown request is stalled and logged, and neither sets VIOL nor raises an event (R36, R41). -/
theorem unknownRequest_logs (d : Dev) (b : Byte) : d.unknownRequest b = (d.send .stall).logViolation 6 b.toNat 0 :=
  violate_unreported _ 6 _ 0

theorem unknownVendorRequest_logs {s : State} (hp : s.dev.powered = true) (p : UsbPath) (b : Byte) (n : U16) :
    Runs (.unknownVendorRequest p b n) s [.host, .dict] (fun t =>
      t.out = [.stall] ∧ t.host = { s.dev.host with
        violSource := 6, violAddr := b.toNat, violHandle := 0, violTack := s.dev.openTack, violSince := s.dev.host.violSince + 1 } ∧
      ∀ k, k ≠ 0xB01001 → t.val k = s.dev.val k) := by
  refine .of_runOn (exec_unknownVendorRequest p b n s) hp ?_ ?_
  all_goals rw [unknownRequest_logs]
  · exact ((Frame.sends _ s.dev _).trans ((Frame.host _ _).mono (by decide))).trans ((Frame.bump _ 0xB01001).mono (by decide))
  · exact ⟨rfl, rfl, fun k hk => val_bump_ne _ 0xB01001 k hk⟩

/-- Settles O12: each request by its own lemma. -/
theorem vendorRequestsAnswer : Obligations.VendorRequestsAnswer := by
  intro s hp hb hs
  exact ⟨xferIn_returns hp hb hs, mailboxIn_runs hp hb hs .usb3, mailboxIn_runs hp hb hs .usb2, mailboxResponseFree_frees hp hb,
    unknownVendorRequest_logs hp⟩

end Sys2Proof.Machine
end

section
/-! O9, the apertures and the size of BAR2 (file 02). -/

namespace Sys2Proof.Machine

theorem bar0Reach_of (d : Dev) (hd : d.link.d3hot = false) (hr : d.pw.state ≠ .recovery) (hf : d.pw.state ≠ .forcedHove) :
    d.bar0Reach = true := by
  simp [Dev.bar0Reach, Dev.pcieOn, hd, hr, hf]

section Closed

variable (d : Dev) (n : Nat) (w : Bool) (hc : (d.ap n).isOpen = false)

include hc

theorem apOpen_no_session (ho : d.host.owner ≠ some .pcie) : d.apOpen n w = d.setAp n { d.ap n with status := 7 } := by
  simp [Dev.apOpen, hc, ho]

theorem apOpen_stale (ho : d.host.owner = some .pcie) (hl : d.live (d.ap n).ref = false) :
    d.apOpen n w = d.setAp n { d.ap n with writeEn := w, status := 2 } := by
  simp [Dev.apOpen, hc, ho, hl]

theorem apOpen_bad_offset (ho : d.host.owner = some .pcie) (hl : d.live (d.ap n).ref = true)
    (hb : (d.ap n).offset.toNat % 4096 ≠ 0 ∨ d.sizeOf (d.ap n).ref ≤ (d.ap n).offset.toNat) :
    d.apOpen n w = d.setAp n { d.ap n with writeEn := w, status := 3 } := by
  have hb' : ¬ ((d.ap n).offset.toNat % 4096 = 0 ∧ (d.ap n).offset.toNat < d.sizeOf (d.ap n).ref) := by omega
  simp only [Dev.apOpen, hc, ho, hl, if_neg hb', ne_eq, not_true_eq_false, Bool.not_true, Bool.false_eq_true, if_false]

theorem apOpen_opens (ho : d.host.owner = some .pcie) (hl : d.live (d.ap n).ref = true) (hm : (d.ap n).offset.toNat % 4096 = 0)
    (hz : (d.ap n).offset.toNat < d.sizeOf (d.ap n).ref) :
    d.apOpen n w = d.setAp n { d.ap n with writeEn := w, isOpen := true, status := 1 } := by
  simp [Dev.apOpen, hc, ho, hl, hm, hz]

end Closed

/-- A changed descriptor is the only change of the apertures. -/
theorem setAp_ap_open (d : Dev) (n : Nat) (x : Ap) (hx : x.isOpen = true) :
    (d.setAp n x).ap n = x ∧ ∀ k, k ≠ n → (d.setAp n x).ap k = d.ap k := by
  refine ⟨ap_setAp_self d n x ?_, fun k hk => ap_setAp_ne d n k x hk⟩
  rintro rfl
  cases hx

theorem setAp_ap_rising (d : Dev) (n : Nat) (x : Ap) :
    (SMap.rising d.host.aps = true → (d.setAp n x).ap n = x) ∧ ∀ k, k ≠ n → (d.setAp n x).ap k = d.ap k :=
  ⟨SMap.get_set_self _ _ _ _, fun k hk => ap_setAp_ne d n k x hk⟩

theorem apClose_open (d : Dev) (n : Nat) (w : Bool) (h : (d.ap n).isOpen = true) :
    d.apClose n w = d.setAp n { d.ap n with writeEn := w, isOpen := false, status := 0 } := by
  simp [Dev.apClose, h]

section Reached

variable {s : State} (n : BitVec 6) (w : Bool) (hp : s.dev.powered = true) (hb : s.dev.begin.bar0Reach = true)

include hp hb

/-- APERTURE_OPEN of a device that its write reaches leaves what the descriptor's OPEN does. -/
theorem Becomes.apertureOpen {t : Dev} (h : s.dev.begin.apOpen n.toNat w = t) : Becomes (.apertureOpen n w) s t :=
  .of_runOn (exec_apertureOpen n w s) hp ((if_pos hb).trans h)

theorem apertureOpen_opens (hc : (s.dev.ap n.toNat).isOpen = false) (ho : s.dev.host.owner = some .pcie)
    (hl : s.dev.live (s.dev.ap n.toNat).ref = true) (hm : (s.dev.ap n.toNat).offset.toNat % 4096 = 0)
    (hz : (s.dev.ap n.toNat).offset.toNat < s.dev.sizeOf (s.dev.ap n.toNat).ref) :
    Runs (.apertureOpen n w) s [.host] (fun t =>
      t.ap n.toNat = { s.dev.ap n.toNat with writeEn := w, isOpen := true, status := 1 } ∧ ∀ k, k ≠ n.toNat → t.ap k = s.dev.ap k) :=
  ⟨_, Becomes.apertureOpen n w hp hb (apOpen_opens s.dev.begin n.toNat w hc ho hl hm hz),
    (Frame.begin _ s.dev).trans (Frame.setAp _ _ _), setAp_ap_open s.dev.begin n.toNat _ rfl⟩

theorem apertureClose_closes (ho : (s.dev.ap n.toNat).isOpen = true) : Runs (.apertureClose n w) s [.host] (fun t =>
    (SMap.rising s.dev.host.aps = true → t.ap n.toNat = { s.dev.ap n.toNat with writeEn := w, isOpen := false, status := 0 }) ∧
    ∀ k, k ≠ n.toNat → t.ap k = s.dev.ap k) := by
  refine .of_runOn (exec_apertureClose n w s) hp ?_ ?_
  all_goals rw [if_pos hb, apClose_open s.dev.begin n.toNat w ho]
  · exact (Frame.begin _ s.dev).trans (Frame.setAp _ _ _)
  · exact setAp_ap_rising s.dev.begin n.toNat _

end Reached

theorem bar2Resize_changes (d : Dev) (log2 : Nat) (h1 : 32 ≤ log2) (h2 : log2 ≤ 38) (hn : log2 ≠ d.link.bar2Log2)
    (hr : d.pw.state ≠ .recovery) :
    d.bar2Resize log2 =
      if (List.range 64).any (fun n => (d.ap n).isOpen) then
        ({ d with link := { d.link with bar2Log2 := log2 } } : Dev).closeAps (fun _ => true) 5
      else ({ d with link := { d.link with bar2Log2 := log2 } } : Dev).msix 2 := by
  simp [Dev.bar2Resize, Dev.pcieOn, Nat.not_lt.mpr h1, Nat.not_lt.mpr h2, hn, hr]

/-- Whether or not an aperture was open, a resize leaves every open one closed with RESIZED and touches no other (R26, R31). -/
theorem bar2Resize_closes (d : Dev) (log2 : Nat) (h1 : 32 ≤ log2) (h2 : log2 ≤ 38) (hn : log2 ≠ d.link.bar2Log2)
    (hr : d.pw.state ≠ .recovery) :
    Frame [.link, .host] d (d.bar2Resize log2) ∧ (d.bar2Resize log2).link = { d.link with bar2Log2 := log2 } ∧
    ∀ k < 64, (d.bar2Resize log2).ap k = if (d.ap k).isOpen then { d.ap k with isOpen := false, status := 5 } else d.ap k := by
  rw [bar2Resize_changes d log2 h1 h2 hn hr]
  have fl : Frame [.link, .host] d { d with link := { d.link with bar2Log2 := log2 } } := (Frame.link d _).mono (by decide)
  split
  · have fc := Frame.closeAps { d with link := { d.link with bar2Log2 := log2 } } (fun _ => true) 5
    refine ⟨fl.trans (fc.mono (by decide)), fc .link (by decide), fun k hk => ?_⟩
    rw [ap_closeAps _ _ _ (by decide) k hk, Bool.and_true]
    rfl
  · next hno =>
    refine ⟨fl.trans ((Frame.msix _ 2).mono (by decide)), Dev.msix_link _ 2, fun k hk => ?_⟩
    have hk' : (d.ap k).isOpen = false := by simpa using fun h => hno (List.any_eq_true.mpr ⟨k, List.mem_range.mpr hk, h⟩)
    rw [Dev.msix_ap, hk']
    rfl

/-- Settles O9: the checks of an opening in their order, a closing, and a resize. -/
theorem aperturesOpenAndClose : Obligations.AperturesOpenAndClose := by
  intro s n w hp hd hr hf
  have hb := bar0Reach_of s.dev.begin hd hr hf
  refine ⟨fun hc => ⟨fun ho => ?_, fun ho => ⟨fun hl => ?_, fun hl hm => ?_, apertureOpen_opens n w hp hb hc ho⟩⟩,
    apertureClose_closes n w hp hb, fun log2 h1 h2 hn => ?_⟩
  · exact .apertureOpen n w hp hb (apOpen_no_session s.dev.begin n.toNat w hc ho)
  · exact .apertureOpen n w hp hb (apOpen_stale s.dev.begin n.toNat w hc ho hl)
  · exact .apertureOpen n w hp hb (apOpen_bad_offset s.dev.begin n.toNat w hc ho hl hm)
  · obtain ⟨hfr, hl, ha⟩ := bar2Resize_closes s.dev.begin log2 h1 h2 hn hr
    exact .of_runOn (exec_bar2Resize log2 s) hp ((Frame.begin _ s.dev).trans hfr) ⟨hl, ha⟩

end Sys2Proof.Machine
end

section
/-! O13, the event ring as a host sets it up and consumes it (file 03). -/

namespace Sys2Proof.Machine

/-- While nothing was dropped, returned space has nothing to report (R67). -/
theorem drainRing_idle (d : Dev) (h : d.ring.lost = 0) : d.drainRing = d := by
  simp [Dev.drainRing, h]

theorem interruptDone_consumes (d : Dev) (p : UsbPath) (n : Nat) (ho : d.host.owner = some p.toPath) (hs : d.suspended p = false)
    (he : d.ring.enabled = true) (h1 : 1 ≤ n) (h64 : n ≤ 64) (hr : d.ring.recs ≠ []) (hl : d.ring.lost = 0) :
    d.interruptDone p n = { d with
      ring := { d.ring with
        recs := d.ring.recs.drop (min n d.ring.recs.length)
        head := BitVec.ofNat 16 ((d.ring.head.toNat + min n d.ring.recs.length) % d.ring.size) }
      out := d.out ++ [.intrIn p ((d.ring.recs.take (min n d.ring.recs.length)).flatMap Event.bytes)] } := by
  have hk : min n d.ring.recs.length ≠ 0 := by
    have := List.length_pos_iff.mpr hr
    omega
  have hno : ¬ (d.host.owner ≠ some p.toPath ∨ d.suspended p = true ∨ d.ring.enabled = false ∨ min n d.ring.recs.length = 0) := by
    simp [ho, hs, he, hk]
  simp only [Dev.interruptDone, Nat.min_eq_left h64, if_neg hno]
  exact drainRing_idle _ hl

/-- Without the session, awake, an enabled ring and a record there is no interrupt transfer (R35, R39). -/
theorem interruptDone_none (d : Dev) (p : UsbPath) (n : Nat)
    (h : d.host.owner ≠ some p.toPath ∨ d.suspended p = true ∨ d.ring.enabled = false ∨ d.ring.recs = []) : d.interruptDone p n = d := by
  refine if_pos ?_
  obtain h | h | h | h := h
  · exact .inl h
  · exact .inr (.inl h)
  · exact .inr (.inr (.inl h))
  · exact .inr (.inr (.inr (by simp [h])))

theorem ringHead_pcie (d : Dev) (v : U32) (ho : d.host.owner = some .pcie) (hv : v.toNat % 65536 < d.ring.size) (hl : d.ring.lost = 0) :
    d.ringHead .pcie v = { d with ring := { d.ring with head := BitVec.ofNat 16 v.toNat } } := by
  rw [Dev.ringHead, if_pos ⟨rfl, mayPort_pcie d (.inr ho), hv⟩]
  exact drainRing_idle _ hl

/-- HEAD ignores the USB paths (R66). -/
theorem ringHead_usb (d : Dev) (p : UsbPath) (v : U32) : d.ringHead p.toPath v = d :=
  if_neg fun h => by cases p <;> cases h.1

/-- The conditions of R65 for enabling the ring. -/
def Dev.ringMayStart (d : Dev) (p : Path) (cfg : U32) : Prop :=
  d.host.owner = some p ∧ 8 ≤ cfg.toNat / 2 ^ 8 % 32 ∧ cfg.toNat / 2 ^ 8 % 32 ≤ 16 ∧ (p ≠ .pcie ∨ d.ring.base.toNat % 4096 = 0)

theorem ringEnable_starts (d : Dev) (p : Path) (cfg : U32) (h : d.ringMayStart p cfg) (hl : d.ring.lost = 0) :
    d.ringEnable p cfg = { d with ring := { d.ring with
      log2 := BitVec.ofNat 5 (cfg.toNat / 256 % 32), enabled := true, tail := 0, head := 0, recs := [] } } :=
  (if_pos h).trans (drainRing_idle _ hl)

theorem ringEnable_ignored (d : Dev) (p : Path) (cfg : U32) (h : ¬ d.ringMayStart p cfg) : d.ringEnable p cfg = d := if_neg h

theorem ringDisable_disables (d : Dev) (p : Path) (cfg : U32) (hm : d.mayPort p = true) (hq : d.anyQueue = false) :
    d.ringDisable p cfg = { d with ring := { d.ring with enabled := false, log2 := BitVec.ofNat 5 (cfg.toNat / 256 % 32) } } := by
  simp [Dev.ringDisable, hm, hq]

theorem ringDisable_ignored (d : Dev) (p : Path) (cfg : U32) (hq : d.anyQueue = true) : d.ringDisable p cfg = d := by
  simp [Dev.ringDisable, hq]

/-- An interrupt transfer consumes the oldest records; HEAD is written on the PCIe path alone. -/
theorem eventRing_consumed {s : State} (hp : s.dev.powered = true) (hl : s.dev.ring.lost = 0) :
    (∀ (p : UsbPath) (n : BitVec 7), s.dev.host.owner = some p.toPath → s.dev.suspended p = false → s.dev.ring.enabled = true →
      1 ≤ n.toNat → n.toNat ≤ 64 → s.dev.ring.recs ≠ [] →
      Becomes (.interruptTransferComplete p n) s { s.dev with
        ring := { s.dev.ring with
          recs := s.dev.ring.recs.drop (min n.toNat s.dev.ring.recs.length)
          head := BitVec.ofNat 16 ((s.dev.ring.head.toNat + min n.toNat s.dev.ring.recs.length) % s.dev.ring.size) }
        out := [.intrIn p ((s.dev.ring.recs.take (min n.toNat s.dev.ring.recs.length)).flatMap Event.bytes)] }) ∧
    (∀ (p : UsbPath) (n : BitVec 7),
      (s.dev.host.owner ≠ some p.toPath ∨ s.dev.suspended p = true ∨ s.dev.ring.enabled = false ∨ s.dev.ring.recs = []) →
      Becomes (.interruptTransferComplete p n) s { s.dev with out := [] }) ∧
    (∀ v : U32, s.dev.host.owner = some .pcie → s.dev.link.d3hot = false → s.dev.pw.state ≠ .recovery → s.dev.pw.state ≠ .forcedHove →
      v.toNat % 65536 < s.dev.ring.size →
      Becomes (.eventRingHeadWrite .pcie v) s { s.dev with out := [], ring := { s.dev.ring with head := BitVec.ofNat 16 v.toNat } }) ∧
    (∀ (p : UsbPath) (v : U32), s.dev.booted = true → Becomes (.eventRingHeadWrite p.toPath v) s { s.dev with out := [] }) := by
  refine ⟨fun p n ho hs he h1 h64 hr => ?_, fun p n h => ?_, fun v ho hd hr hf hv => ?_, fun p v _ => ?_⟩
  · exact .of_runOn (exec_interruptTransferComplete p n s) hp (interruptDone_consumes s.dev.begin p n.toNat ho hs he h1 h64 hr hl)
  · exact .of_runOn (exec_interruptTransferComplete p n s) hp (interruptDone_none s.dev.begin p n.toNat h)
  · exact .of_runOn (exec_eventRingHeadWrite .pcie v s) hp
      ((if_pos (bar0Reach_of s.dev.begin hd hr hf)).trans (ringHead_pcie s.dev.begin v ho hv hl))
  · refine .of_runOn (exec_eventRingHeadWrite p.toPath v s) hp ?_
    rw [ringHead_usb s.dev.begin p v, ite_self]
    rfl

section Reached

variable {s : State} (p : Path) (cfg : U32) (hp : s.dev.powered = true) (hr : s.dev.portReach p = true)

include hp hr

theorem Becomes.eventRingEnable {t : Dev} (h : s.dev.begin.ringEnable p cfg = t) : Becomes (.eventRingEnable p cfg) s t :=
  .of_runOn (exec_eventRingEnable p cfg s) hp ((if_pos hr).trans h)

theorem Becomes.eventRingDisable {t : Dev} (h : s.dev.begin.ringDisable p cfg = t) : Becomes (.eventRingDisable p cfg) s t :=
  .of_runOn (exec_eventRingDisable p cfg s) hp ((if_pos hr).trans h)

end Reached

/-- Settles O13: consuming the ring, then enabling and disabling it. -/
theorem eventRingIsSetUpAndConsumed : Obligations.EventRingIsSetUpAndConsumed := by
  refine ⟨fun s hp hl => eventRing_consumed hp hl,
    fun s p cfg hp hr => ⟨fun ho h8 h16 hb hl => ?_, fun h => ?_, fun hm hq => ?_, fun hq => ?_⟩⟩
  · have hs : s.dev.begin.ringMayStart p cfg := ⟨ho, h8, h16, if h : p = .pcie then .inr (hb h) else .inl h⟩
    exact .eventRingEnable p cfg hp hr (ringEnable_starts s.dev.begin p cfg hs hl)
  · refine .eventRingEnable p cfg hp hr (ringEnable_ignored s.dev.begin p cfg ?_)
    rintro ⟨ho, h8, h16, hb⟩
    obtain h | h | h | ⟨hpc, hm⟩ := h
    · exact h ho
    · exact absurd h8 (Nat.not_le.mpr h)
    · exact absurd h16 (Nat.not_le.mpr h)
    · exact hb.elim (fun hn => hn hpc) hm
  · exact .eventRingDisable p cfg hp hr (ringDisable_disables s.dev.begin p cfg hm hq)
  · exact .eventRingDisable p cfg hp hr (ringDisable_ignored s.dev.begin p cfg hq)

end Sys2Proof.Machine
end

section
/-! O58, the state after reset. -/

namespace Sys2Proof.Machine

theorem reset_queue (q : QueueId) : State.reset.dev.queue q = {} := rfl

/-- Settles O58: a table that reset leaves empty reads its default under every key, and what is left is one fixed state. -/
theorem resetLeavesTheBlockIdle : Obligations.ResetLeavesTheBlockIdle := by
  refine ⟨rfl, rfl, fun p => ?_, fun n => ⟨rfl, rfl⟩, fun q => ⟨rfl, ?_⟩, rfl, rfl, fun h g => ?_, rfl, rfl, rfl, rfl, reset_memory_wf, ?_,
    fun m n _ hm => absurd rfl hm, ?_, fun a => rfl⟩
  · cases p <;> exact ⟨rfl, rfl, rfl, rfl⟩
  · rw [reset_queue]
    decide
  · have hf : (State.reset.dev.buf h).state = .free := rfl
    simp [Dev.live, hf]
  · unfold TablesRise
    decide
  · unfold IdsAreFresh
    decide

end Sys2Proof.Machine
end

section
/-! O5, the opening of a session (file 02). -/

namespace Sys2Proof.Machine

/-- The parts that an opening changes (R24, R28, R65, R288). -/
theorem openSession_frame (d : Dev) (p : Path) : Frame [.host, .ring, .qs, .dict] d (d.openSession p) := by
  intro q hq
  cases q with
  | host | ring | qs | dict => exact absurd (by decide) hq
  | _ => rfl

/-- An opening clears the clip state of every queue and leaves the rest of the queue (R288). -/
theorem queue_openSession (d : Dev) (p : Path) (q : QueueId) : (d.openSession p).queue q = { d.queue q with clip := [] } :=
  SMap.get_map ({} : Queue) (fun x => { x with clip := [] }) rfl _ _

/-- What an opened session leaves, but for what is sent. -/
structure SessionOpened (d t : Dev) (p : Path) : Prop where
  owner : t.host.owner = some p
  session : t.host.sessionCtr = d.host.sessionCtr + 1
  unsignalled : t.host.unsignalled = 0
  apertures : t.host.aps = d.host.aps
  intMod : t.host.intMod = d.host.intMod
  disabled : t.ring.enabled = false
  dropped : t.ring.dropped = 0
  base : t.ring.base = d.ring.base
  clips : ∀ q, t.queue q = { d.queue q with clip := [] }
  cmds : t.qs.cmds = d.qs.cmds
  bufs : t.qs.bufs = d.qs.bufs
  counted : SMap.rising d.dict.vals = true → t.val 0x230005 = satAdd 0xFFFFFFFF (d.val 0x230005) 1
  others : ∀ k, k ≠ 0x230005 → t.val k = d.val k
  frame : Frame [.host, .ring, .qs, .dict] d t

theorem openSession_opened (d : Dev) (p : Path) : SessionOpened d (d.openSession p) p where
  owner := rfl
  session := rfl
  unsignalled := rfl
  apertures := rfl
  intMod := rfl
  disabled := rfl
  dropped := rfl
  base := rfl
  clips := queue_openSession d p
  cmds := rfl
  bufs := rfl
  counted := val_bump_self _ _
  others := fun k hk => val_bump_ne _ _ k hk
  frame := openSession_frame d p

/-! #### The boot mode (R394) -/

theorem bit_land (a b n : Nat) : bit (a &&& b) n = (bit a n && bit b n) := by
  have h : ∀ x, bit x n = x.testBit n := fun x => by rw [bit, Nat.testBit_eq_decide_div_mod_eq]; rfl
  rw [h, h, h, Nat.testBit_and]

/-- In recovery mode USB 2.0 alone carries a session request (R36). -/
theorem offers_recovery (d : Dev) (p : Path) (h : d.pw.state = .recovery) : d.offers p = true ↔ p = .usb2 := by
  simp [Dev.offers, h]

/-- A STANDALONE boot keeps USB 2.0 alone, where entry 0x2300.03 leaves it. -/
theorem offers_standalone (d : Dev) (p : Path) (h : d.fuses.straps = 2) (hr : d.pw.state ≠ .recovery) :
    d.offers p = true ↔ p = .usb2 ∧ bit d.link.pathEnable 2 = true := by
  have hp : d.paths = d.link.pathEnable &&& 4 := by simp [Dev.paths, h]
  have hm : bit 4 0 = false ∧ bit 4 1 = false ∧ bit 4 2 = true := by decide
  cases p <;> simp [Dev.offers, hr, hp, bit_land, hm]

theorem offers_pcie_host_usb (d : Dev) (h : d.fuses.straps = 1) (hr : d.pw.state ≠ .recovery) : d.offers .pcie = false := by
  have hp : d.paths = d.link.pathEnable &&& 6 := by simp [Dev.paths, h]
  have hm : bit 6 0 = false := by decide
  simp [Dev.offers, hr, hp, bit_land, hm]

/-! #### A request, by path -/

/-- SESSION_OPEN on BAR0 where all of R28 holds. -/
theorem sessionOpen_pcie_opens (d : Dev) (hb : d.booted = true) (hf : d.pw.state ≠ .forcedHove) (hm : d.link.bme = true)
    (hd : d.link.d3hot = false) (ho : d.host.owner = none) (hp : d.offers .pcie = true) : d.sessionOpen .pcie = d.openSession .pcie := by
  simp [Dev.sessionOpen, Dev.pcieOpen, hb, hf, hm, hd, ho, hp]

/-- SESSION_OPEN on BAR0 where a condition of R28 or R394 fails. -/
theorem sessionOpen_pcie_ignored (d : Dev)
    (h : d.booted = false ∨ d.link.bme = false ∨ d.host.owner ≠ none ∨ d.offers .pcie = false) : d.sessionOpen .pcie = d := by
  have hn : (d.booted && d.link.bme && d.host.owner.isNone && d.offers .pcie) = false := by
    obtain h | h | h | h := h <;> simp [h]
  simp [Dev.sessionOpen, Dev.pcieOpen, hn]

section Usb

variable (d : Dev) (u : UsbPath)

theorem sessionOpen_usb : d.sessionOpen u.toPath = d.usbOpen u := by
  cases u <;> rfl

theorem usbOpen_not_offered (h : d.offers u.toPath = false) : d.usbOpen u = d := by
  simp [Dev.usbOpen, h]

variable (hc : d.coreFenced = false) (hp : d.offers u.toPath = true)

include hc hp

theorem usbOpen_standalone (hs : d.fuses.straps = 2) (hr : d.pw.state ≠ .recovery) : d.usbOpen u = d.send .stall := by
  simp [Dev.usbOpen, hc, hp, hs, hr]

theorem usbOpen_opens (hs : d.fuses.straps ≠ 2 ∨ d.pw.state = .recovery) (ho : d.host.owner = none)
    (hb : d.booted = true ∨ d.pw.state = .recovery) : d.usbOpen u = (d.openSession u.toPath).send (.ctrlIn [0, 0]) := by
  have hn : ¬ (d.fuses.straps = 2 ∧ d.pw.state ≠ .recovery) := fun h => hs.elim (· h.1) h.2
  have hb' : (d.booted || d.pw.state == .recovery) = true := by simpa using hb
  simp only [Dev.usbOpen, hc, hp, if_neg hn, ho, hb']
  rfl

theorem usbOpen_busy (hs : d.fuses.straps ≠ 2 ∨ d.pw.state = .recovery) (o : Path) (ho : d.host.owner = some o) (hn : o ≠ u.toPath) :
    d.usbOpen u = d.send (.ctrlIn [0x12, 0x01]) := by
  have hn' : ¬ (d.fuses.straps = 2 ∧ d.pw.state ≠ .recovery) := fun h => hs.elim (· h.1) h.2
  simp only [Dev.usbOpen, hc, hp, if_neg hn', ho, if_neg hn]
  rfl

end Usb

theorem Path.pcie_or_usb (p : Path) : p = .pcie ∨ ∃ u : UsbPath, p = u.toPath ∧ u.toPath ≠ .pcie := by
  cases p with
  | pcie => exact .inl rfl
  | usb3 => exact .inr ⟨.usb3, rfl, nofun⟩
  | usb2 => exact .inr ⟨.usb2, rfl, nofun⟩

/-- The answer to a session request: a vendor request has one, a PCIe write has none (R24). -/
def sessionAnswer (p : Path) (code : List Byte) : List Out := if p = .pcie then [] else [.ctrlIn code]

section Requests

variable (d : Dev) (p : Path) (hc : d.coreFenced = false) (hp : d.offers p = true)

include hc hp

/-- A path that may have the free session gets it. -/
theorem sessionOpen_opens (ho : d.host.owner = none)
    (hb : p = .pcie → d.booted = true ∧ d.pw.state ≠ .forcedHove ∧ d.link.bme = true ∧ d.link.d3hot = false)
    (hu : p ≠ .pcie → (d.booted = true ∧ d.fuses.straps ≠ 2) ∨ d.pw.state = .recovery) :
    d.sessionOpen p = { d.openSession p with out := d.out ++ sessionAnswer p [0, 0] } := by
  obtain rfl | ⟨u, rfl, hn⟩ := Path.pcie_or_usb p
  · obtain ⟨hb, hf, hm, hd⟩ := hb rfl
    rw [sessionOpen_pcie_opens d hb hf hm hd ho hp, sessionAnswer, if_pos rfl, List.append_nil]
    rfl
  · have hu := hu hn
    rw [sessionOpen_usb, usbOpen_opens d u hc hp (hu.imp And.right id) ho (hu.imp And.left id), sessionAnswer, if_neg hn]
    rfl

/-- While another path has the session, a vendor request is answered with E_HOST_PATH_BUSY and a PCIe write ignored. -/
theorem sessionOpen_busy (o : Path) (ho : d.host.owner = some o) (hn : o ≠ p)
    (hu : p ≠ .pcie → d.fuses.straps ≠ 2 ∨ d.pw.state = .recovery) :
    d.sessionOpen p = { d with out := d.out ++ sessionAnswer p [0x12, 0x01] } := by
  obtain rfl | ⟨u, rfl, hp'⟩ := Path.pcie_or_usb p
  · rw [sessionOpen_pcie_ignored d (.inr (.inr (.inl (by simp [ho])))), sessionAnswer, if_pos rfl, List.append_nil]
  · rw [sessionOpen_usb, usbOpen_busy d u hc hp (hu hp') o ho hn, sessionAnswer, if_neg hp']
    rfl

end Requests

theorem sessionOpen_not_offered (d : Dev) (p : Path) (h : d.offers p = false) : d.sessionOpen p = d := by
  obtain rfl | ⟨u, rfl, _⟩ := Path.pcie_or_usb p
  · exact sessionOpen_pcie_ignored d (.inr (.inr (.inr h)))
  · rw [sessionOpen_usb, usbOpen_not_offered d u h]

/-- A STANDALONE boot stalls the request on USB 2.0 and has no other path to take it (R394). -/
theorem sessionOpen_standalone (d : Dev) (p : Path) (hc : d.coreFenced = false) (hs : d.fuses.straps = 2) (hr : d.pw.state ≠ .recovery) :
    d.sessionOpen p = { d with out := d.out ++ if p = .usb2 ∧ bit d.link.pathEnable 2 = true then [.stall] else [] } := by
  have hi := offers_standalone d p hs hr
  split
  · next h =>
    have hp := hi.mpr h
    obtain ⟨rfl, _⟩ := h
    exact usbOpen_standalone d .usb2 hc hp hs hr
  · next h =>
    rw [sessionOpen_not_offered d p (by simpa using mt hi.mp h), List.append_nil]

/-- Settles O5: who gets the session, who is refused, and which boot mode offers none. -/
theorem sessionOpenTakesOrRefuses : Obligations.SessionOpenTakesOrRefuses := by
  intro s p hw hc hv
  refine ⟨fun ho hp hb hu => ?_, fun o ho hn hp hu => ?_, fun hp h => ?_, fun h => ?_, fun hs hr => ?_, offers_recovery s.dev p,
    offers_pcie_host_usb s.dev⟩
  · have e := sessionOpen_opens s.dev.begin p hc hp ho hb hu
    have t := openSession_opened s.dev.begin p
    refine .of_runOn (exec_sessionOpen p s) hw ?_ ?_
    all_goals rw [e]
    · exact ((Frame.begin _ s.dev).trans t.frame).trans (Frame.sends _ _ _)
    · exact ⟨t.owner, t.session, t.unsignalled, t.apertures, t.intMod, t.disabled, t.dropped, t.base, t.clips, t.cmds, t.bufs,
        t.counted hv, t.others, rfl⟩
  · exact .of_runOn (exec_sessionOpen p s) hw (sessionOpen_busy s.dev.begin p hc hp o ho hn hu)
  · subst hp
    exact .of_runOn (exec_sessionOpen .pcie s) hw (sessionOpen_pcie_ignored s.dev.begin (h.imp_right .inl))
  · exact .of_runOn (exec_sessionOpen p s) hw (sessionOpen_not_offered s.dev.begin p h)
  · exact .of_runOn (exec_sessionOpen p s) hw (sessionOpen_standalone s.dev.begin p hc hs hr)

end Sys2Proof.Machine
end

section
/-! Stores and reads of DRAM that meet no upset line (file 15): what a store leaves, and that the channels' queues hold no byte of it. -/

namespace Sys2Proof.Machine

/-! ### The channels' queues -/

/-- Only the queues of the channels, and the choices made for them, differ. -/
def QueuesOnly (d t : Dev) : Prop := ∃ chans picks, t = { d with dram := { d.dram with chans := chans, picks := picks } }

theorem QueuesOnly.refl (d : Dev) : QueuesOnly d d := ⟨d.dram.chans, d.dram.picks, rfl⟩

theorem QueuesOnly.trans {a b c : Dev} (h : QueuesOnly a b) (g : QueuesOnly b c) : QueuesOnly a c := by
  obtain ⟨_, _, rfl⟩ := h
  obtain ⟨x, y, rfl⟩ := g
  exact ⟨x, y, rfl⟩

theorem QueuesOnly.setChan (d : Dev) (n : Nat) (x : Channel) : QueuesOnly d (d.setChan n x) := ⟨_, d.dram.picks, rfl⟩

theorem issue1_queuesOnly (d : Dev) (ch : Nat) (write : Bool) : QueuesOnly d (d.issue1 ch write).2 := by
  unfold Dev.issue1
  dsimp only
  split
  · exact .refl d
  · exact ⟨_, _, rfl⟩

theorem issueWrites_queuesOnly (d : Dev) (ch n : Nat) : QueuesOnly d (d.issueWrites ch n) := by
  induction n generalizing d with
  | zero => exact .refl d
  | succ n ih => exact (issue1_queuesOnly d ch true).trans (ih _)

theorem queueLine_queuesOnly (d : Dev) (cls src line : Nat) : QueuesOnly d (d.queueLine cls src line) := by
  unfold Dev.queueLine
  dsimp only
  split
  · exact .refl d
  · refine QueuesOnly.trans ?_ (.setChan _ _ _)
    split
    · exact issueWrites_queuesOnly d _ _
    · exact .refl d

theorem queueWrite_queuesOnly (d : Dev) (cls src a n : Nat) : QueuesOnly d (d.queueWrite cls src a n) := by
  unfold Dev.queueWrite
  induction linesOf a n generalizing d with
  | nil => exact .refl d
  | cons l ls ih => exact (queueLine_queuesOnly d cls src l).trans (ih _)

/-! ### No upset line -/

theorem upsetsIn_clean (d : Dev) (a n : Nat) (h : d.dram.upsets = []) : d.upsetsIn a n = [] := by
  simp [Dev.upsetsIn, h]

/-- A source that meets no upset line reads what is stored, and changes nothing. -/
theorem checkBuf_clean (d : Dev) (src : Nat) (r : BufRef) (off n : Nat) (h : d.dram.upsets = []) : d.checkBuf src r off n = (none, d) := by
  simp [Dev.checkBuf, Dev.checkEcc, Dev.meetUpsets, upsetsIn_clean d _ _ h]

/-- A store where no line is upset: the bytes are written and their lines join the write queues. -/
theorem put_clean (d : Dev) (cls src : Nat) (r : BufRef) (off : Nat) (bs : List Byte) (h : d.dram.upsets = []) (hb : bs ≠ []) :
    d.put cls src r off bs =
      (d.writeMem ((d.buf r.handle).base + off) bs).queueWrite cls src ((d.buf r.handle).base + off) bs.length := by
  have hd : ({ d with dram := { d.dram with upsets := [] } } : Dev) = d := by rw [← h]
  simp [Dev.put, hb, Dev.partUpsets, upsetsIn_clean d _ _ h, Dev.meetUpsets, h, hd]

/-! ### What a store leaves -/

/-- The bytes are stored at an address: they are read back, every other byte reads as before, and nothing else but the channels' queues
changes. -/
structure Stored (d t : Dev) (a : Nat) (bs : List Byte) : Prop where
  reads : t.readMem a bs.length = bs
  outside : SameMemoryOutside a bs.length d t
  frame : Frame [.dram, .intake] d t
  out : t.out = d.out
  selfRefresh : t.dram.selfRefresh = d.dram.selfRefresh

theorem writeMem_frame (d : Dev) (a : Nat) (bs : List Byte) : Frame [.dram, .intake] d (d.writeMem a bs) := by
  intro p hp
  cases p with
  | dram | intake => exact absurd (by decide) hp
  | _ => rfl

theorem writeMem_stored (d : Dev) (a : Nat) (bs : List Byte) (hw : Memory.wf d = true) : Stored d (d.writeMem a bs) a bs where
  reads := readMem_writeMem d a bs hw
  outside := byteAt_writeMem_outside d a bs
  frame := writeMem_frame d a bs
  out := rfl
  selfRefresh := rfl

/-- The queues hold no byte. -/
theorem Stored.queued {d t u : Dev} {a : Nat} {bs : List Byte} (h : Stored d t a bs) (q : QueuesOnly t u) : Stored d u a bs := by
  obtain ⟨chans, picks, rfl⟩ := q
  exact ⟨h.reads, h.outside, h.frame.trans ((Frame.dram t _).mono (by decide)), h.out, h.selfRefresh⟩

theorem put_stored (d : Dev) (cls src : Nat) (r : BufRef) (off : Nat) (bs : List Byte) (h : d.dram.upsets = []) (hb : bs ≠ [])
    (hw : Memory.wf d = true) : Stored d (d.put cls src r off bs) ((d.buf r.handle).base + off) bs := by
  rw [put_clean d cls src r off bs h hb]
  exact (writeMem_stored d _ bs hw).queued (queueWrite_queuesOnly _ _ _ _ _)

/-- A host store while no drawing command runs (R292). -/
theorem hostStore_stored (d : Dev) (src : Nat) (r : BufRef) (off : Nat) (bs : List Byte) (hd : d.draws.accepted = [])
    (h : d.dram.upsets = []) (hb : bs ≠ []) (hw : Memory.wf d = true) :
    Stored d (d.hostStore src r off bs) ((d.buf r.handle).base + off) bs := by
  have e : d.hostStore src r off bs = d.put 3 src r off bs := by simp [Dev.hostStore, hd]
  rw [e]
  exact put_stored d 3 src r off bs h hb hw

end Sys2Proof.Machine
end

section
/-! O10, BAR2 through the windows of the apertures (file 02). -/

namespace Sys2Proof.Machine

/-- The device with its DRAM out of self-refresh (R38). -/
def Dev.refreshed (d : Dev) : Dev := { d with dram := { d.dram with selfRefresh := false } }

section Reached

variable (d : Dev) (hb : d.bar0Reach = true) (off : Nat)

include hb

theorem bar2Wakes_reached : d.bar2Wakes = d.refreshed := if_pos hb

theorem pcieOn_of_bar0Reach : d.pcieOn = true := by
  simp only [Dev.bar0Reach, Bool.and_eq_true] at hb
  exact hb.1.2

theorem bar2Read_window (n : Nat) (a : Ap) (o : Nat) (ht : d.bar2Target off n = some (a, o)) (hl : d.lostBuf a.ref o n = false)
    (hu : d.dram.upsets = []) : d.bar2Read off n = d.send (.readData (d.readBuf a.ref o n)) := by
  simp [Dev.bar2Read, Dev.bar2Reach, pcieOn_of_bar0Reach d hb, hb, ht, hl, checkBuf_clean d _ _ _ _ hu]

theorem bar2Read_outside (n : Nat) (ht : d.bar2Target off n = none) : d.bar2Read off n = (d.send .unsupported).violate 1 off 0 true := by
  simp [Dev.bar2Read, Dev.bar2Reach, pcieOn_of_bar0Reach d hb, hb, ht]

variable (bs : List Byte)

theorem bar2Write_window (a : Ap) (o : Nat) (ht : d.bar2Target off bs.length = some (a, o)) (hw : a.writeEn = true)
    (hl : d.lostBuf a.ref o bs.length = false) : d.bar2Write off bs = d.hostStore (hostSrc .pcie) a.ref o bs := by
  simp [Dev.bar2Write, Dev.bar2Reach, hb, ht, hw, hl]

theorem bar2Write_readOnly (a : Ap) (o : Nat) (ht : d.bar2Target off bs.length = some (a, o)) (hw : a.writeEn = false) :
    d.bar2Write off bs = d.violate 2 off a.target.toNat true := by
  simp [Dev.bar2Write, Dev.bar2Reach, hb, ht, hw]

theorem bar2Write_outside (ht : d.bar2Target off bs.length = none) : d.bar2Write off bs = d.violate 1 off 0 true := by
  simp [Dev.bar2Write, Dev.bar2Reach, hb, ht]

end Reached

theorem refreshed_frame (s : State) : Frame [.dram] s.dev s.dev.begin.refreshed := (Frame.begin _ s.dev).trans (Frame.dram _ _)

/-- A violation of BAR2 is logged as every other, and of DRAM only self-refresh ends. -/
theorem ViolationLogged.bar2_frame {s : State} {d t : Dev} {src addr handle : Nat} (v : ViolationLogged d t src addr handle)
    (h : Frame [.dram] s.dev d) (hd : d.dram = { s.dev.dram with selfRefresh := false }) :
    Frame (.dram :: eventParts) s.dev t ∧ t.dram = { s.dev.dram with selfRefresh := false } :=
  ⟨(h.mono (by decide)).trans (v.frame.mono (by decide)), (v.frame .dram (by decide)).trans hd⟩

section Accesses

variable {s : State} (hp : s.dev.powered = true) (hb : s.dev.begin.bar0Reach = true) (off : Nat)

include hp hb

theorem Becomes.bar2Read {t : Dev} (n : Nat) (h : s.dev.begin.refreshed.bar2Read off n = t) : Becomes (.bar2Read off n) s t := by
  refine .of_runOn (exec_bar2Read off n s) hp ?_
  rw [bar2Wakes_reached _ hb, h]

theorem Becomes.bar2Write {t : Dev} (bs : List Byte) (h : s.dev.begin.refreshed.bar2Write off bs = t) : Becomes (.bar2Write off bs) s t := by
  refine .of_runOn (exec_bar2Write off bs s) hp ?_
  rw [bar2Wakes_reached _ hb, h]

theorem bar2Read_returns (n : Nat) (a : Ap) (o : Nat) (ht : s.dev.bar2Target off n = some (a, o)) (hl : s.dev.lostBuf a.ref o n = false)
    (hu : s.dev.dram.upsets = []) : Becomes (.bar2Read off n) s { s.dev with
      out := [.readData (s.dev.readMem ((s.dev.buf a.ref.handle).base + o) n)], dram := { s.dev.dram with selfRefresh := false } } :=
  .bar2Read hp hb off n (bar2Read_window s.dev.begin.refreshed hb off n a o ht hl hu)

theorem bar2Read_violates (n : Nat) (ht : s.dev.bar2Target off n = none) : Runs (.bar2Read off n) s (.dram :: eventParts) (fun t =>
    t.dram = { s.dev.dram with selfRefresh := false } ∧
    t.host.violSource = 1 ∧ t.host.violAddr = off ∧ t.host.viol = true ∧ t.out.head? = some .unsupported) := by
  have v := violate_logged (s.dev.begin.refreshed.send .unsupported) 1 off 0
  obtain ⟨hf, hd⟩ := v.bar2_frame ((refreshed_frame s).trans (Frame.sends _ _ _)) rfl
  exact ⟨_, Becomes.bar2Read hp hb off n (bar2Read_outside s.dev.begin.refreshed hb off n ht), hf, hd,
    v.source, v.address, v.flag, v.sends.head rfl⟩

variable (bs : List Byte)

theorem bar2Write_stores (a : Ap) (o : Nat) (ht : s.dev.bar2Target off bs.length = some (a, o)) (hw : a.writeEn = true) (hn : bs ≠ [])
    (hl : s.dev.lostBuf a.ref o bs.length = false) (ha : s.dev.draws.accepted = []) (hu : s.dev.dram.upsets = [])
    (hm : Memory.wf s.dev = true) : Runs (.bar2Write off bs) s [.dram, .intake] (fun t => t.dram.selfRefresh = false ∧
      t.readMem ((s.dev.buf a.ref.handle).base + o) bs.length = bs ∧
      SameMemoryOutside ((s.dev.buf a.ref.handle).base + o) bs.length s.dev t ∧ t.out = []) := by
  have w := hostStore_stored s.dev.begin.refreshed (hostSrc .pcie) a.ref o bs ha hu hn hm
  exact ⟨_, Becomes.bar2Write hp hb off bs (bar2Write_window s.dev.begin.refreshed hb off bs a o ht hw hl),
    ((refreshed_frame s).mono (by decide)).trans w.frame, w.selfRefresh, w.reads, w.outside, w.out⟩

theorem bar2Write_violates_readOnly (a : Ap) (o : Nat) (ht : s.dev.bar2Target off bs.length = some (a, o)) (hw : a.writeEn = false) :
    Runs (.bar2Write off bs) s (.dram :: eventParts) (fun t => t.dram = { s.dev.dram with selfRefresh := false } ∧
      t.host.violSource = 2 ∧ t.host.violAddr = off ∧ t.host.violHandle = a.target.toNat ∧ t.host.viol = true) := by
  have v := violate_logged s.dev.begin.refreshed 2 off a.target.toNat
  obtain ⟨hf, hd⟩ := v.bar2_frame (refreshed_frame s) rfl
  exact ⟨_, Becomes.bar2Write hp hb off bs (bar2Write_readOnly s.dev.begin.refreshed hb off bs a o ht hw), hf, hd,
    v.source, v.address, v.target, v.flag⟩

theorem bar2Write_violates_outside (ht : s.dev.bar2Target off bs.length = none) : Runs (.bar2Write off bs) s (.dram :: eventParts) (fun t =>
    t.dram = { s.dev.dram with selfRefresh := false } ∧ t.host.violSource = 1 ∧ t.host.violAddr = off ∧ t.host.viol = true) := by
  have v := violate_logged s.dev.begin.refreshed 1 off 0
  obtain ⟨hf, hd⟩ := v.bar2_frame (refreshed_frame s) rfl
  exact ⟨_, Becomes.bar2Write hp hb off bs (bar2Write_outside s.dev.begin.refreshed hb off bs ht), hf, hd, v.source, v.address, v.flag⟩

end Accesses

/-- Settles O10: a read and a write, through a window and outside every one. -/
theorem bar2ReadsAndWritesThroughWindows : Obligations.Bar2ReadsAndWritesThroughWindows := by
  intro s off hp hd hr hf
  have hb := bar0Reach_of s.dev.begin hd hr hf
  exact ⟨bar2Read_returns hp hb off, bar2Read_violates hp hb off, bar2Write_stores hp hb off, bar2Write_violates_readOnly hp hb off,
    bar2Write_violates_outside hp hb off⟩

end Sys2Proof.Machine
end

section
/-! O11, the transfers of the USB functions (files 02, 03): the checks in their order, what a transfer moves, and its failures. -/

namespace Sys2Proof.Machine

/-! ### The header's checks (R34, R35) -/

/-- A transfer on a bulk endpoint that is not discarding runs at once. -/
theorem transfer_runs (d : Dev) (p : UsbPath) (x : XferHdr) (payload : List Byte) (hb : d.booted = true) (hs : d.fuses.straps ≠ 2)
    (hd : d.discards p = false) (hf : d.pw.state ≠ .forcedHove) : d.transfer p false x payload = d.runTransfer p false x payload := by
  simp [Dev.transfer, hb, usbServes_of_booted d hb hs, hd, hf]

/-- A WRITE carries at least a byte. -/
theorem framed_write_nonempty {x : XferHdr} {payload : List Byte} (hk : x.kind = 2) (h : framed x payload = true) : payload ≠ [] := by
  rintro rfl
  simp [framed, hk] at h
  omega

theorem setDiscard_same (d : Dev) (p : UsbPath) : d.setDiscard p (d.discards p) = d := by
  cases p <;> rfl

/-- A transfer that ends with a short packet leaves a path that is not discarding as it is (R35). -/
theorem discardOn_idle (d : Dev) (p : UsbPath) (x : XferHdr) (payload : List Byte) (hd : d.discards p = false)
    (hp : fullEnd p payload = false) : d.discardOn p x payload = d := by
  rw [Dev.discardOn, hp, Bool.false_and, ← hd, setDiscard_same]

section Kinds

variable (d : Dev) (p : UsbPath) (x : XferHdr) (payload : List Byte)

theorem runTransfer_unframed (h : framed x payload = false) (hd : d.discards p = false) (hp : fullEnd p payload = false) :
    d.runTransfer p false x payload = d.transferFail p false x 0x0110 := by
  simp [Dev.runTransfer, h, discardOn_idle d p x payload hd hp]

variable (h : framed x payload = true)

include h

theorem runTransfer_read (hk : x.kind = 3) : d.runTransfer p false x payload = d.usbFetch p false x := by
  simp [Dev.runTransfer, h, hk]

theorem runTransfer_no_session (hk : x.kind = 2) (ho : d.host.owner ≠ some p.toPath) :
    d.runTransfer p false x payload = d.transferFail p false x 0x0113 := by
  simp [Dev.runTransfer, h, hk, ho]

theorem runTransfer_write (hk : x.kind = 2) (ho : d.host.owner = some p.toPath) :
    d.runTransfer p false x payload = d.usbStore p false x payload := by
  simp [Dev.runTransfer, h, hk, ho]

/-- An UNDERWAY device has no HOVE to leave. -/
theorem runTransfer_submit (hk : x.kind = 1) (ho : d.host.owner = some p.toPath) (hs : d.pw.state = .underway) :
    d.runTransfer p false x payload = d.submit p false x payload := by
  simp [Dev.runTransfer, h, hk, ho, Dev.wake, hs]

end Kinds

/-! ### READ and WRITE of a buffer -/

/-- A handle other than 0 names a buffer, not the registers (R49). -/
theorem not_registers {x : XferHdr} (hh : x.handle ≠ 0) : ¬ (x.handle = 0 ∧ x.gen = 0) := fun h => hh h.1

section Buffers

variable (d : Dev) (p : UsbPath) (x : XferHdr) {r : BufRef} (hr : (⟨x.handle, x.gen⟩ : BufRef) = r) (hh : x.handle ≠ 0)

include hr hh

theorem usbFetch_stale (hl : d.live r = false) : d.usbFetch p false x =
    (d.transferFail p false x 0x0111).violate 5 x.offset.toNat (x.gen.toNat * 65536 + x.handle.toNat) true := by
  simp only [Dev.usbFetch, if_neg (not_registers hh)]
  simp [hr, hl]

variable (hl : d.live r = true)

include hl

theorem usbFetch_bounds (hb : d.sizeOf r < x.offset.toNat + x.rlen.toNat) : d.usbFetch p false x =
    (d.transferFail p false x 0x0A01).violate 4 (max x.offset.toNat (d.sizeOf r)) (x.gen.toNat * 65536 + x.handle.toNat) true := by
  simp only [Dev.usbFetch, if_neg (not_registers hh)]
  simp [hr, hl, hb]

theorem usbFetch_returns (hb : x.offset.toNat + x.rlen.toNat ≤ d.sizeOf r) (hc : d.lostBuf r x.offset.toNat x.rlen.toNat = false)
    (hu : d.dram.upsets = []) : d.usbFetch p false x =
      d.send (.bulkIn p (inTransfer 0x83 x.tag 0 (d.readBuf r x.offset.toNat x.rlen.toNat))) := by
  simp only [Dev.usbFetch, if_neg (not_registers hh)]
  simp [hr, hl, Nat.not_lt.mpr hb, hc, checkBuf_clean d _ _ _ _ hu, Dev.transferIn]

theorem usbStore_stores (payload : List Byte) (hb : x.offset.toNat + payload.length ≤ d.sizeOf r)
    (hc : d.lostBuf r x.offset.toNat payload.length = false) :
    d.usbStore p false x payload = d.hostStore (hostSrc p.toPath) r x.offset.toNat payload := by
  simp only [Dev.usbStore, if_neg (not_registers hh)]
  simp [hr, hl, Nat.not_lt.mpr hb, hc]

end Buffers

/-! ### SUBMIT -/

/-- One command goes to the slot at the tail. -/
theorem fillRing_one (d : Dev) (src : Nat) (y : Queue) (c : List Byte) (hc : c.length = 64) :
    d.fillRing src y 1 c = d.put 3 src y.ringRef (64 * (y.tail % 2 ^ y.log2.toNat)) c := by
  simp [Dev.fillRing, slice, hc, List.take_of_length_le]

section Submit

variable (d : Dev) (p : UsbPath) (x : XferHdr) (c : List Byte) {q : QueueId} (hq : BitVec.ofNat 6 x.queue.toNat = q)
  (hs : (d.queue q).state = .running)

include hq hs

theorem submit_full (hr : (d.queue q).room < c.length / 64) : d.submit p false x c = d.transferFail p false x 0x010A := by
  simp [Dev.submit, hq, hs, hr]

theorem submit_one (hc : c.length = 64) (hr : 1 ≤ (d.queue q).room)
    (hb : d.barred (d.queue q).ringRef (64 * ((d.queue q).tail % 2 ^ (d.queue q).log2.toNat)) 64 = none) :
    d.submit p false x c =
      (d.put 3 (hostSrc p.toPath) (d.queue q).ringRef (64 * ((d.queue q).tail % 2 ^ (d.queue q).log2.toNat)) c).ringDoorbell q
        (((d.queue q).tail + 1) % 2 ^ (d.queue q).log2.toNat) := by
  rw [← fillRing_one d (hostSrc p.toPath) (d.queue q) c hc]
  simp [Dev.submit, hq, hs, hc, Nat.not_lt.mpr hr, hb, List.range_one]

end Submit

/-- A doorbell's value inside the ring becomes the announced tail of a RUNNING queue, and changes nothing else (R45). -/
theorem ringDoorbell_running (d : Dev) (q : QueueId) (v : Nat) (hs : (d.queue q).state = .running) (hv : v < 2 ^ (d.queue q).log2.toNat) :
    d.ringDoorbell q v = d.setQueue q { d.queue q with tail := v } := by
  simp [Dev.ringDoorbell, hs, Nat.not_le.mpr hv]

theorem setQueue_running (d : Dev) (q : QueueId) (x : Queue) (hs : x.state = .running) :
    (d.setQueue q x).queue q = x ∧ ∀ r, r ≠ q → (d.setQueue q x).queue r = d.queue r := by
  refine ⟨queue_setQueue_self d q x ?_, fun r hr => queue_setQueue_ne d q r x hr⟩
  rintro rfl
  cases hs

/-! ### The rows of the table -/

section Bulk

variable {s : State} (p : UsbPath) (x : XferHdr) (hp : s.dev.powered = true) (hb : s.dev.booted = true) (hs : s.dev.fuses.straps ≠ 2)
  (hf : s.dev.pw.state ≠ .forcedHove) (hd : s.dev.discards p = false)

include hb hs hf hd

/-- A bulk transfer of a booted device leaves what its kind does, whichever row of the table brings it. -/
theorem transfer_begin (payload : List Byte) :
    s.dev.begin.transfer p false x payload = s.dev.begin.runTransfer p false x payload :=
  transfer_runs s.dev.begin p x payload hb hs hd hf

include hp

theorem usbWrite_stores (payload : List Byte) (hu : s.dev.dram.upsets = []) (hk : x.kind = 2) (hh : x.handle ≠ 0)
    (hx : framed x payload = true) (ho : s.dev.host.owner = some p.toPath) (hl : s.dev.live { handle := x.handle, gen := x.gen } = true)
    (hz : x.offset.toNat + payload.length ≤ s.dev.sizeOf { handle := x.handle, gen := x.gen })
    (hc : s.dev.lostBuf { handle := x.handle, gen := x.gen } x.offset.toNat payload.length = false) (ha : s.dev.draws.accepted = [])
    (hm : Memory.wf s.dev = true) : Runs (.usbWrite p false x payload) s [.dram, .intake] (fun t =>
      t.readMem ((s.dev.buf x.handle).base + x.offset.toNat) payload.length = payload ∧
      SameMemoryOutside ((s.dev.buf x.handle).base + x.offset.toNat) payload.length s.dev t ∧ t.out = []) := by
  have w := hostStore_stored s.dev.begin (hostSrc p.toPath) ⟨x.handle, x.gen⟩ x.offset.toNat payload ha hu (framed_write_nonempty hk hx) hm
  have e : s.dev.begin.transfer p false x payload = s.dev.begin.hostStore (hostSrc p.toPath) ⟨x.handle, x.gen⟩ x.offset.toNat payload := by
    rw [transfer_begin p x hb hs hf hd, runTransfer_write s.dev.begin p x payload hx hk ho, usbStore_stores s.dev.begin p x rfl hh hl payload hz hc]
  rw [← e] at w
  exact .of_runOn (exec_usbWrite p false x payload s) hp ((Frame.begin _ s.dev).trans w.frame) ⟨w.reads, w.outside, w.out⟩

theorem usbRead_returns (payload : List Byte) (hu : s.dev.dram.upsets = []) (hk : x.kind = 3) (hh : x.handle ≠ 0)
    (hx : framed x payload = true) (hl : s.dev.live { handle := x.handle, gen := x.gen } = true)
    (hz : x.offset.toNat + x.rlen.toNat ≤ s.dev.sizeOf { handle := x.handle, gen := x.gen })
    (hc : s.dev.lostBuf { handle := x.handle, gen := x.gen } x.offset.toNat x.rlen.toNat = false) :
    Becomes (.usbRead p false x payload) s { s.dev with
      out := [.bulkIn p (inTransfer 0x83 x.tag 0 (s.dev.readMem ((s.dev.buf x.handle).base + x.offset.toNat) x.rlen.toNat))] } := by
  refine .of_runOn (exec_usbRead p false x payload s) hp ?_
  rw [transfer_begin p x hb hs hf hd, runTransfer_read s.dev.begin p x payload hx hk, usbFetch_returns s.dev.begin p x rfl hh hl hz hc hu]
  rfl

theorem usbWrite_no_session (payload : List Byte) (hk : x.kind = 2) (hx : framed x payload = true) (ho : s.dev.host.owner ≠ some p.toPath) :
    Becomes (.usbWrite p false x payload) s { s.dev with out := [.bulkIn p (inTransfer 0x8F x.tag 0x0113 [])] } := by
  refine .of_runOn (exec_usbWrite p false x payload s) hp ?_
  rw [transfer_begin p x hb hs hf hd, runTransfer_no_session s.dev.begin p x payload hx hk ho]
  rfl

theorem usbSubmit_unframed (payload : List Byte) (hx : framed x payload = false) (he : fullEnd p payload = false) :
    Becomes (.usbSubmit p false x payload) s { s.dev with out := [.bulkIn p (inTransfer 0x8F x.tag 0x0110 [])] } := by
  refine .of_runOn (exec_usbSubmit p false x payload s) hp ?_
  rw [transfer_begin p x hb hs hf hd, runTransfer_unframed s.dev.begin p x payload hx hd he]
  rfl

/-- A READ whose failure is a violation: its STATUS transfer goes out first, then it is logged. -/
theorem usbRead_violates (payload : List Byte) (code src addr handle : Nat) (hk : x.kind = 3) (hx : framed x payload = true)
    (h : s.dev.begin.usbFetch p false x = (s.dev.begin.transferFail p false x code).violate src addr handle true) :
    Runs (.usbRead p false x payload) s eventParts (fun t =>
      t.out.head? = some (.bulkIn p (inTransfer 0x8F x.tag code [])) ∧ t.host.violSource = src ∧ t.host.viol = true) := by
  have v := violate_logged (s.dev.begin.transferFail p false x code) src addr handle
  have e : s.dev.begin.transfer p false x payload = (s.dev.begin.transferFail p false x code).violate src addr handle true := by
    rw [transfer_begin p x hb hs hf hd, runTransfer_read s.dev.begin p x payload hx hk, h]
  rw [← e] at v
  exact .of_runOn (exec_usbRead p false x payload s) hp (((Frame.begin _ s.dev).trans (Frame.sends _ _ _)).trans v.frame)
    ⟨v.sends.head rfl, v.source, v.flag⟩

end Bulk

section Submissions

variable {s : State} (p : UsbPath) (x : XferHdr) (c : List Byte) (hs : s.dev.pw.state = .underway) (hn : s.dev.fuses.straps ≠ 2)
  (hd : s.dev.discards p = false) (hk : x.kind = 1) (hx : framed x c = true) (ho : s.dev.host.owner = some p.toPath)
  {q : QueueId} (hq : BitVec.ofNat 6 x.queue.toNat = q) (hr : (s.dev.queue q).state = .running)

include hs hn hd hk hx ho

/-- A SUBMIT on an UNDERWAY device leaves what placing its commands does. -/
theorem usbSubmit_runs : exec (.usbSubmit p false x c) s = .next { dev := s.dev.begin.submit p false x c, pending := s.pending } := by
  have hp : s.dev.powered = true := by simp [Dev.powered, hs]
  have hb : s.dev.booted = true := by simp [Dev.booted, hs]
  have hf : s.dev.pw.state ≠ .forcedHove := by simp [hs]
  rw [exec_usbSubmit, runOn_eq s _ hp, transfer_begin p x hb hn hf hd, runTransfer_submit s.dev.begin p x c hx hk ho hs]

include hq hr

theorem usbSubmit_full (h : (s.dev.queue q).room < c.length / 64) :
    Becomes (.usbSubmit p false x c) s { s.dev with out := [.bulkIn p (inTransfer 0x8F x.tag 0x010A [])] } := by
  rw [Becomes, usbSubmit_runs p x c hs hn hd hk hx ho, submit_full s.dev.begin p x c hq hr h]
  rfl

theorem usbSubmit_places (hu : s.dev.dram.upsets = []) (hm : Memory.wf s.dev = true) (hc : c.length = 64) (h1 : 1 ≤ (s.dev.queue q).room)
    (hb : s.dev.barred (s.dev.queue q).ringRef (64 * ((s.dev.queue q).tail % 2 ^ (s.dev.queue q).log2.toNat)) 64 = none) :
    Runs (.usbSubmit p false x c) s [.dram, .intake, .qs] (fun t =>
      let y := s.dev.queue q
      let a := (s.dev.buf y.ringRef.handle).base + 64 * (y.tail % 2 ^ y.log2.toNat)
      t.readMem a 64 = c ∧ SameMemoryOutside a 64 s.dev t ∧ t.queue q = { y with tail := (y.tail + 1) % 2 ^ y.log2.toNat } ∧
      (∀ r, r ≠ q → t.queue r = s.dev.queue r) ∧ t.qs.cmds = s.dev.qs.cmds ∧ t.out = []) := by
  have hne : c ≠ [] := by
    rintro rfl
    cases hc
  have w := put_stored s.dev.begin 3 (hostSrc p.toPath) (s.dev.queue q).ringRef
    (64 * ((s.dev.queue q).tail % 2 ^ (s.dev.queue q).log2.toNat)) c hu hne hm
  have e := submit_one s.dev.begin p x c hq hr hc h1 hb
  simp only [Dev.begin_queue] at e
  generalize s.dev.begin.put 3 (hostSrc p.toPath) (s.dev.queue q).ringRef
    (64 * ((s.dev.queue q).tail % 2 ^ (s.dev.queue q).log2.toNat)) c = d at w e
  have hqs : d.qs = s.dev.qs := w.frame .qs (by decide)
  have hdq : ∀ r, d.queue r = s.dev.queue r := fun r => by rw [Dev.queue, hqs]; rfl
  have hrun : (d.queue q).state = .running := by rw [hdq, hr]
  have hv : ((s.dev.queue q).tail + 1) % 2 ^ (s.dev.queue q).log2.toNat < 2 ^ (d.queue q).log2.toNat := by
    rw [hdq]
    exact Nat.mod_lt _ (Nat.two_pow_pos _)
  rw [ringDoorbell_running d q _ hrun hv] at e
  obtain ⟨hself, hother⟩ := setQueue_running d q { d.queue q with tail := ((s.dev.queue q).tail + 1) % 2 ^ (s.dev.queue q).log2.toNat } hrun
  refine ⟨_, by rw [usbSubmit_runs p x c hs hn hd hk hx ho, e], ?_, ?_, ?_, ?_, ?_, ?_, ?_⟩
  · exact (((Frame.begin _ s.dev).trans w.frame).mono (by decide)).trans ((Frame.qs d _).mono (by decide))
  · exact hc ▸ w.reads
  · exact hc ▸ w.outside
  · rw [hself, hdq]
  · exact fun r hr => (hother r hr).trans (hdq r)
  · rw [Dev.setQueue_qs_cmds, hqs]
  · exact w.out

end Submissions

/-- Settles O11: the transfers of a buffer and their failures, then the submissions. -/
theorem usbTransfersAndSubmissions : Obligations.UsbTransfersAndSubmissions := by
  refine ⟨fun s p x payload hp hb hs hf hd hu => ⟨?_, ?_, ?_, ?_, fun hk hx hh hl => ?_, fun hk hh hx hl hz => ?_⟩,
    fun s p x c hs hn hd hu hk hx ho hm hr => ⟨?_, ?_⟩⟩
  · exact fun hk hh hx ho hl hz hc ha hm => usbWrite_stores p x hp hb hs hf hd payload hu hk hh hx ho hl hz hc ha hm
  · exact fun hk hh hx hl hz hc => usbRead_returns p x hp hb hs hf hd payload hu hk hh hx hl hz hc
  · exact usbWrite_no_session p x hp hb hs hf hd payload
  · exact usbSubmit_unframed p x hp hb hs hf hd payload
  · exact usbRead_violates p x hp hb hs hf hd payload 0x0111 5 _ _ hk hx (usbFetch_stale s.dev.begin p x rfl hh hl)
  · exact usbRead_violates p x hp hb hs hf hd payload 0x0A01 4 _ _ hk hx (usbFetch_bounds s.dev.begin p x rfl hh hl hz)
  · exact usbSubmit_places p x c hs hn hd hk hx ho rfl hr hu hm
  · exact usbSubmit_full p x c hs hn hd hk hx ho rfl hr

end Sys2Proof.Machine
end

section
/-! O4, the links and the configuration space (file 02). -/

namespace Sys2Proof.Machine

/-! ### USB_CONNECT (R23, R36) -/

/-- What the attached USB functions show as they enumerate. -/
def Dev.enumeration (d : Dev) : List Out :=
  (if d.link.ss = 0 then [] else [.usbDevice .usb3 0x1F4D d.usbProduct false]) ++
    if d.link.hs then [.usbDevice .usb2 0x1F4D d.usbProduct d.link.fs] else []

theorem enumerate_eq (d : Dev) : d.enumerate = { d with out := d.out ++ d.enumeration } := by
  unfold Dev.enumerate Dev.enumeration
  by_cases h3 : d.link.ss = 0 <;> by_cases h2 : d.link.hs = true <;> simp [h3, h2, Dev.send]

/-- The USB4 mode that a connection comes up in. -/
def Dev.usb4Mode (d : Dev) (orient : Bool) (p : Partner) : Nat :=
  if orient && bit d.paths 0 then (p.usb4.map usb4Code).getD 0 else 0

/-- The USB 3.2 mode that it comes up in: native where USB4 does not come up, else the tunnel. -/
def Dev.ssMode (d : Dev) (orient : Bool) (p : Partner) : Nat :=
  if !(orient && bit d.paths 1) then 0
  else if d.usb4Mode orient p ≠ 0 then (if p.tunnel3 then 12 else 0)
  else (p.ss.map ssCode).getD 0

theorem usb4Code_ne_zero (m : Usb4Mode) : usb4Code m ≠ 0 := by
  cases m <;> decide

section Modes

variable (d : Dev) (p : Partner)

theorem modes_no_orientation : d.usb4Mode false p = 0 ∧ d.ssMode false p = 0 := ⟨rfl, rfl⟩

/-- USB4 comes first, with the USB3 tunnel beside it. -/
theorem modes_usb4 (m : Usb4Mode) (h0 : bit d.paths 0 = true) (hm : p.usb4 = some m) :
    d.usb4Mode true p = usb4Code m ∧ d.ssMode true p = if bit d.paths 1 && p.tunnel3 then 12 else 0 := by
  have h4 : d.usb4Mode true p = usb4Code m := by simp [Dev.usb4Mode, h0, hm]
  refine ⟨h4, ?_⟩
  cases h1 : bit d.paths 1 <;> simp [Dev.ssMode, h1, h4, usb4Code_ne_zero]

theorem modes_native (m : SsMode) (h1 : bit d.paths 1 = true) (h4 : p.usb4 = none) (hm : p.ss = some m) :
    d.usb4Mode true p = 0 ∧ d.ssMode true p = ssCode m := by
  have h4' : d.usb4Mode true p = 0 := by simp [Dev.usb4Mode, h4]
  exact ⟨h4', by simp [Dev.ssMode, h1, h4', hm]⟩

end Modes

/-- The device with VBUS and its links up in given modes. -/
def Dev.linked (d : Dev) (usb4 ss : Nat) (hs fs : Bool) : Dev :=
  { d with link := { d.link with vbus := true, usb4 := usb4, ss := ss, hs := hs, fs := fs } }

theorem usbConnect_serving (d : Dev) (o : Bool) (p : Partner) (hp : d.powered = true) (hr : d.pw.state ≠ .recovery) :
    d.usbConnect o p =
      (d.linked (d.usb4Mode o p) (d.ssMode o p) (p.hs && bit d.paths 2) (p.hs && bit d.paths 2 && p.full)).enumerate := by
  simp [Dev.usbConnect, hp, hr, Dev.linked, Dev.ssMode, Dev.usb4Mode]

/-- In recovery mode USB 2.0 alone comes up, and none where a full run has failed one of the core's partitions (R36, R463). -/
theorem usbConnect_recovery (d : Dev) (o : Bool) (p : Partner) (hp : d.powered = true) (hr : d.pw.state = .recovery) :
    d.usbConnect o p = (d.linked 0 0 (p.hs && !d.coreFenced) ((p.hs && !d.coreFenced) && p.full)).enumerate := by
  simp [Dev.usbConnect, hp, hr, Dev.linked]

/-- A device whose links come up changes in nothing else, and its functions enumerate. -/
theorem Runs.usbConnect {s : State} {o : Bool} {p : Partner} {usb4 ss : Nat} {hs fs : Bool} {q : Dev → Prop}
    (h : s.dev.begin.usbConnect o p = (s.dev.begin.linked usb4 ss hs fs).enumerate)
    (hq : q { s.dev.begin.linked usb4 ss hs fs with out := (s.dev.begin.linked usb4 ss hs fs).enumeration }) :
    Runs (.usbConnect o p) s [.link] q := by
  have e : s.dev.begin.usbConnect o p =
      { s.dev.begin.linked usb4 ss hs fs with out := (s.dev.begin.linked usb4 ss hs fs).enumeration } := by
    rw [h, enumerate_eq]
    rfl
  refine ⟨_, ?_, ?_, hq⟩
  · rw [exec_usbConnect, runAlways_eq, e]
  · exact ((Frame.begin _ s.dev).trans (Frame.link _ _)).trans (Frame.sends _ _ _)

theorem usbConnect_connects (s : State) (o : Bool) (p : Partner) (hp : s.dev.powered = true) (hr : s.dev.pw.state ≠ .recovery) :
    Runs (.usbConnect o p) s [.link] (fun t =>
      t.link.vbus = true ∧ t.link.hs = (p.hs && bit s.dev.paths 2) ∧ t.link.fs = (t.link.hs && p.full) ∧
      (o = false → t.link.usb4 = 0 ∧ t.link.ss = 0) ∧
      (∀ m, o = true → bit s.dev.paths 0 = true → p.usb4 = some m →
        t.link.usb4 = usb4Code m ∧ t.link.ss = if bit s.dev.paths 1 && p.tunnel3 then 12 else 0) ∧
      (∀ m, o = true → bit s.dev.paths 1 = true → p.usb4 = none → p.ss = some m → t.link.usb4 = 0 ∧ t.link.ss = ssCode m) ∧
      t.out = (if t.link.ss = 0 then [] else [.usbDevice .usb3 0x1F4D s.dev.usbProduct false]) ++
        (if t.link.hs then [.usbDevice .usb2 0x1F4D s.dev.usbProduct t.link.fs] else [])) := by
  refine .usbConnect (usbConnect_serving s.dev.begin o p hp hr) ⟨rfl, rfl, rfl, ?_, ?_, ?_, rfl⟩
  · rintro rfl
    exact modes_no_orientation s.dev.begin p
  · rintro m rfl h0 hm
    exact modes_usb4 s.dev.begin p m h0 hm
  · rintro m rfl h1 h4 hm
    exact modes_native s.dev.begin p m h1 h4 hm

theorem usbConnect_connects_recovery (s : State) (o : Bool) (p : Partner) (hp : s.dev.powered = true) (hr : s.dev.pw.state = .recovery) :
    Runs (.usbConnect o p) s [.link] (fun t =>
      t.link.vbus = true ∧ t.link.usb4 = 0 ∧ t.link.ss = 0 ∧ t.link.hs = (p.hs && !s.dev.coreFenced) ∧
      t.out = if t.link.hs then [.usbDevice .usb2 0x1F4D 0x10FF p.full] else []) := by
  refine .usbConnect (usbConnect_recovery s.dev.begin o p hp hr) ⟨rfl, rfl, rfl, rfl, ?_⟩
  have hu : (s.dev.begin.linked 0 0 (p.hs && !s.dev.begin.coreFenced) ((p.hs && !s.dev.begin.coreFenced) && p.full)).usbProduct = 0x10FF :=
    if_pos hr
  rw [Dev.enumeration, hu]
  cases p.hs && !s.dev.begin.coreFenced <;> simp [Dev.linked]

/-! ### The configuration space (R25, R28, R39) -/

section Flush

variable (d : Dev) (h : d.host.pba = 0)

include h

/-- With no vector pending there is none to send. -/
theorem flushMsix_idle : d.flushMsix = d := by
  refine List.foldlRecOn (motive := fun t => t = d) _ _ rfl fun t ht v _ => ?_
  subst ht
  exact if_neg (by simp [h])

theorem setD3hot_exit : d.setD3hot false = { d with link := { d.link with d3hot := false } } :=
  flushMsix_idle { d with link := { d.link with d3hot := false } } h

theorem configWrite_busMaster : d.configWrite (.busMaster true) = { d with link := { d.link with bme := true } } :=
  flushMsix_idle { d with link := { d.link with bme := true } } h

theorem configWrite_msixCtl (e m : Bool) :
    d.configWrite (.msixCtl e m) = { d with link := { d.link with msixEnable := e, msixMask := m } } :=
  flushMsix_idle { d with link := { d.link with msixEnable := e, msixMask := m } } h

end Flush

/-- A base address keeps no bit below the size of BAR2 (R25, R26). -/
theorem configWrite_bar2 (d : Dev) (v : U64) : d.configWrite (.bar 2 v) = { d with link := { d.link with
    bars := SMap.set 0 d.link.bars 2 (BitVec.ofNat 64 (v.toNat - v.toNat % 2 ^ d.link.bar2Log2)) } } := by
  have h : v.toNat / 2 ^ d.link.bar2Log2 * 2 ^ d.link.bar2Log2 = v.toNat - v.toNat % 2 ^ d.link.bar2Log2 := by
    rw [Nat.div_mul_self_eq_mod_sub_self]
  simp [Dev.configWrite, h]

theorem configWrite_maxPayload (d : Dev) (n : Nat) (hn : n ∈ [128, 256, 512]) :
    d.configWrite (.maxPayload n) = { d with link := { d.link with maxPayload := n } } :=
  if_pos (by simpa using hn)

theorem configWrite_maxReadRequest (d : Dev) (n : Nat) (hn : n ∈ [128, 256, 512, 1024, 2048, 4096]) :
    d.configWrite (.maxReadRequest n) = { d with link := { d.link with maxRead := n } } :=
  if_pos (by simpa using hn)

theorem pcieConfigWrite_bar2 {s : State} (hp : s.dev.powered = true) (v : U64) (hb : SMap.rising s.dev.link.bars = true) :
    Runs (.pcieConfigWrite (.bar 2 v)) s [.link] (fun t =>
      SMap.get 0 t.link.bars 2 = BitVec.ofNat 64 (v.toNat - v.toNat % 2 ^ s.dev.link.bar2Log2) ∧
      SMap.get 0 t.link.bars 0 = SMap.get 0 s.dev.link.bars 0) := by
  refine .of_runOn (exec_pcieConfigWrite (.bar 2 v) s) hp ?_ ?_
  all_goals rw [configWrite_bar2]
  · exact (Frame.begin _ s.dev).trans (Frame.link _ _)
  · exact ⟨SMap.get_set_self _ _ _ _ hb, SMap.get_set_ne _ _ _ _ _ (by decide)⟩

/-- The resume of a function clears its remote wake: no bit is put over the other function's. -/
theorem setSuspend_usb3_resume (d : Dev) :
    d.setSuspend .usb3 false false = { d with link := { d.link with susp3 := false, wake := d.link.wake &&& 2 } } := by
  simp [Dev.setSuspend]

theorem setSuspend_usb2_resume (d : Dev) :
    d.setSuspend .usb2 false false = { d with link := { d.link with susp2 := false, wake := d.link.wake &&& 1 } } := by
  simp [Dev.setSuspend]

/-- Settles O4: USB_CONNECT by the part's modes, then each field of the links and of the configuration space. -/
theorem linksAndConfigurationSpace : Obligations.LinksAndConfigurationSpace := by
  refine ⟨fun s o p hp => ⟨usbConnect_connects s o p hp, usbConnect_connects_recovery s o p hp⟩,
    fun s hp => ⟨?_, ?_, ?_, ?_, ?_, ?_, ?_, ?_, ?_, pcieConfigWrite_bar2 hp⟩⟩
  · exact .of_runOn (exec_d3hotEntry s) hp rfl
  · exact fun h => .of_runOn (exec_d3hotExit s) hp (setD3hot_exit s.dev.begin h)
  · exact fun w => ⟨.of_runOn (exec_usbSuspend ⟨.usb3, w⟩ s) hp rfl, .of_runOn (exec_usbSuspend ⟨.usb2, w⟩ s) hp rfl⟩
  · exact .of_runOn (exec_usbResume .usb3 s) hp (setSuspend_usb3_resume s.dev.begin)
  · exact .of_runOn (exec_usbResume .usb2 s) hp (setSuspend_usb2_resume s.dev.begin)
  · exact fun h => .of_runOn (exec_pcieConfigWrite (.busMaster true) s) hp (configWrite_busMaster s.dev.begin h)
  · exact fun e m h => .of_runOn (exec_pcieConfigWrite (.msixCtl e m) s) hp (configWrite_msixCtl s.dev.begin h e m)
  · exact fun n hn => .of_runOn (exec_pcieConfigWrite (.maxPayload n) s) hp (configWrite_maxPayload s.dev.begin n hn)
  · exact fun n hn => .of_runOn (exec_pcieConfigWrite (.maxReadRequest n) s) hp (configWrite_maxReadRequest s.dev.begin n hn)

end Sys2Proof.Machine
end

section
/-! The tables of threshers, feeds and sails read back, and the checks of a command in their order. -/

namespace Sys2Proof.Machine

/-! ### Tables read back -/

theorem thresher_setThresher_ne (d : Dev) (t u : ThresherId) (x : Thresher) (h : u ≠ t) : (d.setThresher t x).thresher u = d.thresher u :=
  SMap.get_set_ne _ _ _ _ _ (fun e => h (BitVec.eq_of_toNat_eq e))

theorem thresher_setThresher_self (d : Dev) (t : ThresherId) (x : Thresher) (h : x ≠ {}) : (d.setThresher t x).thresher t = x :=
  SMap.get_set_self_ne _ _ _ _ h

theorem feed_setFeed_self (d : Dev) (f : FeedId) (x : Feed) (h : x ≠ {}) : (d.setFeed f x).feed f = x :=
  SMap.get_set_self_ne _ _ _ _ h

theorem sail_setSail_ne (d : Dev) (i y : SailId) (x : Sail) (h : y ≠ i) : (d.setSail i x).sail y = d.sail y :=
  SMap.get_set_ne _ _ _ _ _ (fun e => h (BitVec.eq_of_toNat_eq e))

/-- A thresher with a job in its queue is not one at rest. -/
theorem thresher_ne_default_of_jobs {x : Thresher} (h : x.jobs ≠ []) : x ≠ {} := by
  rintro rfl
  exact h rfl

theorem hold_queue_self (d : Dev) (q : QueueId) (x : Hold) (h : x ≠ .none) : (d.hold q x).queue q = { d.queue q with hold := x } := by
  refine queue_setQueue_self d q _ (fun e => h ?_)
  exact congrArg Queue.hold e

theorem hold_queue_ne (d : Dev) (q r : QueueId) (x : Hold) (h : r ≠ q) : (d.hold q x).queue r = d.queue r :=
  queue_setQueue_ne d q r _ h

theorem SMap.mem_of_mem_erase {α : Type} {m : SMap α} {a : Nat} {p : Nat × α} (h : p ∈ SMap.erase m a) : p ∈ m := by
  induction m with
  | nil => exact h
  | cons y t ih =>
    simp only [SMap.erase] at h
    split at h
    · exact List.mem_cons_of_mem _ h
    · exact (List.mem_cons.mp h).elim (fun e => e ▸ List.mem_cons_self) (fun ht => List.mem_cons_of_mem _ (ih ht))

theorem SMap.mem_ins {α : Type} {m : SMap α} {a : Nat} {x : α} {p : Nat × α} (h : p ∈ SMap.ins m a x) : p ∈ m ∨ p = (a, x) := by
  induction m with
  | nil => exact .inr (List.mem_singleton.mp h)
  | cons y t ih =>
    simp only [SMap.ins] at h
    split at h
    · next e => exact (List.mem_cons.mp h).elim (fun hp => .inr (e ▸ hp)) (fun ht => .inl (List.mem_cons_of_mem _ ht))
    · split at h
      · exact (List.mem_cons.mp h).symm
      · exact (List.mem_cons.mp h).elim (fun hp => .inl (hp ▸ List.mem_cons_self)) (fun ht => (ih ht).imp_left (List.mem_cons_of_mem _))

/-- A member of a written table was listed before, or is the value written. -/
theorem SMap.mem_set {α : Type} [DecidableEq α] {d : α} {m : SMap α} {a : Nat} {x : α} {p : Nat × α} (h : p ∈ SMap.set d m a x) :
    p ∈ m ∨ p = (a, x) := by
  unfold SMap.set at h
  split at h
  · exact .inl (SMap.mem_of_mem_erase h)
  · exact SMap.mem_ins h

/-- What a table reads under a key is the default or listed. -/
theorem SMap.get_default_or_mem {α : Type} (d : α) (m : SMap α) (a : Nat) : SMap.get d m a = d ∨ (a, SMap.get d m a) ∈ m := by
  induction m with
  | nil => exact .inl rfl
  | cons p t ih =>
    simp only [SMap.get]
    split
    · next e => exact .inr (e ▸ List.mem_cons_self)
    · exact ih.imp_right (List.mem_cons_of_mem _)

/-! ### A change of one part -/

theorem Frame.intake (d : Dev) (x : Intake) : Frame [.intake] d { d with intake := x } := by
  intro p hp
  cases p with
  | intake => exact absurd (List.mem_singleton_self _) hp
  | _ => rfl

theorem Frame.push (d : Dev) (x : Push) : Frame [.push] d { d with push := x } := by
  intro p hp
  cases p with
  | push => exact absurd (List.mem_singleton_self _) hp
  | _ => rfl

/-- What a command leaves may be said with less. -/
theorem Runs.imp {c : Instr} {s : State} {ps : List Part} {p p' : Dev → Prop} (h : Runs c s ps p) (hp : ∀ t, p t → p' t) : Runs c s ps p' := by
  obtain ⟨t, he, hf, ht⟩ := h
  exact ⟨t, he, hf, hp t ht⟩

/-! ### The checks of a command in their order (R51) -/

theorem firstBad_pass {ok : Bool} (h : ok = true) (code det : Nat) (cs : List (Bool × Nat × Nat)) :
    firstBad ((ok, code, det) :: cs) = firstBad cs := if_pos h

theorem firstBad_fail {ok : Bool} (h : ok = false) (code det : Nat) (cs : List (Bool × Nat × Nat)) :
    firstBad ((ok, code, det) :: cs) = some (code, det) := by
  simp [firstBad, h]

theorem firstBad_append (cs ds : List (Bool × Nat × Nat)) : firstBad (cs ++ ds) = (firstBad cs).or (firstBad ds) := by
  induction cs with
  | nil => rfl
  | cons c t ih =>
    obtain ⟨ok, code, det⟩ := c
    cases ok with
    | true => exact ih
    | false => rfl

theorem checked_fails (d : Dev) (q : QueueId) (h : Hdr) (op : Nat) {cs : List (Bool × Nat × Nat)} (f : Dev → Dev) {code det : Nat}
    (hb : firstBad cs = some (code, det)) : d.checked q h op cs f = d.reject q h op code det := by
  simp [Dev.checked, hb]

theorem checked_passes (d : Dev) (q : QueueId) (h : Hdr) (op : Nat) {cs : List (Bool × Nat × Nat)} (f : Dev → Dev) (hb : firstBad cs = none) :
    d.checked q h op cs f = f d := by
  simp [Dev.checked, hb]

theorem issue_free (d : Dev) (q : QueueId) (f : Dev → Dev) (h : (d.queue q).hold = .none) : d.issue q f = f d := if_pos h

end Sys2Proof.Machine
end

section
/-! DECODE as it is dispatched (file 05): its checks in their order, and the job that then waits for a thresher. -/

namespace Sys2Proof.Machine

/-- The checks of DECODE before those of its view set: source, destination, feed and header range (R95). -/
def Dev.decodeSourceChecks (d : Dev) (b : DecodeBody) : List (Bool × Nat × Nat) :=
  [(d.live b.src, 0x0111, 10), (d.live b.dst, 0x0111, 24), (!(d.feed b.feed).gone, 0x0102, 8),
   (decide (b.srcOff.toNat + 32 ≤ d.sizeOf b.src), 0x0A01, boundsDetail (d.sizeOf b.src) b.srcOff.toNat)]

/-- Those after it: the destination range (R95). -/
def Dev.decodeRangeChecks (d : Dev) (b : DecodeBody) : List (Bool × Nat × Nat) :=
  [(decide (b.dstOff.toNat < d.sizeOf b.dst), 0x0A01, b.dstOff.toNat % 2 ^ 24),
   (decide (b.dstOff.toNat + b.cap.toNat ≤ d.sizeOf b.dst), 0x0A01, d.sizeOf b.dst % 2 ^ 24)]

/-- The checks of a DECODE, in their order. -/
def Dev.decodeChecks (d : Dev) (b : DecodeBody) : List (Bool × Nat × Nat) :=
  d.decodeSourceChecks b ++ d.viewTargetChecks b ++ d.decodeRangeChecks b

/-- The definition that a DECODE writes into. -/
def Dev.decodeTarget (d : Dev) (b : DecodeBody) : Option VSet := if b.viewTarget then d.slotDef b.viewSet.toNat else none

/-- The job of an accepted DECODE. -/
def Dev.decodeJob (d : Dev) (b : DecodeBody) : Job :=
  .decode d.qs.nextId b (d.decodeTarget b) d.activeSet (d.activeSlot != some b.viewSet.toNat)

/-- The buffers that an accepted DECODE names. -/
def Dev.decodeRefs (d : Dev) (b : DecodeBody) : List BufRef :=
  [b.src, b.dst] ++ ((d.decodeTarget b).map (·.ref)).toList ++ (if b.viewTarget then (d.activeSet.map (·.ref)).toList else [])

/-- An accepted DECODE: its job waits, and holds its queue. -/
def Dev.queueDecode (d : Dev) (q : QueueId) (h : Hdr) (b : DecodeBody) : Dev :=
  ((d.dispatch q h 0x20 (d.decodeRefs b)).addWaiting (d.decodeJob b) none).hold q (.place d.qs.nextId)

theorem decode_eq (d : Dev) (q : QueueId) (h : Hdr) (b : DecodeBody) (hq : (d.queue q).hold = .none) :
    d.decode q h b = d.checked q h 0x20 (d.decodeChecks b) (fun e => e.queueDecode q h b) := issue_free d q _ hq

section Checks

variable (d : Dev) (b : DecodeBody)

theorem firstBad_decode_source {x : Nat × Nat} (h : firstBad (d.decodeSourceChecks b) = some x) : firstBad (d.decodeChecks b) = some x := by
  simp [Dev.decodeChecks, firstBad_append, h]

theorem firstBad_source_stale (hs : d.live b.src = false) : firstBad (d.decodeSourceChecks b) = some (0x0111, 10) :=
  firstBad_fail hs _ _ _

variable (hs : d.live b.src = true)

include hs

theorem firstBad_destination_stale (hd : d.live b.dst = false) : firstBad (d.decodeSourceChecks b) = some (0x0111, 24) := by
  rw [Dev.decodeSourceChecks, firstBad_pass hs, firstBad_fail hd]

variable (hd : d.live b.dst = true)

include hd

theorem firstBad_feed_gone (hf : (d.feed b.feed).gone = true) : firstBad (d.decodeSourceChecks b) = some (0x0102, 8) := by
  rw [Dev.decodeSourceChecks, firstBad_pass hs, firstBad_pass hd, firstBad_fail (by simp [hf])]

variable (hf : (d.feed b.feed).gone = false)

include hf

theorem firstBad_header_outside (hh : d.sizeOf b.src < b.srcOff.toNat + 32) :
    firstBad (d.decodeSourceChecks b) = some (0x0A01, boundsDetail (d.sizeOf b.src) b.srcOff.toNat) := by
  rw [Dev.decodeSourceChecks, firstBad_pass hs, firstBad_pass hd, firstBad_pass (by simp [hf]), firstBad_fail (by simp [hh])]

variable (hh : b.srcOff.toNat + 32 ≤ d.sizeOf b.src)

include hh

/-- Past the checks of the source, those of the view set and of the destination range decide. -/
theorem firstBad_decode_views :
    firstBad (d.decodeChecks b) = (firstBad (d.viewTargetChecks b)).or (firstBad (d.decodeRangeChecks b)) := by
  have hsrc : firstBad (d.decodeSourceChecks b) = none := by simp [Dev.decodeSourceChecks, firstBad, hs, hd, hf, hh]
  simp [Dev.decodeChecks, firstBad_append, hsrc]

/-- A DECODE whose checks up to the view set's pass is decided by its destination range. -/
theorem firstBad_decode_range (hv : firstBad (d.viewTargetChecks b) = none) :
    firstBad (d.decodeChecks b) = firstBad (d.decodeRangeChecks b) := by
  rw [firstBad_decode_views d b hs hd hf hh, hv, Option.none_or]

end Checks

section Views

variable (d : Dev) (b : DecodeBody)

theorem firstBad_views_untargeted (hv : b.viewTarget = false) : firstBad (d.viewTargetChecks b) = none := by
  simp [Dev.viewTargetChecks, hv, firstBad]

variable (hv : b.viewTarget = true)

include hv

theorem firstBad_views_slot (hn : 1 < b.viewSet.toNat) : firstBad (d.viewTargetChecks b) = some (0x0102, 28) := by
  rw [Dev.viewTargetChecks, if_pos hv, firstBad_fail (by simpa using hn)]

variable (hn : b.viewSet.toNat ≤ 1)

include hn

theorem firstBad_views_undefined (hu : d.slotDef b.viewSet.toNat = none) : firstBad (d.viewTargetChecks b) = some (0x0302, 28) := by
  rw [Dev.viewTargetChecks, if_pos hv, firstBad_pass (by simpa using hn), firstBad_fail (by simp [hu])]

theorem firstBad_views_first (w : VSet) (hw : d.slotDef b.viewSet.toNat = some w) (hc : w.count ≤ b.firstView.toNat) :
    firstBad (d.viewTargetChecks b) = some (0x0302, 30) := by
  rw [Dev.viewTargetChecks, if_pos hv, firstBad_pass (by simpa using hn), firstBad_pass (by simp [hw]), firstBad_fail (by simpa [hw] using hc)]

theorem firstBad_views_pass (w : VSet) (hw : d.slotDef b.viewSet.toNat = some w) (hc : b.firstView.toNat < w.count) :
    firstBad (d.viewTargetChecks b) = none := by
  rw [Dev.viewTargetChecks, if_pos hv, firstBad_pass (by simpa using hn), firstBad_pass (by simp [hw]), firstBad_pass (by simpa [hw] using hc)]
  rfl

end Views

/-- The view-set checks pass where DECODE names no view set, or a view of a defined slot. -/
theorem firstBad_views_of (d : Dev) (b : DecodeBody)
    (h : b.viewTarget = true → b.viewSet.toNat ≤ 1 ∧ ∃ w, d.slotDef b.viewSet.toNat = some w ∧ b.firstView.toNat < w.count) :
    firstBad (d.viewTargetChecks b) = none := by
  cases hv : b.viewTarget with
  | false => exact firstBad_views_untargeted d b hv
  | true =>
    obtain ⟨hn, w, hw, hc⟩ := h hv
    exact firstBad_views_pass d b hv hn w hw hc

section Ranges

variable (d : Dev) (b : DecodeBody)

theorem firstBad_range_start (h : d.sizeOf b.dst ≤ b.dstOff.toNat) :
    firstBad (d.decodeRangeChecks b) = some (0x0A01, b.dstOff.toNat % 2 ^ 24) :=
  firstBad_fail (by simpa using h) _ _ _

variable (h : b.dstOff.toNat < d.sizeOf b.dst)

include h

theorem firstBad_range_end (hc : d.sizeOf b.dst < b.dstOff.toNat + b.cap.toNat) :
    firstBad (d.decodeRangeChecks b) = some (0x0A01, d.sizeOf b.dst % 2 ^ 24) := by
  rw [Dev.decodeRangeChecks, firstBad_pass (by simpa using h), firstBad_fail (by simpa using hc)]

theorem firstBad_range_pass (hc : b.dstOff.toNat + b.cap.toNat ≤ d.sizeOf b.dst) : firstBad (d.decodeRangeChecks b) = none := by
  rw [Dev.decodeRangeChecks, firstBad_pass (by simpa using h), firstBad_pass (by simpa using hc)]
  rfl

end Ranges

/-! ### The job that waits (R97, R100) -/

theorem mem_addWaiting_self (d : Dev) (j : Job) (left : Option ThresherId) : (j, left) ∈ (d.addWaiting j left).intake.waiting := by
  simp [Dev.addWaiting]

theorem mem_addWaiting_of_mem (d : Dev) (j : Job) (left : Option ThresherId) {w : Job × Option ThresherId} (h : w ∈ d.intake.waiting) :
    w ∈ (d.addWaiting j left).intake.waiting := by
  simp only [Dev.addWaiting, List.mem_append, List.mem_filter, decide_eq_true_eq, h, true_and]
  omega

theorem Frame.queueDecode (d : Dev) (q : QueueId) (h : Hdr) (b : DecodeBody) : Frame [.qs, .intake] d (d.queueDecode q h b) := by
  intro p hp
  cases p with
  | qs | intake => exact absurd (by decide) hp
  | _ => rfl

/-- What an accepted DECODE leaves: its queue held, its job among those that wait, and nothing else of the queues, buffers, feeds, threshers
and slots touched. -/
structure DecodeQueued (d t : Dev) (q : QueueId) (b : DecodeBody) : Prop where
  held : (t.queue q).hold = .place d.qs.nextId
  others : ∀ r, r ≠ q → t.queue r = d.queue r
  bufs : t.qs.bufs = d.qs.bufs
  job : (d.decodeJob b, none) ∈ t.intake.waiting
  waiting : ∀ w ∈ d.intake.waiting, w ∈ t.intake.waiting
  feeds : t.intake.feeds = d.intake.feeds
  threshers : t.intake.threshers = d.intake.threshers
  slots : t.intake.slots = d.intake.slots

theorem queueDecode_queued (d : Dev) (q : QueueId) (h : Hdr) (b : DecodeBody) : DecodeQueued d (d.queueDecode q h b) q b where
  held := by rw [Dev.queueDecode, hold_queue_self _ _ _ (by simp)]
  others := fun r hr => hold_queue_ne _ q r _ hr
  bufs := rfl
  job := mem_addWaiting_self _ _ _
  waiting := fun _ hw => mem_addWaiting_of_mem _ _ _ hw
  feeds := rfl
  threshers := rfl
  slots := rfl

/-! ### The row of the table -/

section Row

variable {s : State} {q : QueueId} (h : Hdr) {b : DecodeBody} (hp : s.dev.powered = true) (hq : (s.dev.queue q).hold = .none)

include hp hq

theorem decode_rejects {code det : Nat} (hb : firstBad (s.dev.decodeChecks b) = some (code, det)) :
    Becomes (.decode q h b) s ({ s.dev with out := [] }.reject q h 0x20 code det) := by
  refine .of_runOn (exec_decode q h b s) hp ?_
  rw [decode_eq s.dev.begin q h b hq]
  exact checked_fails _ q h 0x20 _ hb

theorem decode_queues (hb : firstBad (s.dev.decodeChecks b) = none) :
    Runs (.decode q h b) s [.qs, .intake] (fun t => DecodeQueued s.dev t q b) := by
  have e : s.dev.begin.decode q h b = s.dev.begin.queueDecode q h b :=
    (decode_eq s.dev.begin q h b hq).trans (checked_passes _ q h 0x20 _ hb)
  have w := queueDecode_queued s.dev.begin q h b
  refine .of_runOn (exec_decode q h b s) hp ?_ ?_ <;> rw [e]
  · exact (Frame.begin _ s.dev).trans (Frame.queueDecode s.dev.begin q h b)
  · exact ⟨w.held, w.others, w.bufs, w.job, w.waiting, w.feeds, w.threshers, w.slots⟩

end Row

end Sys2Proof.Machine
end

section
/-! The placement of a waiting DECODE on a thresher (file 05). -/

namespace Sys2Proof.Machine

theorem mem_allThreshers (t : ThresherId) : t ∈ allThreshers :=
  List.mem_map.mpr ⟨t.toNat, List.mem_range.mpr t.isLt, BitVec.ofNat_toNat _ _ |>.trans (BitVec.setWidth_eq t)⟩

/-- A feed that some thresher holds is resident. -/
theorem residentOn_ne_none (d : Dev) {f : FeedId} {t : ThresherId} (h : (d.thresher t).resident = some f) : d.residentOn f ≠ none :=
  Option.isSome_iff_ne_none.mp (List.find?_isSome.mpr ⟨t, mem_allThreshers t, by simp [h]⟩)

/-- No feed waits to become ABSENT: none does (R391). -/
theorem dropFeeds_idle (d : Dev) (h : ∀ p ∈ d.intake.feeds, p.2.dropAt = none) : d.dropFeeds = d := by
  have hn : d.intake.feeds.filterMap (fun p => p.2.dropAt.map (fun b => (BitVec.ofNat 8 p.1, b))) = ([] : List (FeedId × Nat)) :=
    List.filterMap_eq_nil_iff.mpr (fun p hp => by rw [h p hp]; rfl)
  rw [Dev.dropFeeds, hn, List.foldl_nil]

/-- Where the feed is resident, a job only joins the thresher's queue (R100). -/
theorem giveJob_resident (d : Dev) (j : Job) (f : FeedId) (t : ThresherId) (h : (d.thresher t).resident = some f) :
    d.giveJob j f t = (d.unwait j.id).pushJob t j := by
  simp [Dev.giveJob, h]

theorem pushJob_thresher_self (d : Dev) (t : ThresherId) (j : Job) :
    (d.pushJob t j).thresher t = { d.thresher t with jobs := (d.thresher t).jobs ++ [j] } :=
  thresher_setThresher_self d t _ (thresher_ne_default_of_jobs (by simp))

theorem pushJob_thresher_ne (d : Dev) (t u : ThresherId) (j : Job) (h : u ≠ t) : (d.pushJob t j).thresher u = d.thresher u :=
  thresher_setThresher_ne d t u _ h

section Held

variable (d : Dev) (q : QueueId) {id : Nat} {x : Job × Option ThresherId} {f : FeedId} (hq : (d.queue q).hold = .place id)
  (hx : d.intake.waiting.find? (fun w => w.1.id == id) = some x) (hf : x.1.feed = some f)

include hq hx hf

theorem decodeJobPlace_no_thresher (hn : d.noThresher = true) :
    d.decodeJobPlace q = (((d.unwait id).hold q .none).failThresher x.1 0xFF 6).dropFeeds := by
  simp [Dev.decodeJobPlace, hq, hx, hf, hn]

variable (hn : d.noThresher = false)

include hn

/-- An earlier RESET of a feed that a thresher would first have to take goes first (R91). -/
theorem decodeJobPlace_reset_first (hr : d.residentOn f = none) (ha : d.actionFirst f id = true) : d.decodeJobPlace q = d := by
  simp [Dev.decodeJobPlace, hq, hx, hf, hn, hr, ha]

theorem decodeJobPlace_places {t : ThresherId} (he : ∀ w ∈ d.intake.waiting, w.1.feed = some f → id ≤ w.1.id)
    (hp : d.placeFor f = some t) (hr : (d.thresher t).resident = some f) :
    d.decodeJobPlace q = ((d.hold q .none).giveJob x.1 f t).dropFeeds := by
  have hw : d.intake.waiting.any (fun w => w.1.feed == some f && decide (w.1.id < id)) = false := by
    simp only [List.any_eq_false, Bool.and_eq_true, beq_iff_eq, decide_eq_true_eq, not_and, Nat.not_lt]
    exact he
  have hres : ¬ (d.residentOn f).isNone = true := by simp [residentOn_ne_none d hr]
  simp only [Dev.decodeJobPlace, hq, hx, hf, hn, hw, hres, hp]
  simp

end Held

section Row

variable {s : State} (q : QueueId) {id : Nat} {x : Job × Option ThresherId} {f : FeedId} (hp : s.dev.powered = true)
  (hq : (s.dev.queue q).hold = .place id) (hx : s.dev.intake.waiting.find? (fun w => w.1.id == id) = some x) (hf : x.1.feed = some f)

include hp hq hx hf

theorem decodeJobPlace_fails (hn : s.dev.noThresher = true) : Becomes (.decodeJobPlace q) s
    (((({ s.dev with out := [] } : Dev).unwait id).hold q .none).failThresher x.1 0xFF 6).dropFeeds :=
  .of_runOn (exec_decodeJobPlace q s) hp (decodeJobPlace_no_thresher s.dev.begin q hq hx hf hn)

theorem decodeJobPlace_waits (hn : s.dev.noThresher = false) (hr : s.dev.residentOn f = none) (ha : s.dev.actionFirst f id = true) :
    Becomes (.decodeJobPlace q) s { s.dev with out := [] } :=
  .of_runOn (exec_decodeJobPlace q s) hp (decodeJobPlace_reset_first s.dev.begin q hq hx hf hn hr ha)

theorem decodeJobPlace_joins (t0 : ThresherId) (hn : s.dev.noThresher = false)
    (he : ∀ w ∈ s.dev.intake.waiting, w.1.feed = some f → id ≤ w.1.id) (ht : s.dev.placeFor f = some t0)
    (hr : (s.dev.thresher t0).resident = some f) (hd : ∀ p ∈ s.dev.intake.feeds, p.2.dropAt = none) :
    Runs (.decodeJobPlace q) s [.qs, .intake] (fun t =>
      (t.thresher t0).jobs = (s.dev.thresher t0).jobs ++ [x.1] ∧ (∀ u, u ≠ t0 → t.thresher u = s.dev.thresher u) ∧
      t.intake.waiting = s.dev.intake.waiting.filter (fun w => w.1.id != x.1.id) ∧ t.intake.feeds = s.dev.intake.feeds ∧
      (∀ r, r ≠ q → t.queue r = s.dev.queue r) ∧ t.qs.cmds = s.dev.qs.cmds) := by
  have e : s.dev.begin.decodeJobPlace q = ((s.dev.begin.hold q .none).unwait x.1.id).pushJob t0 x.1 := by
    rw [decodeJobPlace_places s.dev.begin q hq hx hf hn he ht hr, giveJob_resident (s.dev.begin.hold q .none) x.1 f t0 hr]
    exact dropFeeds_idle _ hd
  have hfr : Frame [.qs, .intake] s.dev (((s.dev.begin.hold q .none).unwait x.1.id).pushJob t0 x.1) :=
    ((Frame.begin _ s.dev).trans ((Frame.qs s.dev.begin _).mono (by decide))).trans ((Frame.intake _ _).mono (by decide))
  refine .of_runOn (exec_decodeJobPlace q s) hp (e ▸ hfr) ?_
  rw [e]
  exact ⟨by rw [pushJob_thresher_self]; rfl, fun u hu => pushJob_thresher_ne _ t0 u _ hu, rfl, rfl,
    fun r hr => hold_queue_ne s.dev.begin q r _ hr, rfl⟩

end Row

/-! ### A match that resumes (R87, R105) -/

/-- A match that resumes writes its thresher's scoreboard, and nothing else of it. -/
theorem matchStallResume_cases (d : Dev) (t : ThresherId) (lane : BitVec 4) :
    d.matchStallResume t lane = d ∨
      ∃ sc, (d.thresher t).jobs ≠ [] ∧ d.matchStallResume t lane = d.setThresher t { d.thresher t with score := sc } := by
  unfold Dev.matchStallResume
  dsimp only
  split
  · next e =>
    split
    · next sc _ => exact .inr ⟨sc, fun h => by simp [h] at e, rfl⟩
    · exact .inl rfl
  · exact .inl rfl

theorem matchStallResume_scores {s : State} (hp : s.dev.powered = true) (t0 : ThresherId) (lane : BitVec 4) :
    Runs (.matchStallResume t0 lane) s [.intake] (fun t =>
      t.thresher t0 = { s.dev.thresher t0 with score := (t.thresher t0).score } ∧ (∀ u, u ≠ t0 → t.thresher u = s.dev.thresher u) ∧
      t.intake.feeds = s.dev.intake.feeds ∧ t.intake.waiting = s.dev.intake.waiting) := by
  obtain e | ⟨sc, hj, e⟩ := matchStallResume_cases s.dev.begin t0 lane
  · refine .of_runOn (exec_matchStallResume t0 lane s) hp ?_ ?_ <;> rw [e]
    · exact Frame.begin _ s.dev
    · exact ⟨rfl, fun _ _ => rfl, rfl, rfl⟩
  · have hself : (s.dev.begin.setThresher t0 { s.dev.begin.thresher t0 with score := sc }).thresher t0 =
        { s.dev.begin.thresher t0 with score := sc } := thresher_setThresher_self _ t0 _ (thresher_ne_default_of_jobs hj)
    refine .of_runOn (exec_matchStallResume t0 lane s) hp ?_ ?_ <;> rw [e]
    · exact (Frame.begin _ s.dev).trans (Frame.intake s.dev.begin _)
    · exact ⟨by rw [hself]; rfl, fun u hu => thresher_setThresher_ne s.dev.begin t0 u _ hu, rfl, rfl⟩

end Sys2Proof.Machine
end

section
/-! What engines read and store while no line is upset (file 15): reads leave every stored byte, and a row of stores leaves every byte that no
store of it covers. -/

namespace Sys2Proof.Machine

/-! ### Stores of an engine, with the reads between them -/

/-- Only DRAM and the record of raced DECODEs differ, no line is upset anew, and every byte that is kept reads as before. -/
structure StoresOnly (keeps : Nat → Prop) (d t : Dev) : Prop where
  form : ∃ dram races, t = { d with dram := dram, intake := { d.intake with races := races } }
  upsets : t.dram.upsets = d.dram.upsets
  byte : ∀ x, keeps x → t.byteAt x = d.byteAt x

theorem StoresOnly.refl (keeps : Nat → Prop) (d : Dev) : StoresOnly keeps d d := ⟨⟨d.dram, d.intake.races, rfl⟩, rfl, fun _ _ => rfl⟩

theorem StoresOnly.trans {keeps : Nat → Prop} {a b c : Dev} (h : StoresOnly keeps a b) (g : StoresOnly keeps b c) : StoresOnly keeps a c := by
  refine ⟨?_, g.upsets.trans h.upsets, fun x hx => (g.byte x hx).trans (h.byte x hx)⟩
  obtain ⟨_, _, rfl⟩ := h.form
  obtain ⟨dram, races, rfl⟩ := g.form
  exact ⟨dram, races, rfl⟩

theorem StoresOnly.mono {keeps keeps' : Nat → Prop} {d t : Dev} (h : StoresOnly keeps d t) (hk : ∀ x, keeps' x → keeps x) :
    StoresOnly keeps' d t := ⟨h.form, h.upsets, fun x hx => h.byte x (hk x hx)⟩

theorem StoresOnly.clean {keeps : Nat → Prop} {d t : Dev} (h : StoresOnly keeps d t) (hu : d.dram.upsets = []) : t.dram.upsets = [] :=
  h.upsets.trans hu

theorem StoresOnly.buf {keeps : Nat → Prop} {d t : Dev} (h : StoresOnly keeps d t) (n : U16) : t.buf n = d.buf n := by
  obtain ⟨_, _, rfl⟩ := h.form
  rfl

theorem StoresOnly.feed {keeps : Nat → Prop} {d t : Dev} (h : StoresOnly keeps d t) (f : FeedId) : t.feed f = d.feed f := by
  obtain ⟨_, _, rfl⟩ := h.form
  rfl

/-- Steps that each keep the bytes keep them one after another. -/
theorem StoresOnly.foldl {α : Type} {keeps : Nat → Prop} {d : Dev} (f : Dev → α → Dev) (l : List α)
    (h : ∀ e, StoresOnly keeps d e → ∀ x ∈ l, StoresOnly keeps e (f e x)) : StoresOnly keeps d (l.foldl f d) := by
  have key : ∀ (m : List α) (e : Dev), (∀ x ∈ m, x ∈ l) → StoresOnly keeps d e → StoresOnly keeps d (m.foldl f e) := by
    intro m
    induction m with
    | nil => exact fun _ _ he => he
    | cons x t ih => exact fun e hm he => ih _ (fun y hy => hm y (List.mem_cons_of_mem _ hy)) (he.trans (h e he x (hm x List.mem_cons_self)))
  exact key l d (fun _ hx => hx) (.refl keeps d)

/-- Writing a feed stores no byte. -/
theorem StoresOnly.setFeed {keeps : Nat → Prop} {d t : Dev} (h : StoresOnly keeps d t) (f : FeedId) (x : Feed) :
    StoresOnly keeps (d.setFeed f x) (t.setFeed f x) := by
  refine ⟨?_, h.upsets, h.byte⟩
  obtain ⟨dram, races, rfl⟩ := h.form
  exact ⟨dram, races, rfl⟩

theorem put_storesOnly (d : Dev) (cls src : Nat) (r : BufRef) (off : Nat) (bs : List Byte) (hu : d.dram.upsets = []) :
    StoresOnly (fun x => x < (d.buf r.handle).base + off ∨ (d.buf r.handle).base + off + bs.length ≤ x) d (d.put cls src r off bs) := by
  by_cases hb : bs = []
  · subst hb
    exact .refl _ d
  · rw [put_clean d cls src r off bs hu hb]
    obtain ⟨chans, picks, e⟩ := queueWrite_queuesOnly (d.writeMem ((d.buf r.handle).base + off) bs) cls src ((d.buf r.handle).base + off) bs.length
    rw [e]
    exact ⟨⟨_, _, rfl⟩, rfl, byteAt_writeMem_outside d _ bs⟩

/-! ### Reads (R317, R325) -/

/-- Only the requests of the memory controller differ: its queues, its choices, and the reads asked for and issued ahead. -/
def RequestsOnly (d t : Dev) : Prop :=
  ∃ chans picks asked issued, t = { d with dram := { d.dram with chans := chans, picks := picks, asked := asked, issued := issued } }

theorem RequestsOnly.refl (d : Dev) : RequestsOnly d d := ⟨d.dram.chans, d.dram.picks, d.dram.asked, d.dram.issued, rfl⟩

theorem RequestsOnly.trans {a b c : Dev} (h : RequestsOnly a b) (g : RequestsOnly b c) : RequestsOnly a c := by
  obtain ⟨_, _, _, _, rfl⟩ := h
  obtain ⟨w, x, y, z, rfl⟩ := g
  exact ⟨w, x, y, z, rfl⟩

theorem QueuesOnly.requests {d t : Dev} (h : QueuesOnly d t) : RequestsOnly d t := by
  obtain ⟨chans, picks, rfl⟩ := h
  exact ⟨chans, picks, d.dram.asked, d.dram.issued, rfl⟩

/-- A request holds no byte. -/
theorem RequestsOnly.storesOnly {d t : Dev} (h : RequestsOnly d t) (keeps : Nat → Prop) : StoresOnly keeps d t := by
  obtain ⟨_, _, _, _, rfl⟩ := h
  exact ⟨⟨_, d.intake.races, rfl⟩, rfl, fun _ _ => rfl⟩

theorem serveUntil_requestsOnly (d : Dev) (ch : Nat) (r : MemReq) (n : Nat) : RequestsOnly d (d.serveUntil ch r n) := by
  induction n generalizing d with
  | zero => exact .refl d
  | succ n ih =>
    have hi := (issue1_queuesOnly d ch false).requests
    rw [Dev.serveUntil]
    split
    · exact .refl d
    · split
      · next x d1 e =>
        rw [e] at hi
        refine (hi.trans ?_).trans (ih _)
        split
        · exact ⟨_, _, _, _, rfl⟩
        · exact .refl d1
      · next d1 e =>
        rw [e] at hi
        exact hi

theorem finishDrain_queuesOnly (d : Dev) (ch : Nat) : QueuesOnly d (d.finishDrain ch) := by
  unfold Dev.finishDrain
  split
  · exact issueWrites_queuesOnly d ch _
  · exact .refl d

theorem readLines_requestsOnly (d : Dev) (cls src : Nat) (ref : BufRef) (off n : Nat) : RequestsOnly d (d.readLines cls src ref off n) := by
  unfold Dev.readLines
  induction linesOf ((d.buf ref.handle).base + off) n generalizing d with
  | nil => exact .refl d
  | cons line ls ih =>
    have ha : RequestsOnly d (d.askLine cls src ref line).2 := ⟨_, _, _, _, rfl⟩
    have hs : ∀ (e : Dev) (r : MemReq), RequestsOnly e (e.serveRead r) := fun e r =>
      (finishDrain_queuesOnly e _).requests.trans (serveUntil_requestsOnly _ _ r _)
    exact (ha.trans (hs _ _)).trans (ih _)

/-- A source that meets no upset line only asks for what it reads. -/
theorem fetchBuf_requestsOnly (d : Dev) (cls src : Nat) (r : BufRef) (off n : Nat) (hu : d.dram.upsets = []) :
    RequestsOnly d (d.fetchBuf cls src r off n).2 := by
  have h := readLines_requestsOnly d cls src r off n
  have hc : (d.readLines cls src r off n).dram.upsets = [] := by
    obtain ⟨_, _, _, _, e⟩ := h
    rw [e]
    exact hu
  rw [Dev.fetchBuf, checkBuf_clean _ _ _ _ _ hc]
  exact h

theorem meetUpsets_none (d : Dev) (src : Nat) : (d.meetUpsets src []).2 = d := rfl

/-- Everything that a sheaf reads, its own output included, where no line is upset (R104, R325). -/
theorem readAll_storesOnly (keeps : Nat → Prop) (d : Dev) (t : ThresherId) (id : Nat) (b : DecodeBody) (target active : Option VSet)
    (pending : Bool) (v : Verdict) (hu : d.dram.upsets = []) : StoresOnly keeps d (d.readAll t id b target active pending v) := by
  have hs : StoresOnly keeps d (d.readSource id b t) := (fetchBuf_requestsOnly d 2 _ _ _ _ hu).storesOnly keeps
  have hrefs : ∀ (e : Dev) (c : RunCtx), e.dram.upsets = [] → StoresOnly keeps e (e.readRefs c v.recs t) := fun e c he =>
    .foldl _ _ (fun e1 h1 r _ => .foldl _ _ (fun e2 h2 x _ =>
      (fetchBuf_requestsOnly e2 2 _ _ _ _ (h2.clean (h1.clean he))).storesOnly keeps))
  have hback : ∀ e : Dev, e.dram.upsets = [] → (e.meetUpsets (thresherSrc t) (e.backUpsets b v.dec)).2 = e := by
    intro e he
    rw [Dev.backUpsets, he, List.filter_nil, meetUpsets_none]
  cases target with
  | none =>
    have e : d.readAll t id b none active pending v = d.readSource id b t := hback _ (hs.clean hu)
    exact e ▸ hs
  | some w =>
    have h2 := hs.trans (hrefs _ { target := w, active := active, pending := pending } (hs.clean hu))
    have e : d.readAll t id b (some w) active pending v =
        (d.readSource id b t).readRefs { target := w, active := active, pending := pending } v.recs t := hback _ (h2.clean hu)
    exact e ▸ h2

end Sys2Proof.Machine
end

section
/-! A sheaf that succeeds into a view set (files 05, 06): the bytes it stores, the sails it marks, and the end of its job. -/

namespace Sys2Proof.Machine

/-! ### The samples of a tile (R120, R132) -/

theorem sampleBytes_length {fmt : Nat} (h : fmt = 4 ∨ fmt = 5) (r g b : Nat) : (sampleBytes fmt r g b).length = sampleSize fmt := by
  obtain rfl | rfl := h <;> simp [sampleBytes, sampleSize, leBytes_length]

/-- A byte lies outside the rows of a tile of a view set. -/
def outsideTile (d : Dev) (w : VSet) (r : TileRec) (x : Nat) : Prop :=
  ∀ y < 64, x < (d.buf w.ref.handle).base + w.tileRow r.view r.tile y ∨
    (d.buf w.ref.handle).base + w.tileRow r.view r.tile y + 64 * sampleSize w.fmt ≤ x

/-- A row of samples of a tile, as it is stored. -/
theorem rowBytes_length {fmt : Nat} (h : fmt = 4 ∨ fmt = 5) (r g b : Nat → Nat) (n : Nat) :
    ((List.range n).flatMap (fun x => sampleBytes fmt (r x) (g x) (b x))).length = n * sampleSize fmt := by
  simp only [List.length_flatMap, sampleBytes_length h, List.map_const', List.sum_replicate_nat, List.length_range]

theorem reconTile_storesOnly (d : Dev) (src : Nat) (c : RunCtx) (r : TileRec) (hf : c.target.fmt = 4 ∨ c.target.fmt = 5)
    (hu : d.dram.upsets = []) : StoresOnly (outsideTile d c.target r) d (d.reconTile src c r) := by
  unfold Dev.reconTile
  dsimp only
  refine StoresOnly.foldl _ _ (fun e he y hy => ?_)
  refine (put_storesOnly e 2 src _ _ _ (he.clean hu)).mono (fun x hx => ?_)
  rw [he.buf, rowBytes_length hf]
  exact hx y (List.mem_range.mp hy)

/-! ### Marks (R137, R199) -/

/-- Only sails that a test picks may be marked; nothing outside the sails differs. -/
structure MarksOnly (picks : SailId → Prop) (d t : Dev) : Prop where
  form : ∃ push, t = { d with push := push }
  sail : ∀ y, ¬ picks y → t.sail y = d.sail y

theorem MarksOnly.refl (picks : SailId → Prop) (d : Dev) : MarksOnly picks d d := ⟨⟨d.push, rfl⟩, fun _ _ => rfl⟩

theorem MarksOnly.trans {picks : SailId → Prop} {a b c : Dev} (h : MarksOnly picks a b) (g : MarksOnly picks b c) : MarksOnly picks a c := by
  refine ⟨?_, fun y hy => (g.sail y hy).trans (h.sail y hy)⟩
  obtain ⟨_, rfl⟩ := h.form
  obtain ⟨push, rfl⟩ := g.form
  exact ⟨push, rfl⟩

theorem markPlots_marksOnly {picks : SailId → Prop} (d : Dev) (i : SailId) (mask : BitVec 2048) (hi : picks i) :
    MarksOnly picks d (d.markPlots i mask) := by
  unfold Dev.markPlots
  split
  · exact .refl picks d
  · dsimp only
    split
    · exact .refl picks d
    · exact ⟨⟨_, rfl⟩, fun y hy => sail_setSail_ne d i y _ (fun e => hy (e ▸ hi))⟩

theorem markSails_marksOnly (d : Dev) (p : SailId → Lens → Bool) :
    MarksOnly (fun y => ∃ l, d.lensOf y = some l ∧ p y l = true) d (d.markSails p) := by
  have key : ∀ (is : List SailId) (e : Dev), (∀ i ∈ is, ∃ l, d.lensOf i = some l ∧ p i l = true) →
      MarksOnly (fun y => ∃ l, d.lensOf y = some l ∧ p y l = true) e (is.foldl (fun d s => d.markSail s) e) := by
    intro is
    induction is with
    | nil => exact fun e _ => .refl _ e
    | cons i t ih =>
      exact fun e hi => (markPlots_marksOnly e i _ (hi i List.mem_cons_self)).trans (ih _ (fun j hj => hi j (List.mem_cons_of_mem _ hj)))
  refine key _ d (fun i hi => ?_)
  have hp := (List.mem_filter.mp hi).2
  split at hp
  · next l e => exact ⟨l, e, hp⟩
  · cases hp

/-! ### The end of a job (R100, R111) -/

theorem stamp_pos (d : Dev) : d.stamp ≠ 0 := Nat.succ_ne_zero _

theorem settleGroup_staying (d : Dev) (p : Nat) (h : (d.partn p).leaving = false) : d.settleGroup p = d := by
  simp [Dev.settleGroup, h]

/-- No job waits: none is placed. -/
theorem placeEncodes_idle (d : Dev) (h : d.intake.waiting = []) : d.placeEncodes = d := by
  simp [Dev.placeEncodes, h]

/-- The end of a DECODE on a thresher that stays, while no job waits, no group leaves service and no feed is to be dropped: the thresher goes on
to its next job. -/
theorem endJob_staying (d : Dev) (t : ThresherId) {j : Job} (hj : (d.thresher t).jobs.head? = some j) (hf : j.feed.isSome = true)
    (hl : (d.thresher t).leaving = false) (hp : ∀ p, (d.partn p).leaving = false) (hd : ∀ p ∈ d.intake.feeds, p.2.dropAt = none)
    (hw : d.intake.waiting = []) :
    d.endJob t = d.setThresher t { d.thresher t with jobs := (d.thresher t).jobs.drop 1, lastJob := d.stamp, score := [] } := by
  have e : d.endJob t = ((d.setThresher t { d.thresher t with
      jobs := (d.thresher t).jobs.drop 1, lastJob := d.stamp, score := [] }).settleGroup (8 + t.toNat / 4)).dropFeeds.placeEncodes := by
    simp [Dev.endJob, hj, hf, hl]
  rw [e, settleGroup_staying _ _ (by simpa using hp _), dropFeeds_idle _ (by simpa using hd), placeEncodes_idle _ (by simpa using hw)]

/-! ### Feeds that a MAST reset drops (R391) -/

/-- Where no listed feed is to be dropped, no feed is. -/
theorem feed_dropAt_none (d : Dev) (h : ∀ p ∈ d.intake.feeds, p.2.dropAt = none) (f : FeedId) : (d.feed f).dropAt = none := by
  obtain e | hm := SMap.get_default_or_mem ({} : Feed) d.intake.feeds f.toNat
  · rw [Dev.feed, e]
  · exact h _ hm

/-- Writing a feed that is not to be dropped leaves none that is. -/
theorem setFeed_dropAt_none (d : Dev) (f : FeedId) (x : Feed) (h : ∀ p ∈ d.intake.feeds, p.2.dropAt = none) (hx : x.dropAt = none) :
    ∀ p ∈ (d.setFeed f x).intake.feeds, p.2.dropAt = none := by
  intro p hp
  obtain hm | rfl := SMap.mem_set hp
  · exact h p hm
  · exact hx

/-! ### The completion of a command -/

/-- Completing a command may count a dropped event, and changes no other value (R40). -/
theorem val_finish_ne (d : Dev) (i v k : Nat) (hk : k ≠ 0x230007) : (d.finish i v).val k = d.val k := by
  unfold Dev.finish
  split
  · rfl
  · split
    · exact val_event_ne _ _ _ _ k hk
    · rfl

/-- A completed command is no longer incomplete. -/
theorem finish_cmds (d : Dev) (i v : Nat) : ∀ c ∈ (d.finish i v).qs.cmds, c.id ≠ i := by
  have hr : ∀ c ∈ (d.retireCmd i).qs.cmds, c.id ≠ i := fun c hc => by simpa using (List.mem_filter.mp hc).2
  unfold Dev.finish
  split
  · next h => exact fun c hc => by simpa using List.find?_eq_none.mp h c hc
  · split
    · rw [Dev.event_qs]
      exact hr
    · exact hr

theorem Frame.bumpN (d : Dev) (k n : Nat) : Frame [.dict] d (d.bumpN k n) := by
  intro p hp
  cases p with
  | dict => exact absurd (List.mem_singleton_self _) hp
  | _ => rfl

theorem val_bumpN_self (d : Dev) (k n : Nat) (h : SMap.rising d.dict.vals = true) :
    (d.bumpN k n).val k = satAdd 0xFFFFFFFF (d.val k) n := val_setVal_self d k _ h

theorem val_bumpN_ne (d : Dev) (k n j : Nat) (h : j ≠ k) : (d.bumpN k n).val j = d.val j := val_setVal_ne d k _ j h

theorem rising_bumpN (d : Dev) (k n : Nat) (h : SMap.rising d.dict.vals = true) : SMap.rising (d.bumpN k n).dict.vals = true :=
  SMap.rising_set _ _ _ _ h

/-! ### The sheaf's step (R98) -/

section Run

variable (d : Dev) (t : ThresherId) (id : Nat) (b : DecodeBody) (w : VSet) (active : Option VSet) (pending : Bool) (v : Verdict)

/-- A byte that a sheaf decoded into a view set does not write: outside its output and the rows of the tiles that it addresses. -/
def untouched (x : Nat) : Prop :=
  (x < (d.buf b.dst.handle).base + b.dstOff.toNat ∨ (d.buf b.dst.handle).base + b.dstOff.toNat + v.dec.out.length ≤ x) ∧
  ∀ r ∈ v.recs, outsideTile d w r x

/-- The feed after the sheaf (R98, R104). -/
def Dev.fedFeed : Feed :=
  { d.feed b.feed with
    state := .ready, ctx := (d.feed b.feed).ctx.after (sheafHdr (d.sheafBytes id b 32)) v.dec, changed := true }

/-- The sheaf has been read, and its output stored. -/
def Dev.outputStored : Dev := (d.readAll t id b (some w) active pending v).put 2 (thresherSrc t) b.dst b.dstOff.toNat v.dec.out

/-- Its feed and its tiles are written too. -/
def Dev.sheafStored : Dev :=
  v.recs.foldl (fun (e : Dev) (r : TileRec) => e.reconTile (thresherSrc t) { target := w, active := active, pending := pending } r)
    ((d.outputStored t id b w active pending v).feedAfter b.feed (sheafHdr (d.sheafBytes id b 32)) v.dec)

/-- Its tiles and the sheaf are counted, and its command completes. -/
def Dev.sheafCounted : Dev :=
  (((d.sheafStored t id b w active pending v).bumpN 0x212003 v.recs.length).bump 0x211005).finish id (sheafHdr (d.sheafBytes id b 32)).outLen

/-- A sheaf that no other writer disturbed marks only where its slot is ACTIVE (R99, R137). -/
theorem sheafOk_undisturbed (hr : d.intake.raced id = false) (hv : d.judge id b (some w) active pending = v) :
    d.sheafOk t id b (some w) active pending =
      if b.viewTarget ∧ (d.sheafCounted t id b w active pending v).activeSlot = some b.viewSet.toNat then
        (d.sheafCounted t id b w active pending v).markSails (fun _ l => v.recs.any (fun r => l.uses r.view))
      else d.sheafCounted t id b w active pending v := by
  subst hv
  simp only [Dev.sheafOk, hr]
  rfl

theorem outputStored_storesOnly (hu : d.dram.upsets = []) :
    StoresOnly (untouched d b w v) d (d.outputStored t id b w active pending v) := by
  have hread := readAll_storesOnly (untouched d b w v) d t id b (some w) active pending v hu
  refine hread.trans ((put_storesOnly _ 2 (thresherSrc t) b.dst b.dstOff.toNat v.dec.out (hread.clean hu)).mono (fun x hx => ?_))
  rw [hread.buf]
  exact hx.1

theorem sheafStored_storesOnly (hf : w.fmt = 4 ∨ w.fmt = 5) (hu : d.dram.upsets = []) :
    StoresOnly (untouched d b w v) (d.setFeed b.feed (d.fedFeed id b v)) (d.sheafStored t id b w active pending v) := by
  have hout := outputStored_storesOnly d t id b w active pending v hu
  have hfeed := hout.setFeed b.feed (d.fedFeed id b v)
  have e : (d.outputStored t id b w active pending v).feedAfter b.feed (sheafHdr (d.sheafBytes id b 32)) v.dec =
      (d.outputStored t id b w active pending v).setFeed b.feed (d.fedFeed id b v) := by
    rw [Dev.feedAfter, hout.feed]
    rfl
  rw [Dev.sheafStored, e]
  refine hfeed.trans (.foldl _ _ (fun e he r hr => ?_))
  refine (reconTile_storesOnly e (thresherSrc t) ⟨w, active, pending⟩ r hf (he.clean (hfeed.clean hu))).mono (fun x hx => ?_)
  have hb : e.buf w.ref.handle = d.buf w.ref.handle := (he.buf _).trans (hfeed.buf _)
  rw [outsideTile, hb]
  exact hx.2 r hr

end Run

/-- What a sheaf decoded into a view set leaves, its job not yet ended: no byte changed but its own, its tiles counted, its feed written, its
command gone, marks only on sails that use a view of its tiles, and none where its slot is not ACTIVE (R98, R137). -/
structure SheafDone (d : Dev) (id : Nat) (b : DecodeBody) (w : VSet) (v : Verdict) (c : Dev) : Prop where
  frame : Frame (eventParts ++ [.qs, .intake, .dram, .push]) d c
  byte : ∀ a, untouched d b w v a → c.byteAt a = d.byteAt a
  tiles : c.val 0x212003 = satAdd 0xFFFFFFFF (d.val 0x212003) v.recs.length
  sheaves : c.val 0x211005 = satAdd 0xFFFFFFFF (d.val 0x211005) 1
  cmds : ∀ r ∈ c.qs.cmds, r.id ≠ id
  bufs : c.qs.bufs = d.qs.bufs
  intake : ∃ races, c.intake = { (d.setFeed b.feed (d.fedFeed id b v)).intake with races := races }
  push : d.activeSlot ≠ some b.viewSet.toNat → c.push = d.push
  sail : ∀ y, (∀ l, d.lensOf y = some l → ∀ r ∈ v.recs, l.uses r.view = false) → c.sail y = d.sail y

/-- Stores, then the counters, then the completion. -/
theorem StoresOnly.sheafDone {d u : Dev} {id : Nat} {b : DecodeBody} {w : VSet} {v : Verdict}
    (h : StoresOnly (untouched d b w v) (d.setFeed b.feed (d.fedFeed id b v)) u) (outLen : Nat) (hv : SMap.rising d.dict.vals = true) :
    SheafDone d id b w v (((u.bumpN 0x212003 v.recs.length).bump 0x211005).finish id outLen) := by
  obtain ⟨dram, races, e⟩ := h.form
  have hd : u.dict = d.dict := by rw [e]; rfl
  have hval : ∀ k, u.val k = d.val k := val_of_same hd (by rw [e]; rfl)
  have hr : SMap.rising u.dict.vals = true := hd ▸ hv
  have hframe : Frame [.intake, .dram] d u := by
    rw [e]
    exact ((Frame.intake d _).mono (by decide)).trans (((Frame.dram _ dram).mono (by decide)).trans ((Frame.intake _ _).mono (by decide)))
  have hpush : (((u.bumpN 0x212003 v.recs.length).bump 0x211005).finish id outLen).push = d.push := by rw [Dev.finish_push, e]; rfl
  refine ⟨?_, fun a ha => ?_, ?_, ?_, finish_cmds _ id outLen, ?_, ?_, fun _ => hpush, fun y _ => ?_⟩
  · exact ((hframe.mono (by decide)).trans ((Frame.bumpN u 0x212003 _).mono (by decide))).trans
      (((Frame.bump _ 0x211005).mono (by decide)).trans ((Frame.finish _ id outLen).mono (by decide)))
  · rw [Dev.finish_byteAt, Dev.bump_byteAt, Dev.bumpN_byteAt]
    exact h.byte a ha
  · rw [val_finish_ne _ _ _ _ (by decide), val_bump_ne _ _ _ (by decide), val_bumpN_self u _ _ hr, hval]
  · rw [val_finish_ne _ _ _ _ (by decide), val_bump_self _ _ (rising_bumpN u _ _ hr), val_bumpN_ne u _ _ _ (by decide), hval]
  · rw [Dev.finish_qs_bufs, e]
    rfl
  · obtain ⟨_, _, _, _, _, _, _, _, races', hform⟩ := Dev.finish_form ((u.bumpN 0x212003 v.recs.length).bump 0x211005) id outLen
    rw [hform, e]
    exact ⟨races', rfl⟩
  · rw [Dev.sail, hpush]
    rfl

theorem activeSlot_of_same {d t : Dev} (hc : t.comp = d.comp) (hf : t.fuses = d.fuses) (hd : t.intake.dropSelect = d.intake.dropSelect)
    (hs : t.intake.slots = d.intake.slots) : t.activeSlot = d.activeSlot := by
  unfold Dev.activeSlot Dev.tval Dev.vslot
  rw [hc, hf, hd, hs]

namespace SheafDone

variable {d c : Dev} {id : Nat} {b : DecodeBody} {w : VSet} {v : Verdict} (h : SheafDone d id b w v c)

include h

theorem activeSlot_eq : c.activeSlot = d.activeSlot := by
  obtain ⟨races, e⟩ := h.intake
  exact activeSlot_of_same (h.frame .comp (by decide)) (h.frame .fuses (by decide)) (by rw [e]; rfl) (by rw [e]; rfl)

theorem lensOf_eq (y : SailId) : c.lensOf y = d.lensOf y := by
  have e : c.comp = d.comp := h.frame .comp (by decide)
  rw [Dev.lensOf, e]
  rfl

theorem partn_eq (p : Nat) : c.partn p = d.partn p := by
  have e : c.flt = d.flt := h.frame .flt (by decide)
  have f : c.fuses = d.fuses := h.frame .fuses (by decide)
  rw [Dev.partn, e, f]
  rfl

theorem thresher_eq (t : ThresherId) : c.thresher t = d.thresher t := by
  obtain ⟨races, e⟩ := h.intake
  rw [Dev.thresher, e]
  rfl

theorem feed_ready : (c.feed b.feed).state = .ready := by
  obtain ⟨races, e⟩ := h.intake
  have hx : d.fedFeed id b v ≠ {} := fun hx => by simpa [Dev.fedFeed] using congrArg Feed.state hx
  have hself := feed_setFeed_self d b.feed (d.fedFeed id b v) hx
  rw [Dev.feed, e]
  exact congrArg Feed.state hself

/-- No feed is to be dropped after the sheaf, where none was before it. -/
theorem feeds_dropAt (hd : ∀ p ∈ d.intake.feeds, p.2.dropAt = none) : ∀ p ∈ c.intake.feeds, p.2.dropAt = none := by
  obtain ⟨races, e⟩ := h.intake
  rw [e]
  exact setFeed_dropAt_none d b.feed (d.fedFeed id b v) hd (feed_dropAt_none d hd b.feed)

/-- The marks of a sheaf (R137). -/
theorem marked (picked : SailId → Lens → Bool) (hp : ∀ y l, picked y l = true → ∃ r ∈ v.recs, l.uses r.view = true)
    (ha : d.activeSlot = some b.viewSet.toNat) : SheafDone d id b w v (c.markSails picked) := by
  have hm := markSails_marksOnly c picked
  obtain ⟨push, e⟩ := hm.form
  have hs := hm.sail
  rw [e] at hs ⊢
  refine ⟨h.frame.trans ((Frame.push c push).mono (by decide)), h.byte, h.tiles, h.sheaves, h.cmds, h.bufs, h.intake, fun hn => absurd ha hn,
    fun y hy => (hs y ?_).trans (h.sail y hy)⟩
  rintro ⟨l, hl, hpick⟩
  obtain ⟨r, hr, hu⟩ := hp y l hpick
  exact Bool.false_ne_true ((hy l (h.lensOf_eq y ▸ hl) r hr).symm.trans hu)

/-- Which DECODEs another writer has disturbed is no more than a record. -/
theorem raced (races : List (Nat × List Byte)) : SheafDone d id b w v { c with intake := { c.intake with races := races } } := by
  refine ⟨h.frame.trans ((Frame.intake c _).mono (by decide)), h.byte, h.tiles, h.sheaves, h.cmds, h.bufs, ?_, h.push, h.sail⟩
  obtain ⟨_, e⟩ := h.intake
  exact ⟨races, by rw [e]⟩

end SheafDone

/-- A sheaf that no other writer disturbed, up to the end of its job. -/
theorem sheafOk_done (d : Dev) (t : ThresherId) {id : Nat} {b : DecodeBody} {w : VSet} {active : Option VSet} {pending : Bool} {v : Verdict}
    (hr : d.intake.raced id = false) (hv : d.judge id b (some w) active pending = v) (hw : w.fmt = 4 ∨ w.fmt = 5)
    (hu : d.dram.upsets = []) (hvals : SMap.rising d.dict.vals = true) : SheafDone d id b w v (d.sheafOk t id b (some w) active pending) := by
  have hc : SheafDone d id b w v (d.sheafCounted t id b w active pending v) :=
    (sheafStored_storesOnly d t id b w active pending v hw hu).sheafDone _ hvals
  rw [sheafOk_undisturbed d t id b w active pending v hr hv]
  split
  · next ha => exact hc.marked _ (fun y l hl => by simpa using hl) (hc.activeSlot_eq ▸ ha.2)
  · exact hc

/-! ### The row of the table -/

/-- A sheaf that decodes without a fault succeeds, and its job ends. -/
theorem sheafSuccess_ok (d : Dev) (t : ThresherId) {id : Nat} {b : DecodeBody} {target active : Option VSet} {pending : Bool}
    (hj : (d.thresher t).jobs.head? = some (.decode id b target active pending)) (hv : (d.judge id b target active pending).fault = none)
    (hf : (d.thresher t).fenced = false) (ha : d.actionFirst b.feed id = false) :
    d.sheafSuccess t = ((d.sheafOk t id b target active pending).ownWrites b.feed d.intake).endJob t := by
  simp [Dev.sheafSuccess, hj, hv, hf, ha]

/-- The end of the job of a sheaf that is done (R98, R100). -/
theorem SheafDone.endJob {d c : Dev} {id : Nat} {b : DecodeBody} {w : VSet} {v : Verdict} (h : SheafDone d id b w v c) (t : ThresherId) {j : Job}
    (hj : (d.thresher t).jobs.head? = some j) (hf : j.feed.isSome = true) (hl : (d.thresher t).leaving = false)
    (hp : ∀ p, (d.partn p).leaving = false) (hd : ∀ p ∈ d.intake.feeds, p.2.dropAt = none) (hw : d.intake.waiting = []) :
    c.endJob t = c.setThresher t { d.thresher t with jobs := (d.thresher t).jobs.drop 1, lastJob := c.stamp, score := [] } := by
  have hwait : c.intake.waiting = [] := by
    obtain ⟨races, e⟩ := h.intake
    rw [e]
    exact hw
  rw [← h.thresher_eq] at hj hl ⊢
  exact endJob_staying c t hj hf hl (fun p => h.partn_eq p ▸ hp p) (h.feeds_dropAt hd) hwait

section Success

variable {s : State} (hp : s.dev.powered = true) (t0 : ThresherId) {id : Nat} {b : DecodeBody} {w : VSet} {active : Option VSet} {pending : Bool}
  (hj : (s.dev.thresher t0).jobs.head? = some (.decode id b (some w) active pending)) (hw : w.fmt = 4 ∨ w.fmt = 5)
  (hv : (s.dev.judge id b (some w) active pending).fault = none) (hf : (s.dev.thresher t0).fenced = false)
  (hl : (s.dev.thresher t0).leaving = false) (ha : s.dev.actionFirst b.feed id = false) (hwait : s.dev.intake.waiting = [])
  (hd : ∀ p ∈ s.dev.intake.feeds, p.2.dropAt = none) (hr : s.dev.intake.raced id = false) (hu : s.dev.dram.upsets = [])
  (hpart : ∀ p, (s.dev.partn p).leaving = false) (hvals : SMap.rising s.dev.dict.vals = true)

include hp hj hw hv hf hl ha hwait hd hr hu hpart hvals

/-- The sheaf is done, and its thresher goes on to its next job. -/
theorem sheafSuccess_intoViews : Runs (.sheafSuccess t0) s (eventParts ++ [.qs, .intake, .dram, .push]) (fun t =>
    ∃ c, SheafDone s.dev id b w (s.dev.judge id b (some w) active pending) c ∧
      t = c.setThresher t0 { s.dev.thresher t0 with jobs := (s.dev.thresher t0).jobs.drop 1, lastJob := c.stamp, score := [] }) := by
  have hc := (sheafOk_done s.dev.begin t0 (v := s.dev.judge id b (some w) active pending) hr rfl hw hu hvals).raced
    (((s.dev.begin.sheafOk t0 id b (some w) active pending).ownWrites b.feed s.dev.begin.intake).intake.races)
  have e : s.dev.begin.sheafSuccess t0 = _ :=
    (sheafSuccess_ok s.dev.begin t0 hj hv hf ha).trans (hc.endJob t0 hj rfl hl hpart hd hwait)
  refine .of_runOn (exec_sheafSuccess t0 s) hp ?_ ?_ <;> rw [e]
  · exact ((Frame.begin _ s.dev).trans hc.frame).trans ((Frame.intake _ _).mono (by decide))
  · exact ⟨_, ⟨(Frame.begin _ s.dev).trans hc.frame, hc.byte, hc.tiles, hc.sheaves, hc.cmds, hc.bufs, hc.intake, hc.push, hc.sail⟩, rfl⟩

end Success

/-- Settles O22: the checks of DECODE in their order, its placement, then the sheaf that succeeds and the match that resumes. -/
theorem decodeIsCheckedAndPlaced : Obligations.DecodeIsCheckedAndPlaced := by
  intro s q h b hp
  refine ⟨fun hq => ⟨fun hs => ?_, fun hs hd => ?_, fun hs hd hf => ?_, fun hs hd hf hh => ?_, fun hs hd hf hh hv => ⟨fun hn => ?_,
    fun hn hu => ?_, fun w hn hw hc => ?_⟩, fun hs hd hf hh hv => ⟨fun hr => ?_, fun hr hc => ?_⟩, fun w hs hd hf hh hv hn hw hc hr he => ?_,
    fun hs hd hf hh hv hr he => ?_⟩, fun id x t0 hq hx hf hn he ht hr hd => ?_, fun id x hq hx hf hn => ?_,
    fun id x hq hx hf hn hr ha => ?_, fun t0 id w active pending hj hv hw hfault hf hl ha hwait hd hr hu hpart _ hvals => ?_,
    fun t0 lane => ?_⟩
  · exact decode_rejects h hp hq (firstBad_decode_source _ b (firstBad_source_stale _ b hs))
  · exact decode_rejects h hp hq (firstBad_decode_source _ b (firstBad_destination_stale _ b hs hd))
  · exact decode_rejects h hp hq (firstBad_decode_source _ b (firstBad_feed_gone _ b hs hd hf))
  · exact decode_rejects h hp hq (firstBad_decode_source _ b (firstBad_header_outside _ b hs hd hf hh))
  · exact decode_rejects h hp hq (by rw [firstBad_decode_views _ b hs hd hf hh, firstBad_views_slot _ b hv hn, Option.some_or])
  · exact decode_rejects h hp hq (by rw [firstBad_decode_views _ b hs hd hf hh, firstBad_views_undefined _ b hv hn hu, Option.some_or])
  · exact decode_rejects h hp hq (by rw [firstBad_decode_views _ b hs hd hf hh, firstBad_views_first _ b hv hn w hw hc, Option.some_or])
  · exact decode_rejects h hp hq ((firstBad_decode_range _ b hs hd hf hh (firstBad_views_of _ b hv)).trans (firstBad_range_start _ b hr))
  · exact decode_rejects h hp hq ((firstBad_decode_range _ b hs hd hf hh (firstBad_views_of _ b hv)).trans (firstBad_range_end _ b hr hc))
  · have hb := (firstBad_decode_range _ b hs hd hf hh (firstBad_views_pass _ b hv hn w hw hc)).trans (firstBad_range_pass _ b hr he)
    have hj : s.dev.decodeTarget b = some w := by rw [Dev.decodeTarget, if_pos hv, hw]
    exact (decode_queues h hp hq hb).imp (fun t ht => ⟨ht.held, ht.others, ht.bufs, hj ▸ ht.job, ht.slots, ht.threshers⟩)
  · have hb := (firstBad_decode_range _ b hs hd hf hh (firstBad_views_untargeted _ b hv)).trans (firstBad_range_pass _ b hr he)
    have hj : s.dev.decodeTarget b = none := by rw [Dev.decodeTarget, hv]; rfl
    exact (decode_queues h hp hq hb).imp (fun t ht =>
      ⟨ht.held, ht.others, ht.bufs, hj ▸ ht.job, ht.waiting, ht.feeds, ht.threshers, ht.slots⟩)
  · exact decodeJobPlace_joins q hp hq hx hf t0 hn he ht hr hd
  · exact decodeJobPlace_fails q hp hq hx hf hn
  · exact decodeJobPlace_waits q hp hq hx hf hn hr ha
  · refine (sheafSuccess_intoViews hp t0 hj hw hfault hf hl ha hwait hd hr hu hpart hvals).imp ?_
    rintro _ ⟨c, hc, rfl⟩
    obtain ⟨races, hi⟩ := hc.intake
    refine ⟨fun x hx hrow => hc.byte x ⟨hx, hrow⟩, hc.tiles, hc.sheaves, hc.feed_ready, ?_, hc.cmds, ?_, hc.bufs, hc.push, hc.sail⟩
    · rw [thresher_setThresher_self c t0 _ (fun e => stamp_pos c (congrArg Thresher.lastJob e))]
    · rw [Dev.setThresher_intake_slots, hi]
      rfl
  · exact matchStallResume_scores hp t0 lane

end Sys2Proof.Machine
end

section
/-! What a sheaf decodes to (file 04): how many bytes the lanes put out, and so how many a sheaf does; then the residuals of view samples, the
median predictor and the reconstruction (file 06). -/

namespace Sys2Proof.Machine

/-! ### What a sink takes in -/

/-- A sink has gone on by n bytes, and where its output was within the capacity it still is. -/
structure Sink.Grows (h cap : Nat) (k k' : Sink) (n : Nat) : Prop where
  total : k'.total = k.total + n
  length : k'.rev.length = k.rev.length + n
  within : k.total - h ≤ cap → k'.total - h ≤ cap

/-- A decoding step that ends well has put out a number of bytes that satisfies p, and one that stops has put out some. -/
def Sink.Emits {α ε : Type} (h cap : Nat) (k : Sink) (p : Nat → Prop) (sink : α → Sink) (stopped : ε → Sink) : Except ε α → Prop
  | .ok x => ∃ n, p n ∧ Sink.Grows h cap k (sink x) n
  | .error e => ∃ n, Sink.Grows h cap k (stopped e) n

namespace Sink.Grows

variable {h cap : Nat} {k k' k'' : Sink} {m n : Nat}

/-- What a sink notes of symbols and matches puts out nothing. -/
theorem of_same (ht : k'.total = k.total) (hr : k'.rev = k.rev) : Sink.Grows h cap k k' 0 :=
  ⟨ht, by rw [hr]; rfl, by rw [ht]; exact id⟩

theorem trans (a : Sink.Grows h cap k k' m) (b : Sink.Grows h cap k' k'' n) : Sink.Grows h cap k k'' (m + n) :=
  ⟨by rw [b.total, a.total, Nat.add_assoc], by rw [b.length, a.length, Nat.add_assoc], fun w => b.within (a.within w)⟩

theorem match_ (sym dist len : Nat) : Sink.Grows h cap k (k.match_ sym dist len) 0 := of_same rfl rfl

/-- A byte is put out where the capacity has room for it. -/
theorem put (b : Byte) (hc : ¬ cap ≤ k.total - h) : Sink.Grows h cap k (k.put b) 1 :=
  ⟨rfl, rfl, fun _ => by simp only [Sink.put]; omega⟩

theorem literal (b : Nat) (hc : ¬ cap ≤ k.total - h) : Sink.Grows h cap k (k.literal b) 1 :=
  ⟨rfl, rfl, (put (BitVec.ofNat 8 b) hc).within⟩

/-- What a step puts out after a sink has gone on. -/
theorem emits {α ε : Type} {p q : Nat → Prop} {sink : α → Sink} {stopped : ε → Sink} {r : Except ε α} (g : Sink.Grows h cap k k' m)
    (e : Sink.Emits h cap k' p sink stopped r) (hpq : ∀ n, p n → q (m + n)) : Sink.Emits h cap k q sink stopped r := by
  cases r with
  | ok x =>
    obtain ⟨n, hn, hx⟩ := e
    exact ⟨m + n, hpq n hn, g.trans hx⟩
  | error x =>
    obtain ⟨n, hx⟩ := e
    exact ⟨m + n, g.trans hx⟩

end Sink.Grows

/-! ### Tokens and lanes -/

theorem literals_emits (tb : Tables) (h cap n : Nat) (l : Lane) (k : Sink) :
    Sink.Emits h cap k (· = n) Prod.snd (fun e => e.2.2) (literals tb h cap n l k) := by
  induction n generalizing l k with
  | zero => exact ⟨0, rfl, .of_same rfl rfl⟩
  | succ n ih =>
    rw [literals]
    split
    · exact ⟨0, .of_same rfl rfl⟩
    · split
      · exact ⟨0, .of_same rfl rfl⟩
      · next hc => exact (Sink.Grows.literal _ hc).emits (ih _ _) (fun m hm => by rw [hm, Nat.add_comm])

theorem copyBytes_emits (h cap dist n : Nat) (k : Sink) : Sink.Emits h cap k (· = n) id id (copyBytes h cap dist n k) := by
  induction n generalizing k with
  | zero => exact ⟨0, rfl, .of_same rfl rfl⟩
  | succ n ih =>
    rw [copyBytes]
    split
    · exact ⟨0, .of_same rfl rfl⟩
    · next hc => exact (Sink.Grows.put _ hc).emits (ih _) (fun m hm => by rw [hm, Nat.add_comm])

/-- A token puts out at least one byte, and no more than its segment has left (R83, R89). -/
theorem token_emits (tb : Tables) (h cap left : Nat) (l : Lane) (k : Sink) :
    Sink.Emits h cap k (fun n => 1 ≤ n ∧ n ≤ left) Prod.snd (fun e => e.2.2) (token tb h cap left l k) := by
  unfold token
  split
  · exact ⟨0, .of_same rfl rfl⟩
  · next c x l1 _ =>
    -- A token that stops before its bytes are due has no more than noted its length symbol.
    have hlens : Sink.Grows h cap k { k with lens := k.lens ||| 2 ^ c } 0 := .of_same rfl rfl
    dsimp only
    split
    · exact ⟨0, hlens⟩
    · split
      · split
        · exact ⟨0, hlens⟩
        · next hleft => exact hlens.emits (literals_emits ..) (fun n hn => by omega)
      · split
        · exact ⟨0, hlens⟩
        · next hleft =>
          split
          · exact ⟨0, hlens⟩
          · split
            · exact ⟨0, hlens⟩
            · split
              · exact ⟨0, hlens⟩
              · split
                · exact ⟨0, hlens⟩
                · generalize hr : copyBytes h cap _ _ _ = r
                  have hcopy : Sink.Emits h cap k (fun n => 1 ≤ n ∧ n ≤ left) id id r := by
                    rw [← hr]
                    exact (hlens.trans (.match_ _ _ _)).emits (copyBytes_emits ..) (fun n hn => by omega)
                  cases r with
                  | error k1 => exact hcopy
                  | ok k1 => exact hcopy

/-- Tokens end exactly at the end of their segment, where the fuel covers it. -/
theorem tokens_emits (tb : Tables) (h cap stop fuel : Nat) (l : Lane) (k : Sink) (hs : k.total ≤ stop) (hf : stop ≤ k.total + fuel) :
    Sink.Emits h cap k (fun n => k.total + n = stop) Prod.snd (fun e => e.2.2.1) (tokens tb h cap stop fuel l k) := by
  induction fuel generalizing l k with
  | zero => exact ⟨0, by omega, .of_same rfl rfl⟩
  | succ fuel ih =>
    rw [tokens]
    split
    · exact ⟨0, by omega, .of_same rfl rfl⟩
    · split
      · exact ⟨0, .of_same rfl rfl⟩
      · have ht := token_emits tb h cap (stop - k.total) l k
        split
        · next e =>
          rw [e] at ht
          exact ht
        · next e =>
          rw [e] at ht
          obtain ⟨m, hm, g⟩ := ht
          have htotal := g.total
          exact g.emits (ih _ _ (by omega) (by omega)) (fun n hn => by omega)

/-- The lanes of a directory put out its segments, but for a fault (R83, R86). -/
theorem decodeLanes_grows (tb : Tables) (s : List Byte) (h cap outLen : Nat) (dir : List (Nat × Nat)) (n off : Nat) (k : Sink) :
    ∃ m, Sink.Grows h cap k (decodeLanes tb s h cap outLen dir n off k).1 m ∧
      ((decodeLanes tb s h cap outLen dir n off k).2 = none → ∀ a, dir.foldl (fun a x => a + x.1) a = a + m) := by
  induction dir generalizing n off k with
  | nil => exact ⟨0, .of_same rfl rfl, fun _ _ => rfl⟩
  | cons x rest ih =>
    obtain ⟨seg, str⟩ := x
    rw [decodeLanes]
    split
    · exact ⟨0, .of_same rfl rfl, nofun⟩
    · split
      · exact ⟨0, .of_same rfl rfl, nofun⟩
      · next l _ =>
        have ht := tokens_emits tb h cap (k.total + seg) seg l k (Nat.le_add_right _ _) (Nat.le_refl _)
        split
        · next e =>
          rw [e] at ht
          obtain ⟨m, g⟩ := ht
          split
          · exact ⟨m, g, nofun⟩
          · exact ⟨m, g, nofun⟩
        · next l1 k1 e =>
          rw [e] at ht
          obtain ⟨m, hm, g⟩ := ht
          obtain rfl : m = seg := Nat.add_left_cancel hm
          split
          · exact ⟨m, g, nofun⟩
          · split
            · exact ⟨m, g, nofun⟩
            · obtain ⟨m', g', hsum⟩ := ih (n + 1) (off + str) k1
              refine ⟨m + m', g.trans g', fun hnone a => ?_⟩
              rw [List.foldl_cons, hsum hnone, Nat.add_assoc]

/-! ### Sheaves (R76, R88, R108) -/

/-- A decoded sheaf keeps the capacity, and a length where it has no fault. -/
def Decoded.Keeps (r : Decoded) (cap len : Nat) : Prop := r.out.length ≤ cap ∧ (r.fault = none → r.out.length = len)

theorem Decoded.Keeps.of_fault {r : Decoded} {cap len : Nat} {f : PFault} (ho : r.out = []) (hf : r.fault = some f) : r.Keeps cap len :=
  ⟨by simp [ho], fun hn => by simp [hf] at hn⟩

theorem decodeLz_keeps (s : List Byte) (h : SheafHdr) (c : FeedCtx) (cap : Nat) : (decodeLz s h c cap).Keeps cap h.outLen := by
  unfold decodeLz
  split
  · exact .of_fault rfl rfl
  · dsimp only
    split
    · exact .of_fault rfl rfl
    · next hsum =>
      split
      · exact .of_fault rfl rfl
      · next tb off blk _ =>
        split
        · exact .of_fault rfl rfl
        · generalize (if h.seed = true then ({ rev := [], total := 0 } : Sink) else { rev := c.hist.reverse, total := c.total }) = k0
          obtain ⟨m, g, hm⟩ := decodeLanes_grows tb s k0.total cap h.outLen (laneDir s h.lanes) 0 off k0
          have ht := g.total
          have hl := g.length
          have hw := g.within (by omega)
          refine ⟨?_, fun hnone => ?_⟩
          · simp only [List.length_reverse, List.length_take]
            omega
          · have hout := hm hnone 0
            simp only [List.length_reverse, List.length_take]
            omega

theorem slice_length (l : List Byte) (off n : Nat) : (slice l off n).length = min n (l.length - off) := by
  rw [slice, List.length_take, List.length_drop]

theorem decodeRaw_within (s : List Byte) (h : SheafHdr) (cap : Nat) : (decodeRaw s h cap).out.length ≤ cap := by
  unfold decodeRaw
  split
  · exact slice_length s 32 cap ▸ Nat.min_le_left _ _
  · next hc => exact slice_length s 32 h.outLen ▸ Nat.le_trans (Nat.min_le_left _ _) (Nat.not_lt.mp hc)

theorem decodeRaw_length (s : List Byte) (h : SheafHdr) (cap : Nat) (hs : h.outLen ≤ s.length - 32)
    (hf : (decodeRaw s h cap).fault = none) : (decodeRaw s h cap).out.length = h.outLen := by
  unfold decodeRaw at hf ⊢
  split
  · next hc => simp [hc] at hf
  · exact (slice_length s 32 h.outLen).trans (Nat.min_eq_left hs)

/-- A list of checks without a fault has passed each of them. -/
theorem firstFault_none {cs : List (Bool × PFault)} (h : firstFault cs = none) : ∀ c ∈ cs, c.1 = true := by
  induction cs with
  | nil => exact nofun
  | cons c t ih =>
    obtain ⟨ok, f⟩ := c
    cases ok with
    | true => exact List.forall_mem_cons.mpr ⟨rfl, ih h⟩
    | false => exact nomatch h

/-- The header of a RAW sheaf gives its payload the length of its output (R76). -/
theorem hdrChecks_raw {s : List Byte} (h : hdrChecks s = none) (hk : (sheafHdr s).kind = 0) : (sheafHdr s).compLen = (sheafHdr s).outLen := by
  have hlast := firstFault_none h (decide (1 ≤ (sheafHdr s).compLen) && decide ((sheafHdr s).compLen ≤ sheafMax) &&
    ((sheafHdr s).kind != 0 || (sheafHdr s).compLen == (sheafHdr s).outLen), hdrFault 12) (by simp)
  simp only [hk, bne_self_eq_false, Bool.false_or, Bool.and_eq_true, beq_iff_eq] at hlast
  exact hlast.2

/-- A sheaf fails before its payload, or decodes as its payload does. -/
theorem decodeSheaf_cases (s : List Byte) (faulted hasHist : Bool) (c : FeedCtx) (cap : Nat) :
    (∃ f, decodeSheaf s faulted hasHist c cap = { out := [], fault := some f, block := none }) ∨
    decodeSheaf s faulted hasHist c cap = decodePayload s c cap := by
  unfold decodeSheaf
  split
  · next f _ => exact .inl ⟨f, rfl⟩
  · exact .inr rfl

theorem decodePayload_within (s : List Byte) (c : FeedCtx) (cap : Nat) : (decodePayload s c cap).out.length ≤ cap := by
  unfold decodePayload
  dsimp only
  split
  · exact decodeRaw_within s _ cap
  · exact (decodeLz_keeps s _ c cap).1

theorem decodePayload_length (s : List Byte) (c : FeedCtx) (cap : Nat) (hh : hdrChecks s = none) (hs : s.length = 32 + (sheafHdr s).compLen)
    (hf : (decodePayload s c cap).fault = none) : (decodePayload s c cap).out.length = (sheafHdr s).outLen := by
  unfold decodePayload at hf ⊢
  dsimp only at hf ⊢
  split
  · next hk =>
    rw [if_pos hk] at hf
    exact decodeRaw_length s _ cap (by have := hdrChecks_raw hh hk; omega) hf
  · next hk =>
    rw [if_neg hk] at hf
    exact (decodeLz_keeps s _ c cap).2 hf

theorem decodeSheaf_within (s : List Byte) (faulted hasHist : Bool) (c : FeedCtx) (cap : Nat) :
    (decodeSheaf s faulted hasHist c cap).out.length ≤ cap := by
  obtain ⟨f, e⟩ | e := decodeSheaf_cases s faulted hasHist c cap <;> rw [e]
  · exact Nat.zero_le _
  · exact decodePayload_within s c cap

theorem decodeSheaf_length (s : List Byte) (faulted hasHist : Bool) (c : FeedCtx) (cap : Nat) (hh : hdrChecks s = none)
    (hs : s.length = 32 + (sheafHdr s).compLen) (hf : (decodeSheaf s faulted hasHist c cap).fault = none) :
    (decodeSheaf s faulted hasHist c cap).out.length = (sheafHdr s).outLen := by
  obtain ⟨f, e⟩ | e := decodeSheaf_cases s faulted hasHist c cap <;> rw [e] at hf ⊢
  · exact nomatch hf
  · exact decodePayload_length s c cap hh hs hf

/-! ### Residuals and samples (R127, R128, R130) -/

theorem medPred_eq_median (a b c : Nat) :
    ((medPred a b c : Nat) : Int) = max (min (a : Int) b) (min (max (a : Int) b) ((a : Int) + b - c)) := by
  unfold medPred
  split
  · omega
  · split <;> omega

/-- Shifting a 16-bit value left by one doubles it within 16 bits. -/
theorem toNat_shiftLeft_one (q : BitVec 16) : (q <<< 1).toNat = 2 * q.toNat % 65536 := by
  rw [BitVec.toNat_shiftLeft, Nat.shiftLeft_eq, Nat.mul_comm]

/-- R127: the signed residual of a code is (z >> 1) XOR −(z & 1). -/
theorem residual_eq_unzig (z : BitVec 16) : ((z >>> 1) ^^^ (-(z &&& 1))).toInt = unzig z.toNat := by
  have hz := z.isLt
  have hshift : (z >>> 1).toNat = z.toNat / 2 := by rw [BitVec.toNat_ushiftRight, Nat.shiftRight_eq_div_pow]
  have hbit : (z &&& 1).toNat = z.toNat % 2 := by rw [BitVec.toNat_and]; exact Nat.and_one_is_mod _
  obtain h | h := Nat.mod_two_eq_zero_or_one z.toNat
  · have e : z &&& 1 = 0#16 := BitVec.eq_of_toNat_eq (hbit.trans h)
    rw [e, BitVec.neg_zero, BitVec.xor_zero, BitVec.toInt_eq_toNat_of_lt (by omega), hshift, unzig, if_pos h]
  · have e : z &&& 1 = 1#16 := BitVec.eq_of_toNat_eq (hbit.trans h)
    rw [e, BitVec.neg_one_eq_allOnes, BitVec.xor_allOnes, BitVec.toInt_eq_toNat_cond, BitVec.toNat_not, hshift, unzig,
      if_neg (by omega), if_neg (by omega)]
    omega

theorem unzig_bounds (z : BitVec 16) : -32768 ≤ unzig z.toNat ∧ unzig z.toNat ≤ 32767 := by
  have hz := z.isLt
  unfold unzig
  split <;> omega

theorem unzig_code (q : BitVec 16) : unzig ((q <<< 1) ^^^ q.sshiftRight 15).toNat = q.toInt := by
  have hq := q.isLt
  cases hm : q.msb with
  | false =>
    have hlt : 2 * q.toNat < 2 ^ 16 := BitVec.msb_eq_false_iff_two_mul_lt.mp hm
    have e : q.sshiftRight 15 = 0#16 := by
      rw [BitVec.sshiftRight_eq_of_msb_false hm]
      refine BitVec.eq_of_toNat_eq ?_
      rw [BitVec.toNat_ushiftRight, Nat.shiftRight_eq_div_pow]
      exact Nat.div_eq_of_lt (by omega)
    rw [e, BitVec.xor_zero, toNat_shiftLeft_one, unzig, if_pos (by omega), BitVec.toInt_eq_toNat_of_lt hlt]
    omega
  | true =>
    have hge : 2 ^ 16 ≤ 2 * q.toNat := BitVec.msb_eq_true_iff_two_mul_ge.mp hm
    have e : q.sshiftRight 15 = BitVec.allOnes 16 := by
      have hz : ~~~q >>> 15 = 0#16 := by
        refine BitVec.eq_of_toNat_eq ?_
        rw [BitVec.toNat_ushiftRight, Nat.shiftRight_eq_div_pow, BitVec.toNat_not]
        exact Nat.div_eq_of_lt (by omega)
      rw [BitVec.sshiftRight_eq_of_msb_true hm, hz, BitVec.not_zero]
    rw [e, BitVec.xor_allOnes, BitVec.toNat_not, toNat_shiftLeft_one, unzig, if_neg (by omega), BitVec.toInt_eq_toNat_cond,
      if_neg (by omega)]
    omega

/-- With NEAR 0 a sample's residual against any prediction gives the sample back. -/
theorem reconSample_residual (bits pred x : Nat) (hx : x < 2 ^ bits) : reconSample bits 0 pred ((x : Int) - pred) = x := by
  have e : (pred : Int) + ((x : Int) - pred) = x := by omega
  rw [reconSample, if_pos rfl, e, wrapInt, ← Int.natCast_emod, Int.toNat_natCast, Nat.mod_eq_of_lt hx]

/-- Every reconstructed sample is a code of its format. -/
theorem reconSample_lt (bits near pred : Nat) (q : Int) : reconSample bits near pred q < 2 ^ bits := by
  have hpos : 0 < 2 ^ bits := Nat.two_pow_pos bits
  unfold reconSample
  split
  · have := Int.emod_lt_of_pos (pred + q) (Int.natCast_pos.mpr hpos)
    rw [wrapInt]
    omega
  · omega

/-- Settles O23: the lanes put out exactly their segments within the capacity, and the residuals and samples are as R127 to R130 say. -/
theorem decodedLengthsAndSamples : Obligations.DecodedLengthsAndSamples :=
  ⟨fun s faulted hasHist c cap => ⟨decodeSheaf_within s faulted hasHist c cap, decodeSheaf_length s faulted hasHist c cap⟩,
    medPred_eq_median, fun z => ⟨residual_eq_unzig z, unzig_bounds z⟩, unzig_code, reconSample_residual, reconSample_lt⟩

end Sys2Proof.Machine
end

section
/-! VIEWSET_DEFINE (file 06): the checks of DEFINE and of UNDEFINE in their order, and how a slot's waiting actions and the FREE of its buffer
take effect. -/

namespace Sys2Proof.Machine

/-! ### The table of slots -/

theorem vslot_setVslot_ne (d : Dev) (n k : Nat) (x : Slot) (h : k ≠ n) : (d.setVslot n x).vslot k = d.vslot k :=
  SMap.get_set_ne _ _ _ _ _ h

/-- A slot reads back as written, where it is written with a content or the table's keys rise. -/
theorem vslot_setVslot_self (d : Dev) (n : Nat) (x : Slot) (h : x ≠ {} ∨ SMap.rising d.intake.slots = true) : (d.setVslot n x).vslot n = x :=
  h.elim (SMap.get_set_self_ne _ _ _ _) (SMap.get_set_self _ _ _ _)

theorem Frame.setVslot (d : Dev) (n : Nat) (x : Slot) : Frame [.intake] d (d.setVslot n x) := Frame.intake d _

/-! ### The checks (R119) -/

/-- A check that passes leaves the verdict to those after it. -/
theorem firstBad_past {p : Prop} [Decidable p] (hp : p) {code det : Nat} {cs : List (Bool × Nat × Nat)} {r : Option (Nat × Nat)}
    (h : firstBad cs = r) : firstBad ((decide p, code, det) :: cs) = r :=
  (firstBad_pass (decide_eq_true hp) code det cs).trans h

/-- A check that fails is the verdict. -/
theorem firstBad_here {p : Prop} [Decidable p] (hp : ¬ p) {code det : Nat} {cs : List (Bool × Nat × Nat)} :
    firstBad ((decide p, code, det) :: cs) = some (code, det) :=
  firstBad_fail (decide_eq_false hp) code det cs

/-- The checks of both actions: a live buffer for a DEFINE, the slot, the action. -/
def Dev.slotTargetChecks (d : Dev) (b : ViewSetBody) : List (Bool × Nat × Nat) :=
  [(b.action != 0 || d.live b.ref, 0x0111, 10), (decide (b.slot.toNat ≤ 1), 0x0102, 8), (decide (b.action.toNat ≤ 1), 0x0102, 9)]

/-- The checks of the action's own fields. -/
def Dev.slotFieldChecks (d : Dev) (b : ViewSetBody) : List (Bool × Nat × Nat) :=
  if b.action = 0 then d.defineChecks b else undefineChecks b

/-- The checks of a VIEWSET_DEFINE, in their order. -/
def Dev.viewsetChecks (d : Dev) (b : ViewSetBody) : List (Bool × Nat × Nat) :=
  d.slotTargetChecks b ++ d.slotFieldChecks b ++ [(!d.slotInUse b.slot.toNat, 0x0102, 8)]

/-- What an accepted VIEWSET_DEFINE gives its slot: a definition, or none. -/
def definitionOf (b : ViewSetBody) : Option VSet := if b.action = 0 then some (viewSetOf b) else none

/-- An accepted VIEWSET_DEFINE joins the actions of its slot. -/
def Dev.queueSlotAction (d : Dev) (q : QueueId) (h : Hdr) (b : ViewSetBody) : Dev :=
  (d.dispatch q h 0x28 (if b.action = 0 then [b.ref] else [])).setVslot b.slot.toNat
    { d.vslot b.slot.toNat with actions := (d.vslot b.slot.toNat).actions ++ [(d.qs.nextId, definitionOf b)] }

theorem viewsetDefine_eq (d : Dev) (q : QueueId) (h : Hdr) (b : ViewSetBody) (hq : (d.queue q).hold = .none) :
    d.viewsetDefine q h b = d.checked q h 0x28 (d.viewsetChecks b) (fun e => (e.queueSlotAction q h b).slotAction b.slot.toNat) := by
  unfold Dev.viewsetDefine
  exact issue_free d q _ hq

section Checks

variable (d : Dev) (b : ViewSetBody)

theorem firstBad_slot_target {x : Nat × Nat} (h : firstBad (d.slotTargetChecks b) = some x) : firstBad (d.viewsetChecks b) = some x := by
  simp [Dev.viewsetChecks, firstBad_append, h]

theorem firstBad_slot_stale (ha : b.action = 0) (hl : d.live b.ref = false) : firstBad (d.slotTargetChecks b) = some (0x0111, 10) :=
  firstBad_fail (by simp [ha, hl]) _ _ _

variable (hl : b.action = 0 → d.live b.ref = true)

include hl

/-- With the buffer that its action needs, the slot and the action decide. -/
theorem firstBad_slot_live :
    firstBad (d.slotTargetChecks b) = firstBad [(decide (b.slot.toNat ≤ 1), 0x0102, 8), (decide (b.action.toNat ≤ 1), 0x0102, 9)] :=
  have hlive : (b.action != 0 || d.live b.ref) = true := by
    rw [Bool.or_eq_true, bne_iff_ne]
    by_cases h0 : b.action = 0
    · exact .inr (hl h0)
    · exact .inl h0
  firstBad_pass hlive _ _ _

theorem firstBad_slot_number (hn : 1 < b.slot.toNat) : firstBad (d.viewsetChecks b) = some (0x0102, 8) :=
  firstBad_slot_target d b ((firstBad_slot_live d b hl).trans (firstBad_here (Nat.not_le.mpr hn)))

variable (hn : b.slot.toNat ≤ 1)

include hn

theorem firstBad_slot_action (ha : 1 < b.action.toNat) : firstBad (d.viewsetChecks b) = some (0x0102, 9) :=
  firstBad_slot_target d b ((firstBad_slot_live d b hl).trans (firstBad_past hn (firstBad_here (Nat.not_le.mpr ha))))

variable (ha : b.action.toNat ≤ 1)

include ha

/-- Past the target, the action's fields decide, and then the slot's use. -/
theorem firstBad_slot_fields : firstBad (d.viewsetChecks b) =
    (firstBad (d.slotFieldChecks b)).or (if d.slotInUse b.slot.toNat = true then some (0x0102, 8) else none) := by
  have ht : firstBad (d.slotTargetChecks b) = none := (firstBad_slot_live d b hl).trans (firstBad_past hn (firstBad_past ha rfl))
  rw [Dev.viewsetChecks, firstBad_append, firstBad_append, ht, Option.none_or]
  cases d.slotInUse b.slot.toNat <;> rfl

variable {d b}

/-- The first field of a DEFINE that fails is the verdict. -/
theorem firstBad_define_field (h0 : b.action = 0) {x : Nat × Nat} (hx : firstBad (d.defineChecks b) = some x) :
    firstBad (d.viewsetChecks b) = some x := by
  rw [firstBad_slot_fields d b hl hn ha, Dev.slotFieldChecks, if_pos h0, hx, Option.some_or]

/-- The first field of an UNDEFINE that fails is the verdict. -/
theorem firstBad_undefine_field (h1 : b.action = 1) {x : Nat × Nat} (hx : firstBad (undefineChecks b) = some x) :
    firstBad (d.viewsetChecks b) = some x := by
  rw [firstBad_slot_fields d b hl hn ha, Dev.slotFieldChecks, if_neg (by simp [h1]), hx, Option.some_or]

variable (hf : firstBad (d.slotFieldChecks b) = none)

include hf

theorem firstBad_slot_used (hu : d.slotInUse b.slot.toNat = true) : firstBad (d.viewsetChecks b) = some (0x0102, 8) := by
  rw [firstBad_slot_fields d b hl hn ha, hf, if_pos hu, Option.none_or]

theorem firstBad_slot_unused (hu : d.slotInUse b.slot.toNat = false) : firstBad (d.viewsetChecks b) = none := by
  rw [firstBad_slot_fields d b hl hn ha, hf, if_neg (by simp [hu]), Option.none_or]

end Checks

/-! ### The fields of a DEFINE and of an UNDEFINE (R118, R119) -/

theorem viewDim_eq_decide (n : Nat) : viewDim n = decide (64 ≤ n ∧ n ≤ 16384 ∧ n % 64 = 0) := by
  rw [Bool.eq_iff_iff]
  simp [viewDim, and_assoc]

/-- The checks of a DEFINE, as conditions on the fields of its body. -/
theorem defineChecks_eq (d : Dev) (b : ViewSetBody) : d.defineChecks b =
    [(decide (b.fmt = 4 ∨ b.fmt = 5), 0x0102, 14),
     (decide (if b.fmt = 5 then b.curve = 0 else b.curve = 1 ∨ b.curve = 2), 0x0102, 15),
     (decide (1 ≤ b.count.toNat ∧ b.count.toNat ≤ 256), 0x0102, 16),
     (decide (64 ≤ b.width.toNat ∧ b.width.toNat ≤ 16384 ∧ b.width.toNat % 64 = 0), 0x0302, 18),
     (decide (64 ≤ b.height.toNat ∧ b.height.toNat ≤ 16384 ∧ b.height.toNat % 64 = 0), 0x0302, 20),
     (decide (if b.curve = 1 then 100 ≤ b.peak.toNat ∧ b.peak.toNat ≤ 10000 else b.peak = 0), 0x0102, 22),
     (decide (b.count.toNat * b.width.toNat * b.height.toNat ≤ 8589934592), 0x0302, 16),
     (decide ((d.buf b.ref.handle).fmt = b.fmt.toNat ∧ (d.buf b.ref.handle).pitch = b.width.toNat * sampleSize b.fmt.toNat ∧
        b.count.toNat * (b.width.toNat * sampleSize b.fmt.toNat) * b.height.toNat ≤ (d.buf b.ref.handle).size), 0x0302, 10)] := by
  have hfmt : (b.fmt.toNat == 4 || b.fmt.toNat == 5) = decide (b.fmt = 4 ∨ b.fmt = 5) := by
    rw [Bool.eq_iff_iff]
    simp [BitVec.toNat_eq_nat]
  have hcurve : (if b.fmt.toNat = 5 then b.curve.toNat == 0 else b.curve.toNat == 1 || b.curve.toNat == 2) =
      decide (if b.fmt = 5 then b.curve = 0 else b.curve = 1 ∨ b.curve = 2) := by
    rw [Bool.eq_iff_iff]
    by_cases h : b.fmt = 5 <;> simp [BitVec.toNat_eq_nat, h]
  have hpeak : (if b.curve.toNat = 1 then decide (100 ≤ b.peak.toNat) && decide (b.peak.toNat ≤ 10000) else b.peak.toNat == 0) =
      decide (if b.curve = 1 then 100 ≤ b.peak.toNat ∧ b.peak.toNat ≤ 10000 else b.peak = 0) := by
    rw [Bool.eq_iff_iff]
    by_cases h : b.curve = 1 <;> simp [BitVec.toNat_eq_nat, h]
  simp only [Dev.defineChecks, List.cons.injEq, Prod.mk.injEq, and_true]
  refine ⟨hfmt, hcurve, ?_, viewDim_eq_decide _, viewDim_eq_decide _, hpeak, rfl, ?_⟩
  · exact (Bool.decide_and _ _).symm
  · rw [Bool.decide_and, Bool.decide_and, ← Bool.and_assoc]
    rfl

theorem undefineChecks_eq (b : ViewSetBody) : undefineChecks b =
    [(decide (b.ref.handle = 0), 0x0102, 10), (decide (b.ref.gen = 0), 0x0102, 12), (decide (b.fmt = 0), 0x0102, 14),
     (decide (b.curve = 0), 0x0102, 15), (decide (b.count = 0), 0x0102, 16), (decide (b.width = 0), 0x0102, 18),
     (decide (b.height = 0), 0x0102, 20), (decide (b.peak = 0), 0x0102, 22)] := rfl

/-- Bytes of a sample of a format that a DEFINE admits (R115, R116). -/
theorem sampleSize_define {fmt : Byte} (h : fmt = 4 ∨ fmt = 5) : sampleSize fmt.toNat = if fmt = 5 then 6 else 4 := by
  obtain rfl | rfl := h <;> rfl

section Define

variable (d : Dev) {b : ViewSetBody}

theorem firstBad_define_format (hx : ¬ (b.fmt = 4 ∨ b.fmt = 5)) :
    firstBad (d.defineChecks b) = some (0x0102, 14) := by
  rw [defineChecks_eq]
  exact firstBad_here hx

variable (hf : b.fmt = 4 ∨ b.fmt = 5)

include hf

theorem firstBad_define_curve (hx : ¬ (if b.fmt = 5 then b.curve = 0 else b.curve = 1 ∨ b.curve = 2)) :
    firstBad (d.defineChecks b) = some (0x0102, 15) := by
  rw [defineChecks_eq]
  exact firstBad_past hf (firstBad_here hx)

variable (hc : if b.fmt = 5 then b.curve = 0 else b.curve = 1 ∨ b.curve = 2)

include hc

theorem firstBad_define_count (hx : ¬ (1 ≤ b.count.toNat ∧ b.count.toNat ≤ 256)) :
    firstBad (d.defineChecks b) = some (0x0102, 16) := by
  rw [defineChecks_eq]
  exact firstBad_past hf (firstBad_past hc (firstBad_here hx))

variable (hv : 1 ≤ b.count.toNat ∧ b.count.toNat ≤ 256)

include hv

theorem firstBad_define_width (hx : ¬ (64 ≤ b.width.toNat ∧ b.width.toNat ≤ 16384 ∧ b.width.toNat % 64 = 0)) :
    firstBad (d.defineChecks b) = some (0x0302, 18) := by
  rw [defineChecks_eq]
  exact firstBad_past hf (firstBad_past hc (firstBad_past hv (firstBad_here hx)))

variable (hw : 64 ≤ b.width.toNat ∧ b.width.toNat ≤ 16384 ∧ b.width.toNat % 64 = 0)

include hw

theorem firstBad_define_height (hx : ¬ (64 ≤ b.height.toNat ∧ b.height.toNat ≤ 16384 ∧ b.height.toNat % 64 = 0)) :
    firstBad (d.defineChecks b) = some (0x0302, 20) := by
  rw [defineChecks_eq]
  exact firstBad_past hf (firstBad_past hc (firstBad_past hv (firstBad_past hw (firstBad_here hx))))

variable (hh : 64 ≤ b.height.toNat ∧ b.height.toNat ≤ 16384 ∧ b.height.toNat % 64 = 0)

include hh

theorem firstBad_define_peak (hx : ¬ (if b.curve = 1 then 100 ≤ b.peak.toNat ∧ b.peak.toNat ≤ 10000 else b.peak = 0)) :
    firstBad (d.defineChecks b) = some (0x0102, 22) := by
  rw [defineChecks_eq]
  exact firstBad_past hf (firstBad_past hc (firstBad_past hv (firstBad_past hw (firstBad_past hh (firstBad_here hx)))))

variable (hk : if b.curve = 1 then 100 ≤ b.peak.toNat ∧ b.peak.toNat ≤ 10000 else b.peak = 0)

include hk

theorem firstBad_define_samples (hx : ¬ (b.count.toNat * b.width.toNat * b.height.toNat ≤ 8589934592)) :
    firstBad (d.defineChecks b) = some (0x0302, 16) := by
  rw [defineChecks_eq]
  exact firstBad_past hf (firstBad_past hc (firstBad_past hv (firstBad_past hw (firstBad_past hh (firstBad_past hk (firstBad_here hx))))))

variable (hs : b.count.toNat * b.width.toNat * b.height.toNat ≤ 8589934592)

include hs

/-- Past the fields and the sample count, the buffer's format, pitch and size decide. -/
theorem firstBad_define_buffer : firstBad (d.defineChecks b) =
    firstBad [(decide ((d.buf b.ref.handle).fmt = b.fmt.toNat ∧ (d.buf b.ref.handle).pitch = b.width.toNat * (if b.fmt = 5 then 6 else 4) ∧
      b.count.toNat * (b.width.toNat * (if b.fmt = 5 then 6 else 4)) * b.height.toNat ≤ (d.buf b.ref.handle).size), 0x0302, 10)] := by
  rw [defineChecks_eq, sampleSize_define hf]
  exact firstBad_past hf (firstBad_past hc (firstBad_past hv (firstBad_past hw (firstBad_past hh (firstBad_past hk (firstBad_past hs rfl))))))

end Define

section Undefine

variable {b : ViewSetBody}

theorem firstBad_undefine_handle (hx : b.ref.handle ≠ 0) : firstBad (undefineChecks b) = some (0x0102, 10) :=
  (congrArg firstBad (undefineChecks_eq b)).trans (firstBad_here hx)

theorem firstBad_undefine_gen (hr : b.ref.handle = 0) (hx : b.ref.gen ≠ 0) : firstBad (undefineChecks b) = some (0x0102, 12) :=
  (congrArg firstBad (undefineChecks_eq b)).trans (firstBad_past hr (firstBad_here hx))

variable (hr : b.ref = ⟨0, 0⟩)

include hr

/-- Without a buffer named, the other fields decide. -/
theorem firstBad_undefine_ref : firstBad (undefineChecks b) =
    firstBad [(decide (b.fmt = 0), 0x0102, 14), (decide (b.curve = 0), 0x0102, 15), (decide (b.count = 0), 0x0102, 16),
      (decide (b.width = 0), 0x0102, 18), (decide (b.height = 0), 0x0102, 20), (decide (b.peak = 0), 0x0102, 22)] :=
  (congrArg firstBad (undefineChecks_eq b)).trans
    (firstBad_past (congrArg BufRef.handle hr) (firstBad_past (congrArg BufRef.gen hr) rfl))

theorem firstBad_undefine_format (hx : b.fmt ≠ 0) : firstBad (undefineChecks b) = some (0x0102, 14) :=
  (firstBad_undefine_ref hr).trans (firstBad_here hx)

variable (hf : b.fmt = 0)

include hf

theorem firstBad_undefine_curve (hx : b.curve ≠ 0) : firstBad (undefineChecks b) = some (0x0102, 15) :=
  (firstBad_undefine_ref hr).trans (firstBad_past hf (firstBad_here hx))

variable (hc : b.curve = 0)

include hc

theorem firstBad_undefine_count (hx : b.count ≠ 0) : firstBad (undefineChecks b) = some (0x0102, 16) :=
  (firstBad_undefine_ref hr).trans (firstBad_past hf (firstBad_past hc (firstBad_here hx)))

variable (hv : b.count = 0)

include hv

theorem firstBad_undefine_width (hx : b.width ≠ 0) : firstBad (undefineChecks b) = some (0x0102, 18) :=
  (firstBad_undefine_ref hr).trans (firstBad_past hf (firstBad_past hc (firstBad_past hv (firstBad_here hx))))

variable (hw : b.width = 0)

include hw

theorem firstBad_undefine_height (hx : b.height ≠ 0) : firstBad (undefineChecks b) = some (0x0102, 20) :=
  (firstBad_undefine_ref hr).trans (firstBad_past hf (firstBad_past hc (firstBad_past hv (firstBad_past hw (firstBad_here hx)))))

variable (hh : b.height = 0)

include hh

theorem firstBad_undefine_peak (hx : b.peak ≠ 0) : firstBad (undefineChecks b) = some (0x0102, 22) :=
  (firstBad_undefine_ref hr).trans (firstBad_past hf (firstBad_past hc (firstBad_past hv (firstBad_past hw (firstBad_past hh (firstBad_here hx))))))

variable (hk : b.peak = 0)

include hk

theorem firstBad_undefine_pass : firstBad (undefineChecks b) = none :=
  (firstBad_undefine_ref hr).trans
    (firstBad_past hf (firstBad_past hc (firstBad_past hv (firstBad_past hw (firstBad_past hh (firstBad_past hk rfl))))))

end Undefine

/-! ### The actions of a slot take effect (R121) -/

theorem slotAction_waits (d : Dev) (n : Nat) {id : Nat} {v : Option VSet} {rest : List (Nat × Option VSet)}
    (h : (d.vslot n).actions = (id, v) :: rest) (hq : d.slotQuiet n id = false) : d.slotAction n = d := by
  simp [Dev.slotAction, h, hq]

theorem slotAction_acts (d : Dev) (n : Nat) {id : Nat} {v : Option VSet} {rest : List (Nat × Option VSet)}
    (h : (d.vslot n).actions = (id, v) :: rest) (hq : d.slotQuiet n id = true) : d.slotAction n =
      (d.setVslot n { dfn := v, actions := rest, freeing := (d.vslot n).freeing.filter (fun f => decide (id < f)) }).finish id := by
  simp [Dev.slotAction, h, hq]

/-- An action of a slot has taken effect: the slot has its definition and the actions after it, no other slot or feed changes. -/
structure SlotActed (d t : Dev) (n : Nat) (v : Option VSet) (rest : List (Nat × Option VSet)) : Prop where
  frame : Frame (eventParts ++ [.qs, .intake]) d t
  dfn : (t.vslot n).dfn = v
  actions : (t.vslot n).actions = rest
  others : ∀ k, k ≠ n → t.vslot k = d.vslot k
  feeds : t.intake.feeds = d.intake.feeds

theorem slotAction_acted (d : Dev) (n : Nat) {id : Nat} {v : Option VSet} {rest : List (Nat × Option VSet)}
    (h : (d.vslot n).actions = (id, v) :: rest) (hq : d.slotQuiet n id = true)
    (hs : v ≠ none ∨ rest ≠ [] ∨ SMap.rising d.intake.slots = true) : SlotActed d (d.slotAction n) n v rest := by
  have hself := vslot_setVslot_self d n
    { dfn := v, actions := rest, freeing := (d.vslot n).freeing.filter (fun f => decide (id < f)) }
    (by
      rcases hs with hv | hrest | hr
      · exact .inl (fun e => hv (congrArg Slot.dfn e))
      · exact .inl (fun e => hrest (congrArg Slot.actions e))
      · exact .inr hr)
  rw [slotAction_acts d n h hq]
  refine ⟨((Frame.setVslot d n _).mono (by decide)).trans (Frame.finish _ id 0), ?_, ?_, fun k hk => ?_, by simp⟩
  · rw [Dev.finish_vslot, hself]
  · rw [Dev.finish_vslot, hself]
  · rw [Dev.finish_vslot, vslot_setVslot_ne d n k _ hk]

section Queued

variable (d : Dev) (q : QueueId) (h : Hdr) (b : ViewSetBody)

theorem queueSlotAction_vslot_self : (d.queueSlotAction q h b).vslot b.slot.toNat =
    { d.vslot b.slot.toNat with actions := (d.vslot b.slot.toNat).actions ++ [(d.qs.nextId, definitionOf b)] } :=
  vslot_setVslot_self _ _ _ (.inl (fun e => List.append_ne_nil_of_right_ne_nil _ (List.cons_ne_nil _ _) (congrArg Slot.actions e)))

theorem queueSlotAction_vslot_ne (k : Nat) (hk : k ≠ b.slot.toNat) : (d.queueSlotAction q h b).vslot k = d.vslot k :=
  vslot_setVslot_ne _ _ k _ hk

theorem Frame.queueSlotAction : Frame [.qs, .intake] d (d.queueSlotAction q h b) :=
  ((Frame.qs d _).mono (by decide)).trans ((Frame.setVslot _ _ _).mono (by decide))

variable (ha : (d.vslot b.slot.toNat).actions = [])

include ha

theorem queueSlotAction_actions : ((d.queueSlotAction q h b).vslot b.slot.toNat).actions = [(d.qs.nextId, definitionOf b)] := by
  rw [queueSlotAction_vslot_self, ha]
  rfl

/-- With no action before it and no earlier DECODE, it takes effect as it is dispatched. -/
theorem queueSlotAction_acted (hq : d.slotQuiet b.slot.toNat d.qs.nextId = true)
    (hs : b.action = 0 ∨ SMap.rising d.intake.slots = true) :
    SlotActed d ((d.queueSlotAction q h b).slotAction b.slot.toNat) b.slot.toNat (definitionOf b) [] := by
  have hrise : definitionOf b ≠ none ∨ ([] : List (Nat × Option VSet)) ≠ [] ∨ SMap.rising (d.queueSlotAction q h b).intake.slots = true :=
    hs.imp (fun e => by simp [definitionOf, e]) (fun hr => .inr (SMap.rising_set _ _ _ _ hr))
  have w := slotAction_acted (d.queueSlotAction q h b) b.slot.toNat (queueSlotAction_actions d q h b ha) hq hrise
  exact ⟨((Frame.queueSlotAction d q h b).mono (by decide)).trans w.frame, w.dfn, w.actions,
    fun k hk => (w.others k hk).trans (queueSlotAction_vslot_ne d q h b k hk), w.feeds⟩

end Queued

/-! ### A FREE of a slot's buffer (R122) -/

theorem pendingSlotFreeEffect_active (d : Dev) (n : BitVec 1) (ha : d.activeSlot = some n.toNat) : d.pendingSlotFreeEffect n = d := by
  unfold Dev.pendingSlotFreeEffect
  dsimp only
  split
  · rfl
  · exact if_neg (fun hc => hc.2.1 ha)

theorem pendingSlotFreeEffect_undefines (d : Dev) (n : BitVec 1) {id : Nat} (hf : (d.vslot n.toNat).freeing = some id)
    (hq : d.slotQuiet n.toNat id = true) (ha : d.activeSlot ≠ some n.toNat) (hacts : (d.vslot n.toNat).actions = []) :
    d.pendingSlotFreeEffect n = d.setVslot n.toNat {} := by
  simp [Dev.pendingSlotFreeEffect, hf, hq, ha, hacts]

/-! ### The rows of the table -/

section Row

variable {s : State} {q : QueueId} (h : Hdr) {b : ViewSetBody} (hp : s.dev.powered = true) (hq : (s.dev.queue q).hold = .none)

include hq

theorem viewsetDefine_accepts (hb : firstBad (s.dev.viewsetChecks b) = none) :
    s.dev.begin.viewsetDefine q h b = (s.dev.begin.queueSlotAction q h b).slotAction b.slot.toNat :=
  (viewsetDefine_eq s.dev.begin q h b hq).trans (checked_passes _ q h 0x28 _ hb)

include hp

theorem viewsetDefine_rejects {code det : Nat} (hb : firstBad (s.dev.viewsetChecks b) = some (code, det)) :
    Becomes (.viewsetDefine q h b) s ({ s.dev with out := [] }.reject q h 0x28 code det) := by
  refine .of_runOn (exec_viewsetDefine q h b s) hp ?_
  rw [viewsetDefine_eq s.dev.begin q h b hq]
  exact checked_fails _ q h 0x28 _ hb

variable (hb : firstBad (s.dev.viewsetChecks b) = none) (ha : (s.dev.vslot b.slot.toNat).actions = [])

include hb ha

theorem viewsetDefine_acts (hquiet : s.dev.slotQuiet b.slot.toNat s.dev.qs.nextId = true)
    (hs : b.action = 0 ∨ SMap.rising s.dev.intake.slots = true) :
    Runs (.viewsetDefine q h b) s (eventParts ++ [.qs, .intake]) (fun t =>
      (t.vslot b.slot.toNat).dfn = definitionOf b ∧ (t.vslot b.slot.toNat).actions = [] ∧
      (∀ n, n ≠ b.slot.toNat → t.vslot n = s.dev.vslot n) ∧ t.intake.feeds = s.dev.intake.feeds) := by
  have w := queueSlotAction_acted s.dev.begin q h b ha hquiet hs
  refine .of_runOn (exec_viewsetDefine q h b s) hp ?_ ?_ <;> rw [viewsetDefine_accepts h hq hb]
  · exact (Frame.begin _ s.dev).trans w.frame
  · exact ⟨w.dfn, w.actions, w.others, w.feeds⟩

theorem viewsetDefine_waits (hquiet : s.dev.slotQuiet b.slot.toNat s.dev.qs.nextId = false) :
    Runs (.viewsetDefine q h b) s [.qs, .intake] (fun t =>
      t.vslot b.slot.toNat = { s.dev.vslot b.slot.toNat with actions := [(s.dev.qs.nextId, definitionOf b)] }) := by
  have e := (viewsetDefine_accepts h hq hb).trans
    (slotAction_waits (s.dev.begin.queueSlotAction q h b) b.slot.toNat (queueSlotAction_actions s.dev.begin q h b ha) hquiet)
  refine .of_runOn (exec_viewsetDefine q h b s) hp ?_ ?_ <;> rw [e]
  · exact (Frame.begin _ s.dev).trans (Frame.queueSlotAction s.dev.begin q h b)
  · rw [queueSlotAction_vslot_self, Dev.begin_vslot, ha]
    rfl

end Row

section Effects

variable {s : State} (hp : s.dev.powered = true) (n : BitVec 1)

include hp

theorem viewsetDefineTakesEffect_acts {id : Nat} {v : Option VSet} {rest : List (Nat × Option VSet)}
    (ha : (s.dev.vslot n.toNat).actions = (id, v) :: rest) (hq : s.dev.slotQuiet n.toNat id = true)
    (hs : v ≠ none ∨ rest ≠ [] ∨ SMap.rising s.dev.intake.slots = true) :
    Runs (.viewsetDefineTakesEffect n) s (eventParts ++ [.qs, .intake]) (fun t =>
      (t.vslot n.toNat).dfn = v ∧ (t.vslot n.toNat).actions = rest ∧ ∀ k, k ≠ n.toNat → t.vslot k = s.dev.vslot k) := by
  have w := slotAction_acted s.dev.begin n.toNat ha hq hs
  exact .of_runOn (exec_viewsetDefineTakesEffect n s) hp ((Frame.begin _ s.dev).trans w.frame) ⟨w.dfn, w.actions, w.others⟩

theorem pendingSlotFree_undefines {id : Nat} (hf : (s.dev.vslot n.toNat).freeing = some id) (hq : s.dev.slotQuiet n.toNat id = true)
    (ha : s.dev.activeSlot ≠ some n.toNat) (hacts : (s.dev.vslot n.toNat).actions = []) (hr : SMap.rising s.dev.intake.slots = true) :
    Runs (.pendingSlotFreeEffect n) s [.intake] (fun t =>
      t.vslot n.toNat = {} ∧ ∀ k, k ≠ n.toNat → t.vslot k = s.dev.vslot k) := by
  refine .of_runOn (exec_pendingSlotFreeEffect n s) hp ?_ ?_ <;> rw [pendingSlotFreeEffect_undefines s.dev.begin n hf hq ha hacts]
  · exact (Frame.begin _ s.dev).trans (Frame.setVslot s.dev.begin n.toNat {})
  · exact ⟨vslot_setVslot_self s.dev.begin n.toNat {} (.inr hr), fun k hk => vslot_setVslot_ne s.dev.begin n.toNat k {} hk⟩

end Effects

/-- Settles O28: the checks of the target, of a DEFINE's fields and of an UNDEFINE's in their order, then the action at once or waiting, and the
rows by which a waiting action or a FREE takes effect. -/
theorem viewSetSlots : Obligations.ViewSetSlots := by
  intro s q h b hp
  refine ⟨fun hq => ?_, fun n id v rest ha => ⟨fun hquiet hs => ?_, fun hquiet => ?_⟩,
    fun n id hf => ⟨fun hquiet ha hacts hr => ?_, fun ha => ?_⟩⟩
  · have fails : ∀ {code det : Nat}, firstBad (s.dev.viewsetChecks b) = some (code, det) →
        Becomes (.viewsetDefine q h b) s ({ s.dev with out := [] }.reject q h 0x28 code det) := viewsetDefine_rejects h hp hq
    refine ⟨fun h0 hl => ?_, fun h0 hl hn => ?_, fun ha hn => ?_, ⟨fun h0 hl hn => ?_, fun h1 hn => ?_, fun h1 hn => ?_⟩,
      fun h0 hl hn hf hu => ?_, fun h0 hl hn hf hu ha => ?_⟩
    · exact fails (firstBad_slot_target _ b (firstBad_slot_stale _ b h0 hl))
    · exact fails (firstBad_slot_number _ b (fun _ => hl) hn)
    · exact fails (firstBad_slot_action _ b (fun h0 => by simp [h0] at ha) hn ha)
    · have field : ∀ {code det : Nat}, firstBad (s.dev.defineChecks b) = some (code, det) →
          Becomes (.viewsetDefine q h b) s ({ s.dev with out := [] }.reject q h 0x28 code det) :=
        fun hx => fails (firstBad_define_field (fun _ => hl) hn (by simp [h0]) h0 hx)
      refine ⟨fun hx => field (firstBad_define_format _ hx), fun hf hx => field (firstBad_define_curve _ hf hx),
        fun hf hc hx => field (firstBad_define_count _ hf hc hx), fun hf hc hv hx => field (firstBad_define_width _ hf hc hv hx),
        fun hf hc hv hw hx => field (firstBad_define_height _ hf hc hv hw hx),
        fun hf hc hv hw hh hx => field (firstBad_define_peak _ hf hc hv hw hh hx),
        fun hf hc hv hw hh hk hx => field (firstBad_define_samples _ hf hc hv hw hh hk hx),
        fun hf hc hv hw hh hk hs hx => field ((firstBad_define_buffer _ hf hc hv hw hh hk hs).trans (firstBad_here ?_)),
        fun hf hc hv hw hh hk hs hfmt hpitch hsize =>
          (firstBad_define_buffer _ hf hc hv hw hh hk hs).trans (firstBad_past ⟨hfmt, hpitch, hsize⟩ rfl)⟩
      rintro ⟨hfmt, hpitch, hsize⟩
      exact hx.elim (· hfmt) (fun hx => hx.elim (· hpitch) (Nat.not_lt.mpr hsize))
    · exact fails (firstBad_slot_number _ b (fun h0 => by simp [h0] at h1) hn)
    · have hl : b.action = 0 → s.dev.live b.ref = true := fun h0 => by simp [h0] at h1
      have ha : b.action.toNat ≤ 1 := by simp [h1]
      have field : ∀ {code det : Nat}, firstBad (undefineChecks b) = some (code, det) →
          Becomes (.viewsetDefine q h b) s ({ s.dev with out := [] }.reject q h 0x28 code det) :=
        fun hx => fails (firstBad_undefine_field hl hn ha h1 hx)
      refine ⟨fun hx => field (firstBad_undefine_handle hx), fun hr hx => field (firstBad_undefine_gen hr hx),
        fun hr hx => field (firstBad_undefine_format hr hx), fun hr hf hx => field (firstBad_undefine_curve hr hf hx),
        fun hr hf hc hx => field (firstBad_undefine_count hr hf hc hx), fun hr hf hc hv hx => field (firstBad_undefine_width hr hf hc hv hx),
        fun hr hf hc hv hw hx => field (firstBad_undefine_height hr hf hc hv hw hx),
        fun hr hf hc hv hw hh hx => field (firstBad_undefine_peak hr hf hc hv hw hh hx), fun hr hf hc hv hw hh hk => ?_⟩
      have h0 : b.action ≠ 0 := by simp [h1]
      have hpass : firstBad (s.dev.slotFieldChecks b) = none := by
        rw [Dev.slotFieldChecks, if_neg h0, firstBad_undefine_pass hr hf hc hv hw hh hk]
      have hd : definitionOf b = none := if_neg h0
      refine ⟨fun hu => fails (firstBad_slot_used hl hn ha hpass hu), fun hu hacts => ?_⟩
      have hb := firstBad_slot_unused hl hn ha hpass hu
      exact hd ▸ ⟨fun hquiet hrise => viewsetDefine_acts h hp hq hb hacts hquiet (.inr hrise), viewsetDefine_waits h hp hq hb hacts⟩
    · exact fails (firstBad_slot_used (fun _ => hl) hn (by simp [h0]) (by rwa [Dev.slotFieldChecks, if_pos h0]) hu)
    · have hb := firstBad_slot_unused (fun _ => hl) hn (by simp [h0]) (by rwa [Dev.slotFieldChecks, if_pos h0]) hu
      have hd : definitionOf b = some (viewSetOf b) := if_pos h0
      exact hd ▸ ⟨fun hquiet => viewsetDefine_acts h hp hq hb ha hquiet (.inl h0), viewsetDefine_waits h hp hq hb ha⟩
  · exact viewsetDefineTakesEffect_acts hp n ha hquiet hs
  · exact .of_runOn (exec_viewsetDefineTakesEffect n s) hp (slotAction_waits s.dev.begin n.toNat ha hquiet)
  · exact pendingSlotFree_undefines hp n hf hquiet ha hacts hr
  · exact .of_runOn (exec_pendingSlotFreeEffect n s) hp (pendingSlotFreeEffect_active s.dev.begin n ha)

end Sys2Proof.Machine
end

section
/-! COMMIT (file 09): its checks in their order, what a refused one notes, and the pending commit that takes every shadow. -/

namespace Sys2Proof.Machine

theorem Frame.comp (d : Dev) (x : Comp) : Frame [.comp] d { d with comp := x } := by
  intro p hp
  cases p with
  | comp => exact absurd (List.mem_singleton_self _) hp
  | _ => rfl

theorem Frame.reject (d : Dev) (q : QueueId) (h : Hdr) (op code det : Nat) (m : Option Nat) :
    Frame (eventParts ++ [.qs, .intake]) d (d.reject q h op code det m) :=
  ((Frame.qs d _).mono (by decide)).trans (Frame.failCmd (d.dispatch q h op []) d.qs.nextId code det m)

/-! ### The checks, in their order (R188) -/

theorem firstBad_commit_policy (b : CommitBody) (hb : 2 < b.policy.toNat) : firstBad (commitFields b) = some (0x0102, 8) :=
  firstBad_fail (by simpa using hb) _ _ _

section Fields

variable (b : CommitBody) (hb : b.policy.toNat ≤ 2)

include hb

theorem firstBad_commit_chase (hc : b.chase = true) (hq : 63 < b.chaseQueue.toNat) : firstBad (commitFields b) = some (0x0102, 10) := by
  rw [commitFields, firstBad_pass (by simpa using hb), firstBad_fail (by simpa [hc] using hq)]

theorem firstBad_commit_pass (hc : b.chase = true → b.chaseQueue.toNat ≤ 63) : firstBad (commitFields b) = none := by
  rw [commitFields, firstBad_pass (by simpa using hb), firstBad_pass (by cases e : b.chase <;> simp [hc, e])]
  rfl

end Fields

/-- The settings that a commit of the shadows leads to. -/
def Dev.gathered (d : Dev) : Applied := d.projected.puts d.fuses d.comp.shadow

theorem validate_full (d : Dev) (h : 4 ≤ d.comp.pend.length) : d.validate = some (0x0503, 0, none) := if_pos h

theorem checkSelect_undefined (d : Dev) (a : Applied) (hn : a.val d.fuses 0x212001 ≠ 0xFF)
    (hu : 2 ≤ a.val d.fuses 0x212001 ∨ d.slotDef (a.val d.fuses 0x212001) = none) :
    d.checkSelect a = some (0x0302, a.val d.fuses 0x212001 % 256 * 65536, none) := by
  refine if_neg ?_
  rintro (h | ⟨h, hs⟩)
  · exact hn h
  · obtain h2 | hnone := hu
    · omega
    · simp [hnone] at hs

theorem validate_select (d : Dev) (h : d.comp.pend.length < 4) {e : CommitBad} (hs : d.checkSelect d.gathered = some e) :
    d.validate = some e := by
  have e1 : d.validate = [d.checkSelect d.gathered, d.checkMaps d.gathered, checkLines d.gathered, d.checkRates d.gathered,
      d.checkTiming d.gathered, d.checkWins d.gathered].findSome? id := if_neg (Nat.not_le.mpr h)
  rw [e1, hs]
  rfl

/-! ### A refused commit (R160, R189, R193) -/

/-- A COMMIT that is refused: noted, and its command rejected. -/
def Dev.refuseCommit (d : Dev) (q : QueueId) (h : Hdr) (e : CommitBad) : Dev := (d.noteReject e).reject q h 0x41 e.1 e.2.1 e.2.2

theorem noteReject_comp (d : Dev) (e : CommitBad) :
    (d.noteReject e).comp = { d.comp with rejCode := e.1, rejData := e.2.2.getD (e.2.1 % 2 ^ 24) } := by
  unfold Dev.noteReject
  dsimp only
  split
  · rfl
  · split <;> rfl

theorem Frame.noteReject (d : Dev) (e : CommitBad) : Frame [.comp, .dict] d (d.noteReject e) := by
  have hc : Frame [.comp, .dict] d { d with comp := { d.comp with rejCode := e.1, rejData := e.2.2.getD (e.2.1 % 2 ^ 24) } } :=
    (Frame.comp d _).mono (by decide)
  unfold Dev.noteReject
  dsimp only
  split
  · exact hc.trans ((Frame.bump _ _).mono (by decide))
  · split
    · exact hc.trans ((Frame.bump _ _).mono (by decide))
    · exact hc

theorem Frame.refuseCommit (d : Dev) (q : QueueId) (h : Hdr) (e : CommitBad) :
    Frame (eventParts ++ [.qs, .intake, .comp]) d (d.refuseCommit q h e) :=
  ((Frame.noteReject d e).mono (by decide)).trans ((Frame.reject _ q h 0x41 e.1 e.2.1 e.2.2).mono (by decide))

/-! ### A valid commit (R187, R189, R203) -/

/-- The pending commit that a COMMIT of a queue joins to the others. -/
def Dev.gatheredCommit (d : Dev) (q : QueueId) (h : Hdr) (b : CommitBody) (gate : Option (Nat × BufRef)) : Commit :=
  { ordinal := d.comp.ordinal + 1, who := .queue q, tag := h.tag, policy := b.policy.toNat, items := d.comp.shadow, gate := gate,
    deferred := false, timedOut := false }

/-- A COMMIT that is valid: it completes as it takes the shadows. -/
def Dev.takeShadows (d : Dev) (q : QueueId) (h : Hdr) (b : CommitBody) : Dev :=
  d.instant q h 0x41 (fun e => e.acceptCommit (.queue q) h.tag b.policy.toNat (e.findGate b)) (d.comp.ordinal + 1).toNat

theorem acceptCommit_comp (d : Dev) (who : Committer) (tag : U16) (policy : Nat) (gate : Option (Nat × BufRef)) :
    (d.acceptCommit who tag policy gate).comp = { d.comp with
      ordinal := d.comp.ordinal + 1
      shadow := []
      pend := d.comp.pend.map (fun (p : Commit) => { p with deferred := false }) ++
        [{ ordinal := d.comp.ordinal + 1, who := who, tag := tag, policy := policy, items := d.comp.shadow, gate := gate,
           deferred := false, timedOut := false }] } := by
  unfold Dev.acceptCommit
  dsimp only
  split <;> rfl

theorem Frame.acceptCommit (d : Dev) (who : Committer) (tag : U16) (policy : Nat) (gate : Option (Nat × BufRef)) :
    Frame [.comp, .dict] d (d.acceptCommit who tag policy gate) := by
  unfold Dev.acceptCommit
  dsimp only
  split
  · exact ((Frame.comp d _).mono (by decide)).trans ((Frame.bump _ _).mono (by decide))
  · exact (Frame.comp d _).mono (by decide)

theorem takeShadows_comp (d : Dev) (q : QueueId) (h : Hdr) (b : CommitBody) :
    ∃ gate, (d.takeShadows q h b).comp = { d.comp with
      ordinal := d.comp.ordinal + 1
      shadow := []
      pend := d.comp.pend.map (fun (p : Commit) => { p with deferred := false }) ++ [d.gatheredCommit q h b gate] } := by
  refine ⟨(d.dispatch q h 0x41 []).findGate b, ?_⟩
  rw [Dev.takeShadows, Dev.instant, Dev.finish_comp, acceptCommit_comp, Dev.dispatch_comp]
  rfl

theorem Frame.takeShadows (d : Dev) (q : QueueId) (h : Hdr) (b : CommitBody) :
    Frame (eventParts ++ [.qs, .intake, .comp]) d (d.takeShadows q h b) := by
  have hq : Frame [.qs] d (d.dispatch q h 0x41 []) := Frame.qs d _
  exact ((hq.mono (by decide)).trans ((Frame.acceptCommit _ _ _ _ _).mono (by decide))).trans ((Frame.finish _ _ _).mono (by decide))

/-! ### The row of the table -/

section Row

variable {s : State} {q : QueueId} (h : Hdr) {b : CommitBody} (hp : s.dev.powered = true)

include hp

/-- A COMMIT that leaves a refusal leaves its code and data, and the shadows and pending commits as they were. -/
theorem commit_leaves_refusal {e : CommitBad} (he : s.dev.begin.commit q h b = s.dev.begin.refuseCommit q h e) :
    Runs (.commit q h b) s (eventParts ++ [.qs, .intake, .comp])
      (fun t => t.comp = { s.dev.comp with rejCode := e.1, rejData := e.2.2.getD (e.2.1 % 2 ^ 24) }) := by
  refine .of_runOn (exec_commit q h b s) hp ?_ ?_ <;> rw [he]
  · exact (Frame.begin _ s.dev).trans (Frame.refuseCommit s.dev.begin q h e)
  · rw [Dev.refuseCommit, Dev.reject_comp, noteReject_comp, Dev.begin_comp]

variable (hq : (s.dev.queue q).hold = .none)

include hq

theorem commit_bad_field {code off : Nat} (hb : firstBad (commitFields b) = some (code, off)) :
    Runs (.commit q h b) s (eventParts ++ [.qs, .intake, .comp])
      (fun t => t.comp = { s.dev.comp with rejCode := code, rejData := off % 2 ^ 24 }) := by
  refine commit_leaves_refusal h hp (e := (code, off, none)) ((issue_free s.dev.begin q _ hq).trans ?_)
  simp only [hb]
  rfl

theorem commit_invalid (hb : firstBad (commitFields b) = none) {e : CommitBad} (hv : s.dev.validate = some e) :
    Runs (.commit q h b) s (eventParts ++ [.qs, .intake, .comp])
      (fun t => t.comp = { s.dev.comp with rejCode := e.1, rejData := e.2.2.getD (e.2.1 % 2 ^ 24) }) := by
  have hv' : s.dev.begin.validate = some e := hv
  refine commit_leaves_refusal h hp ((issue_free s.dev.begin q _ hq).trans ?_)
  simp only [hb, hv']
  rfl

theorem commit_valid (hb : firstBad (commitFields b) = none) (hv : s.dev.validate = none) :
    Runs (.commit q h b) s (eventParts ++ [.qs, .intake, .comp]) (fun t => ∃ gate, t.comp = { s.dev.comp with
      ordinal := s.dev.comp.ordinal + 1
      shadow := []
      pend := s.dev.comp.pend.map (fun (p : Commit) => { p with deferred := false }) ++ [s.dev.gatheredCommit q h b gate] }) := by
  have hv' : s.dev.begin.validate = none := hv
  have e : s.dev.begin.commit q h b = s.dev.begin.takeShadows q h b := by
    refine (issue_free s.dev.begin q _ hq).trans ?_
    simp only [hb, hv']
    rfl
  refine .of_runOn (exec_commit q h b s) hp ?_ ?_ <;> rw [e]
  · exact (Frame.begin _ s.dev).trans (Frame.takeShadows s.dev.begin q h b)
  · exact takeShadows_comp s.dev.begin q h b

end Row

/-- Settles O30: COMMIT's fields and its validation fail in their order, and one that passes takes the shadows. -/
theorem commitTakesTheShadows : Obligations.CommitTakesTheShadows := by
  intro s q h b hp hq
  refine ⟨fun hpol => ?_, fun hpol hc hcq => ?_, fun hpol hc => ⟨fun hl => ?_, fun hl hn hu => ?_, fun hv => ?_⟩⟩
  · exact commit_bad_field h hp hq (firstBad_commit_policy b hpol)
  · exact commit_bad_field h hp hq (firstBad_commit_chase b hpol hc hcq)
  · exact commit_invalid h hp hq (firstBad_commit_pass b hpol hc) (validate_full s.dev hl)
  · have hs := validate_select s.dev hl (checkSelect_undefined s.dev s.dev.gathered hn hu)
    refine (commit_invalid h hp hq (firstBad_commit_pass b hpol hc) hs).imp (fun t ht => ?_)
    have hsmall : s.dev.gathered.val s.dev.fuses 0x212001 % 256 * 65536 < 2 ^ 24 := by omega
    rw [Option.getD_none, Nat.mod_eq_of_lt hsmall] at ht
    exact ht
  · refine (commit_valid h hp hq (firstBad_commit_pass b hpol hc) hv).imp ?_
    rintro t ⟨gate, ht⟩
    rw [ht]
    refine ⟨rfl, rfl, rfl, rfl, rfl, rfl, ?_, ?_, s.dev.gatheredCommit q h b gate, List.getLast?_concat, rfl, rfl, rfl⟩
    · simp [Dev.gatheredCommit, Function.comp_def]
    · simp [Dev.gatheredCommit, or_imp, forall_and]

end Sys2Proof.Machine
end

section
/-! LENS_SET, LAYER_SET, LUT_LOAD and PROOF_SET (files 07, 09, 14): the shadows that each writes as it completes, and how LENS_SET fails
whole. -/

namespace Sys2Proof.Machine

/-! ### Shadows written as a command completes (R187) -/

/-- What a command that writes shadows leaves: the items in the shadow set, nothing in force, and no buffer or queue touched. -/
def Shadowed (d : Dev) (is : List Item) (t : Dev) : Prop :=
  t.comp = { d.comp with shadow := is.foldl putItem d.comp.shadow } ∧ t.qs.bufs = d.qs.bufs ∧ t.qs.queues = d.qs.queues

/-- A command that completes by writing shadows. -/
def Dev.stageAll (d : Dev) (q : QueueId) (h : Hdr) (op : Nat) (is : List Item) : Dev :=
  d.instant q h op (fun e => is.foldl Dev.stage e)

theorem foldl_stage (d : Dev) (is : List Item) :
    is.foldl Dev.stage d = { d with comp := { d.comp with shadow := is.foldl putItem d.comp.shadow } } := by
  induction is generalizing d with
  | nil => rfl
  | cons i is ih => exact ih (d.stage i)

theorem stageAll_shadowed (d : Dev) (q : QueueId) (h : Hdr) (op : Nat) (is : List Item) : Shadowed d is (d.stageAll q h op is) := by
  rw [Dev.stageAll, Dev.instant, foldl_stage]
  exact ⟨Dev.finish_comp _ _ _, Dev.finish_qs_bufs _ _ _, Dev.finish_qs_queues _ _ _⟩

theorem Frame.stageAll (d : Dev) (q : QueueId) (h : Hdr) (op : Nat) (is : List Item) :
    Frame (eventParts ++ [.qs, .intake] ++ [.comp]) d (d.stageAll q h op is) := by
  have hq : Frame [.qs] d (d.dispatch q h op []) := Frame.qs d _
  rw [Dev.stageAll, Dev.instant, foldl_stage]
  exact ((hq.mono (by decide)).trans ((Frame.comp _ _).mono (by decide))).trans ((Frame.finish _ _ _).mono (by decide))

/-- A command that comes to writing shadows runs as the statements say. -/
theorem Runs.shadowed {c : Instr} {s : State} {f : Dev → Dev} {q : QueueId} {h : Hdr} {op : Nat} {is : List Item}
    (e : exec c s = runOn s f) (hp : s.dev.powered = true) (hf : f s.dev.begin = s.dev.begin.stageAll q h op is) :
    Runs c s (eventParts ++ [.qs, .intake] ++ [.comp]) (Shadowed s.dev is) := by
  refine .of_runOn e hp ?_ ?_ <;> rw [hf]
  · exact (Frame.begin _ s.dev).trans (Frame.stageAll s.dev.begin q h op is)
  · exact stageAll_shadowed s.dev.begin q h op is

/-! ### A command that fails counts no more than its event (R40, R52) -/

/-- An event may count among those dropped without a session, and writes nothing else into the dictionary. -/
theorem record_dict (d : Dev) (e : Event) : (d.record e).dict = d.dict ∨ (d.record e).dict = (d.bump 0x230007).dict := by
  by_cases h : d.host.owner = none
  · exact .inr (congrArg Dev.dict (record_no_session d e h))
  · refine .inl ?_
    cases he : d.ring.enabled with
    | false => rw [record_disabled d e h he]; rfl
    | true =>
      cases hf : d.ring.full with
      | true => rw [record_full d e h he hf]; rfl
      | false => rw [record_stored d e h he hf, signal0_dict, putRecord_dict]

theorem rising_event (d : Dev) (ty src x : Nat) (h : SMap.rising d.dict.vals = true) :
    SMap.rising (d.event ty src x).dict.vals = true := by
  obtain e | e := record_dict d ⟨BitVec.ofNat 16 ty, BitVec.ofNat 16 src, d.openTack, BitVec.ofNat 64 x⟩
  · rw [Dev.event, e, h]
  · rw [Dev.event, e]
    exact rising_bumpN d _ _ h

/-- A failing command ends its incomplete command and poisons its FENCE: the dictionary is as it was. -/
theorem poison_retireCmd_dict (d : Dev) (id : Nat) (q : QueueId) (tag : U16) : ((d.retireCmd id).poison q id tag).dict = d.dict := by
  unfold Dev.poison
  split <;> rfl

theorem val_poison_retireCmd (d : Dev) (id : Nat) (q : QueueId) (tag : U16) (k : Nat) :
    ((d.retireCmd id).poison q id tag).val k = d.val k := by
  refine val_of_same (poison_retireCmd_dict d id q tag) ?_ k
  unfold Dev.poison
  split <;> rfl

theorem val_failCmd_ne (d : Dev) (id code det : Nat) (m : Option Nat) (k : Nat) (hk : k ≠ 0x230007) :
    (d.failCmd id code det m).val k = d.val k := by
  unfold Dev.failCmd
  split
  · rfl
  · cases m with
    | none => exact (val_event_ne _ _ _ _ k hk).trans (val_poison_retireCmd ..)
    | some x => exact ((val_event_ne _ _ _ _ k hk).trans (val_event_ne _ _ _ _ k hk)).trans (val_poison_retireCmd ..)

theorem rising_failCmd (d : Dev) (id code det : Nat) (m : Option Nat) (h : SMap.rising d.dict.vals = true) :
    SMap.rising (d.failCmd id code det m).dict.vals = true := by
  unfold Dev.failCmd
  split
  · exact h
  · next c _ =>
    have hr : SMap.rising ((d.retireCmd id).poison c.q id c.tag).dict.vals = true := by rwa [poison_retireCmd_dict]
    cases m with
    | none => exact rising_event _ _ _ _ hr
    | some x => exact rising_event _ _ _ _ (rising_event _ _ _ _ hr)

/-! ### LENS_SET fails (R160) -/

section Failure

variable (d : Dev) (q : QueueId) (h : Hdr) (e : LensBad)

theorem Frame.lensReject : Frame (eventParts ++ [.qs, .intake]) d (d.lensReject q h e) :=
  (Frame.reject d q h 0x30 e.1 e.2.1 e.2.2).trans ((Frame.bump _ _).mono (by decide))

theorem lensReject_bufs : (d.lensReject q h e).qs.bufs = d.qs.bufs := by
  rw [Dev.lensReject, Dev.bump_qs, Dev.reject_qs_bufs]

/-- A LENS_SET that fails is counted once. -/
theorem val_lensReject (hr : SMap.rising d.dict.vals = true) :
    (d.lensReject q h e).val 0x213002 = satAdd 0xFFFFFFFF (d.val 0x213002) 1 := by
  have hv : (d.reject q h 0x30 e.1 e.2.1 e.2.2).val 0x213002 = d.val 0x213002 := val_failCmd_ne _ _ _ _ _ _ (by decide)
  have hrise : SMap.rising (d.reject q h 0x30 e.1 e.2.1 e.2.2).dict.vals = true := rising_failCmd _ _ _ _ _ hr
  rw [Dev.lensReject, val_bump_self _ _ hrise, hv]

end Failure

/-! ### LENS_SET reads its maps (R144) -/

theorem Frame.useFree (d : Dev) : Frame [.free] d d.useFree := by
  intro p hp
  cases p with
  | free => exact absurd (List.mem_singleton_self _) hp
  | _ => rfl

/-- Two reads of lens maps by two devices come to the same maps, or to the same failure, which may have taken a free value; nothing else of either
device changes. -/
inductive ReadAlike {α : Type} (d e : Dev) : Except LensBad α × Dev → Except LensBad α × Dev → Prop where
  | maps (a : α) : ReadAlike d e (.ok a, d) (.ok a, e)
  | fails (x : LensBad) : ReadAlike d e (.error x, d) (.error x, e)
  | failsOpen (x : LensBad) : ReadAlike d e (.error x, d.useFree) (.error x, e.useFree)

section Read

variable {d : Dev} (hu : d.dram.upsets = []) (r : BufRef)

include hu

/-- Where no line is upset, a lens map is what the buffer holds, and what was sent before does not bear on it. -/
theorem readLens_alike (s off : Nat) : ReadAlike d d.begin (d.readLens r s off) (d.begin.readLens r s off) := by
  have hb : d.begin.lostBuf r off 128 = d.lostBuf r off 128 := rfl
  have hr : d.begin.readBuf r off 128 = d.readBuf r off 128 := rfl
  simp only [Dev.readLens, checkBuf_clean d _ _ _ _ hu, checkBuf_clean d.begin _ _ _ _ hu, Dev.begin_sizeOf, Dev.begin_freeAt,
    Dev.begin_sail, hb, hr]
  split
  · exact .fails _
  · split
    · exact .failsOpen _
    · split
      · exact .fails _
      · split
        · exact .fails _
        · exact .maps _

theorem readLenses_alike (stride n s off : Nat) :
    ReadAlike d d.begin (d.readLenses r stride n s off) (d.begin.readLenses r stride n s off) := by
  induction n generalizing s off with
  | zero => exact .maps []
  | succ n ih =>
    have hl := readLens_alike hu r s off
    rw [Dev.readLenses, Dev.readLenses]
    generalize d.readLens r s off = x, d.begin.readLens r s off = y at hl ⊢
    cases hl with
    | fails e => exact .fails e
    | failsOpen e => exact .failsOpen e
    | maps l =>
      have ht := ih (s + 1) (off + stride)
      dsimp only
      generalize d.readLenses r stride n (s + 1) (off + stride) = x, d.begin.readLenses r stride n (s + 1) (off + stride) = y at ht ⊢
      cases ht with
      | fails e => exact .fails e
      | failsOpen e => exact .failsOpen e
      | maps t => exact .maps _

theorem readLenses_begin_ok {stride n s off : Nat} {is : List Item} {d1 : Dev} (h : d.readLenses r stride n s off = (.ok is, d1)) :
    d.begin.readLenses r stride n s off = (.ok is, d.begin) := by
  have ha := readLenses_alike hu r stride n s off
  rw [h] at ha
  generalize d.begin.readLenses r stride n s off = y at ha ⊢
  cases ha with
  | maps => rfl

theorem readLenses_begin_error {stride n s off : Nat} {e : LensBad} {d1 : Dev} (h : d.readLenses r stride n s off = (.error e, d1)) :
    ∃ d2, d.begin.readLenses r stride n s off = (.error e, d2) ∧ (d2 = d.begin ∨ d2 = d.begin.useFree) := by
  have ha := readLenses_alike hu r stride n s off
  rw [h] at ha
  generalize d.begin.readLenses r stride n s off = y at ha ⊢
  cases ha with
  | fails => exact ⟨_, rfl, .inl rfl⟩
  | failsOpen => exact ⟨_, rfl, .inr rfl⟩

end Read

/-! ### LENS_SET -/

/-- The items of a LENS_SET that takes the maps from its sails. -/
def unmapped (b : LensSetBody) : List Item := (List.range b.count.toNat).map (fun i => Item.lens (BitVec.ofNat 10 (b.first.toNat + i)) none)

section LensSet

variable (d : Dev) (q : QueueId) (h : Hdr) {b : LensSetBody}

/-- A buffer that is not live fails a LENS_SET that needs one. -/
theorem firstBad_lens_stale (hn : b.none = false) (hl : d.live b.ref = false) : firstBad (d.lensFields b) = some (0x0111, 12) :=
  firstBad_fail (by simp [hn, hl]) _ _ _

/-- A LENS_SET without maps names sails of the part and nothing else (R3). -/
theorem firstBad_lens_none (hn : b.none = true) (htop : b.first.toNat + b.count.toNat ≤ 32 * mastsOf d.fuses.md0512)
    (hc : 1 ≤ b.count.toNat) (hr : b.ref = ⟨0, 0⟩) (ho : b.offset = 0) (hs : b.stride = 0) : firstBad (d.lensFields b) = none := by
  have h32 : mastsOf d.fuses.md0512 ≤ 32 := by
    unfold mastsOf
    split <;> decide
  have hfirst : b.first.toNat < 32 * mastsOf d.fuses.md0512 := by omega
  have hcount : b.count.toNat ≤ 1024 := by omega
  simp [Dev.lensFields, firstBad, hn, hr, ho, hs, htop, hc, hfirst, hcount]

variable (hq : (d.queue q).hold = .none)

include hq

theorem lensSet_rejects {code det : Nat} (hb : firstBad (d.lensFields b) = some (code, det)) :
    d.lensSet q h b = d.lensReject q h (code, det, none) := by
  refine (issue_free d q _ hq).trans ?_
  simp only [hb]

variable (hb : firstBad (d.lensFields b) = none)

include hb

theorem lensSet_unmaps (hn : b.none = true) : d.lensSet q h b = d.stageAll q h 0x30 (unmapped b) := by
  refine (issue_free d q _ hq).trans ?_
  simp only [hb, if_pos hn]
  rfl

variable (hn : b.none = false)

include hn

theorem lensSet_maps {is : List Item} (hr : d.readLenses b.ref b.stride.toNat b.count.toNat b.first.toNat b.offset.toNat = (.ok is, d)) :
    d.lensSet q h b = d.stageAll q h 0x30 is := by
  refine (issue_free d q _ hq).trans ?_
  simp only [hb, hn, Bool.false_eq_true, if_false, hr]
  rfl

theorem lensSet_fails {e : LensBad} {d1 : Dev}
    (hr : d.readLenses b.ref b.stride.toNat b.count.toNat b.first.toNat b.offset.toNat = (.error e, d1)) :
    d.lensSet q h b = d1.lensReject q h e := by
  refine (issue_free d q _ hq).trans ?_
  simp only [hb, hn, Bool.false_eq_true, if_false, hr]

end LensSet

/-! ### LAYER_SET, LUT_LOAD and PROOF_SET -/

section Layer

variable (d : Dev) {b : LayerBody}

theorem firstBad_layer_stale (ha : b.action = 0) (hl : d.live b.ref = false) : firstBad (d.layerChecks b) = some (0x0111, 10) :=
  firstBad_fail (by simp [ha, hl]) _ _ _

/-- The base layer, 0, and those above 7 have no descriptor. -/
theorem firstBad_layer_number (ha : b.action = 1) (hn : b.layer = 0 ∨ 7 < b.layer.toNat) : firstBad (d.layerChecks b) = some (0x0501, 8) := by
  have hout : (decide (1 ≤ b.layer.toNat) && decide (b.layer.toNat ≤ 7)) = false := by
    rw [← Bool.decide_and, decide_eq_false_iff_not]
    rintro ⟨h1, h7⟩
    obtain h0 | h8 := hn
    · simp [h0] at h1
    · omega
  exact (firstBad_pass (by simp [ha]) _ _ _).trans (firstBad_fail hout _ _ _)

end Layer

/-- The checks of a LUT_LOAD, in their order. -/
def Dev.lutChecks (d : Dev) (b : LutBody) : List (Bool × Nat × Nat) :=
  [(d.live b.ref, 0x0111, 10), (decide (b.lut.toNat ≤ 7), 0x0102, 8), (decide (b.offset.toNat % 64 = 0), 0x0102, 16),
   (decide (b.offset.toNat + 16384 ≤ d.sizeOf b.ref), 0x0A01, boundsDetail (d.sizeOf b.ref) b.offset.toNat)]

theorem lutWords_length (bs : List Byte) (n : Nat) : (lutWords bs n).length = n := by
  induction n generalizing bs with
  | zero => rfl
  | succ n ih => simp [lutWords, ih]

theorem field_drop (bs : List Byte) (m off n : Nat) : field (bs.drop m) off n = field bs (m + off) n := by
  rw [field, field, slice, slice, List.drop_drop]

/-- Word i of a LUT is its four bytes from 4 i on (R185). -/
theorem lutWords_getD (bs : List Byte) {n i : Nat} (h : i < n) : (lutWords bs n).getD i 0 = BitVec.ofNat 32 (field bs (4 * i) 4) := by
  induction n generalizing bs i with
  | zero => omega
  | succ n ih =>
    cases i with
    | zero => rfl
    | succ i =>
      have ht : (lutWords (bs.drop 4) n).getD i 0 = BitVec.ofNat 32 (field bs (4 + 4 * i) 4) := by
        rw [ih _ (Nat.lt_of_succ_lt_succ h), field_drop]
      rw [lutWords, List.getD_cons_succ, ht, Nat.mul_succ, Nat.add_comm]

/-- A LUT_LOAD that passes reads the buffer as it is dispatched (R186). -/
theorem lutLoad_stages (d : Dev) (q : QueueId) (h : Hdr) {b : LutBody} (hq : (d.queue q).hold = .none)
    (hb : firstBad (d.lutChecks b) = none) (hl : d.lostBuf b.ref b.offset.toNat 16384 = false) (hu : d.dram.upsets = []) :
    d.lutLoad q h b = d.stageAll q h 0x42 [.lut b.lut.toNat (lutWords (d.readBuf b.ref b.offset.toNat 16384) 4096)] := by
  refine ((issue_free d q _ hq).trans (checked_passes d q h 0x42 _ hb)).trans ?_
  simp only [hl, Bool.false_eq_true, if_false, checkBuf_clean d _ _ _ _ hu]
  rfl

/-- There are 64 proof windows. -/
theorem firstBad_proof_window (d : Dev) {b : ProofBody} (hw : 63 < b.window.toNat) : firstBad (d.proofFields b) = some (0x0102, 8) :=
  firstBad_here (Nat.not_le.mpr hw)

/-! ### The rows of the table -/

section Row

variable {s : State} {q : QueueId} (h : Hdr) (hp : s.dev.powered = true) (hq : (s.dev.queue q).hold = .none)

include hp hq

theorem lensSet_stale {b : LensSetBody} (hn : b.none = false) (hl : s.dev.live b.ref = false) :
    Runs (.lensSet q h b) s (eventParts ++ [.qs, .intake]) (fun t => t.qs.bufs = s.dev.qs.bufs) := by
  have e := lensSet_rejects s.dev.begin q h hq (firstBad_lens_stale s.dev.begin hn hl)
  refine .of_runOn (exec_lensSet q h b s) hp ?_ ?_ <;> rw [e]
  · exact (Frame.begin _ s.dev).trans (Frame.lensReject s.dev.begin q h _)
  · exact lensReject_bufs s.dev.begin q h _

section Maps

variable {b : LensSetBody} (hn : b.none = false) (hb : firstBad (s.dev.lensFields b) = none) (hu : s.dev.dram.upsets = [])

include hn hb hu

theorem lensSet_writes {is : List Item} {d1 : Dev}
    (hr : s.dev.readLenses b.ref b.stride.toNat b.count.toNat b.first.toNat b.offset.toNat = (.ok is, d1)) :
    Runs (.lensSet q h b) s (eventParts ++ [.qs, .intake] ++ [.comp]) (Shadowed s.dev is) :=
  .shadowed (exec_lensSet q h b s) hp (lensSet_maps s.dev.begin q h hq hb hn (readLenses_begin_ok hu b.ref hr))

/-- A LENS_SET with a map that cannot be had fails whole. -/
theorem lensSet_counts {e : LensBad} {d1 : Dev}
    (hr : s.dev.readLenses b.ref b.stride.toNat b.count.toNat b.first.toNat b.offset.toNat = (.error e, d1))
    (hv : SMap.rising s.dev.dict.vals = true) :
    Runs (.lensSet q h b) s (eventParts ++ [.qs, .intake] ++ [.free])
      (fun t => t.val 0x213002 = satAdd 0xFFFFFFFF (s.dev.val 0x213002) 1) := by
  obtain ⟨d2, hr2, hd⟩ := readLenses_begin_error hu b.ref hr
  have hf : Frame [.free] s.dev d2 ∧ d2.dict = s.dev.dict ∧ d2.fuses = s.dev.fuses := by
    obtain rfl | rfl := hd
    · exact ⟨Frame.begin _ s.dev, rfl, rfl⟩
    · exact ⟨(Frame.begin _ s.dev).trans (Frame.useFree s.dev.begin), rfl, rfl⟩
  obtain ⟨hframe, hdict, hfuses⟩ := hf
  refine .of_runOn (exec_lensSet q h b s) hp ?_ ?_ <;> rw [lensSet_fails s.dev.begin q h hq hb hn hr2]
  · exact (hframe.mono (by decide)).trans ((Frame.lensReject d2 q h e).mono (by decide))
  · rw [val_lensReject d2 q h e (by rwa [hdict]), val_of_same hdict hfuses]

end Maps

theorem layerSet_rejects {b : LayerBody} {code det : Nat} (hb : firstBad (s.dev.layerChecks b) = some (code, det)) :
    Becomes (.layerSet q h b) s ({ s.dev with out := [] }.reject q h 0x40 code det) :=
  .of_runOn (exec_layerSet q h b s) hp ((issue_free s.dev.begin q _ hq).trans (checked_fails _ q h 0x40 _ hb))

theorem layerSet_writes {b : LayerBody} (hb : firstBad (s.dev.layerChecks b) = none) :
    Runs (.layerSet q h b) s (eventParts ++ [.qs, .intake] ++ [.comp])
      (Shadowed s.dev [.layer b.layer.toNat (if b.action = 0 then some b else none)]) :=
  .shadowed (exec_layerSet q h b s) hp ((issue_free s.dev.begin q _ hq).trans (checked_passes _ q h 0x40 _ hb))

theorem lutLoad_rejects {b : LutBody} {code det : Nat} (hb : firstBad (s.dev.lutChecks b) = some (code, det)) :
    Becomes (.lutLoad q h b) s ({ s.dev with out := [] }.reject q h 0x42 code det) :=
  .of_runOn (exec_lutLoad q h b s) hp ((issue_free s.dev.begin q _ hq).trans (checked_fails _ q h 0x42 _ hb))

theorem lutLoad_writes {b : LutBody} (hb : firstBad (s.dev.lutChecks b) = none) (hl : s.dev.lostBuf b.ref b.offset.toNat 16384 = false)
    (hu : s.dev.dram.upsets = []) : Runs (.lutLoad q h b) s (eventParts ++ [.qs, .intake] ++ [.comp])
      (Shadowed s.dev [.lut b.lut.toNat (lutWords (s.dev.readBuf b.ref b.offset.toNat 16384) 4096)]) :=
  .shadowed (exec_lutLoad q h b s) hp (lutLoad_stages s.dev.begin q h hq hb hl hu)

theorem proofSet_rejects {b : ProofBody} {code det : Nat} (hb : firstBad (s.dev.proofFields b) = some (code, det)) :
    Becomes (.proofSet q h b) s ({ s.dev with out := [] }.reject q h 0x60 code det) :=
  .of_runOn (exec_proofSet q h b s) hp ((issue_free s.dev.begin q _ hq).trans (checked_fails _ q h 0x60 _ hb))

theorem proofSet_writes {b : ProofBody} (hb : firstBad (s.dev.proofFields b) = none) :
    Runs (.proofSet q h b) s (eventParts ++ [.qs, .intake] ++ [.comp])
      (Shadowed s.dev [.win b.window.toNat (if b.action = 1 then none else some b)]) :=
  .shadowed (exec_proofSet q h b s) hp ((issue_free s.dev.begin q _ hq).trans (checked_passes _ q h 0x60 _ hb))

end Row

/-- Settles O29: each of the four commands completes by writing shadows of its kind, and a failing one comes to its rejection. -/
theorem shadowsAreWritten : Obligations.ShadowsAreWritten := by
  intro s q h hp hq
  refine ⟨fun b => ⟨fun hn hl => ?_, fun hn htop hc hr ho hs => ?_, fun hn hb hu => ⟨fun is d1 hr => ?_, fun e d1 hr hv => ?_⟩⟩,
    fun b => ⟨fun ha hl => ?_, fun ha hn => ?_, fun hb => ?_⟩,
    fun b => ⟨fun hl => ?_, fun hl hn ho hs => ?_, fun hl hn ho hs hlost hu => ?_⟩,
    fun b => ⟨fun hw => ?_, fun hb => ?_⟩⟩
  · exact lensSet_stale h hp hq hn hl
  · exact .shadowed (exec_lensSet q h b s) hp
      (lensSet_unmaps s.dev.begin q h hq (firstBad_lens_none s.dev.begin hn htop hc hr ho hs) hn)
  · exact lensSet_writes h hp hq hn hb hu hr
  · exact lensSet_counts h hp hq hn hb hu hr hv
  · exact layerSet_rejects h hp hq (firstBad_layer_stale s.dev ha hl)
  · exact layerSet_rejects h hp hq (firstBad_layer_number s.dev ha hn)
  · exact layerSet_writes h hp hq hb
  · exact lutLoad_rejects h hp hq (firstBad_fail hl _ _ _)
  · exact lutLoad_rejects h hp hq
      ((firstBad_pass hl _ _ _).trans (firstBad_past hn (firstBad_past ho (firstBad_here (Nat.not_le.mpr hs)))))
  · have hb : firstBad (s.dev.lutChecks b) = none := (firstBad_pass hl _ _ _).trans (firstBad_past hn (firstBad_past ho (firstBad_past hs rfl)))
    exact ⟨_, lutWords_length _ _, fun i hi => lutWords_getD _ hi, lutLoad_writes h hp hq hb hlost hu⟩
  · exact proofSet_rejects h hp hq (firstBad_proof_window s.dev hw)
  · exact proofSet_writes h hp hq hb

end Sys2Proof.Machine
end

section
/-! Admission of plots (file 10): what a mast's arbiter may choose, and what its reservation leaves of the FIFO. -/

namespace Sys2Proof.Machine

/-! ### The arbiter's choice (R210) -/

/-- A plot that an arbiter may choose: a candidate of a deliverable sail with credits left. -/
def Dev.admissible (d : Dev) (x : SailId) (p : Nat) : Prop := d.deliverable x = true ∧ d.hasCredit x = true ∧ d.candidate x p = true

theorem firstIn_candidate {d : Dev} {x : SailId} {rows : List Nat} {p : Nat} (h : d.firstIn x rows = some p) : d.candidate x p = true := by
  obtain ⟨r, _, hr⟩ := List.exists_of_findSome?_eq_some h
  have hp := List.find?_some hr
  exact (Bool.and_eq_true_iff.mp hp).1

/-- The first sail of a mast's round that has a next plot is one that can be served now. -/
theorem roundChoice_admissible {d : Dev} {m : MastId} {last : Nat} {next : SailId → Option Nat}
    (hn : ∀ y q, next y = some q → d.candidate y q = true) {x : SailId} {p : Nat}
    (h : (d.servable m last).findSome? (fun s => (next s).map (fun p => (s, p))) = some (x, p)) : d.admissible x p := by
  obtain ⟨y, hy, e⟩ := List.exists_of_findSome?_eq_some h
  obtain ⟨q, hq, e⟩ := Option.map_eq_some_iff.mp e
  obtain ⟨rfl, rfl⟩ := Prod.mk.inj e
  obtain ⟨hd, hc⟩ := Bool.and_eq_true_iff.mp (List.mem_filter.mp hy).2
  exact ⟨hd, hc, hn _ _ hq⟩

theorem choosePlot_admissible {d : Dev} {m : MastId} {cls : Nat} {x : SailId} {p : Nat} (h : d.choosePlot m = some (cls, x, p)) :
    d.admissible x p := by
  unfold Dev.choosePlot at h
  dsimp only at h
  split at h
  · next r hr =>
    cases h
    have hp := List.find?_some hr
    simpa only [Dev.admissible, Bool.and_eq_true, and_assoc] using hp
  · split at h
    · next r hr =>
      cases h
      exact roundChoice_admissible (fun _ _ => firstIn_candidate) hr
    · obtain ⟨r, hr, e⟩ := Option.map_eq_some_iff.mp h
      cases e
      exact roundChoice_admissible (fun _ _ => firstIn_candidate) hr

/-! ### The reservation (R211) -/

/-- What a mast needs to reserve for a plot, the choice of one apart (R175, R198, R211, R272, R275). -/
def Dev.admits (d : Dev) (m : MastId) : Prop :=
  d.pw.state = .underway ∧ d.tack.act ≠ none ∧ d.stopped = false ∧ (d.mast m).state = .service ∧ (d.mast m).withhold = false ∧
    d.groupUp m = true ∧ d.fifoOpen m = true ∧ allClusters.any d.clusterUp = true

theorem plotAdmit_reserves {d : Dev} {m : MastId} (ha : d.admits m) {cls : Nat} {x : SailId} {p : Nat}
    (hc : d.choosePlot m = some (cls, x, p)) : d.plotAdmit m = d.reserve m cls x p := by
  obtain ⟨hu, ht, hs, hm, hw, hg, hf, hk⟩ := ha
  have hu' : d.up = true := decide_eq_true hu
  simp [Dev.plotAdmit, hu', Option.isSome_iff_ne_none.mpr ht, hs, hm, hw, hg, hf, List.any_eq_true.mp hk, hc]

theorem plotAdmit_idle {d : Dev} {m : MastId} (h : ¬ d.admits m ∨ d.choosePlot m = none) : d.plotAdmit m = d := by
  unfold Dev.plotAdmit
  split
  · next ha =>
    have ha' : d.admits m := by
      simpa [Dev.admits, Dev.up, Option.isSome_iff_ne_none, and_assoc] using ha
    rw [h.resolve_left (not_not_intro ha')]
  · rfl

/-- The plot that an arbiter reserves for. -/
def Dev.reservation (d : Dev) (m : MastId) (x : SailId) (p : Nat) : Plot :=
  { mast := m, sail := x, plot := p, promoted := d.promotedRow x (p / 64) }

/-- A reservation counts in the dictionary, changes its mast, and joins the list of a tack that is PUSHING. -/
theorem reserve_form (d : Dev) (m : MastId) (cls : Nat) (x : SailId) (p : Nat) : ∃ y k, d.reserve m cls x p =
    { d.setMast m y with
      dict := k
      push := { (d.setMast m y).push with plots := d.push.plots ++ [d.reservation m x p] }
      tack := { d.tack with act := d.tack.act.map (fun (t : ActiveTack) => { t with pushing := true }) } } := by
  unfold Dev.reserve
  dsimp only
  split
  · exact ⟨_, _, rfl⟩
  · exact ⟨_, _, rfl⟩

theorem mast_setMast_ne (d : Dev) (m k : MastId) (x : Mast) (h : k ≠ m) : (d.setMast m x).mast k = d.mast k :=
  SMap.get_set_ne _ _ _ _ _ (fun e => h (BitVec.eq_of_toNat_eq e))

theorem plotsOn_append_self {d t : Dev} {m : MastId} {r : Plot} (ht : t.push.plots = d.push.plots ++ [r]) (hr : r.mast = m) :
    (t.plotsOn m).length = (d.plotsOn m).length + 1 := by
  simp [Dev.plotsOn, ht, hr, List.filter_append]

/-- One more plot of a mast whose FIFO is open stays within 512 KiB and 128 job slots. -/
theorem fifo_within {d t : Dev} {m : MastId} (hf : d.fifoOpen m = true) (hl : (t.plotsOn m).length = (d.plotsOn m).length + 1) :
    t.occupancy m ≤ 524288 ∧ (t.plotsOn m).length ≤ 128 := by
  simp only [Dev.fifoOpen, Bool.and_eq_true, decide_eq_true_eq] at hf
  simp only [Dev.occupancy, plotBytes] at hf ⊢
  omega

theorem plotAdmit_runs {s : State} {m : MastId} (hp : s.dev.powered = true) (ha : s.dev.admits m) {cls : Nat} {x : SailId} {p : Nat}
    (hc : s.dev.choosePlot m = some (cls, x, p)) : Runs (.plotAdmit m) s [.push, .tack, .dict] (fun t =>
      t.push.plots = s.dev.push.plots ++ [s.dev.reservation m x p] ∧
      t.push.sails = s.dev.push.sails ∧ (∀ k, k ≠ m → t.mast k = s.dev.mast k) ∧
      t.tack = { s.dev.tack with act := s.dev.tack.act.map (fun (a : ActiveTack) => { a with pushing := true }) } ∧
      t.occupancy m ≤ 524288 ∧ (t.plotsOn m).length ≤ 128) := by
  have e : s.dev.begin.plotAdmit m = s.dev.begin.reserve m cls x p := plotAdmit_reserves (d := s.dev.begin) ha hc
  obtain ⟨y, k, hr⟩ := reserve_form s.dev.begin m cls x p
  refine Runs.of_runOn (exec_plotAdmit m s) hp ?_ ?_
  · rw [e, hr]
    intro q hq
    cases q with
    | push | tack | dict => exact absurd (by decide) hq
    | _ => rfl
  · obtain ⟨_, _, _, _, _, _, hf, _⟩ := ha
    rw [e, hr]
    exact ⟨rfl, rfl, fun i hi => mast_setMast_ne s.dev m i y hi, rfl,
      fifo_within (d := s.dev) hf (plotsOn_append_self (r := s.dev.reservation m x p) rfl rfl)⟩

/-- Settles O33: the choice is admissible, an able mast reserves for it, any other admits nothing. -/
theorem plotsAreAdmittedWithinLimits : Obligations.PlotsAreAdmittedWithinLimits := by
  refine ⟨fun d m cls x p h => ?_, fun s m hp => ⟨fun ha cls x p hc => plotAdmit_runs hp ha hc, fun h =>
    Becomes.of_runOn (exec_plotAdmit m s) hp (plotAdmit_idle (d := s.dev.begin) h)⟩⟩
  obtain ⟨hd, hc, hk⟩ := choosePlot_admissible h
  simp only [Dev.candidate, Bool.and_eq_true, Bool.not_eq_true'] at hk
  obtain ⟨⟨hs, hr⟩, hg⟩ := hk
  exact ⟨hs, hr, hg, hd, of_decide_eq_true hc⟩

end Sys2Proof.Machine
end

section
/-! Reads of ray engines and layer scalers (files 08, 15), upset lines among what they read: nothing stored changes, and no partition. -/

namespace Sys2Proof.Machine

/-- What a read by an engine may change: the memory controller's requests, the caches, and what upset lines and bounds log and raise; it stores no
byte and moves no partition. -/
structure ReadsOnly (d t : Dev) : Prop where
  frame : Frame (eventParts ++ [.dram, .memlog, .flt, .free]) d t
  data : t.dram.data = d.dram.data
  parts : t.flt.parts = d.flt.parts

theorem ReadsOnly.refl (d : Dev) : ReadsOnly d d := ⟨Frame.refl _ d, rfl, rfl⟩

theorem ReadsOnly.trans {a b c : Dev} (h : ReadsOnly a b) (g : ReadsOnly b c) : ReadsOnly a c :=
  ⟨h.frame.trans g.frame, g.data.trans h.data, g.parts.trans h.parts⟩

theorem ReadsOnly.foldl {α : Type} (f : Dev → α → Dev) (h : ∀ d x, ReadsOnly d (f d x)) (l : List α) (d : Dev) : ReadsOnly d (l.foldl f d) :=
  List.foldlRecOn l f (motive := fun t => ReadsOnly d t) (.refl d) (fun t ht x _ => ht.trans (h t x))

theorem ReadsOnly.push {d t : Dev} (h : ReadsOnly d t) : t.push = d.push := h.frame .push (by decide)

theorem ReadsOnly.tack {d t : Dev} (h : ReadsOnly d t) : t.tack = d.tack := h.frame .tack (by decide)

theorem ReadsOnly.now {d t : Dev} (h : ReadsOnly d t) : t.now = d.now := h.frame .now (by decide)

/-- A change of DRAM that keeps its bytes, of the error log, of the dictionary's values and of the free choices is within a read. -/
theorem ReadsOnly.plain (d : Dev) (dram : Dram) (memlog : MemLog) (dict : Dict) (free : Nat) (h : dram.data = d.dram.data) :
    ReadsOnly d { d with dram := dram, memlog := memlog, dict := dict, free := free } := by
  refine ⟨fun p hp => ?_, h, rfl⟩
  cases p with
  | dram | memlog | dict | free => exact absurd (by decide) hp
  | _ => rfl

theorem RequestsOnly.reads {d t : Dev} (h : RequestsOnly d t) : ReadsOnly d t := by
  obtain ⟨_, _, _, _, rfl⟩ := h
  exact .plain d _ _ _ _ rfl

theorem bump_reads (d : Dev) (k : Nat) : ReadsOnly d (d.bump k) := .plain d _ _ _ _ rfl

theorem setChan_reads (d : Dev) (n : Nat) (x : Channel) : ReadsOnly d (d.setChan n x) := .plain d _ _ _ _ rfl

theorem setCache_reads (d : Dev) (c : ClusterId) (x : VCache) : ReadsOnly d (d.setCache c x) := .plain d _ _ _ _ rfl

theorem pick_reads (d : Dev) : ReadsOnly d d.pick.2 := .plain d _ _ _ _ rfl

theorem useFree_reads (d : Dev) : ReadsOnly d d.useFree := .plain d _ _ _ _ rfl

theorem boundsLog_reads (d : Dev) (src : Nat) (r : BufRef) (off : Nat) : ReadsOnly d (d.boundsLog src r off) := .plain d _ _ _ _ rfl

theorem event_reads (d : Dev) (ty src x : Nat) : ReadsOnly d (d.event ty src x) :=
  ⟨(Frame.event d ty src x).mono (List.subset_append_left _ _), by simp, by simp⟩

theorem logFault_reads (d : Dev) (cls unit type : Nat) : ReadsOnly d (d.logFault cls unit type) := by
  refine ⟨fun p hp => ?_, rfl, rfl⟩
  cases p with
  | flt | dict => exact absurd (by decide) hp
  | _ => rfl

/-! ### Upset lines (R325, R326) -/

theorem eventIf_reads (d : Dev) (due : Bool) (ty src x : Nat) : ReadsOnly d (if due then d.event ty src x else d) := by
  split
  · exact event_reads d ty src x
  · exact .refl d

theorem eventIf_dram (d : Dev) (due : Bool) (ty src x : Nat) : (if due then d.event ty src x else d).dram = d.dram := by
  split
  · exact Dev.event_dram d ty src x
  · rfl

theorem reportCorrected_reads (d : Dev) (line : Nat) : ReadsOnly d (d.reportCorrected line) := by
  unfold Dev.reportCorrected
  exact ((setChan_reads d _ _).trans (eventIf_reads _ _ _ _ _)).trans (logFault_reads _ _ _ _)

theorem reportCorrected_caches (d : Dev) (line : Nat) : (d.reportCorrected line).dram.caches = d.dram.caches := by
  unfold Dev.reportCorrected
  dsimp only
  rw [Dev.logFault_dram, eventIf_dram]
  rfl

theorem corrected_reads (d : Dev) (line : Nat) : ReadsOnly d (d.corrected line) := by
  unfold Dev.corrected
  refine ReadsOnly.trans ?_ (reportCorrected_reads _ line)
  exact .plain d _ _ _ _ rfl

theorem uncorrectable_reads (d : Dev) (line src : Nat) : ReadsOnly d (d.uncorrectable line src) := by
  unfold Dev.uncorrectable
  refine ReadsOnly.trans (ReadsOnly.trans ?_ (event_reads _ _ _ _)) (logFault_reads _ _ _ _)
  exact .plain d _ _ _ _ rfl

theorem meetUpsets_reads (d : Dev) (src : Nat) (us : List Upset) : ReadsOnly d (d.meetUpsets src us).2 := by
  unfold Dev.meetUpsets
  refine ReadsOnly.trans (.foldl _ ?_ _ d) (.foldl _ ?_ _ _)
  · exact fun e u => corrected_reads e u.line
  · exact fun e u => uncorrectable_reads e u.line src

theorem upset_reads (d : Dev) (us : List Upset) : ReadsOnly d (d.upset us) := by
  refine .foldl _ (fun e u => ?_) us d
  dsimp only
  split
  · exact .refl e
  · exact .plain e _ _ _ _ rfl

/-! ### The view caches (R162, R166, R327, R334) -/

theorem serveRead_reads (d : Dev) (r : MemReq) : ReadsOnly d (d.serveRead r) :=
  ((finishDrain_queuesOnly d _).requests.trans (serveUntil_requestsOnly _ _ r _)).reads

theorem lineRead_reads (d : Dev) (c : ClusterId) (r : MemReq) : ReadsOnly d (d.lineRead c r).2 := by
  have hm := meetUpsets_reads d (clusterSrc c) (d.upsetsIn r.line 64)
  unfold Dev.lineRead
  dsimp only
  split
  · exact boundsLog_reads d _ _ _
  · split
    · exact useFree_reads d
    · split
      · next e =>
        rw [Dev.checkEcc] at e
        rw [e] at hm
        exact hm.trans (bump_reads _ _)
      · next e =>
        rw [Dev.checkEcc] at e
        rw [e] at hm
        exact hm.trans (pick_reads _)

theorem keepLine_reads (d : Dev) (c : ClusterId) (line : Nat) (v : VLine) : ReadsOnly d (d.keepLine c line v) :=
  (pick_reads d).trans (setCache_reads _ c _)

theorem filled_reads (d : Dev) (c : ClusterId) (r : MemReq) : ReadsOnly d (d.filled c r) := by
  unfold Dev.filled
  refine ReadsOnly.trans (ReadsOnly.trans ((serveRead_reads d r).trans ?_) (lineRead_reads _ c r)) (keepLine_reads _ c r.line _)
  exact .plain _ _ _ _ _ rfl

theorem requestLine_requestsOnly (d : Dev) (c : ClusterId) (urgent : Bool) (ref : BufRef) (line : Nat) :
    RequestsOnly d (d.requestLine c urgent ref line) := by
  unfold Dev.requestLine
  split
  · exact .refl d
  · exact ⟨_, _, _, _, rfl⟩

theorem fetchLine_reads (d : Dev) (c : ClusterId) (urgent : Bool) (ref : BufRef) (line : Nat) :
    ReadsOnly d (d.fetchLine c urgent ref line).2 := by
  unfold Dev.fetchLine
  split
  · exact .refl d
  · exact (requestLine_requestsOnly d c urgent ref line).reads.trans (.foldl _ (fun e r => filled_reads e c r) _ _)

theorem fetchLines_reads (d : Dev) (c : ClusterId) (urgent : Bool) (ref : BufRef) (ls : List Nat) :
    ReadsOnly d (d.fetchLines c urgent ref ls).2 := by
  refine List.foldlRecOn ls _ (motive := fun a : Lines × Dev => ReadsOnly d a.2) (.refl d) (fun a ha line _ => ?_)
  dsimp only
  split
  · exact ha
  · exact ha.trans (fetchLine_reads a.2 c urgent ref line)

/-! ### One plot (R151, R171, R182) -/

theorem plotRay_reads (d : Dev) (c : ClusterId) (urgent : Bool) (l : Lens) (px py ch : Nat) : ReadsOnly d (d.plotRay c urgent l px py ch).2 := by
  unfold Dev.plotRay
  dsimp only
  split
  · exact fetchLines_reads d c urgent _ _
  · exact (fetchLines_reads d c urgent _ _).trans (fetchLines_reads _ c urgent _ _)

theorem plotRecord_reads (d : Dev) (c : ClusterId) (urgent : Bool) (l : Lens) (plot i : Nat) : ReadsOnly d (d.plotRecord c urgent l plot i).2 :=
  ((plotRay_reads d c urgent l _ _ 0).trans (plotRay_reads _ c urgent l _ _ 1)).trans (plotRay_reads _ c urgent l _ _ 2)

/-- Composing n pixels reads what they need and gives n of them. -/
theorem composeFrom_reads (d : Dev) (c : ClusterId) (p : Plot) (l : Lens) (n i : Nat) :
    ReadsOnly d (d.composeFrom c p l n i).2 ∧ (d.composeFrom c p l n i).1.length = n := by
  induction n generalizing d i with
  | zero => exact ⟨.refl d, rfl⟩
  | succ n ih =>
    obtain ⟨hr, hl⟩ := ih (d.plotRecord c p.hurried l p.plot i).2.pick.2 (i + 1)
    exact ⟨((plotRecord_reads d c p.hurried l p.plot i).trans (pick_reads _)).trans hr, congrArg (· + 1) hl⟩

theorem scalerRead_reads (d : Dev) (cls src : Nat) (ref : BufRef) (off n : Nat) : ReadsOnly d (d.scalerRead cls src ref off n) := by
  have hb : ReadsOnly d (match d.beyond ref off n with | some o => d.boundsLog src ref o | none => d) := by
    split
    · exact boundsLog_reads d src ref _
    · exact .refl d
  unfold Dev.scalerRead
  dsimp only
  split
  · exact hb
  · exact hb.trans ((readLines_requestsOnly _ cls src ref off _).reads.trans (meetUpsets_reads _ src _))

theorem scalerReads_reads (d : Dev) (p : Plot) (l : Lens) : ReadsOnly d (d.scalerReads p l) := by
  unfold Dev.scalerReads
  exact .foldl _ (fun _ _ => .foldl _ (fun e _ => scalerRead_reads e _ _ _ _ _) _ _) _ d

/-! ### What a view cache corrects and drops (R168) -/

theorem cacheCorrected_reads (d : Dev) (c : ClusterId) (n : Nat) : ReadsOnly d (d.cacheCorrected c n) :=
  (ReadsOnly.plain d _ _ _ _ rfl).trans (.foldl _ (fun e _ => (useFree_reads e).trans (reportCorrected_reads _ _)) _ _)

theorem dropLines_reads (d : Dev) (c : ClusterId) (n : Nat) : ReadsOnly d (d.dropLines c n) := by
  induction n generalizing d with
  | zero => exact .refl d
  | succ n ih =>
    rw [Dev.dropLines]
    split
    · exact ((pick_reads d).trans (setCache_reads _ c _)).trans (ih _)
    · exact .refl d

theorem cacheRefetched_reads (d : Dev) (c : ClusterId) (n : Nat) : ReadsOnly d (d.cacheRefetched c n) :=
  ((ReadsOnly.plain d _ _ _ _ rfl).trans (dropLines_reads _ c n)).trans (setCache_reads _ c _)

theorem upset_caches (d : Dev) (us : List Upset) : (d.upset us).dram.caches = d.dram.caches := by
  refine List.foldlRecOn us _ (motive := fun t : Dev => t.dram.caches = d.dram.caches) rfl (fun t ht u _ => ?_)
  dsimp only
  split
  · exact ht
  · exact ht

theorem cacheCorrected_caches (d : Dev) (c : ClusterId) (n : Nat) : (d.cacheCorrected c n).dram.caches = d.dram.caches :=
  List.foldlRecOn _ _ (motive := fun t : Dev => t.dram.caches = d.dram.caches) rfl
    (fun t ht _ _ => (reportCorrected_caches t.useFree _).trans ht)

theorem cache_setCache_self (d : Dev) (c : ClusterId) (x : VCache) (h : SMap.rising d.dram.caches = true) : (d.setCache c x).cache c = x :=
  SMap.get_set_self _ _ _ _ h

theorem setCache_lines_refetches (d : Dev) (c : ClusterId) (ls : SMap (Option VLine)) (h : SMap.rising d.dram.caches = true) :
    ((d.setCache c { d.cache c with lines := ls }).cache c).refetches = (d.cache c).refetches := by
  rw [cache_setCache_self d c _ h]

/-- Lines that a cache drops leave its count of refetches. -/
theorem dropLines_refetches (d : Dev) (c : ClusterId) (n : Nat) (h : SMap.rising d.dram.caches = true) :
    ((d.dropLines c n).cache c).refetches = (d.cache c).refetches ∧ SMap.rising (d.dropLines c n).dram.caches = true := by
  induction n generalizing d with
  | zero => exact ⟨rfl, h⟩
  | succ n ih =>
    rw [Dev.dropLines]
    split
    · have hs := fun x => ih (d.pick.2.setCache c x) (SMap.rising_set _ _ _ _ h)
      exact (hs _).imp_left (fun hc => hc.trans (setCache_lines_refetches d.pick.2 c _ h))
    · exact ⟨rfl, h⟩

/-- Refetches count those of the last 1 ms and the new ones. -/
theorem cacheRefetched_refetches (d : Dev) (c : ClusterId) (n : Nat) (h : SMap.rising d.dram.caches = true) :
    ((d.cacheRefetched c n).cache c).refetches.length = ((d.cache c).refetches.filter (fun t => decide (d.now < t + 1000))).length + n := by
  obtain ⟨hc, hr⟩ := dropLines_refetches (d.bumpN 0x214009 n) c n h
  have e : (d.cacheRefetched c n).cache c = _ := cache_setCache_self _ c _ hr
  rw [e]
  simp only [List.length_append, List.length_replicate, hc]
  rfl

end Sys2Proof.Machine
end

section
/-! The plots of a cluster's queue (file 08): where a job is placed, what a change of a plot and a step of a queue leave, JOB_DISPATCH and
SCALER_GRANT. -/

namespace Sys2Proof.Machine

/-! ### The place of a job (R161, R164, R165) -/

theorem leastBy_mem {f : ClusterId → Nat} {cs : List ClusterId} {c : ClusterId} (h : leastBy f cs = some c) : c ∈ cs := by
  induction cs with
  | nil => cases h
  | cons b t ih =>
    rw [leastBy] at h
    split at h
    · cases h
      exact List.mem_cons_self
    · next e =>
      split at h
      · cases h
        exact List.mem_cons_of_mem _ (ih e)
      · cases h
        exact List.mem_cons_self

theorem placeJob_mem {d : Dev} {p : Plot} {urgent : Bool} {c : ClusterId} (h : d.placeJob p urgent = some c) : c ∈ d.openClusters := by
  unfold Dev.placeJob at h
  dsimp only at h
  split at h
  · exact leastBy_mem h
  · split at h
    · next e hc =>
      cases h
      have hm := (Option.filter_eq_some_iff.mp hc).2
      simp only [Bool.and_eq_true, List.contains_iff_mem] at hm
      exact hm.1.2
    · exact leastBy_mem h

/-- An open cluster serves and has a free place. -/
theorem openClusters_place {d : Dev} {c : ClusterId} (h : c ∈ d.openClusters) :
    d.clusterUp c = true ∧ (d.jobsOn c).length < 8 ∧ (d.push.plots.any (fun (x : Plot) => x.stage == .prefetch c) = true →
      d.push.plots.countP (fun (x : Plot) => x.stage == .queued c) < 6) := by
  obtain ⟨hu, hp⟩ := Bool.and_eq_true_iff.mp (List.mem_filter.mp h).2
  obtain ⟨h8, h6⟩ := Bool.and_eq_true_iff.mp hp
  refine ⟨hu, of_decide_eq_true h8, fun ha => of_decide_eq_true ((Bool.or_eq_true_iff.mp h6).resolve_left ?_)⟩
  simp [ha]

/-! ### Changes of plots -/

/-- Two plots that a change of a plot does not tell apart. -/
def Plot.alike (x p : Plot) : Prop := x.sail = p.sail ∧ x.plot = p.plot ∧ x.seq = p.seq ∧ x.pkt = p.pkt ∧ x.repeated = p.repeated

theorem Plot.alike_refl (p : Plot) : p.alike p := ⟨rfl, rfl, rfl, rfl, rfl⟩

theorem mem_setPlot_self {d : Dev} {p : Plot} (f : Plot → Plot) (h : p ∈ d.push.plots) : f p ∈ (d.setPlot p f).push.plots :=
  List.mem_map.mpr ⟨p, h, if_pos p.alike_refl⟩

/-- A plot of the changed list was changed, or was listed and is not alike. -/
theorem mem_setPlot {d : Dev} {p y : Plot} {f : Plot → Plot} (h : y ∈ (d.setPlot p f).push.plots) :
    (∃ x, y = f x) ∨ y ∈ d.push.plots ∧ ¬ y.alike p := by
  obtain ⟨x, hx, rfl⟩ := List.mem_map.mp h
  split
  · exact .inl ⟨x, rfl⟩
  · next hn => exact .inr ⟨hx, hn⟩

/-- A listed plot stays listed, or its change is. -/
theorem setPlot_mem {d : Dev} {p x : Plot} (f : Plot → Plot) (h : x ∈ d.push.plots) :
    f x ∈ (d.setPlot p f).push.plots ∧ x.alike p ∨ x ∈ (d.setPlot p f).push.plots := by
  by_cases ha : x.alike p
  · exact .inl ⟨List.mem_map.mpr ⟨x, h, if_pos ha⟩, ha⟩
  · exact .inr (List.mem_map.mpr ⟨x, h, if_neg ha⟩)

/-- Only the records of plots and DRAM differ: as many plots, every byte as before. -/
structure Restages (d t : Dev) : Prop where
  form : ∃ plots dram, t = { d with push := { d.push with plots := plots }, dram := dram }
  count : t.push.plots.length = d.push.plots.length
  data : t.dram.data = d.dram.data

theorem Restages.refl (d : Dev) : Restages d d := ⟨⟨_, _, rfl⟩, rfl, rfl⟩

theorem Restages.trans {a b c : Dev} (h : Restages a b) (g : Restages b c) : Restages a c := by
  refine ⟨?_, g.count.trans h.count, g.data.trans h.data⟩
  obtain ⟨_, _, rfl⟩ := h.form
  obtain ⟨plots, dram, rfl⟩ := g.form
  exact ⟨plots, dram, rfl⟩

theorem Restages.frame {d t : Dev} (h : Restages d t) : Frame [.push, .dram] d t := by
  obtain ⟨_, _, rfl⟩ := h.form
  intro p hp
  cases p with
  | push | dram => exact absurd (by decide) hp
  | _ => rfl

theorem Restages.sails {d t : Dev} (h : Restages d t) : t.push.sails = d.push.sails := by
  obtain ⟨_, _, rfl⟩ := h.form
  rfl

theorem Restages.clusters {d t : Dev} (h : Restages d t) : t.push.clusters = d.push.clusters := by
  obtain ⟨_, _, rfl⟩ := h.form
  rfl

theorem Restages.out {d t : Dev} (h : Restages d t) : t.out = d.out := by
  obtain ⟨_, _, rfl⟩ := h.form
  rfl

theorem setPlot_restages (d : Dev) (p : Plot) (f : Plot → Plot) : Restages d (d.setPlot p f) := ⟨⟨_, _, rfl⟩, List.length_map _, rfl⟩

/-! ### A step of a cluster's queue (R162) -/

theorem prefetch_eq (d : Dev) (c : ClusterId) (urgent : Bool) (l : Lens) (plot : Nat) :
    ∃ dram, d.prefetch c urgent l plot = { d with dram := dram } ∧ dram.data = d.dram.data := by
  have hf : ∀ (ls : List Nat) (ref : BufRef) (e : Dev),
      ReadsOnly e (ls.foldl (fun (d : Dev) (a : Nat) => d.requestLine c urgent ref a) e) := fun ls ref e =>
    .foldl _ (fun x a => (requestLine_requestsOnly x c urgent ref a).reads) ls e
  refine ⟨_, rfl, ?_⟩
  split
  · exact ((hf _ _ d).trans (hf _ _ _)).data
  · exact (hf _ _ d).data

theorem nextQueued_queued {d : Dev} {c : ClusterId} {p : Plot} (h : d.nextQueued c = some p) : p ∈ d.push.plots ∧ p.stage = .queued c := by
  obtain ⟨hm, hs⟩ := List.mem_filter.mp (List.mem_of_find?_eq_some h)
  exact ⟨hm, beq_iff_eq.mp hs⟩

/-- A queue does not move, or its next job begins to prefetch. -/
theorem advance_cases (d : Dev) (c : ClusterId) : d.advance c = d ∨ ∃ p dram, d.nextQueued c = some p ∧ dram.data = d.dram.data ∧
    d.advance c = { d with dram := dram }.setPlot p (fun x => { x with stage := .prefetch c }) := by
  unfold Dev.advance
  split
  · split
    · next p hn =>
      refine .inr ?_
      dsimp only
      split
      · next l _ =>
        obtain ⟨dram, e, hd⟩ := prefetch_eq d c p.hurried l p.plot
        exact ⟨p, dram, hn, hd, by rw [e]⟩
      · exact ⟨p, d.dram, hn, rfl, rfl⟩
    · exact .inl rfl
  · exact .inl rfl

theorem advance_restages (d : Dev) (c : ClusterId) : Restages d (d.advance c) := by
  obtain e | ⟨p, dram, _, hd, e⟩ := advance_cases d c
  · rw [e]
    exact .refl d
  · rw [e]
    exact .trans ⟨⟨d.push.plots, dram, rfl⟩, rfl, hd⟩ (setPlot_restages _ p _)

theorem mem_advance {d : Dev} {x : Plot} (c : ClusterId) (h : x ∈ d.push.plots) :
    { x with stage := .prefetch c } ∈ (d.advance c).push.plots ∨ x ∈ (d.advance c).push.plots := by
  obtain e | ⟨p, dram, _, _, e⟩ := advance_cases d c
  · rw [e]
    exact .inr h
  · rw [e]
    exact (setPlot_mem (d := { d with dram := dram }) _ h).imp_left And.left

/-- A plot with none alike in a cluster's queue is not what the queue moves. -/
theorem mem_advance_unqueued {d : Dev} {x : Plot} {c : ClusterId} (h : x ∈ d.push.plots)
    (hq : ∀ y ∈ d.push.plots, x.alike y → y.stage ≠ .queued c) : x ∈ (d.advance c).push.plots := by
  obtain e | ⟨p, dram, hn, _, e⟩ := advance_cases d c
  · rw [e]
    exact h
  · obtain ⟨hp, hs⟩ := nextQueued_queued hn
    rw [e]
    exact (setPlot_mem (d := { d with dram := dram }) _ h).resolve_left (fun ha => hq p hp ha.2 hs)

theorem joinCluster_restages (d : Dev) (p : Plot) (urgent : Bool) (c : ClusterId) : Restages d (d.joinCluster p urgent c) :=
  (setPlot_restages d p _).trans (advance_restages _ c)

/-- A job that joins a cluster is queued there, or prefetched at once. -/
theorem mem_joinCluster {d : Dev} {p : Plot} (urgent : Bool) (c : ClusterId) (h : p ∈ d.push.plots) :
    ∃ x ∈ (d.joinCluster p urgent c).push.plots, x.sail = p.sail ∧ x.plot = p.plot ∧ x.stage.cluster = some c ∧ x.urgent = urgent :=
  (mem_advance c (mem_setPlot_self _ h)).elim (fun hx => ⟨_, hx, rfl, rfl, rfl, rfl⟩) (fun hx => ⟨_, hx, rfl, rfl, rfl, rfl⟩)

/-! ### What the scheduler presents (R213, R214) -/

/-- Only the rounds and deficits of the scheduler differ. -/
def Presents (d t : Dev) : Prop :=
  ∃ masts a b c, t = { d with push := { d.push with masts := masts, rrA := a, rrB := b, rrC := c } }

theorem Presents.refl (d : Dev) : Presents d d := ⟨_, _, _, _, rfl⟩

theorem Presents.trans {a b c : Dev} (h : Presents a b) (g : Presents b c) : Presents a c := by
  obtain ⟨_, _, _, _, rfl⟩ := h
  obtain ⟨w, x, y, z, rfl⟩ := g
  exact ⟨w, x, y, z, rfl⟩

theorem Presents.frame {d t : Dev} (h : Presents d t) : Frame [.push] d t := by
  obtain ⟨_, _, _, _, rfl⟩ := h
  exact Frame.push d _

theorem Presents.plots {d t : Dev} (h : Presents d t) : t.push.plots = d.push.plots := by
  obtain ⟨_, _, _, _, rfl⟩ := h
  rfl

theorem Presents.sails {d t : Dev} (h : Presents d t) : t.push.sails = d.push.sails := by
  obtain ⟨_, _, _, _, rfl⟩ := h
  rfl

theorem Presents.clusters {d t : Dev} (h : Presents d t) : t.push.clusters = d.push.clusters := by
  obtain ⟨_, _, _, _, rfl⟩ := h
  rfl

theorem jobOf_mem {d : Dev} {m : MastId} {f : Plot → Bool} {p : Plot} (h : d.jobOf m f = some p) : p ∈ d.push.plots :=
  (List.mem_filter.mp (List.mem_of_find?_eq_some h)).1

theorem classThree_mem {d : Dev} {m : MastId} {p : Plot} (h : d.classThree m = some p) : p ∈ d.push.plots := by
  unfold Dev.classThree at h
  split at h
  · cases h
  · exact jobOf_mem h

/-- The deficit that a mast comes with: its quantum is added as the round reaches it. -/
def Dev.deficitAt (d : Dev) (m : MastId) (fresh : Bool) : Int :=
  if fresh then (d.mast m).deficit + d.quantum m else (d.mast m).deficit

/-- A mast's job is presented and paid from its deficit. -/
def Dev.presented (d : Dev) (m : MastId) (fresh : Bool) (p : Plot) : Dev :=
  let more := (d.plotsOn m).countP (fun (q : Plot) => q.stage == .admitted && !q.promoted)
  let d1 := d.setMast m { d.mast m with deficit := if more ≤ 1 then 0 else d.deficitAt m fresh - d.cost p.sail }
  { d1 with push := { d1.push with rrC := m.toNat } }

section Round
variable (d : Dev) (n : Nat) (m : MastId) (fresh : Bool)

theorem drr_skips (h : d.classThree m = none) : d.drr (n + 1) m fresh = (d.setMast m { d.mast m with deficit := 0 }).drr n (m + 1) true := by
  rw [Dev.drr, h]

theorem drr_serves {p : Plot} (h : d.classThree m = some p) (hc : (d.cost p.sail : Int) ≤ d.deficitAt m fresh) :
    d.drr (n + 1) m fresh = (some p, d.presented m fresh p) := by
  rw [Dev.drr, h]
  exact if_pos hc

theorem drr_saves {p : Plot} (h : d.classThree m = some p) (hc : ¬ (d.cost p.sail : Int) ≤ d.deficitAt m fresh) :
    d.drr (n + 1) m fresh = (d.setMast m { d.mast m with deficit := d.deficitAt m fresh }).drr n (m + 1) true := by
  rw [Dev.drr, h]
  exact if_neg hc

/-- The deficit round robin presents a listed plot. -/
theorem drr_presents : (∀ p, (d.drr n m fresh).1 = some p → p ∈ d.push.plots) ∧ Presents d (d.drr n m fresh).2 := by
  induction n generalizing d m fresh with
  | zero => exact ⟨fun p h => (Option.some_ne_none p h.symm).elim, .refl d⟩
  | succ n ih =>
    have hs : ∀ x : Mast, Presents d (d.setMast m x) := fun x => ⟨_, _, _, _, rfl⟩
    cases hj : d.classThree m with
    | none =>
      rw [drr_skips d n m fresh hj]
      exact (ih _ _ _).imp_right (hs _).trans
    | some p =>
      by_cases hc : (d.cost p.sail : Int) ≤ d.deficitAt m fresh
      · rw [drr_serves d n m fresh hj hc]
        exact ⟨fun q hq => Option.some.inj hq ▸ classThree_mem hj, ⟨_, _, _, _, rfl⟩⟩
      · rw [drr_saves d n m fresh hj hc]
        exact (ih _ _ _).imp_right (hs _).trans

end Round

/-- The job of class 1 that the scheduler comes to first. -/
def Dev.promotedJob (d : Dev) : Option Plot := (mastRound d.push.rrA).findSome? (fun m => d.jobOf m (fun p => p.promoted))

/-- The job of class 2 that the scheduler comes to first. -/
def Dev.urgentJob (d : Dev) : Option Plot :=
  ((mastRound d.push.rrB).filter (fun m => d.urgent m)).findSome? (fun m => d.jobOf m (fun _ => true))

section Classes
variable {d : Dev}

theorem present_promoted {p : Plot} (h : d.promotedJob = some p) :
    d.present = (some p, { d with push := { d.push with rrA := p.mast.toNat } }) := by
  rw [Dev.promotedJob] at h
  rw [Dev.present, h]

theorem present_urgent (h : d.promotedJob = none) {p : Plot} (hu : d.urgentJob = some p) :
    d.present = (some p, { d with push := { d.push with rrB := p.mast.toNat } }) := by
  rw [Dev.promotedJob] at h
  rw [Dev.urgentJob] at hu
  rw [Dev.present, h]
  dsimp only
  rw [hu]

theorem present_fair (h : d.promotedJob = none) (hu : d.urgentJob = none) : d.present =
    if (mastRound 31).any (fun m => (d.classThree m).isSome) then d.drr 128 (BitVec.ofNat 5 d.push.rrC) false else (none, d) := by
  rw [Dev.promotedJob] at h
  rw [Dev.urgentJob] at hu
  rw [Dev.present, h]
  dsimp only
  rw [hu]

theorem promotedJob_mem {p : Plot} (h : d.promotedJob = some p) : p ∈ d.push.plots := by
  obtain ⟨m, _, hm⟩ := List.exists_of_findSome?_eq_some h
  exact jobOf_mem hm

theorem urgentJob_mem {p : Plot} (h : d.urgentJob = some p) : p ∈ d.push.plots := by
  obtain ⟨m, _, hm⟩ := List.exists_of_findSome?_eq_some h
  exact jobOf_mem hm

/-- The scheduler presents a listed plot. -/
theorem present_presents : (∀ p, d.present.1 = some p → p ∈ d.push.plots) ∧ Presents d d.present.2 := by
  cases h : d.promotedJob with
  | some q =>
    rw [present_promoted h]
    exact ⟨fun p hp => Option.some.inj hp ▸ promotedJob_mem h, ⟨_, _, _, _, rfl⟩⟩
  | none =>
    cases hu : d.urgentJob with
    | some q =>
      rw [present_urgent h hu]
      exact ⟨fun p hp => Option.some.inj hp ▸ urgentJob_mem hu, ⟨_, _, _, _, rfl⟩⟩
    | none =>
      rw [present_fair h hu]
      split
      · exact drr_presents d _ _ _
      · exact ⟨fun p hp => (Option.some_ne_none p hp.symm).elim, .refl d⟩

end Classes

/-! ### JOB_DISPATCH (R161 to R165) -/

theorem jobDispatch_closed {d : Dev} (h : d.openClusters = []) : d.jobDispatch = d := by
  simp [Dev.jobDispatch, h]

theorem jobDispatch_joins {d d1 : Dev} {p : Plot} {c : ClusterId} (hu : d.pw.state = .underway) (ho : d.openClusters ≠ [])
    (hh : d.handedJob = none) (hp : d.present = (some p, d1)) (hc : d1.placeJob p (d.urgent p.mast) = some c) :
    d.jobDispatch = d1.joinCluster p (d.urgent p.mast) c := by
  have hup : d.up = true := decide_eq_true hu
  simp [Dev.jobDispatch, ho, hup, hh, hp, hc]

/-- As many plots, and the same sails. -/
def SameShape (d t : Dev) : Prop := t.push.plots.length = d.push.plots.length ∧ t.push.sails = d.push.sails

section Rows
variable {s : State} (hp : s.dev.powered = true)
include hp

theorem dispatch_closed (h : s.dev.openClusters = []) : Becomes .jobDispatch s { s.dev with out := [] } :=
  Becomes.of_runOn (exec_jobDispatch s) hp (jobDispatch_closed (d := s.dev.begin) h)

theorem dispatch_places {p : Plot} {d1 : Dev} {c : ClusterId} (hu : s.dev.pw.state = .underway) (ho : s.dev.openClusters ≠ [])
    (hh : s.dev.handedJob = none) (hd : s.dev.begin.present = (some p, d1)) (hc : d1.placeJob p (s.dev.urgent p.mast) = some c) :
    Runs .jobDispatch s [.push, .dram] (fun t => SameShape s.dev t ∧ t.push.clusters = s.dev.push.clusters ∧
      ∃ x ∈ t.push.plots, x.sail = p.sail ∧ x.plot = p.plot ∧ x.stage.cluster = some c ∧ x.urgent = s.dev.urgent p.mast) := by
  have hs := present_presents (d := s.dev.begin)
  rw [hd] at hs
  obtain ⟨hm, hs⟩ := hs
  have hj := joinCluster_restages d1 p (s.dev.urgent p.mast) c
  have hx := mem_joinCluster (s.dev.urgent p.mast) c (hs.plots ▸ hm p rfl)
  have he : s.dev.begin.jobDispatch = d1.joinCluster p (s.dev.urgent p.mast) c := jobDispatch_joins (d := s.dev.begin) hu ho hh hd hc
  refine Runs.of_runOn (exec_jobDispatch s) hp (he ▸ ?_) (he ▸ ?_)
  · exact (Frame.begin _ s.dev).trans ((hs.frame.mono (by decide)).trans hj.frame)
  · exact ⟨⟨hj.count.trans (congrArg _ hs.plots), hj.sails.trans hs.sails⟩, hj.clusters.trans hs.clusters, hx⟩

end Rows

/-! ### SCALER_GRANT (R182) -/

theorem readyOn_prefetched {d : Dev} {c : ClusterId} {p : Plot} (h : d.readyOn c = some p) : p ∈ d.push.plots ∧ p.stage = .prefetch c := by
  unfold Dev.readyOn at h
  split at h
  · cases h
  · have hs := List.find?_some h
    exact ⟨List.mem_of_find?_eq_some h, beq_iff_eq.mp hs⟩

/-- The scalers that a plot takes, where they are free. -/
def Dev.scalerShare (d : Dev) (p : Plot) : Nat := min (d.scalersNeeded p) d.scalersUp.length

theorem scalerGrant_takes {d : Dev} {c : ClusterId} {p : Plot} (hr : d.readyOn c = some p) (hs : p.scalers = none) (hn : d.scalerShare p ≠ 0)
    (hf : d.scalerShare p ≤ d.scalersFree.length) :
    d.scalerGrant c = d.setPlot p (fun x => { x with scalers := some (d.scalersFree.take (d.scalerShare p)) }) := by
  rw [Dev.scalerGrant, hr]
  refine if_pos ?_
  simp only [hs, Option.isNone_none, Bool.true_and, Bool.and_eq_true, bne_iff_ne, decide_eq_true_eq]
  exact ⟨hn, hf⟩

theorem scalerGrant_waits {d : Dev} {c : ClusterId} {p : Plot} (hr : d.readyOn c = some p)
    (h : p.scalers ≠ none ∨ d.scalerShare p = 0 ∨ d.scalersFree.length < d.scalerShare p) : d.scalerGrant c = d := by
  rw [Dev.scalerGrant, hr]
  refine if_neg ?_
  simp only [Bool.and_eq_true, Option.isNone_iff_eq_none, bne_iff_ne, decide_eq_true_eq]
  rintro ⟨⟨hs, hn⟩, hf⟩
  exact h.elim (fun h => h hs) (fun h => h.elim hn (fun h => Nat.not_lt.mpr hf h))

theorem scalerGrant_idle {d : Dev} {c : ClusterId} (h : d.readyOn c = none) : d.scalerGrant c = d := by
  rw [Dev.scalerGrant, h]

section Rows
variable {s : State} (hp : s.dev.powered = true) {c : ClusterId}
include hp

theorem grant_takes {p : Plot} (hr : s.dev.readyOn c = some p) (hs : p.scalers = none) (hn : s.dev.scalerShare p ≠ 0)
    (hf : s.dev.scalerShare p ≤ s.dev.scalersFree.length) : Runs (.scalerGrant c) s [.push] (fun t => SameShape s.dev t ∧
      ∃ x ∈ t.push.plots, x.sail = p.sail ∧ x.plot = p.plot ∧ x.scalers = some (s.dev.scalersFree.take (s.dev.scalerShare p))) := by
  have e := scalerGrant_takes (d := s.dev.begin) hr hs hn hf
  refine Runs.of_runOn (exec_scalerGrant c s) hp (e ▸ ?_) (e ▸ ?_)
  · exact (Frame.begin _ s.dev).trans (Frame.push s.dev.begin _)
  · exact ⟨⟨List.length_map _, rfl⟩, _, mem_setPlot_self (d := s.dev) _ (readyOn_prefetched hr).1, rfl, rfl, rfl⟩

theorem grant_waits {p : Plot} (hr : s.dev.readyOn c = some p)
    (h : p.scalers ≠ none ∨ s.dev.scalerShare p = 0 ∨ s.dev.scalersFree.length < s.dev.scalerShare p) :
    Becomes (.scalerGrant c) s { s.dev with out := [] } :=
  Becomes.of_runOn (exec_scalerGrant c s) hp (scalerGrant_waits (d := s.dev.begin) hr h)

theorem grant_idle (h : s.dev.readyOn c = none) : Becomes (.scalerGrant c) s { s.dev with out := [] } :=
  Becomes.of_runOn (exec_scalerGrant c s) hp (scalerGrant_idle (d := s.dev.begin) h)

end Rows

end Sys2Proof.Machine
end

section
/-! What leaves a mast's lanes (file 11) as one of its PLOT_WRITEs ends, with what waited for that: only sails, masts, lines and counters differ. -/

namespace Sys2Proof.Machine

/-- Masts have sent more: only sails, masts, lines and the dictionary's values differ. -/
def LinkSends (d t : Dev) : Prop :=
  ∃ sails masts lines dict more, t = { d with
    push := { d.push with sails := sails, masts := masts }, lines := lines, dict := dict, out := d.out ++ more }

theorem LinkSends.quiet (d : Dev) (sails : SMap Sail) (masts : SMap Mast) (lines : SMap Line) (dict : Dict) :
    LinkSends d { d with push := { d.push with sails := sails, masts := masts }, lines := lines, dict := dict } :=
  ⟨sails, masts, lines, dict, [], by rw [List.append_nil]⟩

theorem LinkSends.refl (d : Dev) : LinkSends d d := .quiet d _ _ _ _

theorem LinkSends.trans {a b c : Dev} (h : LinkSends a b) (g : LinkSends b c) : LinkSends a c := by
  obtain ⟨_, _, _, _, more, rfl⟩ := h
  obtain ⟨sails, masts, lines, dict, more', rfl⟩ := g
  exact ⟨sails, masts, lines, dict, more ++ more', by simp only [List.append_assoc]⟩

theorem LinkSends.foldl {α : Type} (f : Dev → α → Dev) (h : ∀ d x, LinkSends d (f d x)) (l : List α) (d : Dev) : LinkSends d (l.foldl f d) :=
  List.foldlRecOn l f (motive := fun t => LinkSends d t) (.refl d) (fun t ht x _ => ht.trans (h t x))

section Keeps
variable {d t : Dev} (h : LinkSends d t)
include h

theorem LinkSends.frame : Frame [.push, .lines, .dict] d t := by
  obtain ⟨_, _, _, _, _, rfl⟩ := h
  intro p hp
  cases p with
  | push | lines | dict => exact absurd (by decide) hp
  | _ => rfl

theorem LinkSends.plots : t.push.plots = d.push.plots := by
  obtain ⟨_, _, _, _, _, rfl⟩ := h
  rfl

theorem LinkSends.clusters : t.push.clusters = d.push.clusters := by
  obtain ⟨_, _, _, _, _, rfl⟩ := h
  rfl

theorem LinkSends.mem_out {o : Out} (ho : o ∈ d.out) : o ∈ t.out := by
  obtain ⟨_, _, _, _, _, rfl⟩ := h
  exact List.mem_append_left _ ho

end Keeps

theorem bump_linkSends (d : Dev) (k : Nat) : LinkSends d (d.bump k) := .quiet d _ _ _ _

theorem setMast_linkSends (d : Dev) (m : MastId) (x : Mast) : LinkSends d (d.setMast m x) := .quiet d _ _ _ _

theorem setSail_linkSends (d : Dev) (i : SailId) (x : Sail) : LinkSends d (d.setSail i x) := .quiet d _ _ _ _

theorem setLine_linkSends (d : Dev) (m : MastId) (x : Line) : LinkSends d (d.setLine m x) := .quiet d _ _ _ _

theorem sendRun_linkSends (d : Dev) (m : MastId) (fs : List Fwd) : LinkSends d (d.sendRun m fs) :=
  ⟨_, _, _, _, _, by rw [Dev.sendRun, List.append_assoc]; rfl⟩

theorem mastExit_linkSends (d : Dev) (m : MastId) : LinkSends d (d.mastExit m) := by
  unfold Dev.mastExit
  dsimp only
  split
  · exact (setMast_linkSends d m _).trans (sendRun_linkSends _ m _)
  · exact .refl d

theorem eiEnter_linkSends (d : Dev) (m : MastId) : LinkSends d (d.eiEnter m) := by
  unfold Dev.eiEnter
  dsimp only
  split
  · exact .refl d
  · exact ((setMast_linkSends d m _).trans (sendRun_linkSends _ m _)).trans (bump_linkSends _ _)

theorem sendOp_linkSends (d : Dev) (i : SailId) (o : CfgOut) (retry : Bool) : LinkSends d (d.sendOp i o retry) :=
  ((mastExit_linkSends d _).trans (setSail_linkSends _ i _)).trans (sendRun_linkSends _ _ _)

theorem kick_linkSends (d : Dev) (i : SailId) : LinkSends d (d.kick i) := by
  unfold Dev.kick
  dsimp only
  split
  · exact .refl d
  · split
    · split
      · exact (bump_linkSends d _).trans (sendOp_linkSends _ i _ true)
      · exact .refl d
    · split
      · exact .refl d
      · exact (((setSail_linkSends d i _).trans (setMast_linkSends _ _ _)).trans (bump_linkSends _ _)).trans (sendOp_linkSends _ i _ false)
    · exact .refl d

theorem kickMast_linkSends (d : Dev) (m : MastId) : LinkSends d (d.kickMast m) := .foldl _ kick_linkSends _ d

theorem pauseIdle_linkSends (d : Dev) (m : MastId) : LinkSends d (d.pauseIdle m) := by
  unfold Dev.pauseIdle
  dsimp only
  split
  · exact eiEnter_linkSends d m
  · exact .refl d

theorem sendWaiting_linkSends (d : Dev) (m : MastId) : LinkSends d (d.sendWaiting m) := by
  unfold Dev.sendWaiting
  dsimp only
  split
  · exact .refl d
  · exact (setLine_linkSends d m _).trans (sendRun_linkSends _ m _)

/-! ### The end of a PLOT_WRITE (R216, R233, R234) -/

/-- The PLOT_WRITE of a plot with some pixels. -/
def Dev.plotWrite (d : Dev) (p : Plot) (pixels : List U32) : Out :=
  .mast p.mast (.plotWrite p.sail p.seq p.retry ((d.tack.act.map (·.seq)).getD 0) (p.plot % 64) (p.plot / 64) pixels)

theorem sendRun_mem_out (d : Dev) (m : MastId) {f : Fwd} {fs : List Fwd} (h : f ∈ fs) : Out.mast m f ∈ (d.sendRun m fs).out :=
  List.mem_append_left _ (List.mem_append_right _ (List.mem_map_of_mem h))

theorem sendPlot_sends (d : Dev) (p : Plot) (pixels : List U32) :
    LinkSends d (d.sendPlot p pixels) ∧ d.plotWrite p pixels ∈ (d.sendPlot p pixels).out :=
  ⟨(sendRun_linkSends d p.mast _).trans (sendWaiting_linkSends _ p.mast),
    (sendWaiting_linkSends _ p.mast).mem_out (sendRun_mem_out d p.mast List.mem_cons_self)⟩

/-- The record of a plot whose PLOT_WRITE has left. -/
def Plot.sent (p : Plot) (repeated : Bool) (pixels : List U32) (away : Bool) : Plot :=
  { p with pkt := .sent, repeated := repeated, pixels := pixels, resend := away }

/-- The device as a PLOT_WRITE leaves: its plot is recorded as sent, and the mast keeps the time. -/
def Dev.plotLeft (d : Dev) (p : Plot) (repeated : Bool) (pixels : List U32) (away : Bool) : Dev :=
  let d1 := d.setPlot p (fun x => x.sent repeated pixels away)
  d1.setMast p.mast { d1.mast p.mast with lastPlot := some d.now }

theorem emitPlot_eq (d : Dev) (p : Plot) (repeated : Bool) (pixels : List U32) : ∃ away, d.emitPlot p repeated pixels =
    (((d.plotLeft p repeated pixels away).sendPlot p pixels).kickMast p.mast).pauseIdle p.mast :=
  ⟨(d.mast p.mast).state != .service, rfl⟩

/-- A PLOT_WRITE leaves, and the link sends the packet and what waited for its end. -/
theorem emitPlot_sends (d : Dev) (p : Plot) (repeated : Bool) (pixels : List U32) :
    ∃ away, LinkSends (d.setPlot p (fun x => x.sent repeated pixels away)) (d.emitPlot p repeated pixels) ∧
      d.plotWrite p pixels ∈ (d.emitPlot p repeated pixels).out := by
  obtain ⟨away, e⟩ := emitPlot_eq d p repeated pixels
  have hl : LinkSends (d.setPlot p (fun x => x.sent repeated pixels away)) (d.plotLeft p repeated pixels away) := setMast_linkSends _ p.mast _
  obtain ⟨hs, ho⟩ := sendPlot_sends (d.plotLeft p repeated pixels away) p pixels
  have hk := (kickMast_linkSends ((d.plotLeft p repeated pixels away).sendPlot p pixels) p.mast).trans (pauseIdle_linkSends _ p.mast)
  rw [e]
  exact ⟨away, (hl.trans hs).trans hk, hk.mem_out ho⟩

end Sys2Proof.Machine
end

section
/-! The fence of a cluster (file 08): what becomes of its jobs moves no partition and stores nothing. -/

namespace Sys2Proof.Machine

theorem cluster_setCluster_self (d : Dev) (c : ClusterId) (x : Cluster) (h : x ≠ {}) : (d.setCluster c x).cluster c = x :=
  SMap.get_set_self_ne _ _ _ _ h

theorem cluster_setCluster_ne (d : Dev) (c e : ClusterId) (x : Cluster) (h : e ≠ c) : (d.setCluster c x).cluster e = d.cluster e :=
  SMap.get_set_ne _ _ _ _ _ (fun i => h (BitVec.eq_of_toNat_eq i))

/-- A step of the handling of a fenced cluster's jobs: plots, lines, requests and counters differ, and no cause of a fence. -/
structure HandlesJobs (d t : Dev) : Prop where
  frame : Frame [.push, .lines, .dram, .dict] d t
  data : t.dram.data = d.dram.data
  cause : ∀ c, (t.cluster c).cause = (d.cluster c).cause

theorem HandlesJobs.refl (d : Dev) : HandlesJobs d d := ⟨Frame.refl _ d, rfl, fun _ => rfl⟩

theorem HandlesJobs.trans {a b c : Dev} (h : HandlesJobs a b) (g : HandlesJobs b c) : HandlesJobs a c :=
  ⟨h.frame.trans g.frame, g.data.trans h.data, fun e => (g.cause e).trans (h.cause e)⟩

theorem HandlesJobs.foldl {α : Type} (f : Dev → α → Dev) (h : ∀ d x, HandlesJobs d (f d x)) (l : List α) (d : Dev) :
    HandlesJobs d (l.foldl f d) :=
  List.foldlRecOn l f (motive := fun t => HandlesJobs d t) (.refl d) (fun t ht x _ => ht.trans (h t x))

theorem cluster_of_clusters {d t : Dev} (h : t.push.clusters = d.push.clusters) (c : ClusterId) : t.cluster c = d.cluster c :=
  congrArg (fun m : SMap Cluster => SMap.get ({} : Cluster) m c.toNat) h

theorem Restages.handlesJobs {d t : Dev} (h : Restages d t) : HandlesJobs d t :=
  ⟨h.frame.mono (by decide), h.data, fun c => congrArg _ (cluster_of_clusters h.clusters c)⟩

theorem LinkSends.handlesJobs {d t : Dev} (h : LinkSends d t) : HandlesJobs d t :=
  ⟨h.frame.mono (by decide), congrArg Dram.data (h.frame .dram (by decide)), fun c => congrArg _ (cluster_of_clusters h.clusters c)⟩

theorem release_handlesJobs (d : Dev) (p : Plot) : HandlesJobs d (d.release p) :=
  ⟨(Frame.push d _).mono (by decide), rfl, fun _ => rfl⟩

theorem emitPlot_handlesJobs (d : Dev) (p : Plot) (repeated : Bool) (pixels : List U32) : HandlesJobs d (d.emitPlot p repeated pixels) := by
  obtain ⟨away, hs, _⟩ := emitPlot_sends d p repeated pixels
  exact (setPlot_restages d p _).handlesJobs.trans hs.handlesJobs

theorem remark_handlesJobs (d : Dev) (i : SailId) (plot : Nat) : HandlesJobs d (d.remark i plot) := by
  unfold Dev.remark
  dsimp only
  split
  · exact (setMast_linkSends d _ _).handlesJobs
  · exact .refl d

theorem discardJob_handlesJobs (d : Dev) (p : Plot) : HandlesJobs d (d.discardJob p) := by
  unfold Dev.discardJob
  dsimp only
  split
  · exact (setPlot_restages d p _).handlesJobs
  · refine HandlesJobs.trans (HandlesJobs.trans ?_ (remark_handlesJobs _ _ _)) (bump_linkSends _ _).handlesJobs
    split
    · exact (setPlot_restages d p _).handlesJobs.trans (emitPlot_handlesJobs _ _ true _)
    · exact release_handlesJobs d p

/-- Counting a job as handed on leaves the cause of the cluster's fence. -/
theorem setCluster_handedOn (d : Dev) (c : ClusterId) (n : Nat) :
    HandlesJobs d (d.setCluster c { d.cluster c with handedOn := n + 1 }) := by
  refine ⟨(Frame.push d _).mono (by decide), rfl, fun e => ?_⟩
  by_cases he : e = c
  · subst he
    rw [cluster_setCluster_self d e _ (fun h => Nat.succ_ne_zero n (congrArg Cluster.handedOn h))]
  · rw [cluster_setCluster_ne d c e _ he]

theorem handedOn_handlesJobs (d : Dev) (c : ClusterId) : HandlesJobs d (d.handedOn c) := by
  unfold Dev.handedOn
  dsimp only
  split
  · exact (setCluster_handedOn d c _).trans (bump_linkSends _ _).handlesJobs
  · exact (bump_linkSends _ _).handlesJobs

theorem handOn_handlesJobs (d : Dev) (p : Plot) (c : ClusterId) : HandlesJobs d (d.handOn p c) := by
  unfold Dev.handOn
  dsimp only
  have hs := (setPlot_restages d p (fun _ => { p with stage := .handed c, order := d.nextOrder })).handlesJobs
  split
  · exact (hs.trans (joinCluster_restages _ _ _ _).handlesJobs).trans (handedOn_handlesJobs _ c)
  · exact hs

theorem partn_setPartn_self (d : Dev) (c : ClusterId) (x : Partition) (h : x ≠ {}) : (d.setPartn c.toNat x).partn c.toNat = x := by
  have hc : decide (20 ≤ c.toNat) = false := decide_eq_false (by omega)
  simp only [Dev.partn, hc, Bool.and_false, Bool.false_and, Bool.false_eq_true, if_false]
  exact SMap.get_set_self_ne _ _ _ _ h

theorem HandlesJobs.partn {d t : Dev} (h : HandlesJobs d t) (n : Nat) : t.partn n = d.partn n := by
  have hf : t.flt = d.flt := h.frame .flt (by decide)
  have hu : t.fuses = d.fuses := h.frame .fuses (by decide)
  simp only [Dev.partn, hf, hu]

/-- The cluster and its partition at the fence, its jobs not yet handled. -/
def Dev.fenced (d : Dev) (c : ClusterId) (cause repeats : Nat) : Dev :=
  let d1 := d.setCluster c { d.cluster c with cause := cause, done := false, handedOn := 0, repeats := repeats, tail := none }
  d1.setPartn c.toNat { d1.partn c.toNat with state := .fenced, leaving := false }

theorem fenceCluster_handles {d : Dev} {c : ClusterId} (cause : Nat) (hc : (d.cluster c).cause = 0)
    (hp : (d.partn c.toNat).state = .inService) : ∃ n, HandlesJobs (d.fenced c cause n) (d.fenceCluster c cause) := by
  unfold Dev.fenceCluster
  rw [if_neg (by simp [hc, hp])]
  exact ⟨_, (HandlesJobs.foldl _ (fun e p => handOn_handlesJobs e p c) _ _).trans (.foldl _ discardJob_handlesJobs _ _)⟩

/-- A cluster in service is fenced: its cause and its partition say so (R172, R173). -/
theorem fenceCluster_fences {d : Dev} {c : ClusterId} {cause : Nat} (hc : (d.cluster c).cause = 0)
    (hp : (d.partn c.toNat).state = .inService) (hn : cause ≠ 0) :
    Frame [.push, .lines, .dram, .flt, .dict] d (d.fenceCluster c cause) ∧ (d.fenceCluster c cause).dram.data = d.dram.data ∧
      ((d.fenceCluster c cause).cluster c).cause = cause ∧ ((d.fenceCluster c cause).partn c.toNat).state = .fenced := by
  obtain ⟨n, h⟩ := fenceCluster_handles cause hc hp
  have hf : Frame [.push, .flt] d (d.fenced c cause n) := by
    intro p hp
    cases p with
    | push | flt => exact absurd (by decide) hp
    | _ => rfl
  have hk : ((d.fenced c cause n).cluster c).cause = cause :=
    congrArg Cluster.cause (cluster_setCluster_self d c _ (fun e => hn (congrArg Cluster.cause e)))
  have hs : ((d.fenced c cause n).partn c.toNat).state = .fenced := by
    rw [Dev.fenced, partn_setPartn_self]
    exact fun e => nomatch congrArg Partition.state e
  exact ⟨(hf.mono (by decide)).trans (h.frame.mono (by decide)), h.data, (h.cause c).trans hk, (congrArg _ (h.partn _)).trans hs⟩

end Sys2Proof.Machine
end

section
/-! The engines of a cluster (file 08): PLOT_COMPUTE_START, the fence that refetches of its cache bring, and PLOT_HANDOFF. -/

namespace Sys2Proof.Machine

/-! ### What engines leave as they work -/

/-- Engines read and plots move on: as many plots as before, no sail and no cluster changed, every byte as before. -/
structure Works (d t : Dev) : Prop where
  frame : Frame (eventParts ++ [.push, .dram, .memlog, .flt, .free]) d t
  data : t.dram.data = d.dram.data
  count : t.push.plots.length = d.push.plots.length
  sails : t.push.sails = d.push.sails
  clusters : t.push.clusters = d.push.clusters

theorem Works.trans {a b c : Dev} (h : Works a b) (g : Works b c) : Works a c :=
  ⟨h.frame.trans g.frame, g.data.trans h.data, g.count.trans h.count, g.sails.trans h.sails, g.clusters.trans h.clusters⟩

theorem Works.shape {d t : Dev} (h : Works d t) : SameShape d t := ⟨h.count, h.sails⟩

theorem ReadsOnly.works {d t : Dev} (h : ReadsOnly d t) : Works d t :=
  ⟨h.frame.mono (by decide), h.data, congrArg (fun x : Push => x.plots.length) h.push, congrArg Push.sails h.push, congrArg Push.clusters h.push⟩

theorem Restages.works {d t : Dev} (h : Restages d t) : Works d t :=
  ⟨h.frame.mono (by decide), h.data, h.count, h.sails, h.clusters⟩

/-! ### PLOT_COMPUTE_START (R162, R168) -/

/-- What the cluster's cache and lines meet before a plot enters the engines. -/
def Dev.cacheMet (d : Dev) (c : ClusterId) (n m : Nat) (us : List Upset) : Dev := ((d.upset us).cacheCorrected c n).cacheRefetched c m

theorem cacheMet_reads (d : Dev) (c : ClusterId) (n m : Nat) (us : List Upset) : ReadsOnly d (d.cacheMet c n m us) :=
  ((upset_reads d us).trans (cacheCorrected_reads _ c n)).trans (cacheRefetched_reads _ c m)

/-- Refetches of the last 1 ms, with some new ones. -/
def Dev.refetched (d : Dev) (c : ClusterId) (m : Nat) : Nat := ((d.cache c).refetches.filter (fun t => decide (d.now < t + 1000))).length + m

theorem cacheMet_refetches (d : Dev) (c : ClusterId) (n m : Nat) (us : List Upset) (h : SMap.rising d.dram.caches = true) :
    ((d.cacheMet c n m us).cache c).refetches.length = d.refetched c m := by
  have hc : ((d.upset us).cacheCorrected c n).dram.caches = d.dram.caches := (cacheCorrected_caches _ c n).trans (upset_caches d us)
  have hn : ((d.upset us).cacheCorrected c n).now = d.now := ((upset_reads d us).trans (cacheCorrected_reads _ c n)).now
  rw [Dev.cacheMet, cacheRefetched_refetches _ c m (hc ▸ h)]
  simp only [Dev.cache, hc, hn, Dev.refetched]

/-- The plot that enters the engines, and none alike in the queue, is computed. -/
theorem startCompute_works {d : Dev} {c : ClusterId} {p : Plot} {l : Lens} (hp : p ∈ d.push.plots) : Works d (d.startCompute c p l) ∧
    ∃ x ∈ (d.startCompute c p l).push.plots, x.sail = p.sail ∧ x.plot = p.plot ∧ x.pixels = [] ∧ x.handed = 0 ∧ x.stage = .compute c := by
  unfold Dev.startCompute
  dsimp only
  have hr := (fetchLines_reads d c p.hurried l.ref (d.plotNodes l p.plot)).trans (scalerReads_reads _ p l)
  generalize ((d.fetchLines c p.hurried l.ref (d.plotNodes l p.plot)).2.scalerReads p l) = e at hr ⊢
  refine ⟨hr.works.trans ((setPlot_restages e p _).trans (advance_restages _ c)).works, ?_⟩
  have hx := mem_setPlot_self (fun x => { x with stage := .compute c, pixels := [], handed := 0, mark := d.dram.old.length })
    (d := e) (p := p) (hr.push ▸ hp)
  refine ⟨_, mem_advance_unqueued hx (fun y hy ha hs => ?_), rfl, rfl, rfl, rfl, rfl⟩
  obtain ⟨z, rfl⟩ | ⟨_, hn⟩ := mem_setPlot hy
  · cases hs
  · obtain ⟨a1, a2, a3, a4, a5⟩ := ha
    exact hn ⟨a1.symm, a2.symm, a3.symm, a4.symm, a5.symm⟩

section Start
variable {d : Dev} {c : ClusterId} {n m : Nat} {us : List Upset}

theorem computeStart_idle (h : d.readyOn c = none) : d.plotComputeStart c n m us = d := by
  rw [Dev.plotComputeStart, h]

variable {p : Plot} {l : Lens} (hr : d.readyOn c = some p) (hl : d.lensOf p.sail = some l)
include hr hl

theorem computeStart_waits (hc : d.canCompute c p l = false) : d.plotComputeStart c n m us = d := by
  rw [Dev.plotComputeStart, hr]
  dsimp only
  rw [hl]
  simp [hc]

theorem computeStart_eq (hc : d.canCompute c p l = true) : d.plotComputeStart c n m us =
    if 16 < ((d.cacheMet c n m us).cache c).refetches.length then (d.cacheMet c n m us).fenceCluster c 4
    else (d.cacheMet c n m us).startCompute c p l := by
  rw [Dev.plotComputeStart, hr]
  dsimp only
  rw [hl]
  exact if_pos hc

end Start

/-- A cluster that can compute is in service. -/
theorem canCompute_inService {d : Dev} {c : ClusterId} {p : Plot} {l : Lens} (h : d.canCompute c p l = true) :
    (d.cluster c).cause = 0 ∧ (d.partn c.toNat).state = .inService := by
  simp only [Dev.canCompute, Dev.clusterUp, Dev.partUp, Bool.and_eq_true, beq_iff_eq] at h
  obtain ⟨⟨⟨⟨⟨_, hc⟩, hp, _⟩, _⟩, _⟩, _⟩ := h
  exact ⟨hc, hp⟩

theorem ReadsOnly.partn {d t : Dev} (h : ReadsOnly d t) (n : Nat) : t.partn n = d.partn n := by
  have hu : t.fuses = d.fuses := h.frame .fuses (by decide)
  simp only [Dev.partn, h.parts, hu]

section Rows
variable {s : State} (hp : s.dev.powered = true) {c : ClusterId} {n m : U16} {us : List Upset}
include hp

theorem start_idle (h : s.dev.readyOn c = none) : Becomes (.plotComputeStart c n m us) s { s.dev with out := [] } :=
  Becomes.of_runOn (exec_plotComputeStart c n m us s) hp (computeStart_idle (d := s.dev.begin) h)

variable {p : Plot} {l : Lens} (hr : s.dev.readyOn c = some p) (hl : s.dev.lensOf p.sail = some l)
include hr hl

theorem start_waits (hc : s.dev.canCompute c p l = false) : Becomes (.plotComputeStart c n m us) s { s.dev with out := [] } :=
  Becomes.of_runOn (exec_plotComputeStart c n m us s) hp (computeStart_waits (d := s.dev.begin) hr hl hc)

variable (hk : SMap.rising s.dev.dram.caches = true) (hc : s.dev.canCompute c p l = true)
include hk hc

theorem start_computes (ha : s.dev.refetched c m.toNat ≤ 16) :
    Runs (.plotComputeStart c n m us) s (eventParts ++ [.push, .dram, .memlog, .flt, .free]) (fun t => SameShape s.dev t ∧
      t.dram.data = s.dev.dram.data ∧
      ∃ x ∈ t.push.plots, x.sail = p.sail ∧ x.plot = p.plot ∧ x.pixels = [] ∧ x.handed = 0 ∧ x.stage = .compute c) := by
  have hm := cacheMet_reads s.dev.begin c n.toNat m.toNat us
  have e : s.dev.begin.plotComputeStart c n.toNat m.toNat us = (s.dev.begin.cacheMet c n.toNat m.toNat us).startCompute c p l :=
    (computeStart_eq (d := s.dev.begin) hr hl hc).trans
      (if_neg (Nat.not_lt.mpr (Nat.le_trans (Nat.le_of_eq (cacheMet_refetches s.dev.begin c _ _ us hk)) ha)))
  have hx : p ∈ (s.dev.begin.cacheMet c n.toNat m.toNat us).push.plots := hm.push ▸ (readyOn_prefetched hr).1
  obtain ⟨hw, hx⟩ := startCompute_works (c := c) (l := l) hx
  have hw := hm.works.trans hw
  exact Runs.of_runOn (exec_plotComputeStart c n m us s) hp (e ▸ (Frame.begin _ s.dev).trans hw.frame) (e ▸ ⟨hw.shape, hw.data, hx⟩)

theorem start_fences (ha : 16 < s.dev.refetched c m.toNat) :
    Runs (.plotComputeStart c n m us) s (eventParts ++ [.push, .lines, .dram, .memlog, .flt, .free]) (fun t =>
      t.dram.data = s.dev.dram.data ∧ (t.cluster c).cause = 4 ∧ (t.partn c.toNat).state = .fenced) := by
  have hm := cacheMet_reads s.dev.begin c n.toNat m.toNat us
  have e : s.dev.begin.plotComputeStart c n.toNat m.toNat us = (s.dev.begin.cacheMet c n.toNat m.toNat us).fenceCluster c 4 :=
    (computeStart_eq (d := s.dev.begin) hr hl hc).trans
      (if_pos (Nat.lt_of_lt_of_eq ha (cacheMet_refetches s.dev.begin c _ _ us hk).symm))
  obtain ⟨h0, hs⟩ := canCompute_inService hc
  obtain ⟨hf, hd, h4, hfe⟩ := fenceCluster_fences (cause := 4) (c := c)
    ((congrArg Cluster.cause (cluster_of_clusters hm.works.clusters c)).trans h0) ((congrArg _ (hm.partn _)).trans hs) (by decide)
  refine Runs.of_runOn (exec_plotComputeStart c n m us s) hp (e ▸ ?_) (e ▸ ⟨hd.trans hm.data, h4, hfe⟩)
  exact (Frame.begin _ s.dev).trans ((hm.frame.mono (by decide)).trans (hf.mono (by decide)))

end Rows

/-! ### PLOT_HANDOFF (R162, R171) -/

/-- A plot with its pixels handed over up to a count. -/
def Plot.handedTo (p : Plot) (px : List U32) (n : Nat) : Plot := { p with pixels := if p.repeated then p.pixels else p.pixels ++ px, handed := n }

section Handoff
variable {d : Dev} {c : ClusterId} {n : Nat}

theorem handoff_tail (ht : (d.cluster c).tail ≠ none) (hn : n < 4096) : d.plotHandoff c n = d := by
  obtain ⟨x, hx⟩ := Option.ne_none_iff_exists'.mp ht
  rw [Dev.plotHandoff, hx]
  exact if_neg (Nat.not_le.mpr hn)

variable {p : Plot} {l : Lens} (ht : (d.cluster c).tail = none)
  (hf : d.push.plots.find? (fun (x : Plot) => x.stage == .compute c) = some p) (hl : d.lensOf p.sail = some l)
include ht hf hl

theorem handoff_none (hh : n ≤ p.handed) : d.plotHandoff c n = d := by
  rw [Dev.plotHandoff, ht, hf]
  dsimp only
  rw [hl]
  exact if_pos (Nat.le_trans (Nat.min_le_left n 4096) hh)

/-- The pixels up to a count are composed, then handed over; with the last of them the plot is done. -/
theorem handoff_composes (hh : p.handed < min n 4096) : ∃ px e, px.length = min n 4096 - p.handed ∧ ReadsOnly d e ∧
    d.plotHandoff c n = if min n 4096 = 4096 then (e.setPlot p (fun _ => p.handedTo px (min n 4096))).plotDone c (p.handedTo px (min n 4096))
      else e.setPlot p (fun _ => p.handedTo px (min n 4096)) := by
  obtain ⟨hr, hlen⟩ := composeFrom_reads d c p l (min n 4096 - p.handed) p.handed
  have hu : ∀ e : Dev, ReadsOnly e (if e.stopped then e.useFree else e) := by
    intro e
    split
    · exact useFree_reads e
    · exact .refl e
  refine ⟨_, _, hlen, hr.trans (hu _), ?_⟩
  rw [Dev.plotHandoff, ht, hf]
  dsimp only
  rw [hl]
  exact if_neg (Nat.not_le.mpr hh)

end Handoff

/-- A cluster's count of plots goes up. -/
def Dev.countPlot (d : Dev) (c : ClusterId) : Dev :=
  d.setCluster c { d.cluster c with computed := satAdd 0xFFFFFFFF (d.cluster c).computed 1 }

theorem countPlot_self (d : Dev) (c : ClusterId) : ((d.countPlot c).cluster c).computed = satAdd 0xFFFFFFFF (d.cluster c).computed 1 := by
  rw [Dev.countPlot, cluster_setCluster_self]
  intro h
  have h := congrArg Cluster.computed h
  simp only [satAdd] at h
  omega

/-- The record of a plot that is composed whole. -/
def Plot.composed (p : Plot) : Plot := { p with stage := .composed, scalers := none }

theorem plotDone_quiet {d : Dev} {c : ClusterId} {p : Plot} (h : p.pkt ≠ .started) :
    d.plotDone c p = ((d.setPlot p (fun _ => p.composed)).countPlot c).advance c := by
  unfold Dev.plotDone
  dsimp only
  rw [if_neg h]
  rfl

theorem plotDone_started {d : Dev} {c : ClusterId} {p : Plot} (h : p.pkt = .started) : d.plotDone c p =
    (((d.setPlot p (fun _ => p.composed)).countPlot c).emitPlot p.composed false p.pixels).advance c := by
  unfold Dev.plotDone
  dsimp only
  rw [if_pos h]
  rfl

theorem mem_composed {d : Dev} {q : Plot} (c : ClusterId) (h : q ∈ d.push.plots) :
    q.composed ∈ ((d.setPlot q (fun _ => q.composed)).countPlot c).push.plots := mem_setPlot_self (fun _ => q.composed) h

/-- A plot that is done, its packet not started: its cluster has counted it, its scalers are free. -/
theorem plotDone_counts {d : Dev} {c : ClusterId} {q : Plot} (hq : q ∈ d.push.plots) (h : q.pkt ≠ .started) :
    Frame [.push, .dram] d (d.plotDone c q) ∧ (d.plotDone c q).dram.data = d.dram.data ∧ SameShape d (d.plotDone c q) ∧
      ((d.plotDone c q).cluster c).computed = satAdd 0xFFFFFFFF (d.cluster c).computed 1 ∧
      (∀ k, k ≠ c → (d.plotDone c q).cluster k = d.cluster k) ∧
      ∃ x ∈ (d.plotDone c q).push.plots, x.sail = q.sail ∧ x.plot = q.plot ∧ x.handed = q.handed ∧ x.scalers = none := by
  have ha := advance_restages ((d.setPlot q (fun _ => q.composed)).countPlot c) c
  have hk := fun k => cluster_of_clusters ha.clusters k
  rw [plotDone_quiet h]
  refine ⟨((Frame.push d _).mono (by decide)).trans ha.frame, ha.data, ⟨ha.count.trans (List.length_map _), ha.sails⟩,
    (congrArg _ (hk c)).trans (countPlot_self _ c), fun k hne => (hk k).trans (cluster_setCluster_ne _ c k _ hne), ?_⟩
  exact (mem_advance c (mem_composed c hq)).elim (fun hx => ⟨_, hx, rfl, rfl, rfl, rfl⟩) (fun hx => ⟨_, hx, rfl, rfl, rfl, rfl⟩)

/-- A plot that is done with its packet started: the packet leaves with its pixels. -/
theorem plotDone_sends {d : Dev} {c : ClusterId} {q : Plot} (hq : q ∈ d.push.plots) (h : q.pkt = .started) :
    Frame [.push, .dram, .lines, .dict] d (d.plotDone c q) ∧ (d.plotDone c q).push.plots.length = d.push.plots.length ∧
      ∃ x ∈ (d.plotDone c q).push.plots, x.sail = q.sail ∧ x.plot = q.plot ∧ x.handed = q.handed ∧ x.scalers = none ∧ x.pkt = .sent ∧
        d.plotWrite q x.pixels ∈ (d.plotDone c q).out := by
  obtain ⟨away, hs, ho⟩ := emitPlot_sends ((d.setPlot q (fun _ => q.composed)).countPlot c) q.composed false q.pixels
  have ha := advance_restages (((d.setPlot q (fun _ => q.composed)).countPlot c).emitPlot q.composed false q.pixels) c
  have hm := mem_setPlot_self (fun x => x.sent false q.pixels away) (mem_composed c hq)
  rw [← hs.plots] at hm
  rw [← ha.out] at ho
  rw [plotDone_started h]
  refine ⟨.trans ((Frame.push d _).mono (by decide)) ((hs.frame.mono (by decide)).trans (ha.frame.mono (by decide))),
    (ha.count.trans (congrArg List.length hs.plots)).trans ((List.length_map _).trans (List.length_map _)), ?_⟩
  exact (mem_advance c hm).elim (fun hx => ⟨_, hx, rfl, rfl, rfl, rfl, rfl, ho⟩) (fun hx => ⟨_, hx, rfl, rfl, rfl, rfl, rfl, ho⟩)

/-- The last pixels: what composing them reads, and the plot that is then done. -/
theorem handoff_last {d : Dev} {c : ClusterId} {n : Nat} {p : Plot} {l : Lens} (ht : (d.cluster c).tail = none)
    (hf : d.push.plots.find? (fun (x : Plot) => x.stage == .compute c) = some p) (hl : d.lensOf p.sail = some l)
    (hn : 4096 ≤ n) (hh : p.handed < 4096) : ∃ px e, Works d e ∧ e.tack = d.tack ∧
    p.handedTo px 4096 ∈ e.push.plots ∧ d.plotHandoff c n = e.plotDone c (p.handedTo px 4096) := by
  have hmin : min n 4096 = 4096 := Nat.min_eq_right hn
  obtain ⟨px, e, _, hr, he⟩ := handoff_composes ht hf hl (hmin.symm ▸ hh)
  rw [hmin, if_pos rfl] at he
  have hm : p ∈ e.push.plots := hr.push ▸ List.mem_of_find?_eq_some hf
  exact ⟨px, _, hr.works.trans (setPlot_restages e p _).works, hr.tack, mem_setPlot_self (fun _ => p.handedTo px 4096) hm, he⟩

section Rows
variable {s : State} (hp : s.dev.powered = true) {c : ClusterId} {n : Nat}
include hp

theorem handoff_waits (ht : (s.dev.cluster c).tail ≠ none) (hn : n < 4096) : Becomes (.plotHandoff c n) s { s.dev with out := [] } :=
  Becomes.of_runOn (exec_plotHandoff c n s) hp (handoff_tail (d := s.dev.begin) ht hn)

variable {p : Plot} {l : Lens} (ht : (s.dev.cluster c).tail = none)
  (hf : s.dev.push.plots.find? (fun (x : Plot) => x.stage == .compute c) = some p) (hl : s.dev.lensOf p.sail = some l)
include ht hf hl

theorem handoff_stays (hh : n ≤ p.handed) : Becomes (.plotHandoff c n) s { s.dev with out := [] } :=
  Becomes.of_runOn (exec_plotHandoff c n s) hp (handoff_none (d := s.dev.begin) ht hf hl hh)

theorem handoff_part (hn : n < 4096) (hh : p.handed < n) :
    Runs (.plotHandoff c n) s (eventParts ++ [.push, .dram, .memlog, .flt, .free]) (fun t => SameShape s.dev t ∧ t.dram.data = s.dev.dram.data ∧
      ∃ x ∈ t.push.plots, x.sail = p.sail ∧ x.plot = p.plot ∧ x.handed = n ∧ x.stage = .compute c ∧
        (p.repeated = false → x.pixels.take p.pixels.length = p.pixels ∧ x.pixels.length = p.pixels.length + (n - p.handed))) := by
  have hmin : min n 4096 = n := Nat.min_eq_left (Nat.le_of_lt hn)
  obtain ⟨px, e, hlen, hr, he⟩ := handoff_composes (d := s.dev.begin) ht hf hl (hmin.symm ▸ hh)
  rw [hmin] at hlen he
  rw [if_neg (Nat.ne_of_lt hn)] at he
  have hs := List.find?_some hf
  have hm : p ∈ e.push.plots := hr.push ▸ List.mem_of_find?_eq_some hf
  have hw := hr.works.trans (setPlot_restages e p (fun _ => p.handedTo px n)).works
  refine Runs.of_runOn (exec_plotHandoff c n s) hp (he ▸ (Frame.begin _ s.dev).trans hw.frame) (he ▸ ⟨hw.shape, hw.data, ?_⟩)
  refine ⟨_, mem_setPlot_self (fun _ => p.handedTo px n) hm, rfl, rfl, rfl, beq_iff_eq.mp hs, fun hrep => ?_⟩
  simp [Plot.handedTo, hrep, hlen]

theorem handoff_counts (hn : 4096 ≤ n) (hh : p.handed < 4096) (hk : p.pkt ≠ .started) :
    Runs (.plotHandoff c n) s (eventParts ++ [.push, .dram, .memlog, .flt, .free]) (fun t => SameShape s.dev t ∧
      (t.cluster c).computed = satAdd 0xFFFFFFFF (s.dev.cluster c).computed 1 ∧ (∀ k, k ≠ c → t.cluster k = s.dev.cluster k) ∧
      ∃ x ∈ t.push.plots, x.sail = p.sail ∧ x.plot = p.plot ∧ x.handed = 4096 ∧ x.scalers = none) := by
  obtain ⟨px, e, hw, _, hm, he⟩ := handoff_last (d := s.dev.begin) ht hf hl hn hh
  obtain ⟨hfr, _, ⟨hct, hsl⟩, hc, hcs, hx⟩ := plotDone_counts (c := c) hm hk
  have hcl := fun k => cluster_of_clusters hw.clusters k
  refine Runs.of_runOn (exec_plotHandoff c n s) hp (he ▸ (Frame.begin _ s.dev).trans (hw.frame.trans (hfr.mono (by decide)))) (he ▸ ?_)
  exact ⟨⟨hct.trans hw.count, hsl.trans hw.sails⟩, hc.trans (congrArg (fun x : Cluster => satAdd 0xFFFFFFFF x.computed 1) (hcl c)),
    fun k hne => (hcs k hne).trans (hcl k), hx⟩

theorem handoff_sends (hn : 4096 ≤ n) (hh : p.handed < 4096) (hk : p.pkt = .started) :
    Runs (.plotHandoff c n) s (eventParts ++ [.push, .dram, .memlog, .flt, .free] ++ [.lines]) (fun t =>
      t.push.plots.length = s.dev.push.plots.length ∧
      ∃ x ∈ t.push.plots, x.sail = p.sail ∧ x.plot = p.plot ∧ x.handed = 4096 ∧ x.scalers = none ∧ x.pkt = .sent ∧
        s.dev.plotWrite p x.pixels ∈ t.out) := by
  obtain ⟨px, e, hw, ht', hm, he⟩ := handoff_last (d := s.dev.begin) ht hf hl hn hh
  obtain ⟨hfr, hct, x, hx, h1, h2, h3, h4, h5, ho⟩ := plotDone_sends (c := c) hm hk
  have hpw : e.plotWrite (p.handedTo px 4096) x.pixels = s.dev.plotWrite p x.pixels := by
    rw [Dev.plotWrite, ht']
    rfl
  refine Runs.of_runOn (exec_plotHandoff c n s) hp ?_ (he ▸ ⟨hct.trans hw.count, x, hx, h1, h2, h3, h4, h5, hpw ▸ ho⟩)
  exact he ▸ (Frame.begin _ s.dev).trans ((hw.frame.mono (by decide)).trans (hfr.mono (by decide)))

end Rows

/-- Settles O34: the place of a job, then each row's cases: JOB_DISPATCH, SCALER_GRANT, PLOT_COMPUTE_START and PLOT_HANDOFF. -/
theorem jobsArePlacedAndComputed : Obligations.JobsArePlacedAndComputed := by
  refine ⟨fun d p urgent c h => openClusters_place (placeJob_mem h), fun s hp => ⟨dispatch_closed hp, fun p d1 c => dispatch_places hp,
    fun c p hr => ⟨grant_takes hp hr, grant_waits hp hr⟩, fun c hr => ⟨grant_idle hp hr, fun n m us => start_idle hp hr⟩,
    fun c p l n m us hr hl hk => ⟨start_waits hp hr hl, start_computes hp hr hl hk, start_fences hp hr hl hk⟩,
    fun c n => handoff_waits hp, fun c p l n ht hf hl => ⟨handoff_part hp ht hf hl, fun _ => handoff_stays hp ht hf hl,
      handoff_counts hp ht hf hl, handoff_sends hp ht hf hl⟩⟩⟩

end Sys2Proof.Machine
end

section
/-! The triggers of the timing modes (file 10): what a period, an edge, the loss of the input and a pulse make of the tack machinery. -/

namespace Sys2Proof.Machine

/-- No TACK_HOLD is in force where none is listed. -/
theorem held_eq_false {d : Dev} (h : d.qs.holds = []) : d.held = false := by
  simp [Dev.held, h]

theorem held_eq_true {d : Dev} (h : d.qs.holds ≠ []) : d.held = true := by
  simp [Dev.held, h]

/-- The device with another state of the tack machinery. -/
def Dev.withTack (d : Dev) (k : Tack) : Dev := { d with tack := k }

theorem waitBlocks_withTack (d : Dev) (k : Tack) : (d.withTack k).waitBlocks = d.waitBlocks := rfl

/-! ### The period and TACK_OUT (R64, R203, R208) -/

theorem tackPeriodExpiry_due {d : Dev} (hm : d.tval 0x200001 = 1) (hh : d.qs.holds = []) (hw : d.pw.state ≠ .hove) :
    d.tackPeriodExpiry = d.withTack { d.tack with periodDue := true } := by
  rw [Dev.tackPeriodExpiry, if_pos ⟨hm, held_eq_false hh⟩, if_neg hw]
  rfl

theorem tackPeriodExpiry_idle {d : Dev} (h : d.tval 0x200001 ≠ 1 ∨ d.qs.holds ≠ []) : d.tackPeriodExpiry = d := by
  refine if_neg fun ⟨hm, hh⟩ => ?_
  obtain h | h := h
  · exact h hm
  · simp [held_eq_true h] at hh

theorem tackOutPulse_sends {d : Dev} (hn : d.tack.pulses ≠ 0) (hh : d.qs.holds = []) :
    d.tackOutPulse = (d.withTack { d.tack with pulses := d.tack.pulses - 1 }).send .tackOut :=
  if_neg (by simp [hn, held_eq_false hh])

theorem tackOutPulse_idle {d : Dev} (h : d.tack.pulses = 0 ∨ d.qs.holds ≠ []) : d.tackOutPulse = d :=
  if_pos (h.imp_right held_eq_true)

/-! ### The loss of the input (R206) -/

theorem syncTimeout_reports {d : Dev} (hm : d.tval 0x200001 = 2) (hl : d.tack.syncLost = false) :
    ∃ x, d.syncTimeout = (d.withTack { d.tack with syncLost := true }).event 0x0604 0 x :=
  ⟨_, if_pos ⟨hm, hl⟩⟩

theorem syncTimeout_idle {d : Dev} (h : d.tval 0x200001 ≠ 2 ∨ d.tack.syncLost = true) : d.syncTimeout = d :=
  if_neg fun ⟨hm, hl⟩ => h.elim (· hm) (by simp [hl])

theorem Frame.withTack (d : Dev) (k : Tack) : Frame [.tack] d (d.withTack k) := by
  intro p hp
  cases p with
  | tack => exact absurd (by decide) hp
  | _ => rfl

/-! ### Transitions of TACK_SYNC_IN (R192, R204, R206, R209) -/

/-- A boundary that WAIT delayed waits for this edge: its items are ready, nothing holds it back, no tack is SEALED or PUSHING. -/
def Dev.delayedDue (d : Dev) : Bool := d.comp.waiting && !d.waitBlocks && d.qs.holds.isEmpty && d.tack.act.isNone

theorem delayedEdge_eq (d : Dev) : d.delayedEdge = d.withTack { d.tack with edgeDue := d.tack.edgeDue || d.delayedDue } := by
  have hd : (d.comp.waiting ∧ d.waitBlocks = false ∧ d.held = false ∧ d.tack.act = none) ↔ d.delayedDue = true := by
    simp [Dev.delayedDue, Dev.held, and_assoc]
  unfold Dev.delayedEdge
  split
  · next h => simp [hd.mp h, Dev.withTack]
  · next h => simp [Bool.eq_false_iff.mpr (mt hd.mpr h), Dev.withTack]

theorem delayedDue_held {d : Dev} (h : d.qs.holds ≠ []) : d.delayedDue = false := by
  simp [Dev.delayedDue, h]

theorem delayedDue_active {d : Dev} (h : d.tack.act ≠ none) : d.delayedDue = false := by
  rw [Dev.delayedDue, Option.isNone_eq_false_iff.mpr (Option.isSome_iff_ne_none.mpr h), Bool.and_false]

/-- The tack machinery once the counted edge qualifies: its count starts over, and the input is no longer lost. -/
def Tack.qualified (k : Tack) : Tack := { k with edges := 0, syncLost := false }

/-- The flips of retired tacks are armed. -/
def Tack.armed (k : Tack) : Tack := { k with flips := k.flips.map (fun (f : Flip) => { f with armed := true }) }

theorem qualifyingEdge_held {d : Dev} (h : d.qs.holds ≠ []) : d.qualifyingEdge = d.withTack d.tack.qualified :=
  if_pos (held_eq_true h)

theorem qualifyingEdge_active {d : Dev} (hh : d.qs.holds = []) (ha : d.tack.act ≠ none) :
    d.qualifyingEdge = d.withTack d.tack.qualified.armed := by
  have hh' : (d.withTack d.tack.qualified).held = false := held_eq_false hh
  exact (if_neg (ne_true_of_eq_false hh')).trans (if_pos (Option.isSome_iff_ne_none.mpr ha))

theorem qualifyingEdge_triggers {d : Dev} (hh : d.qs.holds = []) (ha : d.tack.act = none) (hw : d.waitBlocks = false) :
    d.qualifyingEdge = d.withTack { d.tack.qualified.armed with edgeDue := true } := by
  have hh' : (d.withTack d.tack.qualified).held = false := held_eq_false hh
  have ha' : d.tack.act.isSome = false := by rw [ha]; rfl
  exact (if_neg (ne_true_of_eq_false hh')).trans ((if_neg (ne_true_of_eq_false ha')).trans
    (if_neg (ne_true_of_eq_false ((waitBlocks_withTack d d.tack.qualified.armed).trans hw))))

theorem tackSyncEdge_other {d : Dev} {rising : Bool} (h : (d.tval 0x200004 == 0) ≠ rising) :
    d.tackSyncEdge rising = d.withTack { d.tack with otherEdge := d.now } :=
  if_pos (bne_iff_ne.mpr h)

/-- The device that keeps the time of a transition of the selected polarity. -/
def Dev.edgeSeen (d : Dev) : Dev := d.withTack { d.tack with lastEdge := d.now }

section Selected
variable {d : Dev} {rising : Bool} (h : (d.tval 0x200004 == 0) = rising)
include h

theorem tackSyncEdge_uncounted (hm : d.tval 0x200001 ≠ 2) : d.tackSyncEdge rising = d.edgeSeen :=
  (if_neg (by simp [h])).trans (if_pos hm)

theorem tackSyncEdge_counted (hm : d.tval 0x200001 = 2) (hn : d.tack.edges + 1 < d.tval 0x200003) :
    d.tackSyncEdge rising = d.edgeSeen.delayedEdge.withTack { d.edgeSeen.delayedEdge.tack with edges := d.tack.edges + 1 } :=
  (if_neg (by simp [h])).trans ((if_neg (not_not_intro hm)).trans (if_pos hn))

theorem tackSyncEdge_qualifies (hm : d.tval 0x200001 = 2) (hn : d.tval 0x200003 ≤ d.tack.edges + 1) (hw : d.pw.state ≠ .hove) :
    d.tackSyncEdge rising = d.edgeSeen.delayedEdge.qualifyingEdge := by
  have hk : d.edgeSeen.wake 3 = d.edgeSeen := if_neg (fun e => hw e.1)
  refine (if_neg (by simp [h])).trans ((if_neg (not_not_intro hm)).trans ((if_neg (Nat.not_lt.mpr hn)).trans ?_))
  exact congrArg (fun e : Dev => e.delayedEdge.qualifyingEdge) hk

end Selected

section Rows
variable {s : State} (hp : s.dev.powered = true) {rising : Bool} (h : (s.dev.tval 0x200004 == 0) = rising) (hm : s.dev.tval 0x200001 = 2)
include hp h hm

theorem syncEdge_counts (hn : s.dev.tack.edges + 1 < s.dev.tval 0x200003) : Becomes (.tackSyncEdge rising) s
    (s.dev.begin.withTack { s.dev.tack with
      lastEdge := s.dev.now, edges := s.dev.tack.edges + 1, edgeDue := s.dev.tack.edgeDue || s.dev.delayedDue }) := by
  refine Becomes.of_runOn (exec_tackSyncEdge rising s) hp ((tackSyncEdge_counted (d := s.dev.begin) h hm hn).trans ?_)
  rw [delayedEdge_eq]
  rfl

variable (hn : s.dev.tval 0x200003 ≤ s.dev.tack.edges + 1) (hw : s.dev.pw.state ≠ .hove)
include hn hw

/-- An edge that qualifies with no boundary delayed. -/
theorem syncEdge_qualifies {t : Dev} (hd : s.dev.delayedDue = false)
    (ht : (s.dev.begin.edgeSeen).qualifyingEdge = t) : Becomes (.tackSyncEdge rising) s t := by
  refine Becomes.of_runOn (exec_tackSyncEdge rising s) hp ((tackSyncEdge_qualifies (d := s.dev.begin) h hm hn hw).trans ?_)
  have hd' : s.dev.begin.edgeSeen.delayedDue = false := hd
  rw [delayedEdge_eq, hd', Bool.or_false]
  exact ht

theorem syncEdge_held (hh : s.dev.qs.holds ≠ []) : Becomes (.tackSyncEdge rising) s
    (s.dev.begin.withTack { s.dev.tack with lastEdge := s.dev.now }.qualified) :=
  syncEdge_qualifies hp h hm hn hw (delayedDue_held hh) (qualifyingEdge_held hh)

theorem syncEdge_active (hh : s.dev.qs.holds = []) (ha : s.dev.tack.act ≠ none) : Becomes (.tackSyncEdge rising) s
    (s.dev.begin.withTack { s.dev.tack with lastEdge := s.dev.now }.qualified.armed) :=
  syncEdge_qualifies hp h hm hn hw (delayedDue_active ha) (qualifyingEdge_active hh ha)

theorem syncEdge_triggers (hh : s.dev.qs.holds = []) (ha : s.dev.tack.act = none) (hb : s.dev.waitBlocks = false) :
    Becomes (.tackSyncEdge rising) s
      (s.dev.begin.withTack { { s.dev.tack with lastEdge := s.dev.now }.qualified.armed with edgeDue := true }) := by
  refine Becomes.of_runOn (exec_tackSyncEdge rising s) hp ((tackSyncEdge_qualifies (d := s.dev.begin) h hm hn hw).trans ?_)
  rw [delayedEdge_eq]
  exact qualifyingEdge_triggers (d := s.dev.begin.edgeSeen.withTack _) hh ha hb

end Rows

theorem syncTimeout_runs {s : State} (hp : s.dev.powered = true) (hm : s.dev.tval 0x200001 = 2) (hl : s.dev.tack.syncLost = false) :
    Runs .syncTimeout s (eventParts ++ [.tack]) (fun t => t.tack = { s.dev.tack with syncLost := true }) := by
  obtain ⟨x, e⟩ := syncTimeout_reports (d := s.dev.begin) hm hl
  refine Runs.of_runOn (exec_syncTimeout s) hp ?_ ?_
  · rw [e]
    exact (Frame.begin _ s.dev).trans (((Frame.withTack _ _).mono (by decide)).trans ((Frame.event _ _ _ _).mono (by decide)))
  · rw [e, Dev.event_tack]
    rfl

end Sys2Proof.Machine
end

section
/-! The broadcast of TACK (file 11): each mast in SERVICE that serialises no packet sends each copy once. -/

namespace Sys2Proof.Machine

/-- How often a copy of TACK has left on a mast with a sequence and a launch time. -/
def Dev.copiesSent (d : Dev) (m : MastId) (seq : U32) (i a : Nat) : Nat := d.out.countP (fun o => decide (o = Out.mast m (.tack seq i a)))

theorem copiesSent_append (d t : Dev) (more : List Out) (h : t.out = d.out ++ more) (m : MastId) (seq : U32) (i a : Nat) :
    t.copiesSent m seq i a = d.copiesSent m seq i a + more.countP (fun o => decide (o = Out.mast m (.tack seq i a))) := by
  rw [Dev.copiesSent, h, List.countP_append]
  rfl

/-- Masts keep their states and launch times. -/
def KeepsMasts (d t : Dev) : Prop := ∀ m, (t.mast m).state = (d.mast m).state ∧ ∀ i, (t.mast m).adjust i = (d.mast m).adjust i

theorem KeepsMasts.of_masts {d t : Dev} (h : t.push.masts = d.push.masts) : KeepsMasts d t := by
  intro m
  have e : t.mast m = d.mast m := congrArg (fun x : SMap Mast => SMap.get ({} : Mast) x m.toNat) h
  rw [e]
  exact ⟨rfl, fun _ => rfl⟩

theorem KeepsMasts.trans {a b c : Dev} (h : KeepsMasts a b) (g : KeepsMasts b c) : KeepsMasts a c :=
  fun m => ⟨(g m).1.trans (h m).1, fun i => ((g m).2 i).trans ((h m).2 i)⟩

/-- A step that sends no copy of TACK and leaves what the copies depend on. -/
structure SendsNoTack (d t : Dev) : Prop where
  masts : KeepsMasts d t
  copies : ∀ m seq i a, t.copiesSent m seq i a = d.copiesSent m seq i a

theorem SendsNoTack.trans {a b c : Dev} (h : SendsNoTack a b) (g : SendsNoTack b c) : SendsNoTack a c :=
  ⟨h.masts.trans g.masts, fun m seq i x => (g.copies m seq i x).trans (h.copies m seq i x)⟩

/-- Where masts and what was sent are the same. -/
theorem SendsNoTack.quiet {d t : Dev} (hm : t.push.masts = d.push.masts) (ho : t.out = d.out) : SendsNoTack d t :=
  ⟨.of_masts hm, fun _ _ _ _ => by rw [Dev.copiesSent, Dev.copiesSent, ho]⟩

theorem SendsNoTack.refl (d : Dev) : SendsNoTack d d := .quiet rfl rfl

theorem SendsNoTack.foldl {α : Type} (f : Dev → α → Dev) (h : ∀ d x, SendsNoTack d (f d x)) (l : List α) (d : Dev) :
    SendsNoTack d (l.foldl f d) :=
  List.foldlRecOn l f (motive := fun t => SendsNoTack d t) (.refl d) (fun t ht x _ => ht.trans (h t x))

/-- A mast other than a fresh one is written, its state, lanes and rate kept. -/
theorem setMast_sendsNoTack (d : Dev) (m : MastId) (x : Mast) (hx : x ≠ {}) (hs : x.state = (d.mast m).state)
    (ha : ∀ i, x.adjust i = (d.mast m).adjust i) : SendsNoTack d (d.setMast m x) := by
  refine ⟨fun k => ?_, fun _ _ _ _ => rfl⟩
  by_cases hk : k = m
  · have e : (d.setMast m x).mast m = x := SMap.get_set_self_ne _ _ _ _ hx
    rw [hk, e]
    exact ⟨hs, ha⟩
  · rw [mast_setMast_ne d m k x hk]
    exact ⟨rfl, fun _ => rfl⟩

/-! ### What a run of packets sends -/

theorem countP_sentRun_self (m : MastId) (fs : List Fwd) (seq : U32) (i a : Nat) :
    (fs.map (fun (f : Fwd) => Out.mast m f)).countP (fun o => decide (o = Out.mast m (.tack seq i a))) = fs.count (.tack seq i a) := by
  rw [List.countP_map]
  refine List.countP_congr fun f _ => ?_
  simp

theorem countP_sentRun_ne {m k : MastId} (h : k ≠ m) (fs : List Fwd) (seq : U32) (i a : Nat) :
    (fs.map (fun (f : Fwd) => Out.mast m f)).countP (fun o => decide (o = Out.mast k (.tack seq i a))) = 0 := by
  rw [List.countP_map, List.countP_eq_zero]
  intro f _
  simp [h.symm]

theorem sendRun_copies (d : Dev) (m k : MastId) (fs : List Fwd) (seq : U32) (i a : Nat) :
    (d.sendRun m fs).copiesSent k seq i a = d.copiesSent k seq i a + if k = m then fs.count (.tack seq i a) else 0 := by
  rw [copiesSent_append d (d.sendRun m fs) _ (List.append_assoc _ _ _), List.countP_append]
  split
  · next h =>
    subst h
    rw [countP_sentRun_self]
    rfl
  · next h =>
    rw [countP_sentRun_ne h]
    rfl

theorem sendRun_sendsNoTack (d : Dev) (m : MastId) (fs : List Fwd) (h : ∀ seq i a, Fwd.tack seq i a ∉ fs) : SendsNoTack d (d.sendRun m fs) := by
  refine ⟨.of_masts rfl, fun k seq i a => ?_⟩
  rw [sendRun_copies, List.count_eq_zero_of_not_mem (h seq i a), ite_self, Nat.add_zero]

theorem mastExit_sendsNoTack (d : Dev) (m : MastId) : SendsNoTack d (d.mastExit m) := by
  unfold Dev.mastExit
  dsimp only
  split
  · have hi : { d.mast m with idle := false } ≠ ({} : Mast) := fun e => Bool.false_ne_true (congrArg Mast.idle e)
    exact (setMast_sendsNoTack d m _ hi rfl (fun _ => rfl)).trans (sendRun_sendsNoTack _ m _ (by simp [Mast.alignSet]))
  · exact .refl d

theorem bump_sendsNoTack (d : Dev) (k : Nat) : SendsNoTack d (d.bump k) := .quiet rfl rfl

theorem setSail_sendsNoTack (d : Dev) (x : SailId) (y : Sail) : SendsNoTack d (d.setSail x y) := .quiet rfl rfl

theorem takeSeq_sendsNoTack {d : Dev} {m : MastId} (h : (d.mast m).state ≠ .down) : SendsNoTack d (d.takeSeq m) :=
  (setMast_sendsNoTack d m { d.mast m with txSeq := (d.mast m).txSeq + 1 } (fun e => h (congrArg Mast.state e)) rfl (fun _ => rfl)).trans
    (bump_sendsNoTack _ _)

theorem cfgFwd_ne_tack (op : CfgOp) (x : SailId) (sq : U16) (retry : Bool) (seq : U32) (i a : Nat) : Fwd.tack seq i a ≠ op.fwd x sq retry := by
  cases op <;> exact fun e => nomatch e

theorem sendOp_sendsNoTack (d : Dev) (x : SailId) (o : CfgOut) (retry : Bool) : SendsNoTack d (d.sendOp x o retry) := by
  refine ((mastExit_sendsNoTack d (mastOf x)).trans (setSail_sendsNoTack _ x _)).trans (sendRun_sendsNoTack _ _ _ fun seq i a hm => ?_)
  exact cfgFwd_ne_tack _ _ _ _ _ _ _ (List.mem_singleton.mp hm)

theorem linkFree_service {d : Dev} {m : MastId} (h : d.linkFree m = true) : (d.mast m).state = .service := by
  simp only [Dev.linkFree, Bool.and_eq_true, beq_iff_eq] at h
  obtain ⟨⟨⟨_, hs⟩, _⟩, _⟩ := h
  exact hs

theorem kick_sendsNoTack (d : Dev) (x : SailId) : SendsNoTack d (d.kick x) := by
  unfold Dev.kick
  dsimp only
  split
  · exact .refl d
  · next hl =>
    have hs : (d.mast (mastOf x)).state = .service := linkFree_service (by simpa using hl)
    split
    · split
      · exact (bump_sendsNoTack d _).trans (sendOp_sendsNoTack _ x _ true)
      · exact .refl d
    · split
      · exact .refl d
      · refine ((setSail_sendsNoTack d x _).trans (takeSeq_sendsNoTack ?_)).trans (sendOp_sendsNoTack _ x _ false)
        exact fun e => nomatch hs.symm.trans e
    · exact .refl d

theorem wakeMast_sendsNoTack (d : Dev) (m : MastId) : SendsNoTack d (d.wakeMast m) := by
  unfold Dev.wakeMast
  split
  · exact (mastExit_sendsNoTack d m).trans (.foldl _ kick_sendsNoTack _ _)
  · exact .refl d

theorem wakeMast_linkSends (d : Dev) (m : MastId) : LinkSends d (d.wakeMast m) := by
  unfold Dev.wakeMast
  split
  · exact (mastExit_linkSends d m).trans (kickMast_linkSends _ m)
  · exact .refl d

/-! ### The copies of one mast (R208, R235) -/

/-- The three copies of TACK of a mast, each with its launch time. -/
def Dev.tackRun (d : Dev) (seq : U32) (m : MastId) : List Fwd := (List.range 3).map (fun i => .tack seq i ((d.mast m).adjust i))

/-- A mast sends its copies at its next packet boundary. -/
def Dev.sendTack (d : Dev) (seq : U32) (m : MastId) : Dev := (d.wakeMast m).sendAtBoundary m (d.tackRun seq m)

theorem tackCopies_eq (d : Dev) (seq : U32) : d.tackCopies seq =
    (d.mastList.filter (fun m => (d.mast m).state == .service)).foldl (fun (e : Dev) (m : MastId) => e.sendTack seq m) d := rfl

theorem tackRun_eq (d : Dev) (seq : U32) (m : MastId) : d.tackRun seq m =
    [.tack seq 0 ((d.mast m).adjust 0), .tack seq 1 ((d.mast m).adjust 1), .tack seq 2 ((d.mast m).adjust 2)] := rfl

theorem tack_ne_of_copy {seq : U32} {i j a b : Nat} (h : i ≠ j) : Fwd.tack seq i a ≠ Fwd.tack seq j b := by
  intro e
  obtain ⟨_, he, _⟩ := Fwd.tack.inj e
  exact h he

theorem count_tackRun (d : Dev) (seq : U32) (m : MastId) {i : Nat} (hi : i < 3) :
    (d.tackRun seq m).count (.tack seq i ((d.mast m).adjust i)) = 1 := by
  obtain rfl | rfl | rfl : i = 0 ∨ i = 1 ∨ i = 2 := by omega
  · rw [tackRun_eq, List.count_cons_self, List.count_cons_of_ne (tack_ne_of_copy (by decide)),
      List.count_cons_of_ne (tack_ne_of_copy (by decide)), List.count_nil]
  · rw [tackRun_eq, List.count_cons_of_ne (tack_ne_of_copy (by decide)), List.count_cons_self,
      List.count_cons_of_ne (tack_ne_of_copy (by decide)), List.count_nil]
  · rw [tackRun_eq, List.count_cons_of_ne (tack_ne_of_copy (by decide)), List.count_cons_of_ne (tack_ne_of_copy (by decide)),
      List.count_cons_self, List.count_nil]

theorem sendAtBoundary_linkSends (d : Dev) (m : MastId) (fs : List Fwd) : LinkSends d (d.sendAtBoundary m fs) := by
  unfold Dev.sendAtBoundary
  split
  · exact setLine_linkSends d m _
  · exact sendRun_linkSends d m fs

theorem sendTack_linkSends (d : Dev) (seq : U32) (m : MastId) : LinkSends d (d.sendTack seq m) :=
  (wakeMast_linkSends d m).trans (sendAtBoundary_linkSends _ m _)

theorem sendTack_keepsMasts (d : Dev) (seq : U32) (m : MastId) : KeepsMasts d (d.sendTack seq m) := by
  refine (wakeMast_sendsNoTack d m).masts.trans (.of_masts ?_)
  unfold Dev.sendTack Dev.sendAtBoundary
  split
  · rfl
  · rfl

theorem serialising_of_plots {d t : Dev} (h : t.push.plots = d.push.plots) (m : MastId) : t.serialising m = d.serialising m :=
  congrArg (fun ps : List Plot => ps.any (fun (p : Plot) => p.mast == m && p.pkt == .started)) h

theorem sendTack_copies_ne {m k : MastId} (h : k ≠ m) (d : Dev) (seq sq : U32) (i a : Nat) :
    (d.sendTack sq m).copiesSent k seq i a = d.copiesSent k seq i a := by
  refine Eq.trans ?_ ((wakeMast_sendsNoTack d m).copies k seq i a)
  unfold Dev.sendTack Dev.sendAtBoundary
  split
  · rfl
  · rw [sendRun_copies, if_neg h, Nat.add_zero]

theorem sendTack_copies_self {d : Dev} {m : MastId} (h : d.serialising m = false) (seq : U32) {i : Nat} (hi : i < 3) :
    (d.sendTack seq m).copiesSent m seq i ((d.mast m).adjust i) = d.copiesSent m seq i ((d.mast m).adjust i) + 1 := by
  have hs : (d.wakeMast m).serialising m = false := (serialising_of_plots (wakeMast_linkSends d m).plots m).trans h
  rw [Dev.sendTack, Dev.sendAtBoundary, if_neg (ne_true_of_eq_false hs), sendRun_copies, if_pos rfl, count_tackRun d seq m hi,
    (wakeMast_sendsNoTack d m).copies]

/-! ### The copies of every mast -/

theorem mastList_nodup (d : Dev) : d.mastList.Nodup := by
  have hle : mastsOf d.fuses.md0512 ≤ 32 := by
    unfold mastsOf
    split <;> omega
  refine List.pairwise_map.mpr (List.Pairwise.imp_of_mem (fun {a b} ha hb hne e => hne ?_) List.nodup_range)
  have ha := List.mem_range.mp ha
  have hb := List.mem_range.mp hb
  have e := congrArg BitVec.toNat e
  simp only [BitVec.toNat_ofNat] at e
  omega

theorem foldl_sendTack_copies_of_notMem {ms : List MastId} {m : MastId} (h : m ∉ ms) (d : Dev) (seq : U32) (i a : Nat) :
    (ms.foldl (fun (e : Dev) (m : MastId) => e.sendTack seq m) d).copiesSent m seq i a = d.copiesSent m seq i a :=
  List.foldlRecOn ms _ (motive := fun t : Dev => t.copiesSent m seq i a = d.copiesSent m seq i a) rfl
    (fun t ht _ hk => (sendTack_copies_ne (ne_of_mem_of_not_mem hk h).symm t seq seq i a).trans ht)

/-- Each mast of a list without repetition that serialises no packet sends each copy once more. -/
theorem foldl_sendTack_copies {ms : List MastId} (hn : ms.Nodup) {m : MastId} (hm : m ∈ ms) {d : Dev} (hs : d.serialising m = false)
    (seq : U32) {i : Nat} (hi : i < 3) :
    (ms.foldl (fun (e : Dev) (m : MastId) => e.sendTack seq m) d).copiesSent m seq i ((d.mast m).adjust i) =
      d.copiesSent m seq i ((d.mast m).adjust i) + 1 := by
  induction ms generalizing d with
  | nil => exact absurd hm List.not_mem_nil
  | cons k ks ih =>
    obtain ⟨hk, hks⟩ := List.nodup_cons.mp hn
    rw [List.foldl_cons]
    by_cases e : m = k
    · rw [← e] at hk ⊢
      rw [foldl_sendTack_copies_of_notMem hk, sendTack_copies_self hs seq hi]
    · have hs' : (d.sendTack seq k).serialising m = false := (serialising_of_plots (sendTack_linkSends d seq k).plots m).trans hs
      have ih := ih hks (List.mem_of_ne_of_mem e hm) hs'
      rw [((sendTack_keepsMasts d seq k) m).2 i] at ih
      rw [ih, sendTack_copies_ne e]

theorem tackCopies_linkSends (d : Dev) (seq : U32) : LinkSends d (d.tackCopies seq) :=
  .foldl _ (fun e m => sendTack_linkSends e seq m) _ d

theorem tackCopies_copies {d : Dev} {m : MastId} (hm : m ∈ d.mastList) (hv : (d.mast m).state = .service) (hs : d.serialising m = false)
    (seq : U32) {i : Nat} (hi : i < 3) :
    (d.tackCopies seq).copiesSent m seq i ((d.mast m).adjust i) = d.copiesSent m seq i ((d.mast m).adjust i) + 1 := by
  rw [tackCopies_eq]
  exact foldl_sendTack_copies ((mastList_nodup d).filter _) (List.mem_filter.mpr ⟨hm, by simp [hv]⟩) hs seq hi

/-! ### TACK_BROADCAST (R64, R208, R209, R252, R334) -/

/-- The oldest flip leaves the list, and a TACK_OUT pulse falls due. -/
def Dev.flipLeaves (d : Dev) (rest : List Flip) : Dev := d.withTack { d.tack with flips := rest, pulses := d.tack.pulses + 1 }

theorem flipDue_iff {d : Dev} {f : Flip} : d.flipDue f = true ↔ d.qs.holds = [] ∧ (d.tval 0x200001 ≠ 2 ∨ f.armed = true) := by
  simp [Dev.flipDue, Dev.held]

/-- A flip that is due: its copies leave, then the configuration packets of some sails. -/
theorem tackBroadcast_due {d : Dev} {f : Flip} {rest : List Flip} (hf : d.tack.flips = f :: rest) (hu : d.pw.state = .underway)
    (hs : d.stopped = false) (hd : d.flipDue f = true) :
    ∃ xs : List SailId, d.tackBroadcast = xs.foldl (fun (e : Dev) (x : SailId) => e.kick x) ((d.tackCopies f.seq).flipLeaves rest) := by
  have hc : (d.up && !d.stopped && d.flipDue f) = true := by simp [Dev.up, hu, hs, hd]
  unfold Dev.tackBroadcast
  rw [hf]
  dsimp only
  rw [if_pos hc]
  split
  · exact ⟨_, rfl⟩
  · exact ⟨[], rfl⟩

theorem tackBroadcast_none {d : Dev} (h : d.tack.flips = []) : d.tackBroadcast = d := by
  rw [Dev.tackBroadcast, h]

theorem tackBroadcast_waits {d : Dev} {f : Flip} {rest : List Flip} (hf : d.tack.flips = f :: rest)
    (h : d.pw.state ≠ .underway ∨ d.stopped = true ∨ d.flipDue f = false) : d.tackBroadcast = d := by
  unfold Dev.tackBroadcast
  rw [hf]
  refine if_neg fun hc => ?_
  simp only [Dev.up, Bool.and_eq_true, decide_eq_true_eq, Bool.not_eq_true'] at hc
  obtain ⟨⟨hu, hs⟩, hd⟩ := hc
  simp [hu, hs, hd] at h

section Broadcast
variable {s : State} (hp : s.dev.powered = true) {f : Flip} {rest : List Flip} (hf : s.dev.tack.flips = f :: rest)
include hp hf

theorem broadcast_waits (h : s.dev.pw.state ≠ .underway ∨ s.dev.stopped = true ∨ s.dev.qs.holds ≠ [] ∨
    (s.dev.tval 0x200001 = 2 ∧ f.armed = false)) : Becomes .tackBroadcast s s.dev.begin := by
  refine Becomes.of_runOn (exec_tackBroadcast s) hp (tackBroadcast_waits (d := s.dev.begin) hf (h.imp_right (Or.imp_right fun h => ?_)))
  refine Bool.eq_false_iff.mpr fun hd => ?_
  obtain ⟨hh, ha⟩ := flipDue_iff.mp hd
  obtain h | ⟨hm, hn⟩ := h
  · exact h hh
  · exact ha.elim (· hm) (by simp [hn])

theorem broadcast_sends (hu : s.dev.pw.state = .underway) (hs : s.dev.stopped = false) (hh : s.dev.qs.holds = [])
    (ha : s.dev.tval 0x200001 ≠ 2 ∨ f.armed = true) :
    Runs .tackBroadcast s [.tack, .push, .lines, .dict] (fun t =>
      t.tack = { s.dev.tack with flips := rest, pulses := s.dev.tack.pulses + 1 } ∧ t.push.plots = s.dev.push.plots ∧
      ∀ m ∈ s.dev.mastList, (s.dev.mast m).state = .service → s.dev.serialising m = false → ∀ i < 3,
        t.copiesSent m f.seq i ((s.dev.mast m).adjust i) = 1) := by
  obtain ⟨xs, e⟩ := tackBroadcast_due (d := s.dev.begin) hf hu hs (flipDue_iff.mpr ⟨hh, ha⟩)
  have hc := tackCopies_linkSends s.dev.begin f.seq
  have hk := LinkSends.foldl _ kick_linkSends xs ((s.dev.begin.tackCopies f.seq).flipLeaves rest)
  have hq := SendsNoTack.foldl _ kick_sendsNoTack xs ((s.dev.begin.tackCopies f.seq).flipLeaves rest)
  have ht : (s.dev.begin.tackCopies f.seq).tack = s.dev.tack := hc.frame .tack (by decide)
  refine Runs.of_runOn (exec_tackBroadcast s) hp ?_ ?_ <;> rw [e]
  · exact (Frame.begin _ s.dev).trans (((hc.frame.mono (by decide)).trans ((Frame.withTack _ _).mono (by decide))).trans
      (hk.frame.mono (by decide)))
  · refine ⟨(hk.frame .tack (by decide)).trans ?_, hk.plots.trans hc.plots, fun m hm hv hn i hi => ?_⟩
    · rw [Dev.flipLeaves, ht]
      rfl
    · exact (hq.copies m f.seq i _).trans (tackCopies_copies (d := s.dev.begin) hm hv hn f.seq hi)

end Broadcast

/-- Settles O32: the period, the edges of each polarity, the loss of the input, the pulses, then the broadcast. -/
theorem tackTriggersAndPulses : Obligations.TackTriggersAndPulses := by
  intro s hp
  refine ⟨fun hm hh hw => ?_, fun h => ?_, fun rising => ⟨fun h => ?_, fun h => ⟨fun hm => ?_, syncEdge_counts hp h,
    fun hm hn hw => ⟨syncEdge_held hp h hm hn hw, syncEdge_active hp h hm hn hw, syncEdge_triggers hp h hm hn hw⟩⟩⟩,
    syncTimeout_runs hp, fun h => ?_, fun hn hh => ?_, fun h => ?_,
    fun f rest hf => ⟨broadcast_sends hp hf, broadcast_waits hp hf⟩, fun h => ?_⟩
  · exact .of_runOn (exec_tackPeriodExpiry s) hp (tackPeriodExpiry_due (d := s.dev.begin) hm hh hw)
  · exact .of_runOn (exec_tackPeriodExpiry s) hp (tackPeriodExpiry_idle (d := s.dev.begin) h)
  · exact .of_runOn (exec_tackSyncEdge rising s) hp (tackSyncEdge_other (d := s.dev.begin) h)
  · exact .of_runOn (exec_tackSyncEdge rising s) hp (tackSyncEdge_uncounted (d := s.dev.begin) h hm)
  · exact .of_runOn (exec_syncTimeout s) hp (syncTimeout_idle (d := s.dev.begin) h)
  · exact .of_runOn (exec_tackOutPulse s) hp (tackOutPulse_sends (d := s.dev.begin) hn hh)
  · exact .of_runOn (exec_tackOutPulse s) hp (tackOutPulse_idle (d := s.dev.begin) h)
  · exact .of_runOn (exec_tackBroadcast s) hp (tackBroadcast_none (d := s.dev.begin) h)

end Sys2Proof.Machine
end

section
/-! SAIL_CFG_WRITE and SAIL_CFG_READ (file 11): their checks in their order, and the operation of an accepted one, which leaves at once or joins
those that wait on its sail. -/

namespace Sys2Proof.Machine

/-! ### Sails and masts read back -/

theorem sail_setSail_self (d : Dev) (i : SailId) (x : Sail) (h : x ≠ {}) : (d.setSail i x).sail i = x :=
  SMap.get_set_self_ne _ _ _ _ h

theorem mast_setMast_self (d : Dev) (m : MastId) (x : Mast) (h : x ≠ {}) : (d.setMast m x).mast m = x :=
  SMap.get_set_self_ne _ _ _ _ h

/-- A sail that answers is not one at rest. -/
theorem Sail.ne_default_of_answers {x : Sail} (h : x.answers = true) : x ≠ {} := by
  rintro rfl
  exact absurd h (by decide)

/-- Nor is one with an operation that waits, or with a packet outstanding. -/
theorem Sail.ne_default_of_ops (x : Sail) {ops : List CfgOp} (h : ops ≠ []) : { x with ops := ops } ≠ ({} : Sail) :=
  fun e => h (congrArg Sail.ops e)

theorem Sail.ne_default_of_out (x : Sail) (o : CfgOut) : { x with out := some o } ≠ ({} : Sail) :=
  fun e => nomatch congrArg Sail.out e

/-! ### A configuration packet leaves (R241, R246) -/

theorem mastExit_sail (d : Dev) (m : MastId) (y : SailId) : (d.mastExit m).sail y = d.sail y := by
  unfold Dev.mastExit
  dsimp only
  split <;> rfl

theorem mastExit_now (d : Dev) (m : MastId) : (d.mastExit m).now = d.now := (mastExit_linkSends d m).frame .now (by decide)

theorem mastExit_awake {d : Dev} {m : MastId} (h : (d.mast m).idle = false) : d.mastExit m = d := by
  simp [Dev.mastExit, h]

theorem sendOp_sail_self (d : Dev) (x : SailId) (o : CfgOut) (retry : Bool) :
    (d.sendOp x o retry).sail x = { d.sail x with out := some { o with due := false, at_ := d.now } } := by
  refine (sail_setSail_self _ x _ (Sail.ne_default_of_out _ _)).trans ?_
  rw [mastExit_sail, mastExit_now]

theorem sendOp_sail_ne (d : Dev) {x y : SailId} (o : CfgOut) (retry : Bool) (h : y ≠ x) : (d.sendOp x o retry).sail y = d.sail y :=
  (sail_setSail_ne _ x y _ h).trans (mastExit_sail d _ y)

theorem takeSeq_mast {d : Dev} {m : MastId} (h : (d.mast m).state = .service) :
    (d.takeSeq m).mast m = { d.mast m with txSeq := (d.mast m).txSeq + 1 } :=
  mast_setMast_self d m _ (fun e => nomatch h.symm.trans (congrArg Mast.state e : (d.mast m).state = .down))

section Awake
variable {d : Dev} {x : SailId} (h : (d.mast (mastOf x)).idle = false) (o : CfgOut) (retry : Bool)
include h

/-- A mast out of electrical idle sends the packet alone. -/
theorem sendOp_awake : d.sendOp x o retry =
    (d.setSail x { d.sail x with out := some { o with due := false, at_ := d.now } }).sendMast (mastOf x) (o.op.fwd x o.seq retry) := by
  rw [Dev.sendOp, mastExit_awake h]

theorem sendOp_mast (m : MastId) : (d.sendOp x o retry).mast m = d.mast m := by
  rw [sendOp_awake h]
  rfl

theorem sendOp_out_head (hd : d.out = []) : (d.sendOp x o retry).out.head? = some (.mast (mastOf x) (o.op.fwd x o.seq retry)) := by
  rw [sendOp_awake h, Dev.sendMast, Dev.sendRun, Dev.setSail_out, hd]
  rfl

end Awake

/-! ### What a sail's next packet is (R246, R258) -/

section Kick
variable {d : Dev} {x : SailId}

theorem kick_blocked (h : d.linkFree (mastOf x) = false ∨ ∃ o, (d.sail x).out = some o ∧ o.due = false) : d.kick x = d := by
  unfold Dev.kick
  dsimp only
  obtain hl | ⟨o, ho, hd⟩ := h
  · rw [hl]
    rfl
  · simp [ho, hd]

theorem kick_next (hl : d.linkFree (mastOf x) = true) (ho : (d.sail x).out = none) {op : CfgOp} {ops : List CfgOp}
    (hx : (d.sail x).ops = op :: ops) (hm : op.isMode = false) :
    d.kick x = ((d.setSail x { d.sail x with ops := ops }).takeSeq (mastOf x)).sendOp x
      { op := op, seq := (d.mast (mastOf x)).txSeq, fails := 0 } false := by
  simp [Dev.kick, hl, ho, hx, hm]

end Kick

theorem kick_sail_ne (d : Dev) {x y : SailId} (h : y ≠ x) : (d.kick x).sail y = d.sail y := by
  unfold Dev.kick
  dsimp only
  split
  · rfl
  · split
    · split
      · rw [sendOp_sail_ne _ _ _ h, Dev.bump_sail]
      · rfl
    · split
      · rfl
      · rw [sendOp_sail_ne _ _ _ h, Dev.takeSeq, Dev.bump_sail, Dev.setMast_sail, sail_setSail_ne d x y _ h]
    · rfl

/-! ### An operation of a command joins its sail's (R258) -/

/-- A sail with one more operation waiting. -/
def Dev.queueOp (d : Dev) (x : SailId) (op : CfgOp) : Dev := d.setSail x { d.sail x with ops := (d.sail x).ops ++ [op] }

theorem pushOp_eq (d : Dev) (x : SailId) (op : CfgOp) : d.pushOp x op = (d.queueOp x op).kick x := rfl

theorem queueOp_sail (d : Dev) (x : SailId) (op : CfgOp) : (d.queueOp x op).sail x = { d.sail x with ops := (d.sail x).ops ++ [op] } :=
  sail_setSail_self d x _ (Sail.ne_default_of_ops _ (by simp))

theorem pushOp_linkSends (d : Dev) (x : SailId) (op : CfgOp) : LinkSends d (d.pushOp x op) :=
  (setSail_linkSends d x _).trans (kick_linkSends _ x)

theorem pushOp_sail_ne (d : Dev) {x y : SailId} (op : CfgOp) (h : y ≠ x) : (d.pushOp x op).sail y = d.sail y :=
  (kick_sail_ne _ h).trans (sail_setSail_ne d x y _ h)

section Pushed
variable {d : Dev} {x : SailId} (op : CfgOp)

theorem pushOp_waits (h : d.linkFree (mastOf x) = false ∨ ∃ o, (d.sail x).out = some o ∧ o.due = false) : d.pushOp x op = d.queueOp x op := by
  rw [pushOp_eq]
  exact kick_blocked (h.imp_right (fun ⟨o, ho, hd⟩ => ⟨o, by rw [queueOp_sail, ho], hd⟩))

/-- The device as an operation that nothing precedes is taken up: its sail as before it, and the mast's next sequence taken. -/
def Dev.takeOp (d : Dev) (x : SailId) (op : CfgOp) : Dev := ((d.queueOp x op).setSail x (d.sail x)).takeSeq (mastOf x)

theorem takeOp_now : (d.takeOp x op).now = d.now := by
  simp [Dev.takeOp, Dev.takeSeq, Dev.queueOp]

theorem takeOp_out : (d.takeOp x op).out = d.out := by
  simp [Dev.takeOp, Dev.takeSeq, Dev.queueOp]

theorem takeOp_sail (ha : (d.sail x).answers = true) : (d.takeOp x op).sail x = d.sail x := by
  rw [Dev.takeOp, Dev.takeSeq, Dev.bump_sail, Dev.setMast_sail, sail_setSail_self _ x _ (Sail.ne_default_of_answers ha)]

theorem takeOp_mast (hs : (d.mast (mastOf x)).state = .service) :
    (d.takeOp x op).mast (mastOf x) = { d.mast (mastOf x) with txSeq := (d.mast (mastOf x)).txSeq + 1 } := by
  have hm : ((d.queueOp x op).setSail x (d.sail x)).mast (mastOf x) = d.mast (mastOf x) := by simp [Dev.queueOp]
  rw [Dev.takeOp, takeSeq_mast (by rw [hm, hs]), hm]

variable (ho : (d.sail x).out = none) (hx : (d.sail x).ops = []) (hl : d.linkFree (mastOf x) = true) (hm : op.isMode = false)
include ho hx hl hm

theorem pushOp_next : d.pushOp x op = (d.takeOp x op).sendOp x { op := op, seq := (d.mast (mastOf x)).txSeq, fails := 0 } false := by
  have hout : ((d.queueOp x op).sail x).out = none := by rw [queueOp_sail, ho]
  have hops : ((d.queueOp x op).sail x).ops = op :: [] := by rw [queueOp_sail, hx, List.nil_append]
  have hback : { (d.queueOp x op).sail x with ops := [] } = d.sail x := by rw [queueOp_sail, ← hx]
  rw [pushOp_eq, kick_next (d := d.queueOp x op) hl hout hops hm, hback]
  rfl

/-- With nothing before it and a free link out of electrical idle it leaves at once, under the mast's next sequence. -/
theorem pushOp_sends (hi : (d.mast (mastOf x)).idle = false) (ha : (d.sail x).answers = true) (hd : d.out = []) :
    (d.pushOp x op).sail x = { d.sail x with out := some { op := op, seq := (d.mast (mastOf x)).txSeq, fails := 0, at_ := d.now } } ∧
    (d.pushOp x op).out.head? = some (.mast (mastOf x) (op.fwd x (d.mast (mastOf x)).txSeq false)) ∧
    ((d.pushOp x op).mast (mastOf x)).txSeq = (d.mast (mastOf x)).txSeq + 1 := by
  have hmast := takeOp_mast op (linkFree_service hl)
  have hsail := takeOp_sail op ha
  have hidle : ((d.takeOp x op).mast (mastOf x)).idle = false := by rw [hmast, hi]
  rw [pushOp_next op ho hx hl hm]
  refine ⟨?_, ?_, ?_⟩
  · rw [sendOp_sail_self, hsail, takeOp_now]
  · rw [sendOp_out_head hidle _ _ ((takeOp_out op).trans hd)]
  · rw [sendOp_mast hidle, hmast]

end Pushed

/-! ### A command past its own checks -/

/-- What an accepted command of a sail comes to: its operation waits behind those before it, or leaves at once as a packet. -/
def CfgTaken (d : Dev) (x : SailId) (op : CfgOp) (t : Dev) : Prop :=
  ((d.linkFree (mastOf x) = false ∨ ∃ o, (d.sail x).out = some o ∧ o.due = false) →
    t.sail x = { d.sail x with ops := (d.sail x).ops ++ [op] } ∧ t.out = []) ∧
  ((d.sail x).out = none → (d.sail x).ops = [] → d.linkFree (mastOf x) = true → (d.mast (mastOf x)).idle = false →
    t.sail x = { d.sail x with out := some { op := op, seq := (d.mast (mastOf x)).txSeq, fails := 0, at_ := d.now } } ∧
    t.out.head? = some (.mast (mastOf x) (op.fwd x (d.mast (mastOf x)).txSeq false)) ∧
    (t.mast (mastOf x)).txSeq = (d.mast (mastOf x)).txSeq + 1) ∧
  (∀ y, y ≠ x → t.sail y = d.sail y) ∧ t.qs.nextId = d.qs.nextId + 1 ∧ t.qs.bufs = d.qs.bufs

theorem dispatch_pushOp_taken (d : Dev) (q : QueueId) (h : Hdr) (n : Nat) (refs : List BufRef) {x : SailId} {op : CfgOp} (hout : d.out = [])
    (ha : (d.sail x).answers = true) (hm : op.isMode = false) : CfgTaken d x op ((d.dispatch q h n refs).pushOp x op) := by
  have hqs : ((d.dispatch q h n refs).pushOp x op).qs = (d.dispatch q h n refs).qs :=
    (pushOp_linkSends (d.dispatch q h n refs) x op).frame .qs (by decide)
  refine ⟨fun hw => ?_, fun ho hx hl hi => ?_, fun y hy => pushOp_sail_ne _ op hy, congrArg QueueSys.nextId hqs, (congrArg QueueSys.bufs hqs :)⟩
  · rw [pushOp_waits (d := d.dispatch q h n refs) op hw]
    exact ⟨queueOp_sail (d.dispatch q h n refs) x op, hout⟩
  · exact pushOp_sends (d := d.dispatch q h n refs) op ho hx hl hm hi ha hout

section Command
variable {c : Instr} {s : State} {f : Dev → Dev} (hp : s.dev.powered = true) (e : exec c s = runOn s f) {q : QueueId} {h : Hdr} {n : Nat}
  {x : SailId} {refs : List BufRef} {g : Nat → CfgOp} (hf : f s.dev.begin = s.dev.begin.sailCfg q h n x refs g)
include hp e hf

theorem sailCfg_link_down (hm : (s.dev.mast (mastOf x)).inService = false) : Becomes c s (s.dev.begin.rejectOpen q h n 0x0701) :=
  .of_runOn e hp (hf.trans (if_pos (by simp [hm])))

theorem sailCfg_unanswered (hm : (s.dev.mast (mastOf x)).inService = true) (ha : (s.dev.sail x).answers = false) :
    Becomes c s (s.dev.begin.rejectOpen q h n 0x0602) :=
  .of_runOn e hp (hf.trans ((if_neg (by simp [hm])).trans (if_pos (by simp [ha]))))

theorem sailCfg_taken (hm : (s.dev.mast (mastOf x)).inService = true) (ha : (s.dev.sail x).answers = true)
    (hop : (g s.dev.qs.nextId).isMode = false) : Runs c s [.qs, .push, .lines, .dict] (CfgTaken s.dev x (g s.dev.qs.nextId)) := by
  have ht : f s.dev.begin = (s.dev.begin.dispatch q h n refs).pushOp x (g s.dev.qs.nextId) :=
    hf.trans ((if_neg (by simp [hm])).trans (if_neg (by simp [ha])))
  refine .of_runOn e hp ?_ ?_ <;> rw [ht]
  · exact ((Frame.begin _ s.dev).trans ((Frame.qs s.dev.begin _).mono (by decide))).trans
      ((pushOp_linkSends _ x _).frame.mono (by decide))
  · exact dispatch_pushOp_taken s.dev.begin q h n refs rfl ha hop

end Command

/-! ### SAIL_CFG_WRITE: the maker area only (R254, R257) -/

/-- The checks of a SAIL_CFG_WRITE, in their order. -/
def Dev.cfgWriteFields (d : Dev) (b : CfgWriteBody) : List (Bool × Nat × Nat) :=
  [(d.sailExists b.sail.toNat, 0x0102, 8), (decide (0x80 ≤ b.addr.toNat), 0x0102, 10),
   (decide (1 ≤ b.count.toNat) && decide (b.count.toNat ≤ 12), 0x0102, 11),
   (decide (b.addr.toNat + b.count.toNat ≤ 256), 0x0102, 11)]

section WriteChecks
variable {d : Dev} {b : CfgWriteBody} (he : d.sailExists b.sail.toNat = true) (ha : 0x80 ≤ b.addr.toNat)
include he

theorem firstBad_cfgWrite_address (hb : b.addr.toNat < 0x80) : firstBad (d.cfgWriteFields b) = some (0x0102, 10) :=
  (firstBad_pass he _ _ _).trans (firstBad_here (Nat.not_le.mpr hb))

include ha

theorem firstBad_cfgWrite_count (hc : b.count = 0 ∨ 12 < b.count.toNat ∨ 256 < b.addr.toNat + b.count.toNat) :
    firstBad (d.cfgWriteFields b) = some (0x0102, 11) := by
  refine (firstBad_pass he _ _ _).trans (firstBad_past ha ?_)
  by_cases hn : 1 ≤ b.count.toNat ∧ b.count.toNat ≤ 12
  · obtain ⟨h1, h12⟩ := hn
    refine (firstBad_pass (by simp [h1, h12]) _ _ _).trans (firstBad_here (Nat.not_le.mpr ?_))
    obtain h0 | hc | hc := hc
    · simp [h0] at h1
    · omega
    · exact hc
  · exact firstBad_fail (by simpa using hn) _ _ _

theorem firstBad_cfgWrite_pass (h1 : 1 ≤ b.count.toNat) (h12 : b.count.toNat ≤ 12) (ht : b.addr.toNat + b.count.toNat ≤ 256) :
    firstBad (d.cfgWriteFields b) = none :=
  (firstBad_pass he _ _ _).trans (firstBad_past ha ((firstBad_pass (by simp [h1, h12]) _ _ _).trans (firstBad_past ht rfl)))

end WriteChecks

/-- The operation of an accepted SAIL_CFG_WRITE. -/
def cfgWriteOp (b : CfgWriteBody) (id : Nat) : CfgOp := .write b.addr (b.data.take b.count.toNat) (some id)

theorem cfgWriteOp_isMode (b : CfgWriteBody) (id : Nat) : (cfgWriteOp b id).isMode = false := by
  simp [cfgWriteOp, CfgOp.isMode]

section Write
variable {d : Dev} {q : QueueId} (h : Hdr) (hq : (d.queue q).hold = .none) {b : CfgWriteBody}
include hq

theorem sailCfgWrite_bad {code det : Nat} (hb : firstBad (d.cfgWriteFields b) = some (code, det)) :
    d.sailCfgWrite q h b = d.reject q h 0x70 code det :=
  (issue_free d q _ hq).trans (checked_fails d q h 0x70 _ hb)

theorem sailCfgWrite_good (hb : firstBad (d.cfgWriteFields b) = none) :
    d.sailCfgWrite q h b = d.sailCfg q h 0x70 (b.sail.setWidth 10) [] (cfgWriteOp b) :=
  (issue_free d q _ hq).trans (checked_passes d q h 0x70 _ hb)

end Write

/-! ### SAIL_CFG_READ: any words, into a buffer or as the result (R254, R257, R258) -/

section ReadChecks
variable {d : Dev} {b : CfgReadBody}

theorem firstBad_cfgRead_stale (h0 : b.ref.handle ≠ 0) (hl : d.live b.ref = false) : firstBad (d.cfgReadFields b) = some (0x0111, 12) :=
  firstBad_fail (by simpa [hl] using h0) _ _ _

variable (hr : b.ref.handle = 0 ∨ d.live b.ref = true)
include hr

theorem firstBad_cfgRead_sail (he : d.sailExists b.sail.toNat = false) : firstBad (d.cfgReadFields b) = some (0x0102, 8) :=
  (firstBad_pass (by simpa using hr) _ _ _).trans (firstBad_fail he _ _ _)

variable (he : d.sailExists b.sail.toNat = true)
include he

theorem firstBad_cfgRead_count (hc : b.count = 0 ∨ 64 < b.count.toNat ∨ 256 < b.addr.toNat + b.count.toNat) :
    firstBad (d.cfgReadFields b) = some (0x0102, 11) := by
  refine (firstBad_pass (by simpa using hr) _ _ _).trans ((firstBad_pass he _ _ _).trans ?_)
  by_cases hn : 1 ≤ b.count.toNat ∧ b.count.toNat ≤ 64
  · obtain ⟨h1, h64⟩ := hn
    refine (firstBad_pass (by simp [h1, h64]) _ _ _).trans ?_
    cases hs : (!(b.ref.handle == 0) || b.count == 1) with
    | false => exact firstBad_fail rfl _ _ _
    | true =>
      refine (firstBad_pass rfl _ _ _).trans (firstBad_here (Nat.not_le.mpr ?_))
      obtain h0 | hc | hc := hc
      · simp [h0] at h1
      · omega
      · exact hc
  · exact firstBad_fail (by simpa using hn) _ _ _

variable (h1 : 1 ≤ b.count.toNat) (h64 : b.count.toNat ≤ 64)
include h1 h64

theorem firstBad_cfgRead_several (h0 : b.ref.handle = 0) (hc : b.count ≠ 1) : firstBad (d.cfgReadFields b) = some (0x0102, 11) :=
  (firstBad_pass (by simpa using hr) _ _ _).trans ((firstBad_pass he _ _ _).trans ((firstBad_pass (by simp [h1, h64]) _ _ _).trans
    (firstBad_fail (by simpa [h0] using hc) _ _ _)))

variable (ht : b.addr.toNat + b.count.toNat ≤ 256)
include ht

/-- Past the checks of its words only the range in its buffer is left. -/
theorem firstBad_cfgRead_range (hc : b.ref.handle ≠ 0 ∨ b.count = 1) : firstBad (d.cfgReadFields b) =
    firstBad [(b.ref.handle == 0 || decide (b.offset.toNat + 4 * b.count.toNat ≤ d.sizeOf b.ref), 0x0A01,
      boundsDetail (d.sizeOf b.ref) b.offset.toNat)] :=
  (firstBad_pass (by simpa using hr) _ _ _).trans ((firstBad_pass he _ _ _).trans ((firstBad_pass (by simp [h1, h64]) _ _ _).trans
    ((firstBad_pass (by simpa using hc) _ _ _).trans (firstBad_past ht rfl))))

end ReadChecks

theorem handle_ne_zero_of_live {d : Dev} {r : BufRef} (h : d.live r = true) : r.handle ≠ 0 := by
  intro h0
  simp [Dev.live, h0] at h

section ReadRange
variable {d : Dev} {b : CfgReadBody} (he : d.sailExists b.sail.toNat = true) (h1 : 1 ≤ b.count.toNat) (h64 : b.count.toNat ≤ 64)
  (ht : b.addr.toNat + b.count.toNat ≤ 256)
include he h1 h64 ht

theorem firstBad_cfgRead_outside (hl : d.live b.ref = true) (hs : d.sizeOf b.ref < b.offset.toNat + 4 * b.count.toNat) :
    firstBad (d.cfgReadFields b) = some (0x0A01, boundsDetail (d.sizeOf b.ref) b.offset.toNat) := by
  have h0 := handle_ne_zero_of_live hl
  exact (firstBad_cfgRead_range (.inr hl) he h1 h64 ht (.inl h0)).trans (firstBad_fail (by simpa [hs] using h0) _ _ _)

theorem firstBad_cfgRead_pass
    (hd : (b.ref.handle = 0 ∧ b.count = 1) ∨ (d.live b.ref = true ∧ b.offset.toNat + 4 * b.count.toNat ≤ d.sizeOf b.ref)) :
    firstBad (d.cfgReadFields b) = none := by
  obtain ⟨h0, hc⟩ | ⟨hl, hs⟩ := hd
  · exact (firstBad_cfgRead_range (.inl h0) he h1 h64 ht (.inr hc)).trans (firstBad_pass (by simp [h0]) _ _ _)
  · exact (firstBad_cfgRead_range (.inr hl) he h1 h64 ht (.inl (handle_ne_zero_of_live hl))).trans (firstBad_pass (by simp [hs]) _ _ _)

end ReadRange

/-- Where an accepted SAIL_CFG_READ puts its words: nowhere, its one word being the result, or into its buffer. -/
def cfgReadDst (b : CfgReadBody) : Option (BufRef × Nat) := if b.ref.handle == 0 then none else some (b.ref, b.offset.toNat)

theorem cfgReadDst_result {b : CfgReadBody} (h : b.ref.handle = 0) : cfgReadDst b = none := if_pos (by simp [h])

theorem cfgReadDst_buffer {b : CfgReadBody} (h : b.ref.handle ≠ 0) : cfgReadDst b = some (b.ref, b.offset.toNat) := if_neg (by simpa using h)

/-- The operation of an accepted SAIL_CFG_READ. -/
def cfgReadOp (b : CfgReadBody) (id : Nat) : CfgOp := .read b.addr b.count (some id) (cfgReadDst b) []

section Read
variable {d : Dev} {q : QueueId} (h : Hdr) (hq : (d.queue q).hold = .none) {b : CfgReadBody}
include hq

theorem sailCfgRead_bad {code det : Nat} (hb : firstBad (d.cfgReadFields b) = some (code, det)) :
    d.sailCfgRead q h b = d.reject q h 0x71 code det :=
  (issue_free d q _ hq).trans (checked_fails d q h 0x71 _ hb)

theorem sailCfgRead_good (hb : firstBad (d.cfgReadFields b) = none) :
    d.sailCfgRead q h b = d.sailCfg q h 0x71 (b.sail.setWidth 10) (if b.ref.handle == 0 then [] else [b.ref]) (cfgReadOp b) :=
  (issue_free d q _ hq).trans (checked_passes d q h 0x71 _ hb)

end Read

/-! ### The statement -/

section Commands
variable {s : State} {q : QueueId} (h : Hdr) (hp : s.dev.powered = true) (hq : (s.dev.queue q).hold = .none)
include hp hq

theorem cfgWrite_rejects {b : CfgWriteBody} {code det : Nat} (hb : firstBad (s.dev.cfgWriteFields b) = some (code, det)) :
    Becomes (.sailCfgWrite q h b) s (s.dev.begin.reject q h 0x70 code det) :=
  .of_runOn (exec_sailCfgWrite q h b s) hp (sailCfgWrite_bad (d := s.dev.begin) h hq hb)

theorem cfgRead_rejects {b : CfgReadBody} {code det : Nat} (hb : firstBad (s.dev.cfgReadFields b) = some (code, det)) :
    Becomes (.sailCfgRead q h b) s (s.dev.begin.reject q h 0x71 code det) :=
  .of_runOn (exec_sailCfgRead q h b s) hp (sailCfgRead_bad (d := s.dev.begin) h hq hb)

theorem cfgRead_taken {b : CfgReadBody} (hb : firstBad (s.dev.cfgReadFields b) = none)
    (hm : (s.dev.mast (mastOf (b.sail.setWidth 10))).inService = true) (ha : (s.dev.sail (b.sail.setWidth 10)).answers = true) :
    Runs (.sailCfgRead q h b) s [.qs, .push, .lines, .dict] (CfgTaken s.dev (b.sail.setWidth 10) (cfgReadOp b s.dev.qs.nextId)) :=
  sailCfg_taken hp (exec_sailCfgRead q h b s) (sailCfgRead_good (d := s.dev.begin) h hq hb) hm ha rfl

end Commands

/-- Settles O38: each command's checks in their order, then its mast, its sail, and the operation of an accepted one. -/
theorem sailConfigurationCommands : Obligations.SailConfigurationCommands := by
  intro s q h hp hq
  refine ⟨fun b => ?_, fun b => ?_⟩
  · have good : s.dev.sailExists b.sail.toNat = true ∧ 0x80 ≤ b.addr.toNat ∧ 1 ≤ b.count.toNat ∧ b.count.toNat ≤ 12 ∧
        b.addr.toNat + b.count.toNat ≤ 256 → _ :=
      fun ⟨he, ha, h1, h12, ht⟩ => sailCfgWrite_good (d := s.dev.begin) h hq (firstBad_cfgWrite_pass he ha h1 h12 ht)
    have e := exec_sailCfgWrite q h b s
    refine ⟨fun he => cfgWrite_rejects h hp hq (firstBad_fail he _ _ _),
      fun he ha => cfgWrite_rejects h hp hq (firstBad_cfgWrite_address he ha),
      fun he ha hc => cfgWrite_rejects h hp hq (firstBad_cfgWrite_count he ha hc),
      fun ok => sailCfg_link_down hp e (good ok), fun ok => sailCfg_unanswered hp e (good ok),
      fun ok hm ha => sailCfg_taken hp e (good ok) hm ha (cfgWriteOp_isMode b _)⟩
  · have e := exec_sailCfgRead q h b s
    refine ⟨fun h0 hl => cfgRead_rejects h hp hq (firstBad_cfgRead_stale h0 hl),
      fun hr he => cfgRead_rejects h hp hq (firstBad_cfgRead_sail hr he),
      fun hr he hc => cfgRead_rejects h hp hq (firstBad_cfgRead_count hr he hc),
      fun ⟨he, h1, h64, ht⟩ hl hs => cfgRead_rejects h hp hq (firstBad_cfgRead_outside he h1 h64 ht hl hs),
      fun ⟨he, h1, h64, ht⟩ hd => ?_,
      fun ⟨he, h1, h64, _⟩ h0 hc => cfgRead_rejects h hp hq (firstBad_cfgRead_several (.inl h0) he h1 h64 h0 hc),
      fun ⟨he, h1, h64, ht⟩ hm ha => ⟨fun h0 hc => ?_, fun hl hs => ?_⟩⟩
    · have hf := sailCfgRead_good (d := s.dev.begin) h hq (firstBad_cfgRead_pass he h1 h64 ht hd)
      exact ⟨sailCfg_link_down hp e hf, sailCfg_unanswered hp e hf⟩
    · have hr := cfgRead_taken h hp hq (firstBad_cfgRead_pass he h1 h64 ht (.inl ⟨h0, hc⟩)) hm ha
      rw [cfgReadOp, cfgReadDst_result h0] at hr
      exact hr
    · have hr := cfgRead_taken h hp hq (firstBad_cfgRead_pass he h1 h64 ht (.inr ⟨hl, hs⟩)) hm ha
      rw [cfgReadOp, cfgReadDst_buffer (handle_ne_zero_of_live hl)] at hr
      exact hr

end Sys2Proof.Machine
end
